-- ==== Sys2Proof/Word.lean ====
section
/-! DEFINITION. The word types of the Skelix 9400 and their plainest arithmetic (R10, R40, R60). -/

namespace Sys2Proof

/-- A byte of memory. -/
abbrev Byte := BitVec 8

/-- A 64-bit register value (R10). -/
abbrev Word := BitVec 64

/-- A 32-bit instruction word (R8). -/
abbrev IWord := BitVec 32

/-- A 1024-bit vector register (R10, R165). -/
abbrev VWord := BitVec 1024

/-- A 128-bit predicate register, one bit per 8-bit element position (R10). -/
abbrev KWord := BitVec 128

/-- The word of a natural number, modulo 2^64. -/
abbrev word (n : Nat) : Word := BitVec.ofNat 64 n

end Sys2Proof
end

