-- ==== Sys2Proof/Config.lean ====
section
/-! DEFINITION. The constants of the part that the manual fixes, and the free values: constants without a body, of which nothing
can be proved (log 2). -/

namespace Sys2Proof

/-- Dies of a package, cores of a die, cores of the package, user thread sets of a core (R1). -/
def Config.dies : Nat := 4
def Config.coresPerDie : Nat := 256
def Config.cores : Nat := 1024
def Config.threadSets : Nat := 4
/-- Links of the Tamgon fabric (R1, R354). -/
def Config.tamgonLinks : Nat := 18

/-- A free 64-bit value, a fresh one for each value of the counter `State.fresh` (log 2). -/
opaque Config.freeWord : Nat → Word

/-- How many pending arrivals a die's store holds beside one (R344): its size is not given (log 42). -/
opaque Config.arrivalStore : Nat

/-- A free byte by its place: what a reader sees of structures whose byte arrangement the manual does not give (log 2). -/
opaque Config.freeByte : Nat → Nat → Byte

/-- A word of WDRAW by its offset: how the locations out of service are listed there is not given (R394, log 38). -/
opaque Config.withdrawnWord : List Nat → Nat → Word

/-- The identity key's public point, 133 bytes (R381, R388): made inside the root, never given by the manual (log 2). -/
opaque Config.idKeyByte : Nat → Byte

/-- The signature bytes of a report, by their number and the digest they sign (R391; log 2). -/
opaque Config.signatureByte : Nat → Nat → Byte

/-- The measurement of the firmware, 64 bytes (R386): the firmware is not given (log 2). -/
opaque Config.firmwareDigestByte : Nat → Byte

end Sys2Proof
end

