-- ==== Sys2Proof/Machine/Map.lean ====
section
/-! DEFINITION. Maps from numbers as lists of pairs in rising order, and byte memory in one canonical form. -/

namespace Sys2Proof.Machine

/-- A map from numbers: pairs in rising order; a number not listed has the reader's default. -/
abbrev AMap (α : Type) := List (Nat × α)

/-- The value at `n`, or `d`. -/
def aget {α : Type} (d : α) : AMap α → Nat → α
  | [], _ => d
  | (k, v) :: m, n => if k = n then v else aget d m n

/-- The value at `n`, if listed. -/
def afind {α : Type} : AMap α → Nat → Option α
  | [], _ => none
  | (k, v) :: m, n => if k = n then some v else afind m n

/-- Sets the value at `n`. -/
def aput {α : Type} : AMap α → Nat → α → AMap α
  | [], n, v => [(n, v)]
  | (k, w) :: m, n, v =>
    if n < k then (n, v) :: (k, w) :: m
    else if k = n then (n, v) :: m
    else (k, w) :: aput m n v

/-- Removes `n`. -/
def adel {α : Type} (m : AMap α) (n : Nat) : AMap α := m.filter fun p => p.1 != n

/-- Memory: bytes by local address (R60), rising, no listed byte zero; an unlisted byte reads 0 (R386). -/
abbrev Memory := List (Nat × Byte)

/-- What an unlisted address reads as: every SRAM and HBM byte is zero after the wipe (R386). -/
def Memory.unlisted : Byte := 0

/-- One byte. -/
def mread (m : Memory) (a : Nat) : Byte := aget Memory.unlisted m a

/-- Writes one byte; a zero byte is not listed. -/
def mwrite (m : Memory) (a : Nat) (b : Byte) : Memory :=
  if b = Memory.unlisted then adel m a else aput m a b

/-- `n` bytes from `a`, the first at the lowest address. -/
def mbytes (m : Memory) (a : Nat) : Nat → List Byte
  | 0 => []
  | n + 1 => mread m a :: mbytes m (a + 1) n

/-- The little-endian value of bytes (R40). -/
def leNat : List Byte → Nat
  | [] => 0
  | b :: r => b.toNat + 256 * leNat r

/-- The `n` little-endian bytes of a value (R40). -/
def leBytes (v : Nat) : Nat → List Byte
  | 0 => []
  | n + 1 => BitVec.ofNat 8 v :: leBytes (v / 256) n

/-- Writes bytes from `a` upwards. -/
def mwrites (m : Memory) (a : Nat) : List Byte → Memory
  | [] => m
  | b :: r => mwrites (mwrite m a b) (a + 1) r

/-- The little-endian value of `n` bytes at `a`. -/
def mval (m : Memory) (a n : Nat) : Nat := leNat (mbytes m a n)

/-- Rising addresses above a bound, no zero byte. -/
def Memory.above : Nat → Memory → Bool
  | _, [] => true
  | n, (k, b) :: m => decide (n ≤ k) && b != Memory.unlisted && Memory.above (k + 1) m

/-- The canonical form of memory. -/
def Memory.wf (m : Memory) : Bool := Memory.above 0 m

end Sys2Proof.Machine
end

