-- ==== Sys2Proof/Syntax.lean ====
section
/-! DEFINITION. The instructions and steps of the Skelix 9400: one constructor for every row of the opcode table.
The first 256 constructors are instruction words (R14, R27 to R30); the others are the steps of the part's engines,
scheduler, host windows and fabric, which no word encodes, and illegal instructions and fetch faults. -/

namespace Sys2Proof

/-- What a CSR instruction does to the register it names (R21). -/
inductive CsrOp where
  | write | set | clear
deriving DecidableEq, Repr

/-- Where a CSR instruction takes its operand from: a register, or its 5-bit immediate (R14). -/
inductive CsrSrc where
  | reg (r : BitVec 5)
  | imm (z : BitVec 5)
deriving DecidableEq, Repr

/-- The operations of the gallery atomics (R278). -/
inductive GalleryOp where
  | add | fadd | min | max | or | and | xor | cas
deriving DecidableEq, Repr

/-- What a posted write of another package performs at this package (R355, R283, R286). -/
inductive PostedWrite where
  /-- Bytes, with the places of those that carry the poisoned mark (R271). -/
  | bytes (data : List Byte) (bad : List Nat)
  | atomic (op : GalleryOp) (mode : BitVec 2) (v e : Word)
  | push (v : Word) (asid : BitVec 16) (rel : Option (BitVec 2))
  | pop
  /-- Bytes counted into a barrier object, and whether its ERR is set (R257, R378). -/
  | count (n : Nat) (err : Bool)
deriving DecidableEq, Repr

/-- A posted write as it arrives here: `src` is the package it comes from, and, where a release at SYS of its sender goes before it, `covers` names
the senders outside this package whose writes that covers (R69, R377), with 4096 for what this package has released at SYS. -/
structure ForeignWrite where
  src : Nat
  covers : List Nat
  w : PostedWrite
deriving DecidableEq, Repr

/-- The instructions and steps of the part.  `sem` and `scope` are those of R25; branch and jump offsets are held without their
zero bit 0 (R9).  The switch marker S of a custom word (R23, R33) is no operand: the decoder gives it beside the instruction. -/
inductive Instr where
  /-- LUI (R14). -/
  | lui (rd : BitVec 5) (imm : BitVec 20)
  /-- AUIPC (R14). -/
  | auipc (rd : BitVec 5) (imm : BitVec 20)
  /-- JAL (R9). -/
  | jal (rd : BitVec 5) (off : BitVec 20)
  /-- JALR (R9). -/
  | jalr (rd : BitVec 5) (rs1 : BitVec 5) (imm : BitVec 12)
  /-- BEQ (R9). -/
  | beq (rs1 : BitVec 5) (rs2 : BitVec 5) (off : BitVec 12)
  /-- BNE (R9). -/
  | bne (rs1 : BitVec 5) (rs2 : BitVec 5) (off : BitVec 12)
  /-- BLT (R9). -/
  | blt (rs1 : BitVec 5) (rs2 : BitVec 5) (off : BitVec 12)
  /-- BGE (R9). -/
  | bge (rs1 : BitVec 5) (rs2 : BitVec 5) (off : BitVec 12)
  /-- BLTU (R9). -/
  | bltu (rs1 : BitVec 5) (rs2 : BitVec 5) (off : BitVec 12)
  /-- BGEU (R9). -/
  | bgeu (rs1 : BitVec 5) (rs2 : BitVec 5) (off : BitVec 12)
  /-- LB (R15). -/
  | lb (rd : BitVec 5) (rs1 : BitVec 5) (imm : BitVec 12)
  /-- LH (R15). -/
  | lh (rd : BitVec 5) (rs1 : BitVec 5) (imm : BitVec 12)
  /-- LW (R15). -/
  | lw (rd : BitVec 5) (rs1 : BitVec 5) (imm : BitVec 12)
  /-- LD (R15). -/
  | ld (rd : BitVec 5) (rs1 : BitVec 5) (imm : BitVec 12)
  /-- LBU (R15). -/
  | lbu (rd : BitVec 5) (rs1 : BitVec 5) (imm : BitVec 12)
  /-- LHU (R15). -/
  | lhu (rd : BitVec 5) (rs1 : BitVec 5) (imm : BitVec 12)
  /-- LWU (R15). -/
  | lwu (rd : BitVec 5) (rs1 : BitVec 5) (imm : BitVec 12)
  /-- SB (R15). -/
  | sb (rs1 : BitVec 5) (rs2 : BitVec 5) (imm : BitVec 12)
  /-- SH (R15). -/
  | sh (rs1 : BitVec 5) (rs2 : BitVec 5) (imm : BitVec 12)
  /-- SW (R15). -/
  | sw (rs1 : BitVec 5) (rs2 : BitVec 5) (imm : BitVec 12)
  /-- SD (R15). -/
  | sd (rs1 : BitVec 5) (rs2 : BitVec 5) (imm : BitVec 12)
  /-- ADDI (R14). -/
  | addi (rd : BitVec 5) (rs1 : BitVec 5) (imm : BitVec 12)
  /-- SLTI (R14). -/
  | slti (rd : BitVec 5) (rs1 : BitVec 5) (imm : BitVec 12)
  /-- SLTIU (R14). -/
  | sltiu (rd : BitVec 5) (rs1 : BitVec 5) (imm : BitVec 12)
  /-- XORI (R14). -/
  | xori (rd : BitVec 5) (rs1 : BitVec 5) (imm : BitVec 12)
  /-- ORI (R14). -/
  | ori (rd : BitVec 5) (rs1 : BitVec 5) (imm : BitVec 12)
  /-- ANDI (R14). -/
  | andi (rd : BitVec 5) (rs1 : BitVec 5) (imm : BitVec 12)
  /-- SLLI (R14). -/
  | slli (rd : BitVec 5) (rs1 : BitVec 5) (amt : BitVec 6)
  /-- SRLI (R14). -/
  | srli (rd : BitVec 5) (rs1 : BitVec 5) (amt : BitVec 6)
  /-- SRAI (R14). -/
  | srai (rd : BitVec 5) (rs1 : BitVec 5) (amt : BitVec 6)
  /-- ADD (R14). -/
  | add (rd : BitVec 5) (rs1 : BitVec 5) (rs2 : BitVec 5)
  /-- SUB (R14). -/
  | sub (rd : BitVec 5) (rs1 : BitVec 5) (rs2 : BitVec 5)
  /-- SLL (R14). -/
  | sll (rd : BitVec 5) (rs1 : BitVec 5) (rs2 : BitVec 5)
  /-- SLT (R14). -/
  | slt (rd : BitVec 5) (rs1 : BitVec 5) (rs2 : BitVec 5)
  /-- SLTU (R14). -/
  | sltu (rd : BitVec 5) (rs1 : BitVec 5) (rs2 : BitVec 5)
  /-- XOR (R14). -/
  | xor (rd : BitVec 5) (rs1 : BitVec 5) (rs2 : BitVec 5)
  /-- SRL (R14). -/
  | srl (rd : BitVec 5) (rs1 : BitVec 5) (rs2 : BitVec 5)
  /-- SRA (R14). -/
  | sra (rd : BitVec 5) (rs1 : BitVec 5) (rs2 : BitVec 5)
  /-- OR (R14). -/
  | or (rd : BitVec 5) (rs1 : BitVec 5) (rs2 : BitVec 5)
  /-- AND (R14). -/
  | and (rd : BitVec 5) (rs1 : BitVec 5) (rs2 : BitVec 5)
  /-- ADDIW (R14). -/
  | addiw (rd : BitVec 5) (rs1 : BitVec 5) (imm : BitVec 12)
  /-- SLLIW (R14). -/
  | slliw (rd : BitVec 5) (rs1 : BitVec 5) (amt : BitVec 5)
  /-- SRLIW (R14). -/
  | srliw (rd : BitVec 5) (rs1 : BitVec 5) (amt : BitVec 5)
  /-- SRAIW (R14). -/
  | sraiw (rd : BitVec 5) (rs1 : BitVec 5) (amt : BitVec 5)
  /-- ADDW (R14). -/
  | addw (rd : BitVec 5) (rs1 : BitVec 5) (rs2 : BitVec 5)
  /-- SUBW (R14). -/
  | subw (rd : BitVec 5) (rs1 : BitVec 5) (rs2 : BitVec 5)
  /-- SLLW (R14). -/
  | sllw (rd : BitVec 5) (rs1 : BitVec 5) (rs2 : BitVec 5)
  /-- SRLW (R14). -/
  | srlw (rd : BitVec 5) (rs1 : BitVec 5) (rs2 : BitVec 5)
  /-- SRAW (R14). -/
  | sraw (rd : BitVec 5) (rs1 : BitVec 5) (rs2 : BitVec 5)
  /-- FENCE (R17). -/
  | fence (imm : BitVec 12) (rs1 : BitVec 5) (rd : BitVec 5)
  /-- FENCE_I (R18). -/
  | fenceI (imm : BitVec 12) (rs1 : BitVec 5) (rd : BitVec 5)
  /-- MUL (R22). -/
  | mul (rd : BitVec 5) (rs1 : BitVec 5) (rs2 : BitVec 5)
  /-- MULH (R22). -/
  | mulh (rd : BitVec 5) (rs1 : BitVec 5) (rs2 : BitVec 5)
  /-- MULHSU (R22). -/
  | mulhsu (rd : BitVec 5) (rs1 : BitVec 5) (rs2 : BitVec 5)
  /-- MULHU (R22). -/
  | mulhu (rd : BitVec 5) (rs1 : BitVec 5) (rs2 : BitVec 5)
  /-- DIV (R22). -/
  | div (rd : BitVec 5) (rs1 : BitVec 5) (rs2 : BitVec 5)
  /-- DIVU (R22). -/
  | divu (rd : BitVec 5) (rs1 : BitVec 5) (rs2 : BitVec 5)
  /-- REM (R22). -/
  | rem (rd : BitVec 5) (rs1 : BitVec 5) (rs2 : BitVec 5)
  /-- REMU (R22). -/
  | remu (rd : BitVec 5) (rs1 : BitVec 5) (rs2 : BitVec 5)
  /-- MULW (R22). -/
  | mulw (rd : BitVec 5) (rs1 : BitVec 5) (rs2 : BitVec 5)
  /-- DIVW (R22). -/
  | divw (rd : BitVec 5) (rs1 : BitVec 5) (rs2 : BitVec 5)
  /-- DIVUW (R22). -/
  | divuw (rd : BitVec 5) (rs1 : BitVec 5) (rs2 : BitVec 5)
  /-- REMW (R22). -/
  | remw (rd : BitVec 5) (rs1 : BitVec 5) (rs2 : BitVec 5)
  /-- REMUW (R22). -/
  | remuw (rd : BitVec 5) (rs1 : BitVec 5) (rs2 : BitVec 5)
  /-- LR_W (R16). -/
  | lrW (aq : Bool) (rl : Bool) (rd : BitVec 5) (rs1 : BitVec 5)
  /-- LR_D (R16). -/
  | lrD (aq : Bool) (rl : Bool) (rd : BitVec 5) (rs1 : BitVec 5)
  /-- SC_W (R16). -/
  | scW (aq : Bool) (rl : Bool) (rd : BitVec 5) (rs1 : BitVec 5) (rs2 : BitVec 5)
  /-- SC_D (R16). -/
  | scD (aq : Bool) (rl : Bool) (rd : BitVec 5) (rs1 : BitVec 5) (rs2 : BitVec 5)
  /-- AMOSWAP_W (R16). -/
  | amoswapW (aq : Bool) (rl : Bool) (rd : BitVec 5) (rs1 : BitVec 5) (rs2 : BitVec 5)
  /-- AMOSWAP_D (R16). -/
  | amoswapD (aq : Bool) (rl : Bool) (rd : BitVec 5) (rs1 : BitVec 5) (rs2 : BitVec 5)
  /-- AMOADD_W (R16). -/
  | amoaddW (aq : Bool) (rl : Bool) (rd : BitVec 5) (rs1 : BitVec 5) (rs2 : BitVec 5)
  /-- AMOADD_D (R16). -/
  | amoaddD (aq : Bool) (rl : Bool) (rd : BitVec 5) (rs1 : BitVec 5) (rs2 : BitVec 5)
  /-- AMOXOR_W (R16). -/
  | amoxorW (aq : Bool) (rl : Bool) (rd : BitVec 5) (rs1 : BitVec 5) (rs2 : BitVec 5)
  /-- AMOXOR_D (R16). -/
  | amoxorD (aq : Bool) (rl : Bool) (rd : BitVec 5) (rs1 : BitVec 5) (rs2 : BitVec 5)
  /-- AMOAND_W (R16). -/
  | amoandW (aq : Bool) (rl : Bool) (rd : BitVec 5) (rs1 : BitVec 5) (rs2 : BitVec 5)
  /-- AMOAND_D (R16). -/
  | amoandD (aq : Bool) (rl : Bool) (rd : BitVec 5) (rs1 : BitVec 5) (rs2 : BitVec 5)
  /-- AMOOR_W (R16). -/
  | amoorW (aq : Bool) (rl : Bool) (rd : BitVec 5) (rs1 : BitVec 5) (rs2 : BitVec 5)
  /-- AMOOR_D (R16). -/
  | amoorD (aq : Bool) (rl : Bool) (rd : BitVec 5) (rs1 : BitVec 5) (rs2 : BitVec 5)
  /-- AMOMIN_W (R16). -/
  | amominW (aq : Bool) (rl : Bool) (rd : BitVec 5) (rs1 : BitVec 5) (rs2 : BitVec 5)
  /-- AMOMIN_D (R16). -/
  | amominD (aq : Bool) (rl : Bool) (rd : BitVec 5) (rs1 : BitVec 5) (rs2 : BitVec 5)
  /-- AMOMAX_W (R16). -/
  | amomaxW (aq : Bool) (rl : Bool) (rd : BitVec 5) (rs1 : BitVec 5) (rs2 : BitVec 5)
  /-- AMOMAX_D (R16). -/
  | amomaxD (aq : Bool) (rl : Bool) (rd : BitVec 5) (rs1 : BitVec 5) (rs2 : BitVec 5)
  /-- AMOMINU_W (R16). -/
  | amominuW (aq : Bool) (rl : Bool) (rd : BitVec 5) (rs1 : BitVec 5) (rs2 : BitVec 5)
  /-- AMOMINU_D (R16). -/
  | amominuD (aq : Bool) (rl : Bool) (rd : BitVec 5) (rs1 : BitVec 5) (rs2 : BitVec 5)
  /-- AMOMAXU_W (R16). -/
  | amomaxuW (aq : Bool) (rl : Bool) (rd : BitVec 5) (rs1 : BitVec 5) (rs2 : BitVec 5)
  /-- AMOMAXU_D (R16). -/
  | amomaxuD (aq : Bool) (rl : Bool) (rd : BitVec 5) (rs1 : BitVec 5) (rs2 : BitVec 5)
  /-- CSRRW (R21). -/
  | csrrw (rd : BitVec 5) (rs1 : BitVec 5) (csr : BitVec 12)
  /-- CSRRS (R21). -/
  | csrrs (rd : BitVec 5) (rs1 : BitVec 5) (csr : BitVec 12)
  /-- CSRRC (R21). -/
  | csrrc (rd : BitVec 5) (rs1 : BitVec 5) (csr : BitVec 12)
  /-- CSRRWI (R21). -/
  | csrrwi (rd : BitVec 5) (zimm : BitVec 5) (csr : BitVec 12)
  /-- CSRRSI (R21). -/
  | csrrsi (rd : BitVec 5) (zimm : BitVec 5) (csr : BitVec 12)
  /-- CSRRCI (R21). -/
  | csrrci (rd : BitVec 5) (zimm : BitVec 5) (csr : BitVec 12)
  /-- SH1ADD (R14). -/
  | sh1add (rd : BitVec 5) (rs1 : BitVec 5) (rs2 : BitVec 5)
  /-- SH2ADD (R14). -/
  | sh2add (rd : BitVec 5) (rs1 : BitVec 5) (rs2 : BitVec 5)
  /-- SH3ADD (R14). -/
  | sh3add (rd : BitVec 5) (rs1 : BitVec 5) (rs2 : BitVec 5)
  /-- ADD_UW (R14). -/
  | addUw (rd : BitVec 5) (rs1 : BitVec 5) (rs2 : BitVec 5)
  /-- SH1ADD_UW (R14). -/
  | sh1addUw (rd : BitVec 5) (rs1 : BitVec 5) (rs2 : BitVec 5)
  /-- SH2ADD_UW (R14). -/
  | sh2addUw (rd : BitVec 5) (rs1 : BitVec 5) (rs2 : BitVec 5)
  /-- SH3ADD_UW (R14). -/
  | sh3addUw (rd : BitVec 5) (rs1 : BitVec 5) (rs2 : BitVec 5)
  /-- SLLI_UW (R14). -/
  | slliUw (rd : BitVec 5) (rs1 : BitVec 5) (amt : BitVec 6)
  /-- VADD (R171). -/
  | vadd (vd : BitVec 5) (vs1 : BitVec 5) (vs2 : BitVec 5) (kg : BitVec 3)
  /-- VSUB (R171). -/
  | vsub (vd : BitVec 5) (vs1 : BitVec 5) (vs2 : BitVec 5) (kg : BitVec 3)
  /-- VMUL (R171). -/
  | vmul (vd : BitVec 5) (vs1 : BitVec 5) (vs2 : BitVec 5) (kg : BitVec 3)
  /-- VFMA (R173). -/
  | vfma (vd : BitVec 5) (vs1 : BitVec 5) (vs2 : BitVec 5) (kg : BitVec 3)
  /-- VMIN (R172). -/
  | vmin (vd : BitVec 5) (vs1 : BitVec 5) (vs2 : BitVec 5) (kg : BitVec 3)
  /-- VMAX (R172). -/
  | vmax (vd : BitVec 5) (vs1 : BitVec 5) (vs2 : BitVec 5) (kg : BitVec 3)
  /-- VABS (R172). -/
  | vabs (vd : BitVec 5) (vs1 : BitVec 5) (kg : BitVec 3)
  /-- VNEG (R172). -/
  | vneg (vd : BitVec 5) (vs1 : BitVec 5) (kg : BitVec 3)
  /-- VADDS (R173). -/
  | vadds (vd : BitVec 5) (vs1 : BitVec 5) (vs2 : BitVec 5) (kg : BitVec 3)
  /-- VSUBS (R173). -/
  | vsubs (vd : BitVec 5) (vs1 : BitVec 5) (vs2 : BitVec 5) (kg : BitVec 3)
  /-- VMULH (R173). -/
  | vmulh (vd : BitVec 5) (vs1 : BitVec 5) (vs2 : BitVec 5) (kg : BitVec 3)
  /-- VMULW (R173). -/
  | vmulw (vd : BitVec 5) (vs1 : BitVec 5) (vs2 : BitVec 5) (kg : BitVec 3)
  /-- VAND (R171). -/
  | vand (vd : BitVec 5) (vs1 : BitVec 5) (vs2 : BitVec 5) (kg : BitVec 3)
  /-- VOR (R171). -/
  | vor (vd : BitVec 5) (vs1 : BitVec 5) (vs2 : BitVec 5) (kg : BitVec 3)
  /-- VXOR (R171). -/
  | vxor (vd : BitVec 5) (vs1 : BitVec 5) (vs2 : BitVec 5) (kg : BitVec 3)
  /-- VSHL (R173). -/
  | vshl (vd : BitVec 5) (vs1 : BitVec 5) (vs2 : BitVec 5) (kg : BitVec 3)
  /-- VSHR (R173). -/
  | vshr (vd : BitVec 5) (vs1 : BitVec 5) (vs2 : BitVec 5) (kg : BitVec 3)
  /-- VSRA (R173). -/
  | vsra (vd : BitVec 5) (vs1 : BitVec 5) (vs2 : BitVec 5) (kg : BitVec 3)
  /-- VADDI (R171). -/
  | vaddi (vd : BitVec 5) (vs1 : BitVec 5) (imm : BitVec 5) (kg : BitVec 3)
  /-- VSHLI (R171). -/
  | vshli (vd : BitVec 5) (vs1 : BitVec 5) (imm : BitVec 5) (kg : BitVec 3)
  /-- VSHRI (R171). -/
  | vshri (vd : BitVec 5) (vs1 : BitVec 5) (imm : BitVec 5) (kg : BitVec 3)
  /-- VSRAI (R171). -/
  | vsrai (vd : BitVec 5) (vs1 : BitVec 5) (imm : BitVec 5) (kg : BitVec 3)
  /-- VDIV (R172). -/
  | vdiv (vd : BitVec 5) (vs1 : BitVec 5) (vs2 : BitVec 5) (kg : BitVec 3)
  /-- VSQRT (R172). -/
  | vsqrt (vd : BitVec 5) (vs1 : BitVec 5) (kg : BitVec 3)
  /-- VEXP (R174). -/
  | vexp (vd : BitVec 5) (vs1 : BitVec 5) (kg : BitVec 3)
  /-- VSEL (R171). -/
  | vsel (vd : BitVec 5) (vs1 : BitVec 5) (vs2 : BitVec 5) (kg : BitVec 3)
  /-- VCMPEQ (R178). -/
  | vcmpeq (kd : BitVec 3) (vs1 : BitVec 5) (vs2 : BitVec 5) (kg : BitVec 3)
  /-- VCMPNE (R178). -/
  | vcmpne (kd : BitVec 3) (vs1 : BitVec 5) (vs2 : BitVec 5) (kg : BitVec 3)
  /-- VCMPLT (R178). -/
  | vcmplt (kd : BitVec 3) (vs1 : BitVec 5) (vs2 : BitVec 5) (kg : BitVec 3)
  /-- VCMPLE (R178). -/
  | vcmple (kd : BitVec 3) (vs1 : BitVec 5) (vs2 : BitVec 5) (kg : BitVec 3)
  /-- VCMPLTU (R178). -/
  | vcmpltu (kd : BitVec 3) (vs1 : BitVec 5) (vs2 : BitVec 5) (kg : BitVec 3)
  /-- VCMPLEU (R178). -/
  | vcmpleu (kd : BitVec 3) (vs1 : BitVec 5) (vs2 : BitVec 5) (kg : BitVec 3)
  /-- KAND (R179). -/
  | kand (kd : BitVec 3) (ks1 : BitVec 3) (ks2 : BitVec 3) (kg : BitVec 3)
  /-- KOR (R179). -/
  | kor (kd : BitVec 3) (ks1 : BitVec 3) (ks2 : BitVec 3) (kg : BitVec 3)
  /-- KXOR (R179). -/
  | kxor (kd : BitVec 3) (ks1 : BitVec 3) (ks2 : BitVec 3) (kg : BitVec 3)
  /-- KANDN (R179). -/
  | kandn (kd : BitVec 3) (ks1 : BitVec 3) (ks2 : BitVec 3) (kg : BitVec 3)
  /-- VWHILE (R179). -/
  | vwhile (kd : BitVec 3) (rs1 : BitVec 5) (rs2 : BitVec 5) (kg : BitVec 3)
  /-- KCOUNT (R180). -/
  | kcount (rd : BitVec 5) (ks : BitVec 3) (kg : BitVec 3)
  /-- KFIRST (R180). -/
  | kfirst (rd : BitVec 5) (ks : BitVec 3) (kg : BitVec 3)
  /-- VREDADD (R182). -/
  | vredadd (vd : BitVec 5) (vs1 : BitVec 5) (kg : BitVec 3)
  /-- VREDMIN (R182). -/
  | vredmin (vd : BitVec 5) (vs1 : BitVec 5) (kg : BitVec 3)
  /-- VREDMAX (R182). -/
  | vredmax (vd : BitVec 5) (vs1 : BitVec 5) (kg : BitVec 3)
  /-- VBCAST (R181). -/
  | vbcast (vd : BitVec 5) (rs1 : BitVec 5) (kg : BitVec 3)
  /-- VMVX (R181). -/
  | vmvx (rd : BitVec 5) (vs1 : BitVec 5) (rs2 : BitVec 5)
  /-- VPERM (R171). -/
  | vperm (vd : BitVec 5) (vs1 : BitVec 5) (vs2 : BitVec 5) (kg : BitVec 3)
  /-- VIOTA (R181). -/
  | viota (vd : BitVec 5) (kg : BitVec 3)
  /-- VMOV (R171). -/
  | vmov (vd : BitVec 5) (vs1 : BitVec 5) (kg : BitVec 3)
  /-- SMXSTEP (R176). -/
  | smxstep (vd : BitVec 5) (vs1 : BitVec 5) (kg : BitVec 3)
  /-- SMXNORM (R177). -/
  | smxnorm (vd : BitVec 5) (vs1 : BitVec 5) (vs2 : BitVec 5) (kg : BitVec 3)
  /-- VPOPC (R171). -/
  | vpopc (vd : BitVec 5) (vs1 : BitVec 5) (kg : BitVec 3)
  /-- VCLZ (R171). -/
  | vclz (vd : BitVec 5) (vs1 : BitVec 5) (kg : BitVec 3)
  /-- GADDR (R185). -/
  | gaddr (vd : BitVec 5) (vs1 : BitVec 5) (tbl : BitVec 2) (kg : BitVec 3)
  /-- VLD (R186). -/
  | vld (vd : BitVec 5) (rs1 : BitVec 5) (imm : BitVec 5) (kg : BitVec 3)
  /-- VLDC (R189). -/
  | vldc (vd : BitVec 5) (rs1 : BitVec 5) (rs2 : BitVec 5) (kg : BitVec 3)
  /-- VST (R186). -/
  | vst (vd : BitVec 5) (rs1 : BitVec 5) (imm : BitVec 5) (kg : BitVec 3)
  /-- VSTC (R189). -/
  | vstc (vd : BitVec 5) (rs1 : BitVec 5) (rs2 : BitVec 5) (kg : BitVec 3)
  /-- VLDS (R187). -/
  | vlds (vd : BitVec 5) (rs1 : BitVec 5) (rs2 : BitVec 5) (kg : BitVec 3)
  /-- VSTS (R187). -/
  | vsts (vd : BitVec 5) (rs1 : BitVec 5) (rs2 : BitVec 5) (kg : BitVec 3)
  /-- VLDX (R187). -/
  | vldx (vd : BitVec 5) (rs1 : BitVec 5) (vs2 : BitVec 5) (kg : BitVec 3)
  /-- VSTX (R187). -/
  | vstx (vd : BitVec 5) (rs1 : BitVec 5) (vs2 : BitVec 5) (kg : BitVec 3)
  /-- VLDG (R190). -/
  | vldg (vd : BitVec 5) (vs1 : BitVec 5) (sz : BitVec 2) (kg : BitVec 3)
  /-- VSTG (R192). -/
  | vstg (vd : BitVec 5) (vs1 : BitVec 5) (sz : BitVec 2) (kg : BitVec 3)
  /-- VCVT (R193). -/
  | vcvt (vd : BitVec 5) (vs1 : BitVec 5) (fmt : BitVec 5) (kg : BitVec 3)
  /-- VPVENC (R194). -/
  | vpvenc (rd : BitVec 5) (vs1 : BitVec 5) (rs2 : BitVec 5)
  /-- VPVDEC (R195). -/
  | vpvdec (vd : BitVec 5) (rs1 : BitVec 5) (rs2 : BitVec 5)
  /-- VCOMPRESS (R196). -/
  | vcompress (vd : BitVec 5) (vs1 : BitVec 5) (m : BitVec 4) (n16 : Bool)
  /-- VDESC (R198). -/
  | vdesc (vd : BitVec 5) (vs1 : BitVec 5) (kg : BitVec 3)
  /-- VFLIGHT (R200). -/
  | vflight (n : BitVec 4) (rs1 : BitVec 5) (rs2 : BitVec 5)
  /-- VWIDTH (R199). -/
  | vwidth (rd : BitVec 5)
  /-- VLDB (R186). -/
  | vldb (vd : BitVec 5) (rs1 : BitVec 5) (sz : BitVec 2) (kg : BitVec 3)
  /-- MSEND (R247). -/
  | msend (sem : BitVec 2) (scope : BitVec 2) (rd : BitVec 5) (rs1 : BitVec 5) (rs2 : BitVec 5)
  /-- RWR (R251). -/
  | rwr (sem : BitVec 2) (scope : BitVec 2) (rs1 : BitVec 5) (rs2 : BitVec 5)
  /-- CPY (R255). -/
  | cpy (sem : BitVec 2) (scope : BitVec 2) (rd : BitVec 5) (rs1 : BitVec 5)
  /-- CPYM (R256). -/
  | cpym (sem : BitVec 2) (scope : BitVec 2) (rd : BitVec 5) (rs1 : BitVec 5) (rs2 : BitVec 5)
  /-- GATH (R263). -/
  | gath (sem : BitVec 2) (scope : BitVec 2) (rd : BitVec 5) (rs1 : BitVec 5)
  /-- SCAT (R264). -/
  | scat (sem : BitVec 2) (scope : BitVec 2) (rd : BitVec 5) (rs1 : BitVec 5)
  /-- BOINIT (R258). -/
  | boinit (rs1 : BitVec 5) (rs2 : BitVec 5)
  /-- BOWAIT (R259). -/
  | bowait (sem : BitVec 2) (scope : BitVec 2) (rd : BitVec 5) (rs1 : BitVec 5)
  /-- GADD (R280). -/
  | gadd (sem : BitVec 2) (scope : BitVec 2) (rd : BitVec 5) (rs1 : BitVec 5) (rs2 : BitVec 5)
  /-- GFADD (R280). -/
  | gfadd (sem : BitVec 2) (scope : BitVec 2) (rd : BitVec 5) (rs1 : BitVec 5) (rs2 : BitVec 5)
  /-- GMIN (R280). -/
  | gmin (sem : BitVec 2) (scope : BitVec 2) (rd : BitVec 5) (rs1 : BitVec 5) (rs2 : BitVec 5)
  /-- GMAX (R280). -/
  | gmax (sem : BitVec 2) (scope : BitVec 2) (rd : BitVec 5) (rs1 : BitVec 5) (rs2 : BitVec 5)
  /-- GOR (R280). -/
  | gor (sem : BitVec 2) (scope : BitVec 2) (rd : BitVec 5) (rs1 : BitVec 5) (rs2 : BitVec 5)
  /-- GAND (R280). -/
  | gand (sem : BitVec 2) (scope : BitVec 2) (rd : BitVec 5) (rs1 : BitVec 5) (rs2 : BitVec 5)
  /-- GXOR (R280). -/
  | gxor (sem : BitVec 2) (scope : BitVec 2) (rd : BitVec 5) (rs1 : BitVec 5) (rs2 : BitVec 5)
  /-- GCAS (R280). -/
  | gcas (sem : BitVec 2) (scope : BitVec 2) (rd : BitVec 5) (rs1 : BitVec 5) (rs2 : BitVec 5)
  /-- GQPUSH (R287). -/
  | gqpush (sem : BitVec 2) (scope : BitVec 2) (rd : BitVec 5) (rs1 : BitVec 5) (rs2 : BitVec 5)
  /-- GQPOP (R287). -/
  | gqpop (sem : BitVec 2) (scope : BitVec 2) (rd : BitVec 5) (rs1 : BitVec 5)
  /-- BPUSH (R302). -/
  | bpush (sem : BitVec 2) (scope : BitVec 2) (rd : BitVec 5) (rs1 : BitVec 5) (rs2 : BitVec 5)
  /-- BPOP (R304). -/
  | bpop (sem : BitVec 2) (scope : BitVec 2) (rd : BitVec 5) (rs1 : BitVec 5)
  /-- BROUND (R303). -/
  | bround (sem : BitVec 2) (scope : BitVec 2) (rd : BitVec 5) (rs1 : BitVec 5) (rs2 : BitVec 5)
  /-- BACK (R305). -/
  | back (sem : BitVec 2) (scope : BitVec 2) (rd : BitVec 5) (rs1 : BitVec 5) (rs2 : BitVec 5)
  /-- BIDXGET (R309). -/
  | bidxget (sem : BitVec 2) (scope : BitVec 2) (rd : BitVec 5) (rs1 : BitVec 5) (rs2 : BitVec 5)
  /-- BIDXPUT (R309). -/
  | bidxput (sem : BitVec 2) (scope : BitVec 2) (rd : BitVec 5) (rs1 : BitVec 5) (rs2 : BitVec 5)
  /-- QRUN (R329). -/
  | qrun (sem : BitVec 2) (scope : BitVec 2) (rd : BitVec 5) (rs1 : BitVec 5) (rs2 : BitVec 5)
  /-- QSLOPE (R335). -/
  | qslope (sem : BitVec 2) (scope : BitVec 2) (rd : BitVec 5) (rs1 : BitVec 5) (rs2 : BitVec 5)
  /-- QSAMPLE (R340). -/
  | qsample (sem : BitVec 2) (scope : BitVec 2) (rd : BitVec 5) (rs1 : BitVec 5) (rs2 : BitVec 5)
  /-- QINJ (R345). -/
  | qinj (sem : BitVec 2) (scope : BitVec 2) (rd : BitVec 5) (rs1 : BitVec 5) (rs2 : BitVec 5)
  /-- CSTART (R365). -/
  | cstart (sem : BitVec 2) (scope : BitVec 2) (rd : BitVec 5) (rs1 : BitVec 5)
  /-- CWAIT (R368). -/
  | cwait (sem : BitVec 2) (scope : BitVec 2) (rd : BitVec 5) (rs1 : BitVec 5)
  /-- CCANCEL (R369). -/
  | ccancel (rd : BitVec 5) (rs1 : BitVec 5)
  /-- PFLUSH (R358). -/
  | pflush (rd : BitVec 5)
  /-- CARD_POST (R109). -/
  | cardPost (rd : BitVec 5) (rs1 : BitVec 5) (rs2 : BitVec 5)
  /-- CARD_SUSP (R107). -/
  | cardSusp (rs1 : BitVec 5)
  /-- CARD_BIND (R112). -/
  | cardBind (rd : BitVec 5) (rs1 : BitVec 5) (rs2 : BitVec 5)
  /-- CARD_PRIO (R119). -/
  | cardPrio (rd : BitVec 5) (rs1 : BitVec 5)
  /-- CARD_STEAL (R120). -/
  | cardSteal (rd : BitVec 5) (rs1 : BitVec 5)
  /-- CARD_SELF (R121). -/
  | cardSelf (rd : BitVec 5) (rs1 : BitVec 5)
  /-- DUALSIG (R122). -/
  | dualsig (rs1 : BitVec 5)
  /-- PTAKE (R117). -/
  | ptake (rd : BitVec 5) (n : BitVec 3)
  /-- SCFENCE (R128). -/
  | scfence (rs2 : BitVec 5)
  /-- FMTP (R58). -/
  | fmtp (fmt : BitVec 5)
  /-- TRAP (R142). -/
  | trap (imm : BitVec 10)
  /-- CKPT (R147). -/
  | ckpt (rs1 : BitVec 5)
  /-- SEAL (R161). -/
  | seal (rd : BitVec 5) (rs1 : BitVec 5) (rs2 : BitVec 5)
  /-- PLOG (R163). -/
  | plog (rd : BitVec 5) (rs1 : BitVec 5) (rs2 : BitVec 5)
  /-- TLB_REPLAY (R158). -/
  | tlbReplay (rs1 : BitVec 5)
  /-- TLB_INV (R159). -/
  | tlbInv (rs1 : BitVec 5) (rs2 : BitVec 5)
  /-- MRING_CFG (R215). -/
  | mringCfg (rd : BitVec 5) (rs1 : BitVec 5) (rs2 : BitVec 5)
  /-- MRING_FREE (R218). -/
  | mringFree (rd : BitVec 5) (rs1 : BitVec 5)
  /-- MRING_DROP (R217). -/
  | mringDrop (rd : BitVec 5) (rs1 : BitVec 5) (rs2 : BitVec 5)
  /-- MGANG (R224). -/
  | mgang (rd : BitVec 5) (rs1 : BitVec 5)
  /-- MMA (R220). -/
  | mma (rd : BitVec 5) (rs1 : BitVec 5)
  /-- MMA_SP (R221). -/
  | mmaSp (rd : BitVec 5) (rs1 : BitVec 5) (vm : BitVec 5)
  /-- MGROUP (R222). -/
  | mgroup (rd : BitVec 5) (rs1 : BitVec 5) (rs2 : BitVec 5)
  /-- MREAD (R227). -/
  | mread (rd : BitVec 5) (rs1 : BitVec 5)
  /-- MCOMMIT_VECTOR (R228). -/
  | mcommitVector (vd : BitVec 5) (rs1 : BitVec 5)
  /-- MCOMMIT_SCRATCHPAD (R228). -/
  | mcommitScratchpad (rs1 : BitVec 5) (rs2 : BitVec 5)
  /-- MWAIT (R229). -/
  | mwait (rs1 : BitVec 5)
  /-- MZERO (R219). -/
  | mzero (rs1 : BitVec 5)
  /-- MRING_PUSH (R216). -/
  | mringPush (rd : BitVec 5) (rs1 : BitVec 5)
  /-- BQCFG (R301). -/
  | bqcfg (rd : BitVec 5) (rs1 : BitVec 5) (rs2 : BitVec 5)
  /-- BQUIET (R307). -/
  | bquiet (rd : BitVec 5) (rs1 : BitVec 5) (rs2 : BitVec 5)
  /-- WPTR (R260). -/
  | wptr (rd : BitVec 5) (rs1 : BitVec 5)
  /-- QCFG (R326). -/
  | qcfg (rd : BitVec 5) (rs1 : BitVec 5) (rs2 : BitVec 5)
  /-- QVSET (R327). -/
  | qvset (rd : BitVec 5) (rs1 : BitVec 5) (rs2 : BitVec 5)
  /-- QSTAT (R346). -/
  | qstat (rd : BitVec 5) (rs1 : BitVec 5) (rs2 : BitVec 5)
  /-- QSTOP (R347). -/
  | qstop (rd : BitVec 5) (rs1 : BitVec 5) (rs2 : BitVec 5)
  /-- QCONV (R328). -/
  | qconv (rd : BitVec 5) (rs1 : BitVec 5) (rs2 : BitVec 5)
  /-- CSTAT (R370). -/
  | cstat (rd : BitVec 5) (rs1 : BitVec 5) (rs2 : BitVec 5)
  /-- FENCE_TSO (R17). -/
  | fenceTso
  /-- PAUSE (R17). -/
  | pause
  /-- ECALL (R19). -/
  | ecall
  /-- EBREAK (R19). -/
  | ebreak
  /-- WFI (R19). -/
  | wfi
  /-- LWAIT (R191). -/
  | lwait
  /-- CARD_EXIT (R108). -/
  | cardExit
  /-- CARD_YIELD (R106). -/
  | cardYield
  /-- HDONE (R123). -/
  | hdone
  /-- BAR_CORE (R124). -/
  | barCore
  /-- BAR_ROW (R125). -/
  | barRow
  /-- BAR_DIE (R124). -/
  | barDie
  /-- BAR_POD (R124). -/
  | barPod
  /-- LBFENCE (R129). -/
  | lbfence
  /-- SWITCH (R35). -/
  | switch
  /-- TRET (R142). -/
  | tret
  /-- VFLAGS_ACCESS (R52). -/
  | vflagsAccess (op : CsrOp) (rd : BitVec 5) (src : CsrSrc)
  /-- CHWIN_WRITE (R114). -/
  | chwinWrite (op : CsrOp) (rd : BitVec 5) (src : CsrSrc)
  /-- SKEW_WRITE (R188). -/
  | skewWrite (n : BitVec 2) (op : CsrOp) (rd : BitVec 5) (src : CsrSrc)
  /-- PTBASE_WRITE (R151). -/
  | ptbaseWrite (op : CsrOp) (rd : BitVec 5) (src : CsrSrc)
  /-- PLOGBASE_WRITE (R162). -/
  | plogbaseWrite (op : CsrOp) (rd : BitVec 5) (src : CsrSrc)
  /-- STWCSR_WRITE (R135). -/
  | stwcsrWrite (tid : Nat) (off : Nat) (val : Word)
  /-- HOST_APPEND (R91). -/
  | hostAppend (off : Nat) (data : List Byte)
  /-- HOST_READ (R380). -/
  | hostRead (bar : Nat) (off : Nat) (size : Nat)
  /-- HOST_WRITE (R380). -/
  | hostWrite (off : Nat) (data : List Byte)
  /-- CONTROL_REGISTER_WRITE (R381). -/
  | controlRegisterWrite (off : Nat) (size : Nat) (val : Word)
  /-- QUEUE_DESCRIPTOR_WRITE (R90). -/
  | queueDescriptorWrite (q : Nat) (idx : BitVec 2) (val : Word)
  /-- HINT_WRITE (R382). -/
  | hintWrite (val : Word)
  /-- RST (R387). -/
  | rst (val : Word)
  /-- PODCFG_WRITE (R354). -/
  | podcfgWrite (val : Word)
  /-- COLDOM_ENABLE (R359). -/
  | coldomEnable (val : Word)
  /-- COLDOM_DISABLE (R359). -/
  | coldomDisable (val : Word)
  /-- LC_DEPLOY (R388). -/
  | lcDeploy (val : Word)
  /-- LC_RETURN (R388). -/
  | lcReturn (val : Word)
  /-- PROVISION (R388). -/
  | provision
  /-- ATTREQ (R390). -/
  | attreq (val : Word)
  /-- ATTEST_REPORT_DONE (R391). -/
  | attestReportDone
  /-- GCOL_WRITE (R277). -/
  | gcolWrite (die : Nat) (val : Word)
  /-- GFOLD_WRITE (R275). -/
  | gfoldWrite (die : Nat) (val : Word)
  /-- COLUMN_MOVE_DONE (R277). -/
  | columnMoveDone (die : Nat) (col : Nat)
  /-- FREPLAY (R158). -/
  | freplay (die : Nat) (val : Word)
  /-- EVICT (R145). -/
  | evict (die : Nat) (val : Word)
  /-- PREEMPT (R381). -/
  | preempt (core : Nat) (val : Word)
  /-- NIOVF_WRITE (R245). -/
  | niovfWrite (core : Nat) (val : Word)
  /-- PACKAGE_RESET (R387). -/
  | packageReset
  /-- WIPE_DONE (R386). -/
  | wipeDone
  /-- IDLE_TIMEOUT (R383). -/
  | idleTimeout
  /-- POWER_WAKE (R385). -/
  | powerWake
  /-- POWER_EXIT_DONE (R384). -/
  | powerExitDone
  /-- CORRECTED_ERROR (R392). -/
  | correctedError (loc : Nat)
  /-- UNCORRECTABLE_ERROR (R392). -/
  | uncorrectableError (pa : Nat) (len : Nat)
  /-- ON_DIE_LINK_FAILURE (R393). -/
  | onDieLinkFailure (loc : Nat)
  /-- STORE_BUFFER_DRAIN (R74). -/
  | storeBufferDrain (core : Nat)
  /-- RESULT_RETURN (R34). -/
  | resultReturn (tid : Nat) (id : Nat)
  /-- ENGINE_TRAP_REPORT (R138). -/
  | engineTrapReport (tid : Nat)
  /-- VECTOR_SEQUENCER_EXECUTE (R168). -/
  | vectorSequencerExecute (tid : Nat)
  /-- LEASE_LANE_LAND (R190). -/
  | leaseLaneLand (tid : Nat) (id : Nat) (lane : Nat)
  /-- MATRIX_QUEUE_EXECUTE (R206). -/
  | matrixQueueExecute (core : Nat)
  /-- GANG_CLASP_CLOSE (R225). -/
  | gangClaspClose (row : Nat)
  /-- LANDING_TRANSFER_DONE (R227). -/
  | landingTransferDone (core : Nat) (slot : Nat)
  /-- ROW_CLASP_CLOSE (R125). -/
  | rowClaspClose (slot : Nat) (sub : Nat)
  /-- BARRIER_COMPLETE (R124). -/
  | barrierComplete (slot : Nat) (level : Nat) (sub : Nat)
  /-- GALLERY_BANK_OPERATION (R274). -/
  | galleryBankOperation (id : Nat)
  /-- GALLERY_QUEUE_STEP (R287). -/
  | galleryQueueStep (id : Nat)
  /-- BEAD_STEP (R297). -/
  | beadStep (id : Nat)
  /-- SEND_ACCEPTED (R247). -/
  | sendAccepted (id : Nat)
  /-- ACTIVE_MESSAGE_ARRIVAL (R243). -/
  | activeMessageArrival (id : Nat)
  /-- TAGGED_PACKET_ARRIVAL (R243). -/
  | taggedPacketArrival (id : Nat)
  /-- RWR_ARRIVAL (R116). -/
  | rwrArrival (id : Nat)
  /-- HEAP_REPLAY (R245). -/
  | heapReplay (core : Nat)
  /-- HANDLER_TRIGGER (R249). -/
  | handlerTrigger (core : Nat)
  /-- HANDLER_PUSH_RETRY (R249). -/
  | handlerPushRetry (core : Nat)
  /-- ABORTED_HANDLER_PUSH (R142). -/
  | abortedHandlerPush (tid : Nat)
  /-- COPY_CHUNK_DONE (R255). -/
  | copyChunkDone (core : Nat) (ch : Nat)
  /-- GATHER_ELEMENT_LAND (R263). -/
  | gatherElementLand (core : Nat) (ch : Nat)
  /-- SCATTER_ELEMENT_ACK (R264). -/
  | scatterElementAck (core : Nat) (ch : Nat)
  /-- POSTED_WRITE_ARRIVAL (R355). -/
  | postedWriteArrival (pa : Nat) (w : ForeignWrite)
  /-- POSTED_WRITE_ACK (R355). -/
  | postedWriteAck (id : Nat)
  /-- REMOTE_LOAD_REPLY (R355). -/
  | remoteLoadReply (id : Nat) (val : Word)
  /-- FLIT_CRC_FAILURE (R271). -/
  | flitCrcFailure (link : Nat)
  /-- LINK_LOSS (R270). -/
  | linkLoss (link : Nat)
  /-- LINK_RETRAINED (R270). -/
  | linkRetrained (link : Nat)
  /-- LINK_DOWN_TIMEOUT (R270). -/
  | linkDownTimeout (link : Nat)
  /-- TAMGON_LINK_DOWN (R375). -/
  | tamgonLinkDown (k : Nat)
  /-- LINK_TRAINED (R354). -/
  | linkTrained (k : Nat)
  /-- PEER_EXCHANGE (R354). -/
  | peerExchange (k : Nat) (peer : BitVec 12) (plink : BitVec 5)
  /-- QUEUE_DISPATCH (R93). -/
  | queueDispatch (q : Nat)
  /-- GANG_ADMIT (R89). -/
  | gangAdmit (id : Nat)
  /-- CARD_PICKUP (R96). -/
  | cardPickup (tid : Nat)
  /-- STEAL_SCAN_STEP (R97). -/
  | stealScanStep (core : Nat)
  /-- STEAL_PAUSE_END (R97). -/
  | stealPauseEnd (core : Nat)
  /-- DEQUE_PUSH (R110). -/
  | dequePush (id : Nat)
  /-- AGEING (R95). -/
  | ageing (id : Nat)
  /-- SLICE_EXPIRY (R99). -/
  | sliceExpiry (tid : Nat)
  /-- WATCHDOG_EXPIRY (R100). -/
  | watchdogExpiry (id : Nat)
  /-- CHECKPOINT_DEADLINE (R145). -/
  | checkpointDeadline (tid : Nat)
  /-- EVICTION_READMIT (R150). -/
  | evictionReadmit (id : Nat) (core : Nat)
  /-- INSTANT_BEGIN (R330). -/
  | instantBegin (die : Nat) (sys : Nat)
  /-- SYSTEM_HOLD (R330). -/
  | systemHold (die : Nat) (sys : Nat)
  /-- SAMPLE_TAKE (R340). -/
  | sampleTake (die : Nat) (sys : Nat)
  /-- CROSSING_EVENT_ARRIVAL (R343). -/
  | crossingEventArrival (id : Nat)
  /-- CROSSING_FRONTIER_ARRIVAL (R343). -/
  | crossingFrontierArrival (id : Nat)
  /-- COLLECTIVE_REGISTRATION (R366). -/
  | collectiveRegistration (id : Nat)
  /-- REPLICATION_ACK (R366). -/
  | replicationAck (id : Nat)
  /-- ASSIGNMENT_NOTICE (R366). -/
  | assignmentNotice (id : Nat)
  /-- COLLECTIVE_BEGIN (R367). -/
  | collectiveBegin
  /-- COLLECTIVE_COMPLETE (R367). -/
  | collectiveComplete (num : Nat)
  /-- FINISH_REPORT (R367). -/
  | finishReport (id : Nat)
  /-- COLLECTIVE_WITHDRAWAL (R369). -/
  | collectiveWithdrawal (id : Nat)
  /-- CANCEL_NOTICE (R369). -/
  | cancelNotice (id : Nat)
  /-- NEWEL_HEARTBEAT (R374). -/
  | newelHeartbeat
  /-- STANDBY_TAKEOVER (R374). -/
  | standbyTakeover
  /-- TAKEOVER_NOTICE (R374). -/
  | takeoverNotice (id : Nat)
  /-- ILLEGAL_INSTRUCTION (R31). -/
  | illegalInstruction (word : BitVec 32)
  /-- FETCH_FAULT (R9). -/
  | fetchFault
  /-- FINISH_REPORT_ACK (R374). -/
  | finishReportAck (id : Nat)
deriving DecidableEq, Repr

end Sys2Proof
end

