-- ==== Sys2Proof/Machine/State.lean ====
section
/-! DEFINITION. The state of one package: thread sets, cores, dies, the scheduler, translation, the host interface and the
fabric ends, all as plain data (R1, R10). -/

namespace Sys2Proof.Machine

/-- Why the machine stops.  Closed: the part itself never stops. -/
inductive Fault where
  /-- Raised by `step`, never by an instruction: the agenda names as a step of the part an instruction word or a row that a thread set
  performs by issuing; safe, the agenda is the model's own. -/
  | agendaNotEvent
deriving DecidableEq, Repr

/-- Why there is no meaning. -/
inductive Refusal where
  /-- Raised by nothing: every arm of `exec` has its meaning; it would be an arm without one, and safe. -/
  | notModelled (mnemonic : String)
deriving DecidableEq, Repr

/-- Which path an access takes to its location: the private window of the core's own scratchpad, the core's own global window
through the loop-back port, or the only path of any other location (R66, R74). -/
inductive Path where
  | own | loop | plain
deriving DecidableEq, Repr

/-- A store-buffer entry (R74); `pa` is a 52-bit physical address. -/
structure SbEntry where
  id : Nat
  tid : Nat
  path : Path
  va : Word
  pa : Nat
  data : List Byte
deriving DecidableEq, Repr

/-- A store of another die's location between the store buffer and its performance there (R77, R407). -/
structure Flight where
  id : Nat
  tid : Nat
  va : Word
  pa : Nat
  data : List Byte
deriving DecidableEq, Repr

/-- One trap bank: TEPC, TCAUSE, TVAL and the fields of TSTAT (R134). -/
structure TrapBank where
  tepc : Word := 0
  tcause : Word := 0
  tval : Word := 0
  pfxv : BitVec 5 := 0
  ends : Bool := false
  abt : Bool := false
  act : Bool := false
  park : Bool := false
  pm : Bool := false
  pfx : Bool := false
deriving DecidableEq, Repr

/-- A trap reported by an engine, held until its boundary (R138); `hold` is 1 or 2 while the handler of the first or second bank, entered by
a trap of the instruction at that boundary, goes first. -/
structure Report where
  cause : BitVec 6
  val : Word
  hold : Nat
deriving DecidableEq, Repr

/-- A packet in the network, a channel, an inbox or a heap (R241, R242): its kind, target package and core, tag, register number (KIND 2), its
header's fields, its payload, the command that sent it (thread set and result), the scope of its sender's release, and, for a
KIND 0 packet in an inbox, the handler card that serves it (R249).  `arr` numbers arrivals; `slot` is the place of a packet in the overflow
heap (R245), `bad` the bytes of its payload that carry the poisoned mark (R271), `free` a send that HDONE has released, which is no outstanding result (R250). -/
structure Packet where
  id : Nat
  arr : Nat
  kind : Nat
  pkg : Nat
  core : Nat
  tag : Nat
  reg : Nat
  mid : BitVec 48
  hpc : Word
  asid : BitVec 16
  cls : Nat
  payload : List Byte
  tid : Option Nat
  out : Nat
  rel : Option (BitVec 2)
  served : Option Nat
  slot : Nat := 0
  bad : List Nat := []
  free : Bool := false
deriving DecidableEq, Repr

/-- Where a group's card stands in its launch (R88): its place in the die group, row group and core group levels. -/
structure Seat where
  slot : Nat
  tid : Nat
  dg : Nat
  rg : Nat
  cg : Nat
  done : Bool
deriving DecidableEq, Repr

/-- What a card brings back when a suspending CARD.BIND delivered a value to rd (R105, R112). -/
structure Deliver where
  rd : BitVec 5
  val : Word
deriving DecidableEq, Repr

/-- The record of a card (R79, R82) with what the scheduler keeps beside its 64 bytes; `hdone` and `sends` belong to its handler phase: that
it has ended, and the sends it holds (R123, R250). -/
structure Card where
  id : Nat
  pc : Word
  hdr : Word
  hdr0 : Word
  xs : List Word
  home : Nat
  slice : Nat
  entry : Option Nat
  seat : Option Nat
  copy : Option Bool
  twin : Nat
  sig : Word
  msg : Option Packet
  since : Nat
  aged : Bool
  chan : BitVec 3
  deliver : Option Deliver
  ran : Bool
  hdone : Bool := false
  sends : List Packet := []
deriving DecidableEq, Repr

/-- How an outstanding result of a thread set comes back (R32). -/
inductive OutKind where
  | lease | ni | landing | gallery | ringFree | bead | crossing | fabric | card
deriving DecidableEq, Repr

/-- An outstanding result: the x registers it writes and, once it has returned to the core, their values (R32, R34).
`acq` is the scope of an acquire still to be performed for later accesses (R282). -/
structure Out where
  id : Nat
  kind : OutKind
  regs : List (BitVec 5)
  vals : Option (List Word)
  acq : Option (BitVec 2)
deriving DecidableEq, Repr

/-- A barrier that a thread set waits at (R124): 1 core, 2 row, 3 die, 4 pod. -/
structure BarWait where
  slot : Nat
  level : Nat
  sub : Nat
deriving DecidableEq, Repr

/-- A remote load or returning remote atomic that the thread set waits for (R355), the acquire of an atomic, and
whether its instruction has S = 1 (R33). -/
structure RemoteWait where
  id : Nat
  rd : BitVec 5
  pa : Nat
  size : Nat
  signed : Bool
  atomic : Bool := false
  acq : Option (BitVec 2) := none
  park : Bool := false
deriving DecidableEq, Repr

/-- Who accesses memory (R67 to R69): a thread set with its sequencer, a command of a thread set's engines, the units of a die that act for
none, or a sender outside the package: another one by its number, 4097 the host; 4096 stands for what this package has released there. -/
inductive Party where
  | thread (tid : Nat)
  | command (tid id : Nat)
  | unit_ (die : Nat)
  | outside (src : Nat)
deriving DecidableEq, Repr

/-- How a party knows of a write: by its own access; by its own store through the other path to its core's scratchpad (R66); by an acquire
(R69, R377); or, for barriers, as that of a command of its own whose release has completed (R126). -/
inductive Way where
  | own | side | received | covered
deriving DecidableEq, Repr

/-- Where the knowledge stands that a value seen early is out of date (R68, R69, R377; log 66). -/
inductive Holder where
  /-- a party knows it. -/
  | party (p : Party) (w : Way)
  /-- a party has released it at a scope by a fence: its later stores carry it. -/
  | fenced (p : Party) (scope : Nat)
  /-- the write of a release, or a later one, stands at these bytes. -/
  | bytes (pa n : Nat) (p : Party) (scope : Nat)
  /-- a thread set has read such bytes: its next acquire receives it. -/
  | owed (tid : Nat) (p : Party) (scope : Nat)
  /-- a packet, or the answer of a command, carries a release. -/
  | message (id : Nat) (p : Party) (scope : Nat)
  /-- a card carries what its poster or suspender knew (R111). -/
  | card (id : Nat)
  /-- it was published with a tile of a ring (R216). -/
  | tile (core ring n : Nat)
  /-- a core's matrix engine has read such a tile for the reader of a ticket, which MWAIT acquires (R216, R229). -/
  | matrix (core : Nat) (ticket : BitVec 32)
  /-- a step with a release stands in the order of a pipeline, an index or a crossing system (R310, R326). -/
  | order (key : Nat) (p : Party) (scope : Nat)
  /-- the write pointer of a copy channel counts the write (R260). -/
  | count (core ch : Nat)
deriving DecidableEq, Repr

/-- A value that an early read saw, which a later load through the same path may still return (R66, R77, R78), and who knows that it is out
of date, if it is. -/
structure Early where
  path : Path
  pa : Nat
  data : List Byte
  known : List Holder
  stale : Bool := false
deriving DecidableEq, Repr

/-- A vector instruction with what it captured at issue (R168, R52): format, rounding mode, saturation, whether v24 to v31 are
channels, the values of its x operands, DTBASE, and whether it issued in user mode (R26); `part` and `got` are its item's, while it executes. -/
structure VOp where
  instr : Instr
  fmt : BitVec 5
  rm : BitVec 3
  sat : Bool
  chw : Bool
  xa : Word
  xb : Word
  dt : Word
  user : Bool
  part : Nat := 0
  got : List (Nat × Nat) := []
deriving DecidableEq, Repr

/-- An instruction or a flight in the vector sequencer (R168, R200): `ops` run `iters` times; `j` and `at_` say where it stands;
`entries` of the 16 are its own; of the access that it is at, `part` lanes are done, and `got` holds what they read (R70). -/
structure SeqItem where
  id : Nat
  tid : Nat
  ops : List VOp
  iters : Nat
  j : Nat
  at_ : Nat
  step : Word
  entries : Nat
  part : Nat := 0
  got : List (Nat × Nat) := []
deriving DecidableEq, Repr

/-- A gather into a leased register (R190) or a scatter (R192): the lanes still to access, their addresses and, for a scatter,
their elements; `hit` lists the addresses of the lanes written, and `begun` says that the sequencer has come to it (R203). -/
structure LaneJob where
  id : Nat
  store : Bool
  vreg : BitVec 5
  size : Nat
  user : Bool
  lanes : List (Nat × Word × Nat)
  hit : List (Nat × Word)
  begun : Bool := false
deriving DecidableEq, Repr

/-- A thread set (R10); `lateRel` is the scope of an SCFENCE that released while an acquire was pending, and `relAt` numbers the posted writes
that it waits for once that has been made (R377); `mark` and `openAt` number what was issued before the instruction that waits, and before its stores had drained
(R75, R357), `waits` says that its instruction has begun a wait of R410, `plogNext` holds writes of PLOGBASE that wait for room at
the root (R135, R391), `seen` names the stores of its core, not yet performed, whose values it has read (R71, R74). -/
structure Thread where
  pc : Word := 0
  steward : Bool := false
  x : AMap Word := []
  v : AMap VWord := []
  k : AMap KWord := []
  vfmt : Word := 0
  mfmt : Word := 1
  vflags : BitVec 5 := 0
  pfx : Bool := false
  pfxv : BitVec 5 := 0
  chwin : Bool := false
  pres : BitVec 8 := 0
  dtbase : Word := 0
  dist : AMap Word := []
  skew : AMap Word := []
  bank0 : TrapBank := {}
  bank1 : TrapBank := {}
  tvec0 : Word := 0
  tvec1 : Word := 0
  tmsg : Word := 0
  savearea : Word := 0
  ckptab : Word := 0
  ckptmax : Word := 0x100000
  plogbase : Word := 0
  plogIndex : Nat := 0
  plogChain : List Byte := List.replicate 64 0
  card : Option Card := none
  park : Bool := false
  outs : List Out := []
  jobs : List LaneJob := []
  chans : AMap (List Packet) := []
  landed : List Packet := []
  resv : Option Nat := none
  gang : Bool := false
  instret : Word := 0
  reports : List Report := []
  preempts : List (BitVec 2) := []
  deadlineHit : Bool := false
  deadlineAt : Nat := 0
  sliceAt : Nat := 0
  mark : Option Nat := none
  openAt : Option Nat := none
  lateRel : Option (BitVec 2) := none
  relAt : Option Nat := none
  bar : Option BarWait := none
  remote : Option RemoteWait := none
  early : List Early := []
  seen : List Nat := []
  lost : Option Nat := none
  mflags : BitVec 5 := 0
  mcard : Option Nat := none
  aborted : Bool := false
  issued : Nat := 0
  waits : Bool := false
  plogNext : List Word := []
deriving DecidableEq, Repr

/-- An operand ring (R207, R215): offset and number of its slots, 32 KiB ones or not, owner and the three pointers. -/
structure Ring where
  base : Nat
  wide : Bool
  slots : Nat
  owner : BitVec 16
  head : BitVec 32
  claim : BitVec 32
  tail : BitVec 32
deriving DecidableEq, Repr

/-- What an accumulator slot holds (R212). -/
inductive AccKind where
  | empty | fp | int
deriving DecidableEq, Repr

/-- An accumulator slot (R212): its cells in row order, an FP pair as s + 2^32·c, an integer in 48 bits; no list is all zeros. -/
structure Accum where
  kind : AccKind := .empty
  owner : Option (BitVec 16) := none
  cells : List Word := []
deriving DecidableEq, Repr

/-- The state of a landing slot (R205); `filling` until its read-out has begun, `moving` from then until it is FULL. -/
inductive LandState where
  | free | filling | moving | full
deriving DecidableEq, Repr

/-- A landing slot (R205, R227): its state, owner, 8192 elements and the transfer's issuer and result. -/
structure Landing where
  state : LandState := .free
  owner : Option (BitVec 16) := none
  data : List Nat := []
  tid : Nat := 0
  out : Nat := 0
deriving DecidableEq, Repr

/-- A group of an MGROUP table (R222): tile pairs left, ring, slot, direction, and whether the slot is still to be zeroed. -/
structure GroupRow where
  count : Nat
  bring : Nat
  slot : Nat
  bdir : Bool
  clr : Bool
deriving DecidableEq, Repr

/-- A matrix operation of MMA or MMA.SP (R220, R221): format, rings, slot, directions, the tiles it reads, and for MMA.SP the number
of kept values, the half, whether it pops B, and the indices of each row. -/
structure MmaOp where
  fmt : Nat
  aring : Nat
  bring : Nat
  slot : Nat
  adir : Bool
  bdir : Bool
  atile : BitVec 32
  btile : BitVec 32
  sparse : Bool
  keep : Nat
  bhalf : Nat
  popb : Bool
  idx : List (List Nat)
deriving DecidableEq, Repr

/-- What a queued matrix operation does (R206). -/
inductive MatKind where
  | mma (o : MmaOp)
  | group (fmt aring : Nat) (adir : Bool) (rows : List GroupRow)
  | read (acc land : Nat) (clr : Bool)
  | zero (mask : BitVec 4)
  | drop (ring count : Nat)
  | free (ring out : Nat)
deriving DecidableEq, Repr

/-- An operation in a matrix queue (R205, R206): issuing thread set, its card and ASID, ticket, and for a gang operation the group
slot and row group, and whether it has arrived at the clasp (R225); `k` steps of the pair of tiles it is at are done (R233). -/
structure MatOp where
  id : Nat
  tid : Nat
  card : Option Nat
  asid : BitVec 16
  kind : MatKind
  ticket : Option (BitVec 32)
  gang : Option (Nat × Nat)
  arrived : Bool
  flags : BitVec 5
  k : Nat := 0
deriving DecidableEq, Repr

/-- The kinds of commands of the copy channels (R255, R256, R263, R264); gathers and scatters with index list, element size and, in
mode 1, the table's descriptor read at issue. -/
inductive CopyKind where
  | copy
  | multi (mask : Word)
  | gather (idx esz : Nat) (desc : Option Nat)
  | scatter (idx esz : Nat) (desc : Option Nat)
deriving DecidableEq, Repr

/-- What has been done of a chunk or an element before it counts (R255, R263, R264): its address is formed, a gather's element is read, it has
a fault, its posted write is on its way, or it is written. -/
inductive Ahead where
  | at_ (va : Word)
  | read (d : List (Byte × Bool))
  | bad (cause : BitVec 6) (va : Word)
  | sent (id : Nat)
  | written
deriving DecidableEq, Repr

/-- A command of a copy channel (R254): who issued it, with which ASID and mode; block fields (`dst` holds LOC and `src` BASE of a
gather or scatter); the barrier objects it counts into and the core its destination stays in (R255); bytes counted, bytes of the
run so far and bytes delivered; the fault met; its release and acquire; the source bytes read of a chunk at a time (R274), with their poisoned marks; what
has been done ahead, by the chunk's first byte or the element's number; the counts due in its barrier objects (R265) and the posted writes
that carry such counts (R378). -/
structure CopyCmd where
  id : Nat
  tid : Nat
  asid : BitVec 16
  user : Bool
  kind : CopyKind
  dst : Word
  src : Word
  len : Nat
  compl : Word
  objs : List Nat
  home : Option Nat
  done : Nat
  run : Nat
  deliv : Nat
  fault : Option (BitVec 6 × Word)
  rel : Option (BitVec 2)
  acq : Option (BitVec 2) := none
  part : List (Byte × Bool) := []
  ahead : AMap Ahead := []
  due : List (Nat × Bool) := []
  waits : List Nat := []
deriving DecidableEq, Repr

/-- A copy channel (R254). -/
structure CopyChan where
  ip : Word := 0
  wp : Word := 0
  q : List CopyCmd := []
deriving DecidableEq, Repr

/-- What a command does at a gallery bank (R278, R286). -/
inductive BankKind where
  | atomic (op : GalleryOp) (mode : BitVec 2) (v e : Word)
  | push (v : Word)
  | pop
deriving DecidableEq, Repr

/-- A gallery command on its way (R280, R286): its issuer, the address in its word, its release, for a queue step that has reached
its bank the arrival number and the descriptor's local address, and whether it has gone to another package. -/
structure BankOp where
  id : Nat
  tid : Nat
  asid : BitVec 16
  user : Bool
  kind : BankKind
  addr : Word
  rel : Option (BitVec 2)
  arr : Option (Nat × Nat)
  sent : Bool
deriving DecidableEq, Repr

/-- A bead (R294). -/
structure Bead where
  key : Nat
  val : Nat
  round : Nat
  mult : Int
deriving DecidableEq, Repr

/-- What a bead command does (R295): slots, rounds, counts, keys and the configuration word as captured at issue. -/
inductive BeadKind where
  | push (slot : Nat) (b : Bead)
  | pop
  | round (slot r : Nat)
  | ack (n : Nat)
  | get (key : Nat)
  | put (key : Nat) (v : Word)
  | cfg (w : Word)
  | quiet (r : Nat)
deriving DecidableEq, Repr

/-- A bead command on its way to its bank (R297, R311): its issuer, the address in its register, its kind and its release. -/
structure BeadOp where
  id : Nat
  tid : Nat
  asid : BitVec 16
  user : Bool
  addr : Word
  kind : BeadKind
  rel : Option (BitVec 2)
deriving DecidableEq, Repr

/-- What arrives at a variable of a crossing system (R333, R345). -/
inductive ArrKind where
  | qchange | spike | inject
deriving DecidableEq, Repr

/-- A pending arrival (R331): its FP64 time, source system id with the source variable, dependence entry and number of arrival, the
variable, the effect, the slot offset or weight, and the FP32 value it carries. -/
structure Arrival where
  time : Nat
  src : Nat
  entry : Nat
  seq : Nat
  var : Nat
  kind : ArrKind
  arg : Nat
  q : Nat
deriving DecidableEq, Repr

/-- A configured crossing system (R316 to R347), beside its block, records and control entries, which stand in the gallery: the block's
local address, the address space and mode of its accesses, the hold time, the heap (scheduled times and pending arrivals), the open
instant with the variables it applied and those whose reply is owed, the variable a storm stopped, the frontier sent, the peers'
frontiers, the pending sample and whether it waits for a QRUN (R340), whether QSTOP mode 0 waits for the instant, and the lines held. -/
structure CrossSys where
  id : Nat
  die : Nat
  num : Nat
  block : Nat
  asid : BitVec 16
  user : Bool
  nvar : Nat
  tl : Option Nat := none
  sched : AMap Nat := []
  arrivals : List Arrival := []
  opened : Option Nat := none
  applied : List Nat := []
  wake : List Nat := []
  stopVar : Option Nat := none
  front : Option Nat := none
  peers : AMap Nat := []
  sample : Option Nat := none
  sampleHeld : Bool := false
  stopq : Bool := false
  holds : List (Nat × Nat) := []
deriving DecidableEq, Repr

/-- A KIND 7 packet between crossing engines (R343): the sender's system id, the target's place die · 16384 + SYS, and a frontier or an
event. -/
structure CrossPkt where
  id : Nat
  src : Nat
  dst : Nat
  frontier : Option Nat
  event : Arrival
deriving DecidableEq, Repr

/-- A command of a crossing system with its operands (R324). -/
inductive CrossCmd where
  | cfg (free : Bool) (block : Word)
  | vset (w : Word) (off : Nat)
  | conv (w p : Word)
  | run (w tl : Word)
  | slope (w g : Word)
  | sample (w t : Word)
  | inj (w v t : Word)
  | stat (w n : Word)
  | stop (w m : Word)
deriving DecidableEq, Repr

/-- A crossing command on its way (R325): its issuer and its release; `openAt` numbers the posted writes open once the stores before it had
drained (R357). -/
structure CrossOp where
  id : Nat
  tid : Nat
  asid : BitVec 16
  user : Bool
  cmd : CrossCmd
  rel : Option (BitVec 2)
  openAt : Option Nat := none
deriving DecidableEq, Repr

/-- A CSTART that has read its block and waits for its release (R365). -/
structure CollOp where
  id : Nat
  tid : Nat
  asid : BitVec 16
  user : Bool
  block : List Word
  rel : Option (BitVec 2)
deriving DecidableEq, Repr

/-- A live collective slot (R364): key, owner, block, state 1 REGISTERED, 2 NUMBERED, 3 executing, 4 finished, number, status, join
count, the core its KIND 6 packet goes to, the trap that its CWAIT raises (R368), the source bytes read with their marks, the releases of the
CSTARTs that joined it (R371), what the destination is to hold once that is known, and how many bytes of it have been written. -/
structure CLive where
  id : Nat
  key : Word
  asid : BitVec 16
  user : Bool
  block : List Word
  state : Nat
  num : Option Nat
  status : Nat
  joins : Nat
  tid : Nat
  trap : Option (BitVec 6 × Word)
  data : List (Byte × Bool)
  rels : List (Party × BitVec 2) := []
  dest : Option (List (Byte × Bool)) := none
  put : Nat := 0
deriving DecidableEq, Repr

/-- A number notified to the package and not finished there (R367): its key, and the status it is to be skipped with. -/
structure CNum where
  num : Nat
  key : Word
  skip : Option Nat
deriving DecidableEq, Repr

/-- A live key of the newel (R366): shared fields, number, whether marked mismatched or cancelled, whether the standby has
acknowledged it, and the members that have reported its finish. -/
structure CKey where
  key : Word
  shared : Nat
  num : Nat
  mismatched : Bool
  cancelled : Bool
  acked : Bool
  reports : List Nat
deriving DecidableEq, Repr

/-- What a message between a package and the newel says (R366 to R374). -/
inductive CKind where
  | register (shared : Nat)
  | withdraw
  | cancel
  | replica (shared : Nat)
  | replicaAck
  | notice
  | skip (status : Nat)
  | removed
  | report
  | reportAck
  | heartbeat
  | takeover
  /-- to the standby: a number is finished in the domain. -/
  | finished
  /-- to the standby: the domain is set up afresh (R359). -/
  | setup
deriving DecidableEq, Repr

/-- A message of a collective domain that is to arrive at this package (R366 to R374), with its sender's COLDOM (R359). -/
structure CMsg where
  id : Nat
  src : Nat
  dom : Word
  key : Word
  num : Nat
  kind : CKind
deriving DecidableEq, Repr

/-- A PFLUSH in flight (R358): its issuer and result, the count, the posted writes it waits for, and the link that lost one. -/
structure Flush where
  id : Nat
  tid : Nat
  count : Nat
  left : List Nat
  lost : Option Nat
deriving DecidableEq, Repr

/-- A Tamgon link as TLINKk shows it (R354): STATE 0 down, 1 training, 2 up; whether its exchange has been made; and whether that found the same
CHIP, which holds it in STATE 1. -/
structure TLink where
  state : BitVec 2 := 0
  peer : BitVec 12 := 0
  plink : BitVec 5 := 0
  met : Bool := false
  same : Bool := false
deriving DecidableEq, Repr

/-- A link (R270): retraining, since when, down, and the successive CRC failures of a flit (R271). -/
structure LinkState where
  retrain : Bool := false
  since : Nat := 0
  down : Bool := false
  crc : Nat := 0
deriving DecidableEq, Repr

/-- Bytes whose arrangement the manual does not give (R298): a range of local addresses, the number of the step that last changed
what it holds, and the places written as plain bytes since. -/
structure Vague where
  base : Nat
  len : Nat
  epoch : Nat
  holes : List Nat
deriving DecidableEq, Repr

/-- A scratchpad allocation of a launch on a core (R89, R145): its group slot, ASID, first byte and length. -/
structure Alloc where
  slot : Nat
  asid : BitVec 16
  base : Nat
  len : Nat
  evicting : Bool
deriving DecidableEq, Repr

/-- A pre-empted card (R143, R144, R147, R148): the thread set it left, the physical address of its context buffer, the packets of its
channels and of its tag, its stopped copies by channel, the parked commands withdrawn with their results, its gang mode and MFLAGS,
for an eviction the ranges that its table names, whether it has been evicted, the vector instructions behind a parked access, and the reports
and requests held for it (R138, R139). -/
structure Saved where
  card : Card
  tid : Nat
  buffer : Nat
  chans : AMap (List Packet)
  unread : List Packet
  copies : List (Nat × CopyCmd)
  outs : List Out
  jobs : List LaneJob
  bank : List BankOp
  beadOps : List BeadOp
  xops : List CrossOp
  gang : Bool
  mflags : BitVec 5
  ranges : List (Nat × Nat)
  evicted : Bool
  seq : List SeqItem
  reports : List Report
  preempts : List (BitVec 2)
  lost : Option Nat
deriving DecidableEq, Repr

/-- An evicted allocation (R145 to R150, R233): its core, what its image holds, and its cards. -/
structure Eviction where
  id : Nat
  core : Nat
  alloc : Alloc
  bytes : List (Nat × List Byte)
  rings : AMap Ring
  accs : AMap Accum
  lands : AMap Landing
  mq : List MatOp
  cards : List Saved
  ready : List Card
  gang : Bool
deriving DecidableEq, Repr

/-- A core; `heapNext` is the slot of its overflow heap tried next, `stuck` a packet that its port could not take
(R245), `dequed` says how many entries its deque has ever used at once (R290), `usher` is the register set of its service thread (R10), whose firmware is not given (R84, log 53). -/
structure Core where
  sb : List SbEntry := []
  seq : List SeqItem := []
  seqWait : List Nat := []
  inbox : List Packet := []
  heap : List Packet := []
  heapNext : Nat := 0
  stuck : Option Nat := none
  niovf : Word := 0
  sent : BitVec 26 := 0
  allocs : List Alloc := []
  deque : List Card := []
  dequed : Nat := 0
  asleep : List Card := []
  stopped : List Saved := []
  scan : Nat := 0
  pause : Option Nat := none
  tags : AMap Nat := []
  resetAt : Nat := 0
  ibuf : AMap IWord := []
  rings : AMap Ring := []
  accs : AMap Accum := []
  lands : AMap Landing := []
  mq : List MatOp := []
  ticket : BitVec 32 := 0
  copies : AMap CopyChan := []
  building : List Card := []
  dead : Bool := false
  usher : Thread := {}
deriving DecidableEq, Repr

/-- An entry of a fault buffer (R156). -/
structure FaultEntry where
  va : Word
  asid : BitVec 16
  kind : BitVec 3
  eng : Bool
  count : Nat
  first : Nat
  time : Nat
deriving DecidableEq, Repr

/-- A die. -/
structure Die where
  faults : AMap FaultEntry := []
  drop : Bool := false
  msgdrop : Word := 0
  evpool : Word := 0
  on : BitVec 16 := 0xFFFF
  moving : Bool := false
  engineOut : Bool := false
deriving DecidableEq, Repr

/-- A translation kept by a TLB (R157): of one core's first level, or of a die's last level. -/
structure TlbEntry where
  shared : Bool
  owner : Nat
  asid : BitVec 16
  vbase : Nat
  bits : Nat
  pte : Word
  at_ : Nat
deriving DecidableEq, Repr

/-- A parked access (R155): who waits for which page.  `eng` names an engine's command or a vector instruction in the sequencer;
`engine` says that an engine makes the access. -/
structure Parked where
  tid : Nat
  eng : Option Nat
  engine : Bool
  asid : BitVec 16
  va : Word
  kind : Nat
deriving DecidableEq, Repr

/-- A locket (R160, R161). -/
structure Locket where
  base : Nat
  len : Nat
  digest : List Byte
deriving DecidableEq, Repr

/-- A posted write of this package to another one, not yet acknowledged (R355): the thread set, the physical address, the write,
and the engine's command it belongs to. -/
structure Posted where
  id : Nat
  tid : Nat
  pa : Nat
  w : PostedWrite
  cmd : Option Nat
deriving DecidableEq, Repr

/-- A card on its way to a deque (R110): CARD.POST's push with its result. -/
structure Push where
  id : Nat
  card : Card
  core : Nat
  tid : Nat
  out : Nat
deriving DecidableEq, Repr

/-- A path log handed over to the Dravty root (R162, R391): PLOGBASE, record index and chain value. -/
structure HandedLog where
  base : Word
  index : Nat
  chain : List Byte
deriving DecidableEq, Repr

/-- A live group slot (R88): the launch's shape, its entry and its seats. -/
structure Group where
  level : Nat
  cpc : Nat
  cgr : Nat
  rgd : Nat
  dgp : Nat
  pkgs : Nat
  podkey : Word
  entry : Nat
  seats : List Seat
deriving DecidableEq, Repr

/-- A host work queue (R90), with the times at which the entries still queued were appended (R95). -/
structure Queue where
  base : Word := 0
  logcap : BitVec 5 := 0
  en : Bool := false
  kind : Bool := false
  ie : Bool := false
  vec : BitVec 11 := 0
  home : BitVec 8 := 0
  tail : BitVec 32 := 0
  head : BitVec 32 := 0
  done : BitVec 32 := 0
  err : BitVec 16 := 0
  last : BitVec 8 := 0
  stamps : List Nat := []
deriving DecidableEq, Repr

/-- A live entry of a host work queue (R93, R94): cards not ended, cards not picked up, watchdog length and end, whether a
third-level reset ended one, the signatures of dual-run copies that have exited, and whether the watchdog ends it. -/
structure Entry where
  queue : Nat
  left : Nat
  unpicked : Nat
  wdog : Nat
  wdogAt : Option Nat
  bad : Bool
  sigs : List (Nat × Option Word)
  dead : Bool
deriving DecidableEq, Repr

/-- A launch being admitted (R88, R89): its block, the package's rank in a pod group, the next top group, or the next card when LEVEL = 0, and
the time at which it was appended (R95). -/
structure Launch where
  entry : Nat
  queue : Nat
  pc : Word
  hdr : Word
  arg : Word
  cpc : Nat
  cgr : Nat
  rgd : Nat
  dgp : Nat
  level : Nat
  pkgs : Nat
  count : Nat
  slice : Nat
  wdog : Nat
  spad : Nat
  dies : BitVec 4
  podkey : Word
  rank : Nat
  next : Nat
  since : Nat
deriving DecidableEq, Repr

/-- A host write that waits for P0 (R385): of control space, an append window, or HBM. -/
inductive HostWrite where
  | ctl (off size : Nat) (val : Word)
  | append (off : Nat) (data : List Byte)
  | mem (off : Nat) (data : List Byte)
deriving DecidableEq, Repr

/-- What a host read was answered (R379, R392). -/
structure HostRead where
  bar : Nat
  off : Nat
  data : List Byte
  poisoned : Bool
deriving DecidableEq, Repr

/-- A report asked for (R390): the nonce and the open path logs of that moment. -/
structure Request where
  nonce : List Word
  open_ : List HandedLog
deriving DecidableEq, Repr

/-- An error log entry (R393). -/
structure ErrEntry where
  time : Nat
  loc : Nat
  kind : Nat
  count : Nat
deriving DecidableEq, Repr

/-- The corrections of a location (R392): how many, and the times of the latest two, in ticks of the root's own counter. -/
structure Corrections where
  count : Nat
  times : List Nat
deriving DecidableEq, Repr

/-- What moves next (log 1): the agenda is the model's schedule. -/
inductive Turn where
  /-- the core issues from this thread set. -/
  | issue (tid : Nat)
  /-- a step of the part. -/
  | event (i : Instr)
  /-- time passes. -/
  | tick (n : Nat)
  /-- a TLB drops an entry (R157). -/
  | tlbDrop (k : Nat)
  /-- a core's instruction buffer forgets a word (R18). -/
  | ibufDrop (core pa : Nat)
  /-- a store to another die is performed there (R407). -/
  | deliver (id : Nat)
  /-- a packet of another package is in the network (R241); with a release at SYS it carries what the senders outside this package in `covers`
  know, 4096 being what this package has released there (R248, R377). -/
  | inject (p : Packet) (covers : List Nat)
  /-- a KIND 7 packet of another package's crossing engine is in the network (R343). -/
  | injectCross (p : CrossPkt)
  /-- another package's load or read request is addressed to the package: it changes nothing, but brings the package back to P0 (R385). -/
  | readRequest
  /-- a message of the collective domain from another package is on its way here (R366 to R374). -/
  | injectColl (m : CMsg)
  /-- a later load of a location through a path may see its value of now (R66, R71, R77, R78). -/
  | earlyRead (tid : Nat) (path : Path) (pa n : Nat)
  /-- a thread set's sequencer performs some lanes of the scratchpad access that it is at (R70). -/
  | seqPart (tid n : Nat)
  /-- the operation at the head of a core's matrix queue makes some of its steps (R233). -/
  | matPart (core n : Nat)
  /-- a copy reads the source bytes of its chunk up to the next line, or sends its next chunk to another package; a gather reads an element,
  a scatter writes one, out of order (R263, R264, R274, R356). -/
  | ahead (core ch n : Nat)
  /-- the first number not finished here begins, or the one that executes makes its next 64-byte transfer (R274, R367, R369). -/
  | collMove
  /-- a store of a core drains before older ones that went through the other path to its scratchpad (R66). -/
  | drainPast (core : Nat)
deriving DecidableEq, Repr

/-- The machine. -/
structure State where
  agenda : List Turn := []
  cur : Nat := 0
  fresh : Nat := 0
  nextId : Nat := 0
  traps : Nat := 0
  time : Nat := 0
  gated : Nat := 0
  ir : IWord := 0
  mem : Memory := []
  poison : List Nat := []
  threads : AMap Thread := []
  cores : AMap Core := []
  dieMap : AMap Die := []
  roots : AMap Word := []
  tlb : List TlbEntry := []
  parked : List Parked := []
  lockets : AMap Locket := []
  flights : List Flight := []
  posted : List Posted := []
  pushes : List Push := []
  net : List Packet := []
  bank : List BankOp := []
  beadOps : List BeadOp := []
  beads : AMap (List Bead) := []
  indices : AMap (AMap Word) := []
  flushes : List Flush := []
  tlinks : AMap TLink := []
  links : AMap LinkState := []
  coldom : Word := 0
  cops : List CollOp := []
  cslots : AMap CLive := []
  cgens : AMap Nat := []
  cnums : List CNum := []
  cfin : AMap Nat := []
  creports : List CNum := []
  cmsgs : List CMsg := []
  cheld : List CMsg := []
  ckeys : List CKey := []
  cnext : Nat := 0
  cbeat : Nat := 0
  ctaken : Bool := false
  systems : AMap CrossSys := []
  xnet : List CrossPkt := []
  xops : List CrossOp := []
  held : List (Nat × Nat) := []
  vague : List Vague := []
  withdrawn : List (Nat × Nat) := []
  gcolNow : AMap (BitVec 16) := []
  gfold : AMap Word := []
  ready : Bool := false
  pstate : BitVec 2 := 0
  halted : Bool := false
  groups : AMap Group := []
  queues : AMap Queue := []
  entries : AMap Entry := []
  launches : AMap Launch := []
  podRanks : AMap Nat := []
  msix : List Nat := []
  lc : BitVec 2 := 0
  hint : BitVec 6 := 0
  hintv : Word := 0
  podcfg : Word := 0
  logs : List HandedLog := []
  evictions : List Eviction := []
  ltol : Word := 0
  attnonce : AMap Word := []
  attstat : BitVec 3 := 0
  request : Option Request := none
  attreport : List Byte := []
  carried : Nat := 0
  resets : Nat := 0
  rootTime : Nat := 0
  errlog : AMap ErrEntry := []
  errNext : Nat := 0
  corrections : AMap Corrections := []
  recorded : List Nat := []
  gone : List Nat := []
  waking : Bool := false
  lcNext : Option (BitVec 2) := none
  idleFor : Nat := 0
  slept : AMap (BitVec 16) := []
  hostHeld : List HostWrite := []
  hostOut : List HostRead := []
deriving DecidableEq, Repr

/-- The machine right after reset. -/
def State.reset : State := {}

end Sys2Proof.Machine
end

