-- ==== Sys2Proof/Machine/Access.lean ====
section
/-! DEFINITION. Reading and writing the parts of the state: thread sets, cores, dies and registers. -/

namespace Sys2Proof.Machine

/-- Thread set `tid` (core·4 + t). -/
def State.thread (s : State) (tid : Nat) : Thread := aget {} s.threads tid
/-- Replaces a thread set. -/
def State.setThread (s : State) (tid : Nat) (t : Thread) : State := { s with threads := aput s.threads tid t }
/-- Changes a thread set. -/
def State.modThread (s : State) (tid : Nat) (f : Thread → Thread) : State := s.setThread tid (f (s.thread tid))
/-- The issuing thread set. -/
def State.th (s : State) : Thread := s.thread s.cur
/-- Changes the issuing thread set. -/
def State.modTh (s : State) (f : Thread → Thread) : State := s.modThread s.cur f

/-- A core. -/
def State.core (s : State) (n : Nat) : Core := aget {} s.cores n
/-- Replaces a core. -/
def State.setCore (s : State) (n : Nat) (c : Core) : State := { s with cores := aput s.cores n c }
/-- Changes a core. -/
def State.modCore (s : State) (n : Nat) (f : Core → Core) : State := s.setCore n (f (s.core n))

/-- A die. -/
def State.die (s : State) (d : Nat) : Die := aget {} s.dieMap d
/-- Replaces a die. -/
def State.setDie (s : State) (d : Nat) (x : Die) : State := { s with dieMap := aput s.dieMap d x }
/-- Changes a die. -/
def State.modDie (s : State) (d : Nat) (f : Die → Die) : State := s.setDie d (f (s.die d))

/-- The core of a thread set. -/
def coreOf (tid : Nat) : Nat := tid / 4
/-- The die of a core (R3). -/
def dieOf (core : Nat) : Nat := core / 256
/-- The row of a core, over the package: eight cores (R3). -/
def rowOf (core : Nat) : Nat := core / 8
/-- The thread sets of a core. -/
def tidsOf (core : Nat) : List Nat := [4 * core, 4 * core + 1, 4 * core + 2, 4 * core + 3]

/-- Reads an x register: x0 reads zero (R10). -/
def Thread.rx (t : Thread) (r : BitVec 5) : Word := if r = 0 then 0 else aget 0 t.x r.toNat
/-- Writes an x register: a write of x0 is discarded (R10). -/
def Thread.wx (t : Thread) (r : BitVec 5) (v : Word) : Thread :=
  if r = 0 then t else { t with x := aput t.x r.toNat v }
/-- Reads a vector register. -/
def Thread.rv (t : Thread) (r : BitVec 5) : VWord := aget 0 t.v r.toNat
/-- Writes a vector register. -/
def Thread.wv (t : Thread) (r : BitVec 5) (v : VWord) : Thread := { t with v := aput t.v r.toNat v }
/-- Reads a predicate register: k0 reads all true (R10, R11). -/
def Thread.rk (t : Thread) (r : BitVec 3) : KWord := if r = 0 then BitVec.allOnes 128 else aget 0 t.k r.toNat
/-- Writes a predicate register; k0 is never written (R11). -/
def Thread.wk (t : Thread) (r : BitVec 3) (v : KWord) : Thread :=
  if r = 0 then t else { t with k := aput t.k r.toNat v }

/-- Register r of the issuing thread set. -/
def State.rx (s : State) (r : BitVec 5) : Word := s.th.rx r
/-- Writes register r of the issuing thread set. -/
def State.wx (s : State) (r : BitVec 5) (v : Word) : State := s.modTh (·.wx r v)

/-- The ASID of a card (R79). -/
def Card.asid (c : Card) : BitVec 16 := c.hdr.extractLsb' 48 16
/-- The group slot of a card. -/
def Card.group (c : Card) : Nat := (c.hdr.extractLsb' 32 16).toNat
/-- The tag field of a card. -/
def Card.tag (c : Card) : Nat := (c.hdr.extractLsb' 16 16).toNat
/-- HANDLER, DUAL, BARF, AFF and CLASS (R79). -/
def Card.handler (c : Card) : Bool := c.hdr.getLsbD 6
def Card.dual (c : Card) : Bool := c.hdr.getLsbD 5
def Card.barf (c : Card) : Bool := c.hdr.getLsbD 4
def Card.aff (c : Card) : Nat := (c.hdr.extractLsb' 2 2).toNat
def Card.cls (c : Card) : Nat := (c.hdr.extractLsb' 0 2).toNat
/-- Replaces a field of HDR. -/
def setBits (h : Word) (lo len : Nat) (v : Nat) : Word :=
  let m : Word := BitVec.ofNat 64 (2 ^ len - 1) <<< lo
  (h &&& ~~~m) ||| ((BitVec.ofNat 64 v <<< lo) &&& m)

/-- The ASID of the card a thread set runs; 0 without a card. -/
def Thread.asid (t : Thread) : BitVec 16 := match t.card with
  | some c => c.asid
  | none => 0

/-- The package number of this package: PODCFG.CHIP (R60, R354). -/
def State.chipno (s : State) : Nat := (s.podcfg.extractLsb' 0 12).toNat

/-- The 1-bit value of a Bool in a word. -/
def bit (b : Bool) (n : Nat) : Word := if b then (1 : Word) <<< n else 0

/-- A value sign-extended to 64 bits. -/
def sext {n : Nat} (v : BitVec n) : Word := v.signExtend 64
/-- A value zero-extended to 64 bits. -/
def zext {n : Nat} (v : BitVec n) : Word := v.zeroExtend 64

/-- TSTAT of a bank (R134). -/
def TrapBank.tstat (b : TrapBank) : Word :=
  (zext b.pfxv <<< 8) ||| bit b.ends 6 ||| bit b.abt 5 ||| bit b.act 4 ||| bit b.park 2 ||| bit b.pm 1 ||| bit b.pfx 0

/-- XSTAT (R56). -/
def Thread.xstat (t : Thread) : Word := (zext t.pfxv <<< 8) ||| bit t.pfx 0

/-- The x register that a vector instruction writes (R168). -/
def vopDest : Instr → List (BitVec 5)
  | .kcount rd _ _ => [rd]
  | .kfirst rd _ _ => [rd]
  | .vmvx rd _ _ => [rd]
  | .vpvenc rd _ _ => [rd]
  | .vwidth rd => [rd]
  | _ => []

/-- The sequencer items of a thread set, oldest first. -/
def State.seqOf (s : State) (tid : Nat) : List SeqItem := (s.core (coreOf tid)).seq.filter fun i => i.tid == tid

/-- The pending x registers of a thread set (R34); x0 is never pending. -/
def State.pending (s : State) (tid : Nat) (r : BitVec 5) : Bool :=
  r != 0 && ((s.thread tid).outs.any (fun o => o.regs.contains r) ||
    (s.seqOf tid).any (fun i => i.ops.any fun o => (vopDest o.instr).contains r))

/-- Whether a thread set has an outstanding result (R32). -/
def State.outstanding (s : State) (tid : Nat) : Bool :=
  !(s.thread tid).outs.isEmpty || !(s.thread tid).jobs.isEmpty || !(s.seqOf tid).isEmpty

/-- A fresh name for a command, card or packet. -/
def State.newId (s : State) : Nat × State := (s.nextId, { s with nextId := s.nextId + 1 })

/-- A free value (log 2): unconstrained, a fresh one each time. -/
def State.freeWord (s : State) : Word × State := (Config.freeWord s.fresh, { s with fresh := s.fresh + 1 })

/-- The cycle counter of a core (R21): ticks since it left reset, without those of a gated clock.  When a core leaves a package reset the manual
does not say: that it does at the reset itself, and the wipe counts, is the model's choice (log 73). -/
def State.cycle (s : State) (core : Nat) : Nat := s.time - s.gated - (s.core core).resetAt

/-- A 55-bit virtual address, sign-extended (R9). -/
def isVa (a : Word) : Bool := sext (a.extractLsb' 0 55) == a
/-- An address of the private window of the core's own scratchpad (R65). -/
def isOwnWindow (a : Word) : Bool := a.extractLsb' 20 44 == BitVec.allOnes 44
/-- A canonical data address (R406). -/
def isCanonical (a : Word) : Bool := isVa a || isOwnWindow a

end Sys2Proof.Machine
end

