-- ==== Sys2Proof/Machine/Views.lean ====
section
/-! DEFINITION. Which values seen early are still to be returned, and how releases and acquires pass on that they are out of date
(R66 to R71, R73 to R78, R377, R395, R396; log 66). -/

namespace Sys2Proof.Machine

/-- Whether two byte ranges meet. -/
def meets (a n b m : Nat) : Bool := decide (a < b + m ∧ b < a + n)

/-- The core of a party, if it is of one. -/
def Party.core : Party → Option Nat
  | .thread tid => some (coreOf tid)
  | .command tid _ => some (coreOf tid)
  | _ => none

/-- The die of a party of this package. -/
def Party.die : Party → Option Nat
  | .unit_ d => some d
  | p => p.core.map dieOf

/-- Whether the instance of a scope that holds a party holds another (R67). -/
def scopeHolds (scope : Nat) (a b : Party) : Bool :=
  match scope with
  | 0 => a.core.isSome && a.core == b.core
  | 1 => a.die.isSome && a.die == b.die
  | 2 => a.die.isSome && b.die.isSome
  | _ => true

/-- Whether a release of a party at a scope synchronises with an acquire of another at a scope that reads it: each scope contains the other
party (R69). -/
def synchronises (p : Party) (rel : Nat) (q : Party) (acq : Nat) : Bool := scopeHolds rel p q && scopeHolds acq q p

/-- More places at which it is known. -/
def Early.add (e : Early) (l : List Holder) : Early := { e with known := e.known ++ (l.eraseDups.filter fun h => !e.known.contains h) }

/-- A thread set does not return a value that it has overwritten or passed through the same path, or of which an acquire has told it (R69,
R71). -/
def Early.open_ (e : Early) (tid : Nat) : Bool :=
  !e.known.any fun h => h == .party (.thread tid) .own || h == .party (.thread tid) .received

/-- What is known of some early values goes on: each place at which it stands passes it to others. -/
def Thread.share (t : Thread) (tid : Nat) (f : Holder → List Holder) (on : Early → Bool := fun _ => true) : Thread :=
  if t.early.isEmpty then t
  else { t with early := (t.early.map fun e => if on e then e.add (e.known.flatMap f) else e).filter (·.open_ tid) }

/-- Knowledge goes on in every thread set's early values. -/
def State.share (s : State) (f : Holder → List Holder) (on : Early → Bool := fun _ => true) : State :=
  { s with threads := s.threads.map fun p => (p.1, p.2.share p.1 f on) }

/-- What a party knows is passed on; what it knows by its own store through the other path only if the order is no FENCE's (R66). -/
def passing (p : Party) (fence : Bool) (l : List Holder) : Holder → List Holder
  | .party q w => if q = p ∧ w ≠ .covered ∧ !(fence ∧ w = .side) then l else []
  | _ => []

/-- What a party has released at SYS is released outside the package too (R67). -/
def exported (scope : Nat) : List Holder := if scope = 3 then [.party (.outside 4096) .received] else []

/-- A release of a thread set at a scope that its later stores carry: an SCFENCE, or, as `fence`, a FENCE (R17, R128). -/
def State.publish (s : State) (tid : Nat) (scope : BitVec 2) (fence : Bool := false) : State :=
  s.share (passing (.thread tid) fence (.fenced (.thread tid) scope.toNat :: exported scope.toNat))

/-- A release of a party whose write is at bytes (R69). -/
def State.releaseAt (s : State) (p : Party) (scope : BitVec 2) (pa n : Nat) : State :=
  s.share (passing p false (.bytes pa n p scope.toNat :: exported scope.toNat))

/-- A release of a party that a packet or an answer carries. -/
def State.releaseTo (s : State) (p : Party) (scope : BitVec 2) (id : Nat) : State :=
  s.share (passing p false (.message id p scope.toNat :: exported scope.toNat))

/-- The release, if it is one, of a party that a packet carries. -/
def State.carry (s : State) (p : Party) (rel : Option (BitVec 2)) (id : Nat) : State := match rel with
  | some sc => s.releaseTo p sc id
  | none => s

/-- A command with a release covers what its thread set knew at its issue (R282, R310). -/
def State.entrust (s : State) (tid id : Nat) (rel : Option (BitVec 2)) : State :=
  if rel.isSome then s.share (passing (.thread tid) false [.party (.command tid id) .received]) else s

/-- The release of a command whose step stands in an order. -/
def State.releaseIn (s : State) (p : Party) (rel : Option (BitVec 2)) (key : Nat) : State := match rel with
  | some sc => s.share (passing p false (.order key p sc.toNat :: exported sc.toNat))
  | none => s

/-- A command's step in an order: its answer carries what the releases before it there do. -/
def State.answerIn (s : State) (id key : Nat) : State :=
  s.share fun h => match h with
    | .order k p sc => if k = key then [.message id p sc] else []
    | _ => []

/-- What a thread set knew goes with a card (R111). -/
def State.releaseCard (s : State) (p : Party) (id : Nat) : State := s.share (passing p false [.card id])

/-- A command whose release has completed is covered by its thread set's barriers (R126). -/
def State.cover (s : State) (tid id : Nat) : State := s.share (passing (.command tid id) false [.party (.thread tid) .covered])

/-- A thread set has read bytes: its next acquire receives what a release there carries. -/
def State.owe (s : State) (tid pa n : Nat) : State :=
  s.share fun h => match h with
    | .bytes a m p sc => if meets a m pa n then [.owed tid p sc] else []
    | _ => []

/-- A thread set has read a store of another that has not been performed. -/
def State.oweStore (s : State) (tid from_ : Nat) : State :=
  s.share fun h => match h with
    | .fenced p sc => if p = .thread from_ then [.owed tid p sc] else []
    | _ => []

/-- A command reads bytes: its answer carries what a release there does. -/
def State.answerTakes (s : State) (id pa n : Nat) : State :=
  s.share fun h => match h with
    | .bytes a m p sc => if meets a m pa n then [.message id p sc] else []
    | _ => []

/-- An acquire of a thread set at a scope: it receives what the releases carried that it has read (R69, R128). -/
def State.acquire (s : State) (tid : Nat) (scope : BitVec 2) : State :=
  s.share fun h => match h with
    | .owed t p sc => if t = tid ∧ synchronises p sc (.thread tid) scope.toNat then [.party (.thread tid) .received] else []
    | _ => []

/-- An acquire of a party that takes a packet or an answer. -/
def State.acquireFrom (s : State) (q : Party) (scope : BitVec 2) (id : Nat) : State :=
  s.share fun h => match h with
    | .message i p sc => if i = id ∧ synchronises p sc q scope.toNat then [.party q .received] else []
    | _ => []

/-- An acquire at a scope whose read is of bytes. -/
def State.acquireAt (s : State) (q : Party) (scope : BitVec 2) (pa n : Nat) : State :=
  s.share fun h => match h with
    | .bytes a m p sc =>
      if meets a m pa n && synchronises p sc q scope.toNat then [.party q .received] else []
    | _ => []

/-- The pick-up of a card (R111). -/
def State.acquireCard (s : State) (tid id : Nat) : State :=
  s.share fun h => if h = .card id then [.party (.thread tid) .received] else []

/-- A barrier's member receives what the members knew when they arrived (R126). -/
def State.receive (s : State) (q : Party) (member : Party → Bool) : State :=
  s.share fun h => match h with
    | .party p _ => if member p then [.party q .received] else []
    | _ => []

/-- The write pointer of a copy channel has come to count bytes that a command wrote (R260). -/
def State.countWrite (s : State) (p : Party) (core ch pa n : Nat) : State :=
  s.share (passing p false [.count core ch]) fun e => meets e.pa e.data.length pa n

/-- The acquire of WPTR: of the writes that the pointer counts (R260). -/
def State.acquireCount (s : State) (tid core ch : Nat) : State :=
  s.share fun h => if h = .count core ch then [.party (.thread tid) .received] else []

/-- A tile is published with what its thread set knew (R216). -/
def State.publishTile (s : State) (tid core r n : Nat) : State := s.share (passing (.thread tid) false [.tile core r n])

/-- A core's matrix engine reads a tile of a core's ring for the reader of a ticket: an acquire (R216). -/
def State.readTile (s : State) (from_ r n core : Nat) (ticket : BitVec 32) : State :=
  s.share fun h => if h = .tile from_ r n then [.matrix core ticket] else []

/-- The acquire of MWAIT: of what the engine has read for tickets up to its own (R229). -/
def State.acquireMatrix (s : State) (tid core : Nat) (t : BitVec 32) : State :=
  s.share fun h => match h with
    | .matrix c k => if c = core ∧ (t - k).toNat < 2 ^ 31 then [.party (.thread tid) .received] else []
    | _ => []

/-- The release of a command whose write is at bytes has been made: its thread set's barriers cover it (R126). -/
def State.completeAt (s : State) (tid id : Nat) (rel : Option (BitVec 2)) (pa n : Nat) : State := match rel with
  | some sc => (s.releaseAt (.command tid id) sc pa n).cover tid id
  | none => s

/-- The order of a host work queue's appends (R92). -/
def appendOrder (q : Nat) : Nat := 2 ^ 60 + q

/-- The acquire of a party that meets what stands in an order (R92). -/
def State.acquireIn (s : State) (q : Party) (scope : BitVec 2) (key : Nat) : State :=
  s.share fun h => match h with
    | .order k p sc => if k = key ∧ synchronises p sc q scope.toNat then [.party q .received] else []
    | _ => []

/-- A sender outside the package has received what its release covers of others' (R377). -/
def State.covering (s : State) (src : Nat) (covers : List Nat) : State :=
  if covers.isEmpty then s
  else s.share fun h => match h with
    | .party (.outside n) _ => if covers.contains n then [.party (.outside src) .received] else []
    | _ => []

/-- A command of an engine starts with what its thread set has received, which its release carries on (R396). -/
def State.inherit (s : State) (tid id : Nat) (rel : Option (BitVec 2)) : State :=
  if rel.isNone then s else s.share fun h => if h = .party (.thread tid) .received then [.party (.command tid id) .received] else []

/-- The two paths to a core's own scratchpad (R66). -/
def Path.opposite : Path → Path → Bool
  | .own, .loop => true
  | .loop, .own => true
  | _, _ => false

/-- Who writes: a thread set's scalar store through a path, its sequencer, or another party. -/
inductive Writer where
  | thread (tid : Nat) (path : Path)
  | sequencer (tid : Nat)
  | engine (p : Party)
deriving DecidableEq, Repr

/-- The units of a die, what is outside the package, or a command of a thread set's engines, as a writer. -/
def Writer.unit_ (die : Nat) : Writer := .engine (.unit_ die)
def Writer.outside (src : Nat) : Writer := .engine (.outside src)
def Writer.command (tid id : Nat) : Writer := .engine (.command tid id)

/-- The party of a writer. -/
def Writer.party : Writer → Party
  | .thread tid _ => .thread tid
  | .sequencer tid => .thread tid
  | .engine p => p

/-- The thread set whose own store, in its die's order, a write is, with its path. -/
def Writer.store : Writer → Option (Nat × Path)
  | .thread tid path => some (tid, path)
  | .sequencer tid => some (tid, .own)
  | .engine _ => none

/-- An early value of written bytes is out of date.  A store of the reader's die to its own memory is seen by all of the die at once (R74), but
through the other path to the scratchpad of the core (R66); any other write is known to its writer alone. -/
def Early.outdate (e : Early) (tid : Nat) (w : Writer) (die : Nat) : Option Early :=
  match w.store with
  | some (u, path) =>
    let side := coreOf u == coreOf tid && e.path.opposite path
    if !side && dieOf (coreOf u) == die && dieOf (coreOf tid) == die then none
    else some { e.add [.party w.party (if side then .side else .own)] with stale := true }
  | none => some { e.add [.party w.party .own] with stale := true }

/-- A thread set's store performed at bytes carries what it has released by fences (R69, R128). -/
def Writer.carries (w : Writer) (pa n : Nat) : Holder → List Holder
  | .fenced p sc => if w.store.isSome ∧ w.party = p then [.bytes pa n p sc] else []
  | _ => []

/-- The early values of a thread set after a write of bytes of a die's memory. -/
def Thread.outdate (t : Thread) (tid : Nat) (w : Writer) (die pa n : Nat) : Thread :=
  if t.early.isEmpty then t
  else
    let after (e : Early) : Option Early := if meets e.pa e.data.length pa n then e.outdate tid w die else some e
    ({ t with early := t.early.filterMap after } : Thread).share tid (w.carries pa n)

/-- What a thread set's read through a path leaves of its own early values: of the bytes it has read those not older than what it returned
(R71), which is memory's where `kept` is none; of its own scratchpad, whose loads through one path are performed in order (R75), none that its
core has overwritten through the other. -/
def Early.afterRead (e : Early) (path : Path) (pa n : Nat) (memory : Bool) : Bool :=
  !(e.path == path && (meets e.pa e.data.length pa n ||
    (memory && path != .plain && e.known.any fun h => match h with
      | .party _ .side => true
      | _ => false)))

/-- A value that the thread set read early through a path (R66, R77). -/
def earlyOf (l : List Early) (path : Path) (pa n : Nat) : Option (List Byte) :=
  (l.find? fun e => e.path == path && e.pa == pa && e.data.length == n).map (·.data)

/-- The early values of a thread set after it has returned the one that `earlyOf` finds: that one and what was seen later. -/
def afterEarly : List Early → Path → Nat → Nat → List Early
  | [], _, _, _ => []
  | e :: l, path, pa, n =>
    if e.path == path && e.pa == pa && e.data.length == n then e :: l
    else if e.afterRead path pa n false then e :: afterEarly l path pa n
    else afterEarly l path pa n

/-- A party that reads the bytes from memory knows that an early value is out of date, if one does (R69). -/
def Early.seenBy (e : Early) (p : Party) (pa n : Nat) : Early :=
  if meets e.pa e.data.length pa n && e.stale then e.add [.party p .own] else e

/-- A command has read bytes where they lie. -/
def State.seenBy (s : State) (p : Party) (pa n : Nat) : State :=
  { s with threads := s.threads.map fun q =>
      (q.1, if q.2.early.isEmpty then q.2 else { q.2 with early := q.2.early.map (·.seenBy p pa n) }) }

/-- An answer is back: its thread set has read and written what the command has (R71). -/
def State.answered (s : State) (tid id : Nat) : State :=
  let mine (h : Holder) : Bool := match h with
    | .party p _ => p == .command tid id
    | _ => false
  { s with threads := s.threads.map fun q =>
      (q.1, if q.1 == tid && !q.2.early.isEmpty then { q.2 with early := q.2.early.filter fun e => !e.known.any mine } else q.2) }

end Sys2Proof.Machine
end

