-- ==== Sys2Proof/Machine/Books.lean ====
section
/-! DEFINITION. The scheduler's books: host entries, group slots, deques, tags, hints and the completion of cards
(R88, R93, R94, R96, R100, R102, R108, R112). -/

namespace Sys2Proof.Machine

/-- Raises an MSI-X vector (R91, R94, R382). -/
def State.raise (s : State) (vec : Nat) : State := { s with msix := s.msix ++ [vec] }

/-- Sets a HINT bit; HINTV's vector is raised when it goes from 0 to 1 (R382). -/
def State.setHint (s : State) (n : Nat) : State :=
  let h := s.hint ||| ((1 : BitVec 6) <<< n)
  let s' := { s with hint := h }
  if !s.hint.getLsbD n && s.hintv.getLsbD 63 then s'.raise (s.hintv.extractLsb' 0 11).toNat else s'

/-- A host work queue. -/
def State.queue (s : State) (q : Nat) : Queue := aget {} s.queues q
/-- Replaces a host work queue. -/
def State.setQueue (s : State) (q : Nat) (x : Queue) : State := { s with queues := aput s.queues q x }
/-- An error of a queue: ERR, LAST, and VEC if IE (R91, R93). -/
def State.queueError (s : State) (q : Nat) (code : BitVec 8) : State :=
  let x := s.queue q
  let s := s.setQueue q { x with err := x.err + 1, last := code }
  if x.ie then s.raise x.vec.toNat else s
/-- A completed entry: DONE, then VEC if IE (R94). -/
def State.queueDone (s : State) (q : Nat) : State :=
  let x := s.queue q
  let s := s.setQueue q { x with done := x.done + 1 }
  if x.ie then s.raise x.vec.toNat else s

/-- An entry all of whose cards have ended leaves the books: ended by its watchdog, its completion withheld, or completed (R93, R94, R100,
R102). -/
def State.finishEntry (s : State) (id : Nat) (e : Entry) : State :=
  let s := { s with entries := adel s.entries id }
  if e.dead then s.queueError e.queue 6 else if e.bad then s else s.queueDone e.queue

/-- The signatures of the two copies of a dual-run card are compared (R102): both exited and equal, or a mismatch, which raises VEC whatever IE
holds. -/
def State.compareCopies (s : State) (q : Nat) (a b : Option Word) : State × Bool :=
  if a.isSome && a == b then (s, true)
  else
    let x := s.queue q
    ((s.setQueue q { x with err := x.err + 1, last := 5 }).raise x.vec.toNat, false)

/-- A card of a host entry has ended: `dual` names a dual-run card, `sig` is its copy's signature, `none` if it did not exit; `reset` says that a
third-level reset ended it.  A copy that ends once its entry's watchdog has expired was ended by that (R100, R102). -/
def State.entryCardEnds (s : State) (id : Nat) (dual : Option Nat) (sig : Option Word) (reset : Bool) : State :=
  match afind s.entries id with
  | none => s
  | some e =>
    let sig := if e.dead then none else sig
    let r : State × Entry := match dual with
      | none => (s, { e with bad := e.bad || reset })
      | some k => match e.sigs.find? fun p => p.1 == k with
        | none => (s, { e with sigs := e.sigs ++ [(k, sig)] })
        | some p =>
          let r := s.compareCopies e.queue p.2 sig
          (r.1, { e with sigs := e.sigs.filter fun q => q.1 != k, bad := e.bad || !r.2 })
    let s := r.1
    let e : Entry := { r.2 with left := r.2.left - 1 }
    if e.left = 0 then s.finishEntry id e else { s with entries := aput s.entries id e }

/-- Frees a group slot's scratchpad allocations once all its seats are done (R88, R89). -/
def State.freeGroup (s : State) (slot : Nat) : State :=
  { s with groups := adel s.groups slot,
           cores := s.cores.map fun p => (p.1, { p.2 with allocs := p.2.allocs.filter fun a => a.slot != slot }) }

/-- The card on a seat has ended: it counts as arrived from then on (R108); the slot is freed with its last card (R88). -/
def State.seatEnds (s : State) (slot tid : Nat) : State :=
  match afind s.groups slot with
  | none => s
  | some g =>
    let seats := g.seats.map fun x => if x.tid = tid then { x with done := true } else x
    let s := { s with groups := aput s.groups slot { g with seats := seats } }
    if seats.all (·.done) then s.freeGroup slot else s

/-- The 16 header bytes of a packet as a number (R241). -/
def Packet.header (p : Packet) : Nat :=
  let lo : Word := (word p.cls <<< 60) ||| (word p.payload.length <<< 53) ||| (word p.kind <<< 48) ||| zext p.mid
  let hi : Word := (zext p.asid <<< 48) ||| (if p.kind = 0 then zext (p.hpc.extractLsb' 2 46) <<< 2 else word p.tag)
  lo.toNat + 2 ^ 64 * hi.toNat

/-- The 128 bytes of a channel entry: header, payload, zeros (R241). -/
def Packet.entry (p : Packet) : List Byte :=
  leBytes p.header 16 ++ p.payload ++ List.replicate (112 - p.payload.length) 0

/-- A packet as it stands in the 128 bytes of an entry (R144, R241, R245). -/
def Packet.reread (p : Packet) (b : List Byte) : Packet :=
  let lo := leNat (b.take 8)
  let hi := leNat ((b.drop 8).take 8)
  { p with kind := lo / 2 ^ 48 % 16, cls := lo / 2 ^ 60 % 4, mid := BitVec.ofNat 48 lo, asid := BitVec.ofNat 16 (hi / 2 ^ 48),
           tag := hi % 2 ^ 6, hpc := word (hi % 2 ^ 48), payload := (b.drop 16).take (lo / 2 ^ 53 % 128),
           reg := if lo / 2 ^ 48 % 16 = 2 then leNat ((b.drop 24).take 1) % 8 else p.reg }

/-- Discards the packets held for a tag of a core (R113). -/
def State.dropTag (s : State) (core tag : Nat) : State :=
  s.modCore core fun c => { c with
    inbox := c.inbox.filter fun p => !(p.kind != 0 && p.tag == tag),
    heap := c.heap.filter fun p => !(p.kind != 0 && p.tag == tag) }

/-- Releases the tag that a card holds on a core, with its held packets (R112, R113). -/
def State.releaseTag (s : State) (core : Nat) (cardId : Nat) : State :=
  match (s.core core).tags.find? fun p => p.2 == cardId with
  | none => s
  | some (tag, _) => (s.dropTag core tag).modCore core fun c => { c with tags := adel c.tags tag }

/-- Ends a card (R94, R108, R140): its entry and its seat learn of it. -/
def State.endCard (s : State) (c : Card) (exited reset : Bool) : State :=
  let s := match c.entry with
    | some id => s.entryCardEnds id (c.copy.map fun _ => c.twin) (if exited then some c.sig else none) reset
    | none => s
  match c.seat with
  | some tid => s.seatEnds c.group tid
  | none => s

/-- A free thread set: what CARD.EXIT and a write-back leave (R81, R106); no eviction of its card's allocation is pending there any more
(R145). -/
def Thread.release (t : Thread) : Thread :=
  { t with card := none, park := false, steward := false, resv := none, mark := none, bar := none, remote := none,
           preempts := [], deadlineHit := false, pfx := false, aborted := false, waits := false,
           ckptab := t.ckptab &&& ~~~2 }

/-- A core with these cards in its deque. -/
def Core.withDeque (k : Core) (l : List Card) : Core := { k with deque := l, dequed := max k.dequed l.length }

/-- Pushes a card to the bottom of a deque of 256 entries, which becomes its home; `none` if it is full (R96). -/
def State.pushAs (s : State) (core : Nat) (c : Card) : Option State :=
  if 256 ≤ (s.core core).deque.length then none
  else some (s.modCore core fun k => k.withDeque (k.deque ++ [{ c with home := core }]))

/-- Pushes a card that becomes ready (R95, R96). -/
def State.pushDeque (s : State) (core : Nat) (c : Card) : Option State := s.pushAs core { c with since := s.time, aged := false }

/-- The image of the running card for a write-back with resume address `pc` (R81): x10 to x15 as they stand. -/
def Thread.image (t : Thread) (c : Card) (pc : Word) : Card :=
  { c with pc := pc, xs := [t.rx 10, t.rx 11, t.rx 12, t.rx 13, t.rx 14, t.rx 15] }

end Sys2Proof.Machine
end

