-- ==== Sys2Proof/Machine/Memory.lean ====
section
/-! DEFINITION. Where a physical address lies (R60, R61), performing reads and writes there, lockets (R160), held lines (R298,
R321), poisoned data (R271, R392), withdrawn locations (R394) and powered-off gallery columns (R276). -/

namespace Sys2Proof.Machine

/-- First local addresses of the gallery, the scratchpad window and control space (R61). -/
def galleryBase : Nat := 0xE000000000
def windowBase : Nat := 0xF000000000
def controlBase : Nat := 0xF800000000

/-- What a physical address names (R60, R61): memory at a local address, control space at an offset, the scheduler area of a
gallery (R90), memory of another package of the pod, or nothing. -/
inductive Place where
  | mem (a : Nat)
  | ctl (off : Nat)
  | sched (a : Nat)
  | far (pa : Nat)
  | hole
deriving DecidableEq, Repr

/-- What a local address names (R61, R90). -/
def localPlace (a : Nat) : Place :=
  if a < 0xC000000000 then .mem a
  else if galleryBase ≤ a ∧ a < galleryBase + 0x10000000 then
    if (a - galleryBase) % 0x4000000 < 0x3800000 then .mem a else .sched a
  else if windowBase ≤ a ∧ a < windowBase + 0x40000000 then .mem a
  else if controlBase ≤ a ∧ a < 0x10000000000 then .ctl (a - controlBase)
  else .hole

/-- The largest package number of the pod, if the package has joined one (R354). -/
def State.podLast (s : State) : Option Nat :=
  if s.podcfg.getLsbD 63 then some (s.podcfg.extractLsb' 12 12).toNat else none

/-- Whether one of `n` bytes at a local address lies in a location out of service (R394). -/
def State.outOfService (s : State) (a n : Nat) : Bool := s.withdrawn.any fun r => decide (r.1 < a + n ∧ a < r.1 + r.2)

/-- What `n` bytes at a 52-bit physical address name (R60, R61, R63, R394). -/
def State.locate (s : State) (pa : Nat) (n : Nat := 1) : Place :=
  let a := pa % 2 ^ 40
  if pa / 2 ^ 40 = s.chipno then if s.outOfService a n then .hole else localPlace a
  else match s.podLast, localPlace a with
    | some n, .mem _ => if pa / 2 ^ 40 ≤ n then .far pa else .hole
    | _, _ => .hole

/-- The die of a local address in HBM, gallery or window (R61). -/
def dieOfAddr (a : Nat) : Nat :=
  if a < 0xC000000000 then a / 0x3000000000
  else if a < windowBase then (a - galleryBase) / 0x4000000
  else (a - windowBase) / 0x10000000

/-- The gallery offset of a local address in a gallery (R273). -/
def galleryOff (a : Nat) : Nat := (a - galleryBase) % 0x4000000

/-- Whether a local address lies in a gallery. -/
def inGallery (a : Nat) : Bool := decide (galleryBase ≤ a ∧ a < galleryBase + 0x10000000)

/-- Columns powered now on a die (R275). -/
def State.columns (s : State) (d : Nat) : BitVec 16 := aget 0xFFFF s.gcolNow d

/-- The local address of the fold area of a die (R275, R276). -/
def State.foldBase (s : State) (d : Nat) : Nat := ((aget 0 s.gfold d).extractLsb' 26 26).toNat * 2 ^ 26 % 2 ^ 40

/-- Where the byte at a local address is kept: a gallery line of an off column lies in the fold area (R276). -/
def State.keep (s : State) (a : Nat) : Nat :=
  if inGallery a then
    let d := dieOfAddr a
    let o := galleryOff a
    let c := o / 64 % 16
    let on := s.columns d
    if on.getLsbD c then a
    else
      let k := ((List.range c).filter fun j => !on.getLsbD j).length
      s.foldBase d + k * 0x400000 + (o / 0x4000 * 16 + o / 1024 % 16) * 64 + o % 64
  else a

/-- Whether a byte belongs to a range whose arrangement the manual does not give (R298). -/
def Vague.has (v : Vague) (a : Nat) : Bool := decide (v.base ≤ a ∧ a < v.base + v.len) && !v.holes.contains a
/-- A byte of the range is written as a plain byte. -/
def Vague.punch (v : Vague) (a : Nat) : Vague := if v.has a then { v with holes := a :: v.holes } else v

/-- Reads one byte at a local address; a byte whose arrangement is not given reads as a free value (log 2). -/
def State.readByte (s : State) (a : Nat) : Byte :=
  match s.vague.find? (·.has a) with
  | some v => Config.freeByte v.epoch a
  | none => mread s.mem (s.keep a)

/-- Reads bytes from a local address upwards. -/
def State.readBytes (s : State) (a : Nat) : Nat → List Byte
  | 0 => []
  | n + 1 => s.readByte a :: s.readBytes (a + 1) n

/-- The little-endian value of bytes at a local address (R40). -/
def State.readVal (s : State) (a n : Nat) : Nat := leNat (s.readBytes a n)

/-- Writes one byte at a local address; its poisoned mark goes (R271). -/
def State.writeByte (s : State) (a : Nat) (b : Byte) : State :=
  { s with mem := mwrite s.mem (s.keep a) b, poison := s.poison.filter (fun p => p != a), vague := s.vague.map (·.punch a) }

/-- Writes bytes from a local address upwards. -/
def State.writeBytes (s : State) (a : Nat) : List Byte → State
  | [] => s
  | b :: r => (s.writeByte a b).writeBytes (a + 1) r

/-- Whether a write is a scalar access of a thread set's own (R16). -/
def Writer.scalarOf (w : Writer) (tid : Nat) : Bool := match w with
  | .thread u _ => u == tid
  | _ => false

/-- Reservations on the granules of written bytes are lost by every thread set but the one whose own access writes (R16). -/
def Thread.loseReservation (t : Thread) (own : Bool) (a n : Nat) : Thread :=
  match t.resv with
  | some g => if !own && meets g 8 a n then { t with resv := none } else t
  | none => t

/-- A write of bytes performed at a local address. -/
def State.store (s : State) (by_ : Writer) (a : Nat) (d : List Byte) : State :=
  let s := s.writeBytes a d
  { s with threads := s.threads.map fun p =>
      (p.1, (p.2.loseReservation (by_.scalarOf p.1) a d.length).outdate p.1 by_ (dieOfAddr a) (s.chipno * 2 ^ 40 + a) d.length) }

/-- Whether bytes at a local address meet a locket (R160). -/
def State.inLocket (s : State) (a n : Nat) : Bool :=
  s.lockets.any fun p => decide (p.2.base < a + n ∧ a < p.2.base + p.2.len)

/-- Whether bytes at a local address meet a held line (R298, R321). -/
def State.isHeld (s : State) (a n : Nat) : Bool := s.held.any fun h => decide (h.1 < a + n ∧ a < h.1 + h.2)

/-- Whether bytes at a local address are poisoned (R392). -/
def State.isPoisoned (s : State) (a n : Nat) : Bool := s.poison.any fun p => decide (a ≤ p ∧ p < a + n)

/-- What a range holds has changed in a way whose bytes the manual does not give (R298). -/
def State.blur (s : State) (a n : Nat) : State :=
  { s with vague := { base := a, len := n, epoch := s.fresh, holes := [] } :: s.vague.filter (fun v => !(v.base == a && v.len == n)),
           fresh := s.fresh + 1 }

/-- Bytes with their poisoned marks (R271). -/
abbrev Marked := List (Byte × Bool)

/-- Bytes of memory with their marks. -/
def State.marked (s : State) (a n : Nat) : Marked := (List.range n).map fun i => (s.readByte (a + i), s.isPoisoned (a + i) 1)

/-- The places of the marked bytes. -/
def Marked.bad (d : Marked) : List Nat := (d.zipIdx.filter fun p => p.1.2).map (·.2)

/-- Bytes written by a party with their marks (R271). -/
def State.storeMarked (s : State) (party : Party) (a : Nat) (d : Marked) : State :=
  let s := s.store (.engine party) a (d.map (·.1))
  { s with poison := s.poison ++ d.bad.map (a + ·) }

/-- Bytes of another package (log 2): free, with free marks. -/
def State.freeMarked (s : State) (n : Nat) : Marked × State :=
  let free (s : State) (k : Nat) : List Byte := (List.range k).flatMap fun i => leBytes (Config.freeWord (s.fresh + i)).toNat 8
  let k := (n + 7) / 8
  let m := free { s with fresh := s.fresh + k } ((n + 63) / 64)
  (((free s k).take n).zipIdx.map fun p => (p.1, (m.getD (p.2 / 8) 0).getLsbD (p.2 % 8)), { s with fresh := s.fresh + k + (n + 63) / 64 })

end Sys2Proof.Machine
end

