-- ==== Sys2Proof/Machine/Translate.lean ====
section
/-! DEFINITION. Translation (R151 to R157): walks, the translation buffers, permissions, replayable faults and the fault buffers. -/

namespace Sys2Proof.Machine

/-- Fields of a page table entry (R152). -/
def pteV (e : Word) : Bool := e.getLsbD 0
def pteR (e : Word) : Bool := e.getLsbD 1
def pteW (e : Word) : Bool := e.getLsbD 2
def pteX (e : Word) : Bool := e.getLsbD 3
def pteU (e : Word) : Bool := e.getLsbD 4
def pteG (e : Word) : Bool := e.getLsbD 5
def pteL (e : Word) : Bool := e.getLsbD 6
def pteA (e : Word) : Bool := e.getLsbD 7
def pteD (e : Word) : Bool := e.getLsbD 8
def pteSize (e : Word) : Nat := (e.extractLsb' 9 2).toNat
def pteT (e : Word) : Bool := e.getLsbD 11
/-- The physical address of the page: PPN in place. -/
def ptePage (e : Word) : Nat := (e.extractLsb' 16 36).toNat * 2 ^ 16

/-- log2 of the size of a page (R152). -/
def sizeBits : Nat → Nat
  | 0 => 16
  | 1 => 21
  | 2 => 30
  | _ => 35

/-- What a walk meets (R152, R153). -/
inductive Walk where
  | absent
  | malformed
  | leaf (pte : Word) (at_ : Nat) (bits : Nat)
deriving DecidableEq, Repr

/-- A leaf entry at a level that breaks a condition of R153. -/
def leafBad (e : Word) (level : Nat) : Bool :=
  (level == 0 && 2 ≤ pteSize e) || (level == 1 && pteSize e < 2) || level == 2 ||
  (pteW e && !pteR e) || ptePage e % 2 ^ sizeBits (pteSize e) != 0

/-- Reserved fields of an entry that are not zero (R153). -/
def pteReserved (e : Word) : Bool := e.extractLsb' 52 12 != 0 || e.extractLsb' 12 4 != 0

/-- The entry that a walk reads in the table at physical address `t` at `level`, and its local address; a table outside local
HBM, or an entry out of service, has none (R152, R153, R394). -/
def State.tableEntry (s : State) (va : Word) (t level : Nat) : Option (Word × Nat) :=
  if t / 2 ^ 40 ≠ s.chipno ∨ 0xC000000000 ≤ t % 2 ^ 40 then none
  else
    let a := t % 2 ^ 40 + 8 * (va.extractLsb' (16 + 13 * level) 13).toNat
    if s.outOfService a 8 then none else some (word (s.readVal a 8), a)

/-- An entry at which a walk stops (R152, R153). -/
def walkStop (e : Word) (a level : Nat) : Walk :=
  if !pteV e then .absent
  else if pteReserved e || pteT e || leafBad e level then .malformed
  else .leaf e a (sizeBits (pteSize e))

/-- Walks from the table at physical address `t` at a level (R152). -/
def State.walkAt (s : State) (va : Word) : Nat → Nat → Walk
  | 0, t =>
    match s.tableEntry va t 0 with
    | none => .malformed
    | some (e, a) => walkStop e a 0
  | l + 1, t =>
    match s.tableEntry va t (l + 1) with
    | none => .malformed
    | some (e, a) =>
      if pteV e && !pteReserved e && pteT e then s.walkAt va l (ptePage e) else walkStop e a (l + 1)

/-- The walk of a virtual address in an address space (R151, R152); an ASID that is not installed is met as malformed. -/
def State.walk (s : State) (asid : BitVec 16) (va : Word) : Walk :=
  match afind s.roots asid.toNat with
  | some r => s.walkAt va 2 ((r.extractLsb' 16 36).toNat * 2 ^ 16)
  | none => .malformed

/-- Which translation buffer answers for a core: its own, then its die's (R157). -/
def tlbFor (core : Nat) (asid : BitVec 16) (va : Word) (e : TlbEntry) : Bool :=
  (if e.shared then e.owner == dieOf core else e.owner == core) && (pteG e.pte || e.asid == asid) &&
  (va.toNat % 2 ^ 55) / 2 ^ e.bits == e.vbase

/-- What an access needs (R154). -/
structure Need where
  r : Bool := false
  w : Bool := false
  x : Bool := false
deriving DecidableEq, Repr

/-- What a translation answers: a physical address, a cause, or a non-resident page. -/
inductive Xlat where
  | ok (pa : Nat)
  | fault (cause : BitVec 6)
  | absent
deriving DecidableEq, Repr

/-- Sets A, and D for a store, in the leaf that was reached (R154).  That a leaf which itself lies in a locket is written too is the model's choice
(log 81): R160 speaks of stores, R154 of the walker. -/
def State.markLeaf (s : State) (core at_ : Nat) (store : Bool) : State :=
  s.store (.unit_ (dieOf core)) at_ (leBytes ((word (s.readVal at_ 8) ||| bit true 7 ||| bit store 8).toNat) 8)

/-- Permissions of a leaf (R154). -/
def permitted (e : Word) (n : Need) (user : Bool) : Bool :=
  (!n.r || pteR e) && (!n.w || pteW e) && (!n.x || pteX e) && (!user || pteU e)

/-- A leaf applied to an address: permissions, then the locket bit (R154, R160). -/
def throughLeaf (e : Word) (bits : Nat) (va : Word) (n : Need) (user : Bool) : Xlat :=
  if !permitted e n user then .fault 2
  else if n.w && pteL e then .fault 3
  else .ok (ptePage e / 2 ^ bits * 2 ^ bits + va.toNat % 2 ^ bits)

/-- How many entries a translation buffer holds (R1, R157): 64 in a core, 131 072 in a die. -/
def tlbSize (shared : Bool) : Nat := if shared then 131072 else 64

/-- A translation is kept (R157); a full buffer drops one of its own, which one the manual does not say. -/
def State.keepTlb (s : State) (e : TlbEntry) : State :=
  let mine := s.tlb.filter fun f => f.shared == e.shared && f.owner == e.owner
  if mine.length < tlbSize e.shared then { s with tlb := e :: s.tlb }
  else
    let r := s.freeWord
    let out := mine.getD (r.1.toNat % mine.length) e
    { r.2 with tlb := e :: r.2.tlb.erase out }

/-- Translates an address for an access of a core (R152 to R157).  A kept translation is used as it stands, and A and D are set in its leaf
where they are not yet; a walk's leaf is kept in the core's and the die's buffers. -/
def State.translate (s : State) (core : Nat) (asid : BitVec 16) (va : Word) (n : Need) (user : Bool) : State × Xlat :=
  match (s.tlb.filter fun e => !e.shared).find? (tlbFor core asid va) <|> s.tlb.find? (tlbFor core asid va) with
  | some e =>
    match throughLeaf e.pte e.bits va n user with
    | .ok pa =>
      if !pteA e.pte || (n.w && !pteD e.pte) then
        let s := s.markLeaf core e.at_ n.w
        let marked (f : TlbEntry) : TlbEntry := if f = e then { f with pte := f.pte ||| bit true 7 ||| bit n.w 8 } else f
        ({ s with tlb := s.tlb.map marked }, .ok pa)
      else (s, .ok pa)
    | r => (s, r)
  | none =>
    match s.walk asid va with
    | .absent => (s, .absent)
    | .malformed => (s, .fault 2)
    | .leaf e at_ bits =>
      let ok := match throughLeaf e bits va n user with
        | .ok _ => true
        | _ => false
      let s := if ok then s.markLeaf core at_ n.w else s
      let e' := if ok then e ||| bit true 7 ||| bit n.w 8 else e
      let one (sh : Bool) (o : Nat) : TlbEntry :=
        { shared := sh, owner := o, asid := asid, vbase := (va.toNat % 2 ^ 55) / 2 ^ bits, bits := bits, pte := e', at_ := at_ }
      ((s.keepTlb (one true (dieOf core))).keepTlb (one false core), throughLeaf e bits va n user)

/-- Records a replayable fault in the die's fault buffer (R155, R156): `kind` is 0 load, 1 store, 2 fetch. -/
def State.recordFault (s : State) (core : Nat) (asid : BitVec 16) (va : Word) (kind : Nat) (eng : Bool) : State :=
  let d := s.die (dieOf core)
  let gran : Word := (va >>> 16) <<< 16
  let k : BitVec 3 := (1 : BitVec 3) <<< kind
  match d.faults.find? fun p => p.2.va == gran && p.2.asid == asid with
  | some (i, f) =>
    let f := { f with kind := f.kind ||| k, eng := f.eng || eng, count := min 0xFFFF (f.count + 1) }
    s.setDie (dieOf core) { d with faults := aput d.faults i f }
  | none =>
    match (List.range 8).find? fun i => (afind d.faults i).isNone with
    | some i =>
      let f : FaultEntry := { va := gran, asid := asid, kind := k, eng := eng, count := 1, first := core % 256, time := s.time }
      (s.setDie (dieOf core) { d with faults := aput d.faults i f }).setHint 1
    | none => s.setDie (dieOf core) { d with drop := true }

/-- Parks an access on a non-resident page (R155). -/
def State.park (s : State) (p : Parked) : State :=
  let s := s.recordFault (coreOf p.tid) p.asid p.va p.kind p.engine
  { s with parked := s.parked ++ [p] }

/-- Parks an access of a thread set's own instruction, or of an engine's command (R155). -/
def State.parkAccess (s : State) (tid : Nat) (eng : Option Nat) (asid : BitVec 16) (va : Word) (kind : Nat) : State :=
  s.park { tid := tid, eng := eng, engine := eng.isSome, asid := asid, va := va, kind := kind }

/-- Withdraws the parked access of a thread set's own instruction (R155). -/
def State.withdrawAccess (s : State) (tid : Nat) : State :=
  { s with parked := s.parked.filter fun p => !(p.tid == tid && p.eng.isNone) }

/-- Whether a thread set's own access is parked. -/
def State.isParked (s : State) (tid : Nat) : Bool := s.parked.any fun p => p.tid == tid && p.eng.isNone

/-- Whether an engine's command is parked. -/
def State.engParked (s : State) (id : Nat) : Bool := s.parked.any fun p => p.eng == some id

/-- Whether an access of an engine's command to an address is parked. -/
def State.engParkedAt (s : State) (id : Nat) (va : Word) : Bool := s.parked.any fun p => p.eng == some id && p.va == va

/-- Replays the parked accesses of a die in fault order (R158): each walks afresh; one that meets V = 0 again faults again. -/
def State.replayDie (s : State) (d : Nat) : State :=
  let mine := s.parked.filter fun p => dieOf (coreOf p.tid) == d
  let s := { s with parked := s.parked.filter fun p => dieOf (coreOf p.tid) != d }
  mine.foldl (fun s p =>
    match s.walk p.asid p.va with
    | .absent => s.park p
    | _ => s) s

/-- Frees the fault-buffer entries of a mask and clears DROP (R158). -/
def State.freeFaults (s : State) (d : Nat) (mask : BitVec 8) : State :=
  s.modDie d fun x => { x with drop := false, faults := x.faults.filter fun p => !mask.getLsbD p.1 }

/-- FBUF of a die (R156). -/
def State.fbuf (s : State) (d : Nat) : Word :=
  (s.die d).faults.foldl (fun w p => w ||| bit true p.1) (bit (s.die d).drop 8)

/-- The 32 bytes of a fault-buffer entry as a number (R156). -/
def faultBits : Option FaultEntry → Nat
  | none => 0
  | some f => f.va.toNat + 2 ^ 64 * (f.asid.toNat + 2 ^ 16 * f.kind.toNat + (if f.eng then 2 ^ 19 else 0) +
      2 ^ 32 * f.count + 2 ^ 48 * f.first) + 2 ^ 128 * (f.time % 2 ^ 64)

end Sys2Proof.Machine
end

