-- ==== Sys2Proof/Machine/Ops.lean ====
section
/-! DEFINITION. What the instructions share: retirement, the checks before an instruction acts, taking a trap and returning from
one, the reset of a core, and the accesses of a thread set to memory. -/

namespace Sys2Proof.Machine

/-- The outcome of an instruction. -/
abbrev Res := Host.Outcome State Fault Refusal

/-- The instruction at the pc retires and the thread set goes on at `pc` (R21, R59): a pending prefix is consumed, PFXV keeps its code. -/
def Thread.retireTo (t : Thread) (pc : Word) : Thread :=
  { t with pc := pc, pfx := false, park := false, instret := t.instret + 1, mark := none, openAt := none, waits := false }

/-- Retires to `pc`.  Where pc + 4 leaves the 55-bit range the pc keeps the 64-bit value (log 70). -/
def State.retireTo (s : State) (pc : Word) : State := s.modTh (·.retireTo pc)
/-- Retires to the next instruction (R8). -/
def State.retire (s : State) : State := s.retireTo (s.th.pc + 4)

/-- Marks what is present when a waiting instruction issues (R75, R76, R229), and what is once the stores of the thread set have drained
(R357); kept while it waits. -/
def State.setMark (s : State) : State :=
  let dry := (s.core (coreOf s.cur)).sb.all fun e => e.tid != s.cur
  if s.th.mark.isSome && (s.th.openAt.isSome || !dry) then s
  else
    let mark (t : Thread) : Thread :=
      { t with mark := t.mark <|> some s.nextId, openAt := if dry then t.openAt <|> some s.nextId else t.openAt }
    { s.modTh mark with nextId := s.nextId + 1 }
/-- The mark of the waiting instruction. -/
def State.mark (s : State) : Nat := s.th.mark.getD 0

/-- The 128 bytes of a crash record (R140). -/
def State.crashRecord (s : State) (tid : Nat) (cause : BitVec 6) (val tepc : Word) : List Byte :=
  let t := s.thread tid
  let c := coreOf tid
  let ids : Word := word c ||| (word (tid % 4) <<< 16) ||| ((1 : Word) <<< 24)
  let b (k : TrapBank) : List Word := [k.tepc, k.tcause, k.tval, k.tstat]
  let card : List Word := match t.card with
    | some k => [k.pc, k.hdr0]
    | none => [0, 0]
  ([ids, word (s.cycle c), tepc, cause.zeroExtend 64, val] ++ b t.bank1 ++ b t.bank0 ++ card ++ [0]).flatMap
    fun (w : Word) => leBytes w.toNat 8

/-- The first local address of a core's scratchpad in the global window (R61). -/
def spadBase (core : Nat) : Nat := windowBase + core * 0x100000

/-- Writes every scratchpad byte of a core to zero. -/
def State.wipeSpad (s : State) (core : Nat) : State :=
  let a := spadBase core
  { s with mem := s.mem.filter (fun p => !decide (a ≤ p.1 ∧ p.1 < a + 0x100000)),
           poison := s.poison.filter (fun p => !decide (a ≤ p ∧ p < a + 0x100000)) }

/-- Ends every card that runs on a core, releasing its tag (R140). -/
def State.endRunning (s : State) (core : Nat) : State :=
  (tidsOf core).foldl (fun s tid =>
    match (s.thread tid).card with
    | some c => (s.releaseTag core c.id).endCard c false true
    | none => s) s

/-- The reset of a core by a trap while both banks are in use (R140): the crash record, the end of its running cards, its
thread sets, engines, allocations and scratchpad.  Its deque, its sleeping cards and its store buffer stay (log 6); a message that an ended
card served is triggered again (log 6).  R16 names no reset of a core among what loses a reservation: that the wipe and the crash record leave other
cores' reservations is the model's choice (log 74). -/
def State.coreReset (s : State) (tid : Nat) (cause : BitVec 6) (val tepc : Word) : State :=
  let core := coreOf tid
  let rec_ := s.crashRecord tid cause val tepc
  let ended := (tidsOf core).filterMap fun t => (s.thread t).card.map (·.id)
  let s := s.endRunning core
  let s := { s with parked := s.parked.filter fun p => coreOf p.tid != core }
  let s := (tidsOf core).foldl (fun s t => s.setThread t {}) s
  let s := s.modCore core fun c => { c with
    seq := [], seqWait := [], allocs := [], rings := [], accs := [], lands := [], mq := [], ticket := 0, copies := [], resetAt := s.time - s.gated,
    inbox := c.inbox.map fun p => if p.served.any ended.contains then { p with served := none } else p }
  let s := (s.wipeSpad core).writeBytes (spadBase core + 0xFFF80) rec_
  let s := s.writeBytes (galleryBase + dieOf core * 0x4000000 + 0x3FF8000 + core % 256 * 128) rec_
  { s.setHint 0 with traps := s.traps + 1 }

/-- Aborts the handler phase of a card (R141): its held commands are discarded, its message is at the head of the inbox and TMSG
names it.  For a card with HANDLER = 1 that no message triggered the manual names none: that TMSG is 0 then is the model's choice (log 79). -/
def State.abortHandler (s : State) (tid : Nat) : State :=
  let t := s.thread tid
  let t := { t with card := t.card.map fun (c : Card) => { c with sends := [] } }
  match t.card.bind (·.msg) with
  | some m =>
    let s := s.modCore (coreOf tid) fun c => { c with
      inbox := (c.inbox.filter fun p => p.id == m.id) ++ c.inbox.filter fun p => p.id != m.id }
    s.setThread tid { t with tmsg := bit true 63 ||| zext m.mid }
  | none => s.setThread tid { t with tmsg := 0 }

/-- Whether a trap aborts the handler phase of the thread set's card (R141). -/
def Thread.inHandler (t : Thread) : Bool := match t.card with
  | some c => c.handler && !c.hdone
  | none => false

/-- The bank a trap fills (R137). -/
def Thread.fill (t : Thread) (cause : BitVec 6) (val tepc : Word) (park abt : Bool) : TrapBank :=
  { tepc := tepc, tcause := cause.zeroExtend 64, tval := val, pfxv := t.pfxv, ends := cause == 8 && val == 2, abt := abt,
    act := true, park := park, pm := t.steward, pfx := t.pfx }

/-- The steward's handler of bank `b` (R137): no instruction of the card's own is waited for any more (R33, R127, R155), and the
reservation is lost (R16). -/
def Thread.enter (t : Thread) (second : Bool) (b : TrapBank) : Thread :=
  { t with
    bank0 := if second then t.bank0 else b
    bank1 := if second then b else t.bank1
    pc := if second then t.tvec1 else t.tvec0
    steward := true, pfx := false, pfxv := 0, park := false, resv := none, mark := none, openAt := none, bar := none, remote := none, waits := false
    deadlineHit := t.deadlineHit || (b.tcause == 8 && b.tval == 1) }

/-- Taking a trap (R137): the free bank saves the pc, the cause, its value, the mode, the prefix and the pending park; the
steward goes on at TVEC; both banks in use reset the core (R140). -/
def State.trap (s : State) (tid : Nat) (cause : BitVec 6) (val tepc : Word) : State :=
  let t := s.thread tid
  if t.bank0.act && t.bank1.act then s.coreReset tid cause val tepc
  else
    let park := t.park && s.outstanding tid
    let abt := t.inHandler
    let s := if abt then s.abortHandler tid else s
    let s := s.withdrawAccess tid
    let s := s.modCore (coreOf tid) fun c => { c with seqWait := c.seqWait.filter fun x => x != tid }
    let s := s.modThread tid fun u => u.enter t.bank0.act (t.fill cause val tepc park abt)
    { s with traps := s.traps + 1 }

/-- A trap of the instruction at the pc of the issuing thread set. -/
def State.trapHere (s : State) (cause : BitVec 6) (val : Word) : State := s.trap s.cur cause val s.th.pc

/-- Cause 0 with the word being executed (R31). -/
def State.illegal (s : State) : State := s.trapHere 0 (zext s.ir)

/-- The checks every instruction without a format starts with: a pending prefix makes it illegal (R59), a pending register holds
it at issue (R34). -/
def plain (s : State) (regs : List (BitVec 5)) (k : State → State) : Res :=
  .next (if s.th.pfx then s.illegal else if regs.any (s.pending s.cur) then s else k s)

/-- As `plain`, for the instructions that only the steward may execute (R26). -/
def stewardOnly (s : State) (regs : List (BitVec 5)) (k : State → State) : Res :=
  .next (if s.th.pfx || !s.th.steward then s.illegal else if regs.any (s.pending s.cur) then s else k s)

/-- The bank TRET returns from (R142). -/
def Thread.inner (t : Thread) : Option (Bool × TrapBank) :=
  if t.bank1.act then some (true, t.bank1) else if t.bank0.act then some (false, t.bank0) else none

/-- The thread set after TRET into its card (R142). -/
def Thread.back (t : Thread) (second : Bool) (b : TrapBank) : Thread :=
  let b' := { b with act := false }
  { t with
    bank0 := if second then t.bank0 else b'
    bank1 := if second then b' else t.bank1
    steward := b.pm, pfx := b.pfx, pfxv := b.pfxv, park := b.park, pc := b.tepc
    instret := t.instret + 1, mark := none, openAt := none, waits := false
    reports := t.reports.map fun r => if r.hold = (if second then 2 else 1) then { r with hold := 0 } else r }

/-- Pushes an aborted handler card to its home deque, or leaves the thread set busy until it can (R142).  That its x10 to x15 are the image's,
without what a suspending instruction delivered at the pick-up, is the model's choice (log 80). -/
def State.pushAborted (s : State) (tid : Nat) : State :=
  match (s.thread tid).card with
  | none => s
  | some c =>
    match s.pushDeque c.home { c with hdr := c.hdr0 } with
    | some s' => s'.modThread tid (·.release)
    | none => s.modThread tid fun t => { t with aborted := true }

/-- The return from a trap (R142). -/
def State.trapReturn (s : State) (tid : Nat) : State :=
  match (s.thread tid).inner with
  | none => s.illegal
  | some (second, b) =>
    if b.ends then s.illegal
    else
      let s' := s.modThread tid (·.back second b)
      if b.abt then s'.pushAborted tid else s'

/-- The sequencer accesses (R201). -/
def isSeqAccess : Instr → Bool
  | .vld .. | .vst .. | .vldb .. | .vlds .. | .vsts .. | .vldx .. | .vstx .. | .vldc .. | .vstc .. => true
  | .vpvenc .. | .vpvdec .. | .vdesc .. | .gaddr .. => true
  | .mcommitScratchpad .. => true
  | _ => false

/-- Whether a sequencer access of a thread set is still to be performed (R202). -/
def State.seqAccesses (s : State) (tid : Nat) : Bool := (s.seqOf tid).any fun i => i.ops.any fun o => isSeqAccess o.instr

/-- Every earlier store of a thread set in its own package has been performed (R74, R407), and every earlier sequencer access
(R202). -/
def State.performed (s : State) (tid : Nat) : Bool :=
  !(s.core (coreOf tid)).sb.any (fun e => e.tid == tid) && !s.flights.any (fun f => f.tid == tid) && !s.seqAccesses tid


/-- What a scalar access meets. -/
inductive Access where
  | fault (cause : BitVec 6)
  | absent
  | at_ (p : Place) (path : Path) (pa : Nat)
deriving DecidableEq, Repr

/-- The place of a translated scalar access: holes and the scheduler area raise cause 2 (R61, R90), control space in user mode too
(R381), a locket cause 3 for a write (R160), a held line cause 2 for a write (R298). -/
def State.accessAt (s : State) (core : Nat) (user : Bool) (pa size : Nat) (n : Need) : Access :=
  match s.locate pa size with
  | .hole => .fault 2
  | .sched _ => .fault 2
  | .ctl off => if user then .fault 2 else .at_ (.ctl off) .plain pa
  | .far p => .at_ (.far p) .plain pa
  | .mem a =>
    if n.w && s.inLocket a size then .fault 3
    else if n.w && s.isHeld a size then .fault 2
    else .at_ (.mem a) (if spadBase core ≤ a ∧ a < spadBase core + 0x100000 then .loop else .plain) pa

/-- An access of `size` bytes within one page with an ASID, by a thread set of a core or by an engine for it, in user mode or not
(R26, R65, R154, R406). -/
def State.reachAs (s : State) (core : Nat) (asid : BitVec 16) (user : Bool) (va : Word) (size : Nat) (n : Need) : State × Access :=
  if !isCanonical va then (s, .fault 2)
  else if isOwnWindow va then
    let a := spadBase core + va.toNat % 2 ^ 20
    if n.w && s.inLocket a size then (s, .fault 3) else (s, .at_ (.mem a) .own (s.chipno * 2 ^ 40 + a))
  else
    match s.translate core asid va n user with
    | (s, .ok pa) => (s, s.accessAt core user pa size n)
    | (s, .fault c) => (s, .fault c)
    | (s, .absent) => (s, .absent)

/-- An access of a thread set with its card's ASID. -/
def State.reach (s : State) (tid : Nat) (user : Bool) (va : Word) (size : Nat) (n : Need) : State × Access :=
  s.reachAs (coreOf tid) (s.thread tid).asid user va size n

/-- A scalar access of a thread set (R15, R406): alignment first, then the address. -/
def State.scalar (s : State) (tid : Nat) (va : Word) (size : Nat) (n : Need) : State × Access :=
  if va.toNat % size ≠ 0 then (s, .fault 1) else s.reach tid (!(s.thread tid).steward) va size n

/-- Every earlier access of a thread set has been performed, posted writes and the lanes of VLDG and VSTG included (R64, R355). -/
def State.settled (s : State) (tid : Nat) : Bool :=
  s.performed tid && (s.posted.all fun p => p.tid != tid) && (s.thread tid).jobs.isEmpty

/-- Where the lanes that gathers and scatters of a thread set, those before one if it is named, have still to access lie. -/
def State.lanesLeft (s : State) (tid : Nat) (before : Option Nat) : List Access :=
  ((s.thread tid).jobs.filter fun j => before.all fun n => decide (j.id < n)).flatMap fun j => j.lanes.map fun l =>
    (s.reach tid j.user l.2.1 j.size (if j.store then { w := true } else { r := true })).2

/-- An access of control space. -/
def Access.inCtl : Access → Bool
  | .at_ (.ctl _) _ _ => true
  | _ => false

/-- Whether a lane of a gather or scatter of a thread set has still to access control space: later loads and stores wait for it (R64), and
later gathers and scatters. -/
def State.ctlLane (s : State) (tid : Nat) (before : Option Nat := none) : Bool := (s.lanesLeft tid before).any Access.inCtl

/-- Whether a lane of a gather or scatter of a thread set has still to pass the core's loop-back port (R66). -/
def State.loopLane (s : State) (tid : Nat) : Bool :=
  (s.lanesLeft tid none).any fun x => match x with
    | .at_ _ .loop _ => true
    | _ => false

/-- What a load from the buffer or memory gives: a value, poisoned data (R392), or it must wait. -/
inductive Got where
  | wait
  | poisoned
  | val (d : List Byte)
deriving DecidableEq, Repr

/-- The entries of a store buffer that an access through a path meets, oldest first (R66, R74). -/
def metBy (sb : List SbEntry) (path : Path) (pa n : Nat) : List SbEntry :=
  sb.filter fun e => e.path == path && meets e.pa e.data.length pa n

/-- Whether an entry covers all bytes of an access (R74). -/
def SbEntry.covers (e : SbEntry) (pa n : Nat) : Bool := decide (e.pa ≤ pa ∧ pa + n ≤ e.pa + e.data.length)

/-- The bytes of an access in an entry that covers it. -/
def SbEntry.bytes (e : SbEntry) (pa n : Nat) : List Byte := (e.data.drop (pa - e.pa)).take n

/-- Whether a store not yet performed, which a thread set wrote or whose value it has read, meets bytes: a read of memory would return an
older value (R71). -/
def State.behind (s : State) (tid : Nat) (path : Path) (pa n : Nat) : Bool :=
  let t := s.thread tid
  (metBy (s.core (coreOf tid)).sb path pa n).any (fun e => e.tid == tid || t.seen.contains e.id) ||
  (path == .plain && s.flights.any fun f => (f.tid == tid || t.seen.contains f.id) && meets f.pa f.data.length pa n)

/-- What a plain load sees (R74): the youngest entry of its path, where every one that meets it covers it; else memory.  An entry that
covers it only in part, or a store of the core still on its way to another die, holds it. -/
def State.loadBytes (s : State) (tid : Nat) (path : Path) (pa a n : Nat) : Got :=
  let l := metBy (s.core (coreOf tid)).sb path pa n
  if l.any fun e => !e.covers pa n then .wait
  else match l.getLast? with
    | some e => .val (e.bytes pa n)
    | none =>
      if s.flights.any fun f => coreOf f.tid == coreOf tid && meets f.pa f.data.length pa n then .wait
      else match earlyOf (s.thread tid).early path pa n with
        | some d => .val d
        | none => if s.isPoisoned a n then .poisoned else .val (s.readBytes a n)

/-- What a store leaves of the early values of its own thread set: none of its bytes through its path (R71). -/
def Early.afterStore (e : Early) (path : Path) (pa n : Nat) : Bool := !(e.path == path && meets e.pa e.data.length pa n)

/-- Whether the port of another core, in whose scratchpad a local address lies, takes nothing of the request class now (R245, R267). -/
def State.portShut (s : State) (core a : Nat) : Bool :=
  let k := (a - windowBase) / 0x100000
  decide (windowBase ≤ a) && k != core && (s.core k).stuck.isSome

/-- A thread set has read bytes through a path: it returns nothing older of them any more (R71).  From memory, it knows that the early values of
others are out of date (R69) and owes an acquire what releases there carry; from a store not yet performed, it remembers that, and owes what its
writer has released. -/
def State.noteRead (s : State) (tid : Nat) (from_ : Option SbEntry) (path : Path) (pa n : Nat) : State :=
  let c := s.core (coreOf tid)
  let s : State := { s with threads := s.threads.map fun p =>
      if p.1 == tid then
        (p.1, { p.2 with
          early := p.2.early.filter (·.afterRead path pa n from_.isNone)
          seen := (from_.map (·.id)).toList ++ p.2.seen.filter fun i => c.sb.any (·.id == i) || s.flights.any (·.id == i) })
      else (p.1, { p.2 with early := if from_.isSome then p.2.early else p.2.early.map (·.seenBy (.thread tid) pa n) }) }
  match from_ with
  | some e => s.oweStore tid e.tid
  | none => s.owe tid pa n

/-- A plain load has read the youngest entry that meets it, a value seen early, or memory (R74, R77). -/
def State.hasRead (s : State) (tid : Nat) (path : Path) (pa n : Nat) : State :=
  match (metBy (s.core (coreOf tid)).sb path pa n).getLast?, earlyOf (s.thread tid).early path pa n with
  | none, some _ => s.modThread tid fun t => { t with early := afterEarly t.early path pa n }
  | e, _ => s.noteRead tid e path pa n
/-- An access has read memory, whatever waits in the store buffer. -/
def State.memRead (s : State) (tid : Nat) (path : Path) (pa n : Nat) : State := s.noteRead tid none path pa n

/-- A store of a thread set enters its core's store buffer (R74). -/
def State.enterStore (s : State) (tid : Nat) (path : Path) (va : Word) (pa : Nat) (d : List Byte) : State :=
  let e : SbEntry := { id := s.nextId, tid := tid, path := path, va := va, pa := pa, data := d }
  let s := s.modCore (coreOf tid) fun c => { c with sb := c.sb ++ [e] }
  State.modThread { s with nextId := s.nextId + 1 } tid fun t => { t with early := t.early.filter (·.afterStore path pa d.length) }

/-- The bytes a gallery command accesses. -/
def BankKind.size : BankKind → Nat
  | .atomic _ m _ _ => if m.getLsbD 1 then 4 else 8
  | _ => 64

/-- Where a gallery command to another package leads (R283): it is a posted write from its issue on. -/
def State.bankFar (s : State) (o : BankOp) : Option Nat :=
  match (s.reachAs (coreOf o.tid) o.asid o.user o.addr o.kind.size { r := true, w := true }).2 with
  | .at_ (.far pa) _ _ => some pa
  | _ => none

/-- The gallery commands of a thread set that are posted writes not yet on their way (R283). -/
def State.bankPosts (s : State) (tid : Nat) : List BankOp := s.bank.filter fun o => o.tid == tid && !o.sent && (s.bankFar o).isSome

/-- Whether a posted write of a thread set to the line of an address of another package has not been acknowledged (R356). -/
def State.lineOpen (s : State) (tid pa : Nat) : Bool :=
  s.posted.any (fun p => p.tid == tid && p.pa / 64 == pa / 64) ||
  (s.bankPosts tid).any fun o => (s.bankFar o).any fun q => q / 64 == pa / 64

/-- The posted writes issued before `id` have been acknowledged (R357): those of the thread set, and those of others, which may precede a
release that it has acquired (R377). -/
def State.acknowledged (s : State) (tid id : Nat) : Bool :=
  s.posted.all (fun p => decide (id ≤ p.id)) && (s.bankPosts tid).all fun o => decide (id ≤ o.id)

/-- Whether an acquire still holds later accesses of a thread set: an engine command's (R282), or what it received, posted writes that an SCFENCE at
SYS passed meanwhile releases too (R377). -/
def State.acquiring (s : State) (tid : Nat) : Bool :=
  (s.thread tid).outs.any (·.acq.isSome) || (s.thread tid).relAt.any fun id => !s.acknowledged tid id

/-- Every entry of the core's store buffer present at issue has drained (R75), and every earlier store and sequencer access of the
thread set has been performed. -/
def State.fenced (s : State) (tid : Nat) : Bool :=
  (s.core (coreOf tid)).sb.all (fun e => decide (s.mark ≤ e.id)) && s.performed tid && !s.acquiring tid

/-- The stores whose values a thread set has read before they were performed have been (R74, R75). -/
def State.readsPerformed (s : State) (tid : Nat) : Bool :=
  (s.thread tid).seen.all fun i => !(s.core (coreOf tid)).sb.any (·.id == i) && !s.flights.any (·.id == i)

/-- A release at a scope may be made (R68, R357, R407): at SYS the writes open once the stores had drained have been acknowledged. -/
def State.released (s : State) (tid : Nat) (scope : BitVec 2) : Bool :=
  s.performed tid && (scope != 3 || match (s.thread tid).openAt with
    | some id => s.acknowledged tid id
    | none => false)

/-- Every access of a thread set before a command has been performed, as the command's release at a scope asks (R68, R247, R357); a
command issues once the stores have drained (R240). -/
def State.releasedBefore (s : State) (tid : Nat) (scope : BitVec 2) (id : Nat) : Bool :=
  (s.core (coreOf tid)).sb.all (fun e => e.tid != tid || decide (id ≤ e.id)) &&
  s.flights.all (fun f => f.tid != tid || decide (id ≤ f.id)) &&
  (s.seqOf tid).all (fun i => decide (id ≤ i.id) || !i.ops.any fun o => isSeqAccess o.instr) &&
  (scope != 3 || s.acknowledged tid id)

/-- Whether some route leads to another package now (R354): over a link whose peer it is; or, where any link is up, as the cabling and the
other packages have it, which the manual leaves open (log 2). -/
def State.route (s : State) (pkg : Nat) : Bool × State :=
  let up := s.tlinks.filter fun p => p.2.state == 2 && p.2.met
  if up.isEmpty then (false, s)
  else if up.any fun p => p.2.peer.toNat == pkg then (true, s)
  else let r := s.freeWord; (r.1.getLsbD 0, r.2)

/-- Adds an outstanding result to a thread set (R32). -/
def State.addOut (s : State) (tid : Nat) (o : Out) : State := s.modThread tid fun t => { t with outs := t.outs ++ [o] }

/-- An engine reports a trap for a thread set (R138). -/
def State.report (s : State) (tid : Nat) (cause : BitVec 6) (val : Word) : State :=
  s.modThread tid fun t => { t with reports := t.reports ++ [{ cause := cause, val := val, hold := 0 }] }

/-- A release at SYS scope of a thread set that has lost a posted write completes with cause 12 (R375). -/
def State.sysDone (s : State) (tid : Nat) (scope : BitVec 2) : State :=
  match (s.thread tid).lost with
  | some l => if scope = 3 then (s.report tid 12 (word l)).modThread tid fun t => { t with lost := none } else s
  | none => s

/-- An outstanding result comes back with its values (R32); RESULT_RETURN writes them. -/
def State.giveOut (s : State) (tid id : Nat) (vals : List Word) : State :=
  s.modThread tid fun t => { t with outs := t.outs.map fun o => if o.id = id then { o with vals := some vals } else o }

/-- An outstanding result ends without a value: its registers keep theirs and are no longer pending (R284). -/
def State.dropOut (s : State) (tid id : Nat) : State :=
  s.modThread tid fun t => { t with outs := t.outs.filter fun o => o.id != id }

/-- An outstanding result ends with a trap at its issuer (R138, R284); nothing is left of one whose thread set was reset. -/
def State.failOut (s : State) (tid id : Nat) (cause : BitVec 6) (val : Word) : State :=
  if (s.thread tid).outs.any (·.id == id) then (s.report tid cause val).dropOut tid id else s

end Sys2Proof.Machine
end

