-- ==== Sys2Proof/Machine/Operands.lean ====
section
/-! DEFINITION. The operand forms of the base instructions: register and immediate operands, 32-bit forms, jump targets and
effective addresses (R9, R14, R15). -/

namespace Sys2Proof.Machine

/-- rd := f(rs1, rs2). -/
def regForm (rd rs1 rs2 : BitVec 5) (s : State) (f : Word → Word → Word) : Res :=
  plain s [rd, rs1, rs2] fun s => (s.wx rd (f (s.rx rs1) (s.rx rs2))).retire

/-- rd := f(rs1), an immediate being part of `f`. -/
def immForm (rd rs1 : BitVec 5) (s : State) (f : Word → Word) : Res :=
  plain s [rd, rs1] fun s => (s.wx rd (f (s.rx rs1))).retire

/-- The low 32 bits. -/
def low32 (a : Word) : BitVec 32 := a.extractLsb' 0 32

/-- A 32-bit operation whose result is sign-extended. -/
def on32 (f : BitVec 32 → BitVec 32 → BitVec 32) (a b : Word) : Word := sext (f (low32 a) (low32 b))

/-- The 64-bit value of a U immediate. -/
def immU (imm : BitVec 20) : Word := sext (imm ++ (0#12))

/-- The offset of a branch, its zero bit restored (R9). -/
def branchOff (off : BitVec 12) : Word := sext (off ++ (0#1))
/-- The offset of a jump, its zero bit restored (R9). -/
def jumpOff (off : BitVec 20) : Word := sext (off ++ (0#1))

/-- A jump or taken branch to a target, doing `k` with it: a misaligned target raises cause 1 and one that is no 55-bit address
cause 2, both with no effect (R9). -/
def State.jumpTo (s : State) (target : Word) (k : State → State) : State :=
  if target.extractLsb' 0 2 != 0 then s.trapHere 1 target
  else if !isVa target then s.trapHere 2 target
  else (k s).retireTo target

/-- A branch taken when the condition holds. -/
def branchForm (rs1 rs2 : BitVec 5) (off : BitVec 12) (s : State) (cond : Word → Word → Bool) : Res :=
  plain s [rs1, rs2] fun s =>
    if cond (s.rx rs1) (s.rx rs2) then s.jumpTo (s.th.pc + branchOff off) id else s.retire

/-- The address of a load or store: rs1 plus the signed 12-bit offset. -/
def State.effective (s : State) (rs1 : BitVec 5) (imm : BitVec 12) : Word := s.rx rs1 + sext imm

/-- Full 64-bit division results (R22): by zero all ones, overflow the dividend. -/
def divS {n : Nat} (a b : BitVec n) : BitVec n :=
  if b = 0 then BitVec.allOnes n else if a = BitVec.intMin n ∧ b = BitVec.allOnes n then a else BitVec.sdiv a b
/-- Unsigned division (R22). -/
def divU {n : Nat} (a b : BitVec n) : BitVec n := if b = 0 then BitVec.allOnes n else a / b
/-- Signed remainder (R22): by zero the dividend, overflow 0. -/
def remS {n : Nat} (a b : BitVec n) : BitVec n :=
  if b = 0 then a else if a = BitVec.intMin n ∧ b = BitVec.allOnes n then 0 else BitVec.srem a b
/-- Unsigned remainder (R22). -/
def remU {n : Nat} (a b : BitVec n) : BitVec n := if b = 0 then a else a % b

/-- The high 64 bits of a product of two integers. -/
def mulHigh (a b : Int) : Word := BitVec.ofInt 64 (a * b / 2 ^ 64)

/-- 1 or 0. -/
def truth (b : Bool) : Word := if b then 1 else 0

end Sys2Proof.Machine
end

