-- ==== Sys2Proof/Machine/Alu.lean ====
section
/-! DEFINITION. The arithmetic of the base subset: RV64I computations, the M extension and Zba (R14, R22). -/

namespace Sys2Proof.Machine

/-- LUI (R14). -/
def execLui (rd : BitVec 5) (imm : BitVec 20) (s : State) : Res :=
  plain s [rd] fun s => (s.wx rd (immU imm)).retire
/-- AUIPC (R14). -/
def execAuipc (rd : BitVec 5) (imm : BitVec 20) (s : State) : Res :=
  plain s [rd] fun s => (s.wx rd (s.th.pc + immU imm)).retire
/-- ADDI (R14). -/
def execAddi (rd rs1 : BitVec 5) (imm : BitVec 12) (s : State) : Res := immForm rd rs1 s fun a => a + sext imm
/-- SLTI: signed (R14). -/
def execSlti (rd rs1 : BitVec 5) (imm : BitVec 12) (s : State) : Res := immForm rd rs1 s fun a => truth (a.slt (sext imm))
/-- SLTIU: the sign-extended immediate as unsigned (R14). -/
def execSltiu (rd rs1 : BitVec 5) (imm : BitVec 12) (s : State) : Res := immForm rd rs1 s fun a => truth (a.ult (sext imm))
/-- XORI (R14). -/
def execXori (rd rs1 : BitVec 5) (imm : BitVec 12) (s : State) : Res := immForm rd rs1 s fun a => a ^^^ sext imm
/-- ORI (R14). -/
def execOri (rd rs1 : BitVec 5) (imm : BitVec 12) (s : State) : Res := immForm rd rs1 s fun a => a ||| sext imm
/-- ANDI (R14). -/
def execAndi (rd rs1 : BitVec 5) (imm : BitVec 12) (s : State) : Res := immForm rd rs1 s fun a => a &&& sext imm
/-- SLLI (R14). -/
def execSlli (rd rs1 : BitVec 5) (amt : BitVec 6) (s : State) : Res := immForm rd rs1 s fun a => a <<< amt.toNat
/-- SRLI (R14). -/
def execSrli (rd rs1 : BitVec 5) (amt : BitVec 6) (s : State) : Res := immForm rd rs1 s fun a => a >>> amt.toNat
/-- SRAI (R14). -/
def execSrai (rd rs1 : BitVec 5) (amt : BitVec 6) (s : State) : Res := immForm rd rs1 s fun a => a.sshiftRight amt.toNat
/-- ADD (R14). -/
def execAdd (rd rs1 rs2 : BitVec 5) (s : State) : Res := regForm rd rs1 rs2 s fun a b => a + b
/-- SUB (R14). -/
def execSub (rd rs1 rs2 : BitVec 5) (s : State) : Res := regForm rd rs1 rs2 s fun a b => a - b
/-- SLL: by the low six bits (R14). -/
def execSll (rd rs1 rs2 : BitVec 5) (s : State) : Res := regForm rd rs1 rs2 s fun a b => a <<< (b.toNat % 64)
/-- SLT (R14). -/
def execSlt (rd rs1 rs2 : BitVec 5) (s : State) : Res := regForm rd rs1 rs2 s fun a b => truth (a.slt b)
/-- SLTU (R14). -/
def execSltu (rd rs1 rs2 : BitVec 5) (s : State) : Res := regForm rd rs1 rs2 s fun a b => truth (a.ult b)
/-- XOR (R14). -/
def execXor (rd rs1 rs2 : BitVec 5) (s : State) : Res := regForm rd rs1 rs2 s fun a b => a ^^^ b
/-- SRL (R14). -/
def execSrl (rd rs1 rs2 : BitVec 5) (s : State) : Res := regForm rd rs1 rs2 s fun a b => a >>> (b.toNat % 64)
/-- SRA (R14). -/
def execSra (rd rs1 rs2 : BitVec 5) (s : State) : Res := regForm rd rs1 rs2 s fun a b => a.sshiftRight (b.toNat % 64)
/-- OR (R14). -/
def execOr (rd rs1 rs2 : BitVec 5) (s : State) : Res := regForm rd rs1 rs2 s fun a b => a ||| b
/-- AND (R14). -/
def execAnd (rd rs1 rs2 : BitVec 5) (s : State) : Res := regForm rd rs1 rs2 s fun a b => a &&& b
/-- ADDIW (R14). -/
def execAddiw (rd rs1 : BitVec 5) (imm : BitVec 12) (s : State) : Res := immForm rd rs1 s fun a => sext (low32 (a + sext imm))
/-- SLLIW (R14). -/
def execSlliw (rd rs1 : BitVec 5) (amt : BitVec 5) (s : State) : Res := immForm rd rs1 s fun a => sext (low32 a <<< amt.toNat)
/-- SRLIW (R14). -/
def execSrliw (rd rs1 : BitVec 5) (amt : BitVec 5) (s : State) : Res := immForm rd rs1 s fun a => sext (low32 a >>> amt.toNat)
/-- SRAIW (R14). -/
def execSraiw (rd rs1 : BitVec 5) (amt : BitVec 5) (s : State) : Res := immForm rd rs1 s fun a => sext ((low32 a).sshiftRight amt.toNat)
/-- ADDW (R14). -/
def execAddw (rd rs1 rs2 : BitVec 5) (s : State) : Res := regForm rd rs1 rs2 s fun a b => on32 (· + ·) a b
/-- SUBW (R14). -/
def execSubw (rd rs1 rs2 : BitVec 5) (s : State) : Res := regForm rd rs1 rs2 s fun a b => on32 (· - ·) a b
/-- SLLW: by the low five bits (R14). -/
def execSllw (rd rs1 rs2 : BitVec 5) (s : State) : Res := regForm rd rs1 rs2 s fun a b => sext (low32 a <<< (b.toNat % 32))
/-- SRLW (R14). -/
def execSrlw (rd rs1 rs2 : BitVec 5) (s : State) : Res := regForm rd rs1 rs2 s fun a b => sext (low32 a >>> (b.toNat % 32))
/-- SRAW (R14). -/
def execSraw (rd rs1 rs2 : BitVec 5) (s : State) : Res := regForm rd rs1 rs2 s fun a b => sext ((low32 a).sshiftRight (b.toNat % 32))
/-- MUL (R22). -/
def execMul (rd rs1 rs2 : BitVec 5) (s : State) : Res := regForm rd rs1 rs2 s fun a b => a * b
/-- MULH (R22). -/
def execMulh (rd rs1 rs2 : BitVec 5) (s : State) : Res := regForm rd rs1 rs2 s fun a b => mulHigh a.toInt b.toInt
/-- MULHSU: rs1 signed, rs2 unsigned (R22). -/
def execMulhsu (rd rs1 rs2 : BitVec 5) (s : State) : Res := regForm rd rs1 rs2 s fun a b => mulHigh a.toInt b.toNat
/-- MULHU (R22). -/
def execMulhu (rd rs1 rs2 : BitVec 5) (s : State) : Res := regForm rd rs1 rs2 s fun a b => mulHigh a.toNat b.toNat
/-- DIV (R22). -/
def execDiv (rd rs1 rs2 : BitVec 5) (s : State) : Res := regForm rd rs1 rs2 s fun a b => divS a b
/-- DIVU (R22). -/
def execDivu (rd rs1 rs2 : BitVec 5) (s : State) : Res := regForm rd rs1 rs2 s fun a b => divU a b
/-- REM (R22). -/
def execRem (rd rs1 rs2 : BitVec 5) (s : State) : Res := regForm rd rs1 rs2 s fun a b => remS a b
/-- REMU (R22). -/
def execRemu (rd rs1 rs2 : BitVec 5) (s : State) : Res := regForm rd rs1 rs2 s fun a b => remU a b
/-- MULW (R22). -/
def execMulw (rd rs1 rs2 : BitVec 5) (s : State) : Res := regForm rd rs1 rs2 s fun a b => on32 (· * ·) a b
/-- DIVW (R22). -/
def execDivw (rd rs1 rs2 : BitVec 5) (s : State) : Res := regForm rd rs1 rs2 s fun a b => on32 divS a b
/-- DIVUW (R22). -/
def execDivuw (rd rs1 rs2 : BitVec 5) (s : State) : Res := regForm rd rs1 rs2 s fun a b => on32 divU a b
/-- REMW (R22). -/
def execRemw (rd rs1 rs2 : BitVec 5) (s : State) : Res := regForm rd rs1 rs2 s fun a b => on32 remS a b
/-- REMUW (R22). -/
def execRemuw (rd rs1 rs2 : BitVec 5) (s : State) : Res := regForm rd rs1 rs2 s fun a b => on32 remU a b
/-- SH1ADD (R14). -/
def execSh1add (rd rs1 rs2 : BitVec 5) (s : State) : Res := regForm rd rs1 rs2 s fun a b => (a <<< (1 : Nat)) + b
/-- SH2ADD (R14). -/
def execSh2add (rd rs1 rs2 : BitVec 5) (s : State) : Res := regForm rd rs1 rs2 s fun a b => (a <<< (2 : Nat)) + b
/-- SH3ADD (R14). -/
def execSh3add (rd rs1 rs2 : BitVec 5) (s : State) : Res := regForm rd rs1 rs2 s fun a b => (a <<< (3 : Nat)) + b
/-- ADD.UW (R14). -/
def execAddUw (rd rs1 rs2 : BitVec 5) (s : State) : Res := regForm rd rs1 rs2 s fun a b => zext (low32 a) + b
/-- SH1ADD.UW (R14). -/
def execSh1addUw (rd rs1 rs2 : BitVec 5) (s : State) : Res := regForm rd rs1 rs2 s fun a b => (zext (low32 a) <<< (1 : Nat)) + b
/-- SH2ADD.UW (R14). -/
def execSh2addUw (rd rs1 rs2 : BitVec 5) (s : State) : Res := regForm rd rs1 rs2 s fun a b => (zext (low32 a) <<< (2 : Nat)) + b
/-- SH3ADD.UW (R14). -/
def execSh3addUw (rd rs1 rs2 : BitVec 5) (s : State) : Res := regForm rd rs1 rs2 s fun a b => (zext (low32 a) <<< (3 : Nat)) + b
/-- SLLI.UW (R14). -/
def execSlliUw (rd rs1 : BitVec 5) (amt : BitVec 6) (s : State) : Res := immForm rd rs1 s fun a => zext (low32 a) <<< amt.toNat

end Sys2Proof.Machine
end

