-- ==== Sys2Proof/Machine/Atomic.lean ====
section
/-! DEFINITION. The A extension (R15, R16, R72, R76, R154) and the fences of the base subset (R17, R18). -/

namespace Sys2Proof.Machine

/-- Fences, then acts (R75, R76): waits until every store present at issue has drained and the thread set's own accesses have been
performed, then releases and acquires at DIE scope. -/
def State.afterFence (s : State) (k : State → State) : State :=
  let s := s.setMark
  if s.fenced s.cur then k ((s.publish s.cur 1 true).acquire s.cur 1) else s

/-- An A-extension access of memory at a local address (R16): control space, other packages and poisoned data raise cause 2.  It waits
for a store of its core to the bytes that is on its way to another die (R71), for a lane that accesses control space (R64), and for another
core's port that takes no request (R245); the fence at its end receives what it has read (R76). -/
def State.atomicAt (s : State) (va : Word) (size : Nat) (n : Need) (k : State → Path → Nat → State) : State :=
  if s.ctlLane s.cur then s
  else match s.scalar s.cur va size n with
  | (s, .fault c) => s.trapHere c va
  | (s, .absent) => s.parkAccess s.cur none s.th.asid va (if n.w then 1 else 0)
  | (s, .at_ (.mem a) path pa) =>
    if s.portShut (coreOf s.cur) a || s.flights.any fun f => coreOf f.tid == coreOf s.cur && meets f.pa f.data.length pa size then s
    else if s.isPoisoned a size then s.trapHere 2 va
    else k ((s.memRead s.cur path pa size).acquire s.cur 1) path a
  | (s, .at_ _ _ _) => s.trapHere 2 va

/-- The naturally aligned 8-byte granule of a local address (R16). -/
def granule (a : Nat) : Nat := a / 8 * 8

/-- A value of `size` bytes, sign-extended. -/
def signed (size v : Nat) : Word := if size = 4 then sext (BitVec.ofNat 32 v) else word v

/-- LR (R16): reads and reserves the granule; checked as a load (R154). -/
def loadReserved (rd rs1 : BitVec 5) (size : Nat) (s : State) : Res :=
  plain s [rd, rs1] fun s => s.afterFence fun s =>
    s.atomicAt (s.rx rs1) size { r := true } fun s _ a =>
      ((s.modTh fun t => { t with resv := some (granule a) }).wx rd (signed size (s.readVal a size))).retire

/-- SC (R16): writes and gives 0 only while the granule of its own address is reserved; the reservation is released in both
cases. -/
def storeConditional (rd rs1 rs2 : BitVec 5) (size : Nat) (s : State) : Res :=
  plain s [rd, rs1, rs2] fun s => s.afterFence fun s =>
    s.atomicAt (s.rx rs1) size { r := true, w := true } fun s path a =>
      let ok := s.th.resv == some (granule a)
      let s' := if ok then s.store (.thread s.cur path) a (leBytes (s.rx rs2).toNat size) else s
      ((s'.modTh fun t => { t with resv := none }).wx rd (truth (!ok))).retire

/-- An AMO (R16): reads, writes `f old v` and gives the old value, as one read-modify-write. -/
def amo (rd rs1 rs2 : BitVec 5) (size : Nat) (f : Word → Word → Word) (s : State) : Res :=
  plain s [rd, rs1, rs2] fun s => s.afterFence fun s =>
    s.atomicAt (s.rx rs1) size { r := true, w := true } fun s path a =>
      let old := signed size (s.readVal a size)
      let v := signed size ((s.rx rs2).toNat % 2 ^ (8 * size))
      ((s.store (.thread s.cur path) a (leBytes (f old v).toNat size)).wx rd old).retire

/-- Minimum and maximum, signed and unsigned. -/
def minS (a b : Word) : Word := if a.slt b then a else b
def maxS (a b : Word) : Word := if a.slt b then b else a
def minU (a b : Word) : Word := if a.ult b then a else b
def maxU (a b : Word) : Word := if a.ult b then b else a

/-- LR.W (R16). -/
def execLrW (_aq _rl : Bool) (rd rs1 : BitVec 5) (s : State) : Res := loadReserved rd rs1 4 s
/-- SC.W (R16). -/
def execScW (_aq _rl : Bool) (rd rs1 rs2 : BitVec 5) (s : State) : Res := storeConditional rd rs1 rs2 4 s
/-- AMOSWAP.W (R16). -/
def execAmoswapW (_aq _rl : Bool) (rd rs1 rs2 : BitVec 5) (s : State) : Res := amo rd rs1 rs2 4 (fun _ v => v) s
/-- AMOADD.W (R16). -/
def execAmoaddW (_aq _rl : Bool) (rd rs1 rs2 : BitVec 5) (s : State) : Res := amo rd rs1 rs2 4 (· + ·) s
/-- AMOXOR.W (R16). -/
def execAmoxorW (_aq _rl : Bool) (rd rs1 rs2 : BitVec 5) (s : State) : Res := amo rd rs1 rs2 4 (· ^^^ ·) s
/-- AMOAND.W (R16). -/
def execAmoandW (_aq _rl : Bool) (rd rs1 rs2 : BitVec 5) (s : State) : Res := amo rd rs1 rs2 4 (· &&& ·) s
/-- AMOOR.W (R16). -/
def execAmoorW (_aq _rl : Bool) (rd rs1 rs2 : BitVec 5) (s : State) : Res := amo rd rs1 rs2 4 (· ||| ·) s
/-- AMOMIN.W (R16). -/
def execAmominW (_aq _rl : Bool) (rd rs1 rs2 : BitVec 5) (s : State) : Res := amo rd rs1 rs2 4 minS s
/-- AMOMAX.W (R16). -/
def execAmomaxW (_aq _rl : Bool) (rd rs1 rs2 : BitVec 5) (s : State) : Res := amo rd rs1 rs2 4 maxS s
/-- AMOMINU.W (R16). -/
def execAmominuW (_aq _rl : Bool) (rd rs1 rs2 : BitVec 5) (s : State) : Res := amo rd rs1 rs2 4 minU s
/-- AMOMAXU.W (R16). -/
def execAmomaxuW (_aq _rl : Bool) (rd rs1 rs2 : BitVec 5) (s : State) : Res := amo rd rs1 rs2 4 maxU s
/-- LR.D (R16). -/
def execLrD (_aq _rl : Bool) (rd rs1 : BitVec 5) (s : State) : Res := loadReserved rd rs1 8 s
/-- SC.D (R16). -/
def execScD (_aq _rl : Bool) (rd rs1 rs2 : BitVec 5) (s : State) : Res := storeConditional rd rs1 rs2 8 s
/-- AMOSWAP.D (R16). -/
def execAmoswapD (_aq _rl : Bool) (rd rs1 rs2 : BitVec 5) (s : State) : Res := amo rd rs1 rs2 8 (fun _ v => v) s
/-- AMOADD.D (R16). -/
def execAmoaddD (_aq _rl : Bool) (rd rs1 rs2 : BitVec 5) (s : State) : Res := amo rd rs1 rs2 8 (· + ·) s
/-- AMOXOR.D (R16). -/
def execAmoxorD (_aq _rl : Bool) (rd rs1 rs2 : BitVec 5) (s : State) : Res := amo rd rs1 rs2 8 (· ^^^ ·) s
/-- AMOAND.D (R16). -/
def execAmoandD (_aq _rl : Bool) (rd rs1 rs2 : BitVec 5) (s : State) : Res := amo rd rs1 rs2 8 (· &&& ·) s
/-- AMOOR.D (R16). -/
def execAmoorD (_aq _rl : Bool) (rd rs1 rs2 : BitVec 5) (s : State) : Res := amo rd rs1 rs2 8 (· ||| ·) s
/-- AMOMIN.D (R16). -/
def execAmominD (_aq _rl : Bool) (rd rs1 rs2 : BitVec 5) (s : State) : Res := amo rd rs1 rs2 8 minS s
/-- AMOMAX.D (R16). -/
def execAmomaxD (_aq _rl : Bool) (rd rs1 rs2 : BitVec 5) (s : State) : Res := amo rd rs1 rs2 8 maxS s
/-- AMOMINU.D (R16). -/
def execAmominuD (_aq _rl : Bool) (rd rs1 rs2 : BitVec 5) (s : State) : Res := amo rd rs1 rs2 8 minU s
/-- AMOMAXU.D (R16). -/
def execAmomaxuD (_aq _rl : Bool) (rd rs1 rs2 : BitVec 5) (s : State) : Res := amo rd rs1 rs2 8 maxU s

/-- A full fence at DIE scope (R17). -/
def fullFence (s : State) : Res := plain s [] fun s => s.afterFence fun s => s.retire

/-- FENCE: every field ignored (R17). -/
def execFence (_imm : BitVec 12) (_rs1 _rd : BitVec 5) (s : State) : Res := fullFence s
/-- FENCE.TSO (R17). -/
def execFenceTso (s : State) : Res := fullFence s
/-- PAUSE (R17). -/
def execPause (s : State) : Res := fullFence s
/-- FENCE.I (R18): the core's instruction buffer is discarded once every earlier store of the thread set has been performed. -/
def execFenceI (_imm : BitVec 12) (_rs1 _rd : BitVec 5) (s : State) : Res :=
  plain s [] fun s =>
    if s.performed s.cur then (s.modCore (coreOf s.cur) fun c => { c with ibuf := [] }).retire else s

end Sys2Proof.Machine
end

