-- ==== Sys2Proof/Machine/Branch.lean ====
section
/-! DEFINITION. Jumps and branches (R9). -/

namespace Sys2Proof.Machine

/-- JAL (R9): a refused target writes nothing. -/
def execJal (rd : BitVec 5) (off : BitVec 20) (s : State) : Res :=
  plain s [rd] fun s => s.jumpTo (s.th.pc + jumpOff off) fun u => u.wx rd (s.th.pc + 4)
/-- JALR (R9): bit 0 of the target is cleared. -/
def execJalr (rd rs1 : BitVec 5) (imm : BitVec 12) (s : State) : Res :=
  plain s [rd, rs1] fun s => s.jumpTo (s.effective rs1 imm &&& ~~~1) fun u => u.wx rd (s.th.pc + 4)
/-- BEQ (R9). -/
def execBeq (rs1 rs2 : BitVec 5) (off : BitVec 12) (s : State) : Res := branchForm rs1 rs2 off s fun a b => a == b
/-- BNE (R9). -/
def execBne (rs1 rs2 : BitVec 5) (off : BitVec 12) (s : State) : Res := branchForm rs1 rs2 off s fun a b => a != b
/-- BLT (R9). -/
def execBlt (rs1 rs2 : BitVec 5) (off : BitVec 12) (s : State) : Res := branchForm rs1 rs2 off s fun a b => a.slt b
/-- BGE (R9). -/
def execBge (rs1 rs2 : BitVec 5) (off : BitVec 12) (s : State) : Res := branchForm rs1 rs2 off s fun a b => !a.slt b
/-- BLTU (R9). -/
def execBltu (rs1 rs2 : BitVec 5) (off : BitVec 12) (s : State) : Res := branchForm rs1 rs2 off s fun a b => a.ult b
/-- BGEU (R9). -/
def execBgeu (rs1 rs2 : BitVec 5) (off : BitVec 12) (s : State) : Res := branchForm rs1 rs2 off s fun a b => !a.ult b

end Sys2Proof.Machine
end

