-- ==== Sys2Proof/Machine/Flags.lean ====
section
/-! DEFINITION. The sticky flags: their places in VFLAGS (R51), setting them (R50), and the flags of matrix operations, which reach VFLAGS
through MWAIT alone (R52, R205, R229). -/

namespace Sys2Proof.Machine

/-- The sticky flags NV, DZ, OF, UF, NX in bits 4 to 0 (R51). -/
abbrev Flags := BitVec 5
def flagNV : Flags := 16
def flagDZ : Flags := 8
def flagOF : Flags := 4
def flagUF : Flags := 2
def flagNX : Flags := 1

/-- Sets sticky flags; an instruction never clears one (R51). -/
def Thread.flagged (t : Thread) (f : Flags) : Thread := { t with vflags := t.vflags ||| f }

/-- A matrix operation's flags join the MFLAGS of its thread set while that still runs the card that issued it (R205). -/
def Thread.matFlagged (t : Thread) (card : Option Nat) (f : Flags) : Thread :=
  if card.isSome && t.mcard == card then { t with mflags := t.mflags ||| f } else t

/-- MWAIT carries MFLAGS over into VFLAGS and clears them (R229). -/
def Thread.takeMatFlags (t : Thread) : Thread := { t.flagged t.mflags with mflags := 0 }

end Sys2Proof.Machine
end

