-- ==== Sys2Proof/Machine/Float.lean ====
section
/-! DEFINITION. Number formats and their arithmetic, exact to the bit (R39 to R43, R50, R172 to R177): values as exact integers
scaled by powers of two, rounded once. -/

namespace Sys2Proof.Machine

/-- A binary floating-point format (R41): exponent and mantissa widths, bias, and whether it has infinities; E4M3 has none. -/
structure Fmt where
  eb : Nat
  mb : Nat
  bias : Nat
  ieee : Bool
deriving DecidableEq, Repr

def fp32 : Fmt := { eb := 8, mb := 23, bias := 127, ieee := true }
def bf16 : Fmt := { eb := 8, mb := 7, bias := 127, ieee := true }
def e4m3 : Fmt := { eb := 4, mb := 3, bias := 7, ieee := false }
def e5m2 : Fmt := { eb := 5, mb := 2, bias := 15, ieee := true }
def fp64 : Fmt := { eb := 11, mb := 52, bias := 1023, ieee := true }

/-- The width of a format. -/
def Fmt.width (f : Fmt) : Nat := f.eb + f.mb + 1

/-- A floating-point value: a NaN, signalling or quiet; an infinity; or (−1)^neg · m · 2^e, a zero having m = 0. -/
inductive Fp where
  | nan (signalling : Bool)
  | inf (neg : Bool)
  | fin (neg : Bool) (m : Nat) (e : Int)
deriving DecidableEq, Repr

/-- The value of a bit pattern (R41, R42). -/
def Fmt.decode (f : Fmt) (b : Nat) : Fp :=
  let m := b % 2 ^ f.mb
  let e := b / 2 ^ f.mb % 2 ^ f.eb
  let neg := b / 2 ^ (f.eb + f.mb) % 2 == 1
  if f.ieee && e == 2 ^ f.eb - 1 then
    if m = 0 then .inf neg else .nan (m / 2 ^ (f.mb - 1) == 0)
  else if !f.ieee && e == 2 ^ f.eb - 1 && m == 2 ^ f.mb - 1 then .nan false
  else if e = 0 then .fin neg m (1 - (f.bias : Int) - f.mb)
  else .fin neg (2 ^ f.mb + m) ((e : Int) - f.bias - f.mb)

/-- The sign bit in place. -/
def Fmt.signBit (f : Fmt) (neg : Bool) : Nat := if neg then 2 ^ (f.eb + f.mb) else 0
/-- The canonical NaN (R42). -/
def Fmt.nanBits (f : Fmt) : Nat :=
  if f.ieee then (2 ^ f.eb - 1) * 2 ^ f.mb + 2 ^ (f.mb - 1) else 2 ^ (f.eb + f.mb) - 1
/-- The largest finite magnitude. -/
def Fmt.maxBits (f : Fmt) : Nat := if f.ieee then (2 ^ f.eb - 1) * 2 ^ f.mb - 1 else 2 ^ (f.eb + f.mb) - 2
/-- The magnitude of infinity. -/
def Fmt.infBits (f : Fmt) : Nat := (2 ^ f.eb - 1) * 2 ^ f.mb

/-- Rounding modes (R48): RNE, RTZ, RDN, RUP. -/
def roundsUp (rm : Nat) (neg odd : Bool) (rest half : Nat) (sticky : Bool) : Bool :=
  let inexact := decide (rest ≠ 0) || sticky
  match rm with
  | 0 => decide (half < rest) || (decide (half = rest ∧ 0 < half) && (sticky || odd))
  | 1 => false
  | 2 => neg && inexact
  | _ => !neg && inexact

/-- The magnitude m·2^e, a little more if `sticky`, rounded to a multiple of 2^q: the multiple and whether it is inexact. -/
def roundAt (rm : Nat) (neg : Bool) (m : Nat) (e q : Int) (sticky : Bool) : Nat × Bool :=
  if q ≤ e then
    let v := m * 2 ^ (e - q).toNat
    (if roundsUp rm neg (v % 2 == 1) 0 0 sticky then v + 1 else v, sticky)
  else
    let k := (q - e).toNat
    let v := m / 2 ^ k
    let rest := m % 2 ^ k
    (if roundsUp rm neg (v % 2 == 1) rest (2 ^ (k - 1)) sticky then v + 1 else v, decide (rest ≠ 0) || sticky)

/-- The result of an overflow (R50). -/
def Fmt.overflow (f : Fmt) (rm : Nat) (sat neg : Bool) : Nat :=
  let toMax := !f.ieee || (sat && f == e5m2) || rm == 1 || (rm == 2 && !neg) || (rm == 3 && neg)
  f.signBit neg + (if toMax then f.maxBits else f.infBits)

/-- The exact value (−1)^neg · m · 2^e (a little more in magnitude if `sticky`) rounded once (R50). -/
def Fmt.round (f : Fmt) (rm : Nat) (sat neg : Bool) (m : Nat) (e : Int) (sticky : Bool) : Nat × Flags :=
  if m = 0 then (f.signBit neg, if sticky then flagUF ||| flagNX else 0)
  else
    let top := (m.log2 : Int) + e
    let emin := 1 - (f.bias : Int)
    let q := max top emin - f.mb
    let r := roundAt rm neg m e q sticky
    let v := if r.1 = 2 ^ (f.mb + 1) then 2 ^ f.mb else r.1
    let q' := if r.1 = 2 ^ (f.mb + 1) then q + 1 else q
    let field := if v < 2 ^ f.mb then 0 else (q' + f.mb + f.bias).toNat
    let mag := if v < 2 ^ f.mb then v else field * 2 ^ f.mb + (v - 2 ^ f.mb)
    if f.maxBits < mag then (f.overflow rm sat neg, flagOF ||| flagNX)
    else
      let u := roundAt rm neg m e (top - f.mb) sticky
      let tiny := decide (top < emin) && !(decide (top = emin - 1) && u.1 == 2 ^ (f.mb + 1))
      (f.signBit neg + mag, (if r.2 then flagNX else 0) ||| (if tiny && r.2 then flagUF else 0))

/-- The canonical NaN, NV if any operand is signalling (R42). -/
def Fmt.nan (f : Fmt) (nv : Bool) : Nat × Flags := (f.nanBits, if nv then flagNV else 0)

/-- An infinite result of infinite operands (R50): E4M3 and a saturating E5M2 give the largest finite value with OF. -/
def Fmt.inf (f : Fmt) (sat neg : Bool) : Nat × Flags :=
  if !f.ieee || (sat && f == e5m2) then (f.signBit neg + f.maxBits, flagOF) else (f.signBit neg + f.infBits, 0)

/-- Whether a value is a signalling NaN. -/
def Fp.sig : Fp → Bool
  | .nan b => b
  | _ => false
/-- Whether a value is a NaN. -/
def Fp.isNan : Fp → Bool
  | .nan _ => true
  | _ => false
/-- Whether a value is zero. -/
def Fp.isZero : Fp → Bool
  | .fin _ 0 _ => true
  | _ => false
/-- The sign. -/
def Fp.neg : Fp → Bool
  | .nan _ => false
  | .inf n => n
  | .fin n _ _ => n
/-- The value with its sign changed. -/
def Fp.negate : Fp → Fp
  | .nan b => .nan b
  | .inf n => .inf !n
  | .fin n m e => .fin (!n) m e

/-- A finite value as an integer multiple of 2^e. -/
def scaled (n : Bool) (m : Nat) (e0 e : Int) : Int := (if n then -1 else 1) * ((m * 2 ^ (e0 - e).toNat : Nat) : Int)

/-- The exact sum of two finite values as sign, magnitude and exponent; an exact zero of opposite signs is +0, or −0 under RDN. -/
def addFin (rm : Nat) (n1 : Bool) (m1 : Nat) (e1 : Int) (n2 : Bool) (m2 : Nat) (e2 : Int) : Bool × Nat × Int :=
  let e := min e1 e2
  let c := scaled n1 m1 e1 e + scaled n2 m2 e2 e
  if c = 0 then (if n1 = n2 then n1 else rm == 2, 0, e) else (decide (c < 0), c.natAbs, e)

/-- a + b (R42, R172). -/
def Fmt.add (f : Fmt) (rm : Nat) (sat : Bool) (a b : Fp) : Nat × Flags :=
  match a, b with
  | .nan s, y => f.nan (s || y.sig)
  | x, .nan s => f.nan (s || x.sig)
  | .inf n, .inf k => if n = k then f.inf sat n else f.nan true
  | .inf n, _ => f.inf sat n
  | _, .inf n => f.inf sat n
  | .fin n1 m1 e1, .fin n2 m2 e2 =>
    let r := addFin rm n1 m1 e1 n2 m2 e2
    f.round rm sat r.1 r.2.1 r.2.2 false

/-- The exact product, or the NaN or infinity it is; the flag says 0·∞. -/
def mulFp (a b : Fp) : Fp × Bool :=
  match a, b with
  | .nan s, y => (.nan (s || y.sig), false)
  | x, .nan s => (.nan (s || x.sig), false)
  | .inf n, y => if y.isZero then (.nan false, true) else (.inf (n != y.neg), false)
  | x, .inf n => if x.isZero then (.nan false, true) else (.inf (n != x.neg), false)
  | .fin n1 m1 e1, .fin n2 m2 e2 => (.fin (n1 != n2) (m1 * m2) (e1 + e2), false)

/-- a · b. -/
def Fmt.mul (f : Fmt) (rm : Nat) (sat : Bool) (a b : Fp) : Nat × Flags :=
  match mulFp a b with
  | (.nan s, nv) => f.nan (s || nv)
  | (.inf n, _) => f.inf sat n
  | (.fin n m e, _) => f.round rm sat n m e false

/-- d + a·b, rounded once; 0·∞ sets NV even beside a quiet NaN (R42). -/
def Fmt.fma (f : Fmt) (rm : Nat) (sat : Bool) (d a b : Fp) : Nat × Flags :=
  match mulFp a b with
  | (.nan s, nv) => f.nan (s || nv || d.sig)
  | (p, _) => f.add rm sat d p

/-- a / b (R172). -/
def Fmt.div (f : Fmt) (rm : Nat) (sat : Bool) (a b : Fp) : Nat × Flags :=
  match a, b with
  | .nan s, y => f.nan (s || y.sig)
  | x, .nan s => f.nan (s || x.sig)
  | .inf _, .inf _ => f.nan true
  | .inf n, y => f.inf sat (n != y.neg)
  | x, .inf n => (f.signBit (n != x.neg), 0)
  | .fin n1 m1 e1, .fin n2 m2 e2 =>
    if m2 = 0 then if m1 = 0 then f.nan true else ((f.inf sat (n1 != n2)).1, flagDZ)
    else
      let k := 2 * f.mb + 8 + m2.log2
      f.round rm sat (n1 != n2) (m1 * 2 ^ k / m2) (e1 - e2 - k) (m1 * 2 ^ k % m2 != 0)

/-- The integer square root by its bits from `k` down. -/
def isqrtFrom (n : Nat) : Nat → Nat → Nat
  | 0, r => r
  | k + 1, r =>
    let c := r + 2 ^ k
    isqrtFrom n k (if c * c ≤ n then c else r)
/-- The integer square root. -/
def isqrt (n : Nat) : Nat := isqrtFrom n (n.log2 / 2 + 1) 0

/-- √a (R172). -/
def Fmt.sqrt (f : Fmt) (rm : Nat) (sat : Bool) (a : Fp) : Nat × Flags :=
  match a with
  | .nan s => f.nan s
  | .inf true => f.nan true
  | .inf false => f.inf sat false
  | .fin n m e =>
    if m = 0 then (f.signBit n, 0)
    else if n then f.nan true
    else
      let k := 2 * f.mb + 8
      let odd := e % 2 != 0
      let m' := (if odd then 2 * m else m) * 2 ^ (2 * k)
      let e' := (if odd then e - 1 else e) / 2 - k
      let r := isqrt m'
      f.round rm sat false r e' (r * r != m')

/-- ln 2 scaled by 2^320. -/
def ln2Scaled : Nat := 1480553391661173448385607439722553250922680800745876974795605978609098082859138712941075737848984

/-- The Taylor sum of e^r − 1 from its n-th term `t`, scaled by 2^320. -/
def expSum (r : Nat) : Nat → Nat → Nat → Nat
  | 0, _, _ => 0
  | k + 1, n, t =>
    let t' := t * r / 2 ^ 320 / n
    t' + expSum r k (n + 1) t'

/-- e^a of a finite non-zero value: m·2^e to more than 250 bits, never exact (log 7). -/
def expApprox (neg : Bool) (m : Nat) (e : Int) : Nat × Int :=
  let x : Nat := if 0 ≤ e + 320 then m * 2 ^ (e + 320).toNat else m / 2 ^ (-(e + 320)).toNat
  let xi : Int := if neg then -(x : Int) else x
  let k : Int := xi / (ln2Scaled : Int)
  let r : Nat := (xi - k * ln2Scaled).toNat
  (2 ^ 320 + expSum r 90 1 (2 ^ 320), k - 320)

/-- e^a, one RNE rounding (R174); far outside the range the overflow or underflow is decided by size alone. -/
def Fmt.exp (f : Fmt) (a : Fp) : Nat × Flags :=
  match a with
  | .nan s => f.nan s
  | .inf true => (0, 0)
  | .inf false => (f.infBits, 0)
  | .fin n m e =>
    if m = 0 then (f.bias * 2 ^ f.mb, 0)
    else if (m.log2 : Int) + e ≥ 8 then
      if n then (0, flagUF ||| flagNX) else (f.infBits, flagOF ||| flagNX)
    else
      let r := expApprox n m e
      f.round 0 false false r.1 r.2 true

/-- Comparison of two values that are no NaNs: −1, 0 or 1; −0 equals +0 (R178). -/
def cmpFp (a b : Fp) : Int :=
  match a, b with
  | .inf n, .inf k => if n = k then 0 else if n then -1 else 1
  | .inf n, _ => if n then -1 else 1
  | _, .inf n => if n then 1 else -1
  | .fin n1 m1 e1, .fin n2 m2 e2 =>
    let e := min e1 e2
    let x := scaled n1 m1 e1 e
    let y := scaled n2 m2 e2 e
    if x < y then -1 else if y < x then 1 else 0
  | _, _ => 0

/-- Minimum or maximum of two bit patterns (R172): −0 below +0; a single NaN gives the other operand. -/
def Fmt.minMax (f : Fmt) (isMax : Bool) (x y : Nat) : Nat × Flags :=
  let a := f.decode x
  let b := f.decode y
  let fl : Flags := if a.sig || b.sig then flagNV else 0
  match a.isNan, b.isNan with
  | true, true => (f.nanBits, fl)
  | true, false => (y, fl)
  | false, true => (x, fl)
  | false, false =>
    let c := cmpFp a b
    let aLess := decide (c < 0) || (c == 0 && a.neg && !b.neg)
    (if aLess != isMax then x else y, fl)

/-- The softmax helper sexp(a, b) on FP32 bit patterns (R175), with the flags of its roundings. -/
def sexp (a b : Nat) : Nat × Flags :=
  let x := fp32.decode a
  let y := fp32.decode b
  match x with
  | .inf true => (0, 0)
  | _ =>
    if cmpFp x y = 0 then (127 * 2 ^ 23, 0)
    else
      let d := fp32.add 0 false x y.negate
      let r := fp32.exp (fp32.decode d.1)
      (r.1, d.2 ||| r.2)

end Sys2Proof.Machine
end

