-- ==== Sys2Proof/Machine/Inbox.lean ====
section
/-! DEFINITION. Packets at a core: the inbox, the overflow heap, channels and held register writes (R112, R113, R116, R241 to
R245). -/

namespace Sys2Proof.Machine

/-- A channel entry as a vector register's value (R40, R115). -/
def Packet.entryWord (p : Packet) : VWord := BitVec.ofNat 1024 (leNat p.entry)

/-- How many inbox entries a packet takes (R241). -/
def Packet.entries (p : Packet) : Nat := if p.payload.length ≤ 48 then 1 else 2

/-- Free entries of an inbox of 64 (R244). -/
def Core.free (c : Core) : Nat := 64 - (c.inbox.map (·.entries)).sum

/-- Whether the overflow heap is in use and has a free slot (R245). -/
def Core.heapRoom (c : Core) : Bool :=
  c.niovf.getLsbD 63 && decide (c.heap.length < 2 ^ (c.niovf.extractLsb' 56 5).toNat)

/-- The value that a held register write carries. -/
def Packet.value (p : Packet) : Word := word (leNat (p.payload.take 8))

/-- The card that holds a tag of a core. -/
def State.tagHolder (s : State) (core tag : Nat) : Option Nat := afind (s.core core).tags tag

/-- The thread set that runs a card on a core. -/
def State.runs (s : State) (core card : Nat) : Option Nat :=
  (tidsOf core).find? fun tid => match (s.thread tid).card with
    | some c => c.id == card
    | none => false

/-- The tag that a card holds on a core. -/
def State.tagOf (s : State) (core card : Nat) : Option Nat := ((s.core core).tags.find? fun p => p.2 == card).map (·.1)

/-- Whether a packet that goes before `p` is still held (R113, R116): any older one of its tag in the heap; in the inbox register writes for
one register keep their order, and other packets of a tag keep theirs. -/
def Core.olderHeld (c : Core) (p : Packet) : Bool :=
  let older (q : Packet) : Bool := q.kind != 0 && q.tag == p.tag && decide (q.arr < p.arr)
  c.heap.any older || c.inbox.any fun q => older q && (if p.kind = 2 then q.kind == 2 && q.reg == p.reg else q.kind != 2)

/-- Delivers a packet to the running holder of its tag, if it can take it now (R113, R116). -/
def State.deliverTo (s : State) (tid : Nat) (p : Packet) : Option State :=
  let t := s.thread tid
  match t.card with
  | none => none
  | some c =>
    if p.kind = 2 then
      if t.pres.getLsbD p.reg then none
      else some (s.setThread tid
        { t.wx (BitVec.ofNat 5 (24 + p.reg)) p.value with pres := t.pres ||| ((1 : BitVec 8) <<< p.reg), landed := t.landed ++ [p] })
    else
      let n := c.chan.toNat
      let l := aget [] t.chans n
      if 4 ≤ l.length then none else some (s.setThread tid { t with chans := aput t.chans n (l ++ [p]) })

/-- One pass over held packets of a tag: each that can be delivered now leaves the inbox (R113, R244). -/
def State.pumpFrom (s : State) (core tid tag : Nat) : List Packet → State
  | [] => s
  | p :: rest =>
    let s' := if p.kind != 0 && p.tag == tag && !(s.core core).olderHeld p then
        match s.deliverTo tid p with
        | some u => u.modCore core fun c => { c with inbox := c.inbox.filter fun q => q.id != p.id }
        | none => s
      else s
    s'.pumpFrom core tid tag rest

/-- Moves held packets of the tag of the card that a thread set runs to its channel and registers, in arrival order. -/
def State.pump (s : State) (tid : Nat) : State :=
  let core := coreOf tid
  match (s.thread tid).card.bind fun c => s.tagOf core c.id with
  | some tag => s.pumpFrom core tid tag (s.core core).inbox
  | none => s

/-- Wakes the sleeping holder of a tag: it is pushed to the bottom of its core's deque (R112); with a full deque it stays asleep and
its push is tried again. -/
def State.wake (s : State) (core card : Nat) : State :=
  match (s.core core).asleep.find? fun c => c.id == card with
  | none => s
  | some c =>
    match s.pushDeque core c with
    | some s' => s'.modCore core fun k => { k with asleep := k.asleep.filter fun x => x.id != card }
    | none => s

/-- Slots of a core's overflow heap (R245). -/
def Core.heapSize (c : Core) : Nat := 2 ^ (c.niovf.extractLsb' 56 5).toNat

/-- The local address of a slot of a core's overflow heap (R245). -/
def Core.heapSlot (c : Core) (i : Nat) : Nat := (c.niovf.extractLsb' 16 24).toNat * 2 ^ 16 + 128 * (i % c.heapSize)

/-- The first slot from `i` on, around the ring, that no packet is in. -/
def Core.freeSlot (c : Core) : Nat → Nat → Nat
  | 0, i => i % c.heapSize
  | n + 1, i => if c.heap.any fun p => p.slot == i % c.heapSize then c.freeSlot n (i + 1) else i % c.heapSize

/-- The poisoned bytes of a packet carry their mark to where its 16 bytes of header lie at a local address (R271). -/
def State.markBad (s : State) (a : Nat) (p : Packet) : State := { s with poison := s.poison ++ p.bad.map fun i => a + 16 + i }
/-- A packet as bytes from a local address on hold it, with their marks (R241, R271). -/
def State.unspill (s : State) (p : Packet) (a n : Nat) : Packet :=
  let q := p.reread (s.readBytes a n)
  { q with bad := (List.range q.payload.length).filter fun i => s.isPoisoned (a + 16 + i) 1 }

/-- Writes a packet into a free slot of a core's heap (R245), unless a locket refuses the write (R160); the packet with its slot. -/
def State.slotIn (s : State) (core : Nat) (p : Packet) : State × Packet :=
  let c := s.core core
  let i := c.freeSlot c.heap.length c.heapNext
  let a := c.heapSlot i
  let s := s.setCore core { c with heapNext := (i + 1) % c.heapSize }
  (if s.inLocket a 128 then s else (s.store (.unit_ (dieOf core)) a p.entry).markBad a p, { p with slot := i })

/-- A packet as its slot holds it (R245). -/
def State.slotOut (s : State) (core : Nat) (p : Packet) : Packet :=
  { s.unspill p ((s.core core).heapSlot p.slot) 128 with slot := 0 }

/-- Appends a packet to a core's heap. -/
def State.heapAppend (s : State) (core : Nat) (p : Packet) : State :=
  let r := s.slotIn core p
  r.1.modCore core fun c => { c with heap := c.heap ++ [r.2] }

/-- Puts packets ahead of those in a core's heap, in their own order (R113, R245). -/
def State.heapFront (s : State) (core : Nat) : List Packet → State
  | [] => s
  | p :: l =>
    let r := (s.heapFront core l).slotIn core p
    r.1.modCore core fun c => { c with heap := r.2 :: c.heap }

/-- Puts a packet into the inbox, or on the heap when it does not fit or the heap is not empty; `none` when neither takes it
(R244, R245). -/
def State.hold (s : State) (core : Nat) (p : Packet) : Option State :=
  let c := s.core core
  if c.heap.isEmpty && decide (p.entries ≤ c.free) then some (s.setCore core { c with inbox := c.inbox ++ [p] })
  else if c.heapRoom then some (s.heapAppend core p)
  else none

/-- A packet arrives at a core's NI (R243, R116); `none` when it is not accepted. -/
def State.arrive (s : State) (core : Nat) (p0 : Packet) : Option State :=
  let p := { p0 with arr := s.nextId }
  let s := { s with nextId := s.nextId + 1 }
  if p.kind = 0 then s.hold core p
  else
    match s.tagHolder core p.tag with
    | none => s.hold core p
    | some card =>
      match s.runs core card with
      | none => (s.hold core p).map fun s => s.wake core card
      | some tid =>
        let now := if (s.core core).olderHeld p then none else s.deliverTo tid p
        match now with
        | some s => some s
        | none => s.hold core p

/-- The tag of a register write that was delivered for a tag since released: it returns to no inbox (log 54). -/
def noTag : Nat := 64

/-- The packets that a suspension gives back: unread channel entries and register writes not taken, in arrival order (R113). -/
def Thread.unread (t : Thread) : List Packet :=
  (t.chans.flatMap (·.2) ++ t.landed.filter fun p => p.tag != noTag).mergeSort fun a b => decide (a.arr ≤ b.arr)

/-- How many of the packets the inbox takes back. -/
def fitting : Nat → List Packet → Nat
  | _, [] => 0
  | free, p :: r => if p.entries ≤ free then 1 + fitting (free - p.entries) r else 0

/-- Whether inbox and heap together can take packets back (R113). -/
def Core.takesBack (c : Core) (l : List Packet) : Bool :=
  let rest := (l.drop (fitting c.free l)).length
  rest == 0 || (c.niovf.getLsbD 63 && decide (c.heap.length + rest ≤ 2 ^ (c.niovf.extractLsb' 56 5).toNat))

/-- Gives back what the card has not read (R113): to the inbox ahead of later arrivals, the remainder to the front of the heap. -/
def State.giveBack (s : State) (tid : Nat) : State :=
  let l := (s.thread tid).unread
  let s := s.modThread tid fun t => { t with chans := [], landed := [], pres := 0 }
  let core := coreOf tid
  let k := fitting (s.core core).free l
  let rest := l.drop k
  let s := s.modCore core fun c => { c with inbox := (c.inbox ++ l.take k).mergeSort (fun a b => decide (a.arr ≤ b.arr)) }
  s.heapFront core rest

end Sys2Proof.Machine
end

