-- ==== Sys2Proof/Machine/Evict.lean ====
section
/-! DEFINITION. The eviction of an allocation once every running card of it has checkpointed (R145, R147, R148, R233). -/

namespace Sys2Proof.Machine

/-- The allocation of a group on a core (R89). -/
def Core.allocOf (c : Core) (slot : Nat) : Option Alloc := c.allocs.find? fun a => a.slot == slot

/-- Whether a card belongs to the group of a slot (R88). -/
def Card.inGroup (c : Card) (slot : Nat) : Bool := c.seat.isSome && c.group == slot

/-- The thread sets of a core that run cards of an allocation (R145). -/
def State.allocTids (s : State) (core slot : Nat) : List Nat :=
  (tidsOf core).filter fun tid => match (s.thread tid).card with
    | some c => c.inGroup slot
    | none => false

/-- An FP pair (s, c) as round_fp32(s + c) with c = 0 (R148). -/
def collapse (w : Word) : Word :=
  BitVec.ofNat 64 (fp32.add 0 false (fp32.decode (w.toNat % 2 ^ 32)) (fp32.decode (w.toNat / 2 ^ 32))).1

/-- A slot as an image keeps it (R148, R233): each FP pair collapsed, integer cells exactly. -/
def Accum.spill (a : Accum) : Accum :=
  match a.kind with
  | .fp => { a with cells := a.cells.map collapse }
  | _ => a

/-- The eviction pool of a die (R381): EVPOOL's V and base. -/
def Die.pool (d : Die) : Option Nat :=
  if d.evpool.getLsbD 63 then some ((d.evpool.extractLsb' 26 26).toNat * 2 ^ 26 % 2 ^ 40) else none

/-- The image of an allocation: the recorded ranges, the rings, slots, landing slots and queued operations of its ASID, and its cards. -/
def State.image (s : State) (core : Nat) (a : Alloc) (id : Nat) (gang : Bool) : Eviction :=
  let c := s.core core
  let cards := (c.stopped.filter fun v => v.card.inGroup a.slot).map fun (v : Saved) =>
    let t := s.thread v.tid
    if t.mcard = some v.card.id then { v with mflags := t.mflags } else v
  { id := id, core := core, alloc := { a with evicting := false },
    bytes := cards.flatMap fun v => v.ranges.map fun r => (r.1, s.readBytes (spadBase core + r.1) r.2),
    rings := c.rings.filter fun p => p.2.owner == a.asid,
    accs := (c.accs.filter fun p => p.2.owner == some a.asid).map fun p => (p.1, p.2.spill),
    lands := c.lands.filter fun p => p.2.owner == some a.asid,
    mq := c.mq.filter fun o => o.asid == a.asid,
    cards := cards,
    ready := c.deque.filter (·.inGroup a.slot),
    gang := gang }

/-- What an eviction leaves on its core (R147): nothing of the allocation. -/
def Core.giveUp (c : Core) (a : Alloc) : Core :=
  { c with
    allocs := c.allocs.filter fun b => b.slot != a.slot
    rings := c.rings.filter fun p => p.2.owner != a.asid
    accs := c.accs.filter fun p => p.2.owner != some a.asid
    lands := c.lands.filter fun p => p.2.owner != some a.asid
    mq := c.mq.filter fun o => o.asid != a.asid
    stopped := c.stopped.filter fun v => !v.card.inGroup a.slot
    deque := c.deque.filter fun k => !k.inGroup a.slot }

/-- Saves an allocation to its image and frees it (R147); with `gang` it is one of a row's that are evicted together (R233).  Where the image's bytes lie in the pool is not given (log 2). -/
def State.evictNow (s : State) (core : Nat) (a : Alloc) (gang : Bool) : State :=
  let r := s.newId
  let e := s.image core a r.1 gang
  let s := r.2.modCore core (·.giveUp a)
  let s := { s with evictions := s.evictions ++ [e] }
  match (s.die (dieOf core)).pool with
  | some p => s.blur p 0x10000000
  | none => s

/-- The request reaches a core: PEND is set in every thread set that runs a card of the allocation, and the deadline counters are
loaded (R145). -/
def State.markEvict (s : State) (core slot : Nat) : State :=
  let s := s.modCore core fun c => { c with allocs := c.allocs.map fun a => if a.slot = slot then { a with evicting := true } else a }
  (s.allocTids core slot).foldl (fun s tid => s.modThread tid fun t => { t with
    ckptab := t.ckptab ||| 2, deadlineAt := s.cycle core + (t.ckptmax.extractLsb' 0 32).toNat }) s

/-- The cores of a core's row. -/
def rowCores (core : Nat) : List Nat := (List.range 8).map fun i => core / 8 * 8 + i

/-- Whether a card of a group's allocation on a core holds gang mode, running or stopped (R224, R233). -/
def State.gangOn (s : State) (core slot : Nat) : Bool :=
  (s.allocTids core slot).any (fun tid => (s.thread tid).gang) || (s.core core).stopped.any fun v => v.gang && v.card.inGroup slot

/-- The eviction asked for of an allocation takes place when no card of it runs any more (R147).  While a card of the row whose allocation is
asked for holds gang mode, the request goes to all eight cores, and all are evicted together when none runs a card of theirs (R233): so
their slices stop at one k. -/
def State.settleSlot (s : State) (core slot : Nat) : State :=
  let asked (s : State) (c : Nat) : Bool := match (s.core c).allocOf slot with
    | some a => a.evicting
    | none => false
  let save (g : Bool) (s : State) (c : Nat) : State := match (s.core c).allocOf slot with
    | some a => s.evictNow c a g
    | none => s
  let row := rowCores core
  if row.any fun c => asked s c && s.gangOn c slot then
    let held := row.filter fun c => ((s.core c).allocOf slot).isSome
    let s := (held.filter fun c => !asked s c).foldl (fun s c => s.markEvict c slot) s
    if held.all fun c => (s.allocTids c slot).isEmpty then held.foldl (save true) s else s
  else (row.filter fun c => asked s c && (s.allocTids c slot).isEmpty).foldl (save false) s

/-- The evictions asked for on a core take place as their cards allow (R147, R233). -/
def State.settleEvict (s : State) (core : Nat) : State :=
  ((s.core core).allocs.filter (·.evicting)).foldl (fun s a => s.settleSlot core a.slot) s

end Sys2Proof.Machine
end

