-- ==== Sys2Proof/Machine/Cards.lean ====
section
/-! DEFINITION. The instructions of cards, barriers and fences (R104 to R129), and the return of outstanding results. -/

namespace Sys2Proof.Machine

/-- A step of an engine: it happens when it is enabled, and is nothing otherwise. -/
def event (s : State) (r : Option State) : Res := .next (r.getD s)

/-- The part runs: the wipe is done, the clock runs and no on-die link has failed (R382, R384, R393). -/
def State.live (s : State) : Bool := s.ready && s.pstate == 0 && !s.halted

/-- The die of the issuing core. -/
def State.myDie (s : State) : Nat := dieOf (coreOf s.cur)
/-- The issuing core. -/
def State.myCore (s : State) : Nat := coreOf s.cur

/-- Whether a PC and a header form a card (R80). -/
def State.cardOk (s : State) (pc hdr : Word) : Bool :=
  pc.extractLsb' 0 2 == 0 && isVa pc && hdr.extractLsb' 7 9 == 0 &&
  (afind s.roots (hdr.extractLsb' 48 16).toNat).isSome && !(hdr.getLsbD 6 && hdr.getLsbD 5)

/-- The words of card bytes (R79). -/
def cardWords (b : List Byte) : List Word := (List.range 8).map fun i => word (leNat ((b.drop (8 * i)).take 8))

/-- A card of an image (R79), ungrouped unless `hdr` says otherwise. -/
def newCard (id : Nat) (w : List Word) (hdr : Word) (home slice time : Nat) : Card :=
  { id := id, pc := w.headD 0, hdr := hdr, hdr0 := hdr, xs := w.drop 2, home := home, slice := slice, entry := none, seat := none,
    copy := none, twin := id, sig := 0, msg := none, since := time, aged := false, chan := 0, deliver := none, ran := false }

/-- Free bytes, as many words as asked for (log 2). -/
def State.freeBytes (s : State) : Nat → State × List Byte
  | 0 => (s, [])
  | n + 1 =>
    let r := s.freeWord
    let q := r.2.freeBytes n
    (q.1, leBytes r.1.toNat 8 ++ q.2)

/-- A read of an aligned block by the issuing thread set, whose stores have drained: its bytes, or the trap or park of a load
(R109).  Another package's bytes are free values, with no route cause 12 (R354); control space gives zeros to such a width (R381). -/
def State.readBlock (s : State) (va : Word) (n : Nat) (k : State → List Byte → State) : State :=
  match s.scalar s.cur va n { r := true } with
  | (s, .fault c) => s.trapHere c va
  | (s, .absent) => s.parkAccess s.cur none s.th.asid va 0
  | (s, .at_ (.mem a) path pa) =>
    if s.portShut s.myCore a || s.behind s.cur path pa n then s
    else if s.isPoisoned a n then s.trapHere 2 va
    else k (s.memRead s.cur path pa n) (s.readBytes a n)
  | (s, .at_ (.ctl _) _ _) => k s (List.replicate n 0)
  | (s, .at_ (.far pa) _ _) =>
    let w := s.route (pa / 2 ^ 40)
    if s.lineOpen s.cur pa then s
    else if !w.1 then w.2.trapHere 12 0xFFFF
    else let r := w.2.freeBytes (n / 8); k r.1 r.2
  | (s, .at_ _ _ _) => s.trapHere 2 va

/-- An outstanding result of the issuing thread set that comes back with a value already decided: rd is pending until
RESULT_RETURN. -/
def State.returnLater (s : State) (kind : OutKind) (rd : BitVec 5) (v : Word) : State :=
  let r := s.newId
  r.2.addOut s.cur { id := r.1, kind := kind, regs := [rd], vals := some [v], acq := none }

/-- CARD.POST (R109, R111): the release, the image, the checks; the push is a step of its own (R110). -/
def execCardPost (rd rs1 rs2 : BitVec 5) (s : State) : Res :=
  plain s [rd, rs1, rs2] fun s =>
    let va := s.rx rs1
    if va.toNat % 64 ≠ 0 then s.trapHere 1 va
    else if !s.released s.cur 2 || s.acquiring s.cur then s
    else (s.publish s.cur 2).readBlock va 64 fun s img =>
      let w := cardWords img
      let hdr := setBits (w.getD 1 0) 32 16 0xFFFF
      let own := s.rx rs2 == BitVec.allOnes 64
      if !own && 255 < (s.rx rs2).toNat then (s.returnLater .card rd 3).retire
      else
        let tgt := if own then s.myCore else s.myDie * 256 + (s.rx rs2).toNat
        let slice := match s.th.card with
          | some c => c.slice
          | none => 0
        if !s.cardOk (w.headD 0) hdr || hdr.extractLsb' 16 16 != 0xFFFF ||
            (!s.th.steward && hdr.extractLsb' 48 16 != s.th.asid) then (s.returnLater .card rd 2).retire
        else
          let r := s.newId
          let q := r.2.newId
          let c := newCard r.1 w hdr tgt slice s.time
          let s := (q.2.releaseCard (.thread s.cur) r.1).addOut s.cur { id := q.1, kind := .card, regs := [rd], vals := none, acq := none }
          State.retire { s with pushes := s.pushes ++ [{ id := q.1, card := c, core := tgt, tid := s.cur, out := q.1 }] }

/-- A suspension may go on: outstanding results are back, earlier accesses performed and released at PKG, and what the card has not
read can be given back (R105, R111, R113, R202). -/
def State.maySuspend (s : State) : Bool :=
  !s.outstanding s.cur && s.released s.cur 2 && (s.core s.myCore).takesBack s.th.unread

/-- Writes the running card back to its core's deque with a resume address; with a full deque it goes on there, its reservation lost all the
same (R16, R106, R107). -/
def State.suspendTo (s : State) (pc : Word) : State :=
  match s.th.card with
  | none => s
  | some c =>
    if !s.maySuspend then s
    else match s.pushDeque s.myCore (s.th.image c pc) with
      | none => ((s.publish s.cur 2).retireTo pc).modTh fun t => { t with resv := none }
      | some _ =>
        let s := ((s.publish s.cur 2).releaseCard (.thread s.cur) c.id).giveBack s.cur
        match s.pushDeque s.myCore (s.th.image c pc) with
        | some s => ((s.retireTo pc).modTh (·.release)).settleEvict s.myCore
        | none => s

/-- CARD.SUSP (R107). -/
def execCardSusp (rs1 : BitVec 5) (s : State) : Res :=
  plain s [rs1] fun s =>
    let a := s.rx rs1
    if a.extractLsb' 0 2 != 0 then s.trapHere 1 a
    else if !isVa a then s.trapHere 2 a
    else s.suspendTo a
/-- CARD.YIELD (R106). -/
def execCardYield (s : State) : Res := plain s [] fun s => s.suspendTo (s.th.pc + 4)
/-- WFI: as CARD.YIELD (R19). -/
def execWfi (s : State) : Res := plain s [] fun s => s.suspendTo (s.th.pc + 4)

/-- Whether packets are held for a tag of a core. -/
def State.hasHeld (s : State) (core tag : Nat) : Bool :=
  ((s.core core).inbox ++ (s.core core).heap).any fun p => p.kind != 0 && p.tag == tag

/-- Binds the running card to a tag and lets it sleep; a packet already held wakes it at once (R112). -/
def State.bindTag (s : State) (c : Card) (tag : Nat) (rd : BitVec 5) (ch : BitVec 3) : State :=
  let core := s.myCore
  let s := s.giveBack s.cur
  let c := { s.th.image c (s.th.pc + 4) with
    hdr := setBits c.hdr 16 16 tag, chan := ch, deliver := some { rd := rd, val := 0 }, home := core, since := s.time, aged := false }
  let s := s.modCore core fun k => { k with tags := aput k.tags tag c.id, asleep := k.asleep ++ [c] }
  let s := (s.retire.modTh (·.release)).settleEvict core
  if s.hasHeld core tag then s.wake core c.id else s

/-- CARD.BIND (R112, R113): releasing the tag discards what it holds; a register write already delivered stays there for PTAKE, and returns
to no inbox (log 54). -/
def execCardBind (rd rs1 rs2 : BitVec 5) (s : State) : Res :=
  plain s [rd, rs1, rs2] fun s =>
    match s.th.card with
    | none => s
    | some c =>
      let core := s.myCore
      let a := (s.rx rs1).toNat
      if a < 64 then
        match s.tagHolder core a, s.tagOf core c.id with
        | some k, _ =>
          if k ≠ c.id then (s.wx rd 1).retire
          else if s.maySuspend then s.bindTag c a rd ((s.rx rs2).extractLsb' 0 3) else s
        | none, some _ => (s.wx rd 4).retire
        | none, none => if s.maySuspend then s.bindTag c a rd ((s.rx rs2).extractLsb' 0 3) else s
      else if a = 0xFFFF then
        let s := s.releaseTag core c.id
        ((s.modTh fun t => { t with
          card := some { c with hdr := setBits c.hdr 16 16 0xFFFF }, chans := []
          landed := t.landed.map fun p => { p with tag := noTag } }).wx rd 3).retire
      else (s.wx rd 2).retire

/-- The next message identifier of a core (R241), its count advanced. -/
def State.nextMid (s : State) (core : Nat) : BitVec 48 × State :=
  (BitVec.ofNat 12 s.chipno ++ BitVec.ofNat 10 core ++ (s.core core).sent, s.modCore core fun c => { c with sent := c.sent + 1 })

/-- The held commands of a handler go to the network in the order they were issued (R123), each numbered as it is sent (R241). -/
def State.sendHeld (s : State) : List Packet → State
  | [] => s
  | p :: r => let m := s.nextMid s.myCore; State.sendHeld { m.2 with net := s.net ++ [{ p with mid := m.1, free := true }] } r

/-- The held commands of a handler go to the network and its message leaves the inbox (R123, R250). -/
def State.handlerDone (s : State) (c : Card) : State :=
  let s := c.sends.foldl (fun s p => s.carry (.thread s.cur) p.rel p.id) s
  let s := (s.sendHeld c.sends).modTh fun t => { t with card := t.card.map fun k => { k with sends := [], hdone := true } }
  match c.msg with
  | some m => s.modCore s.myCore fun k => { k with inbox := k.inbox.filter fun p => p.id != m.id }
  | none => s

/-- HDONE may go on: outstanding results are back, and each held command's release may be made (R123, R250). -/
def State.mayHdone (s : State) (c : Card) : Bool :=
  !s.outstanding s.cur && c.sends.all fun p => match p.rel with
    | some sc => s.released s.cur sc
    | none => true

/-- Whether a held command releases at SYS scope (R123, R250). -/
def Card.sendsSys (c : Card) : Bool := c.sends.any fun p => p.rel == some 3

/-- HDONE (R123). -/
def execHdone (s : State) : Res :=
  plain s [] fun s =>
    match s.th.card with
    | none => s
    | some c =>
      if !c.handler || c.hdone then s.illegal
      else
        let s := s.setMark
        if s.mayHdone c then
          let s := if c.sendsSys then s.sysDone s.cur 3 else s
          (s.handlerDone c).retire
        else s

/-- DUALSIG (R101, R122). -/
def execDualsig (rs1 : BitVec 5) (s : State) : Res :=
  plain s [rs1] fun s =>
    let v := s.rx rs1
    (s.modTh fun t => { t with card := t.card.map fun c =>
      if c.dual then { c with sig := c.sig.rotateLeft 1 ^^^ v } else c }).retire

/-- CARD.PRIO (R119). -/
def execCardPrio (rd rs1 : BitVec 5) (s : State) : Res :=
  plain s [rd, rs1] fun s =>
    let n := min (s.rx rs1).toNat 3
    match s.th.card with
    | none => s
    | some c => ((s.modTh fun t => { t with card := some { c with hdr := setBits c.hdr 0 2 n } }).wx rd (word c.cls)).retire

/-- Where a card may run, measured from a core (R79): 0 core, 1 row, 2 die, 3 package. -/
def affAdmits (aff base core : Nat) : Bool :=
  match aff with
  | 0 => base == core
  | 1 => rowOf base == rowOf core
  | 2 => dieOf base == dieOf core
  | _ => true

/-- An entry a thief may take from a deque (R89, R97, R101, R112). -/
def State.stealable (s : State) (victim thief : Nat) (c : Card) : Bool :=
  affAdmits c.aff victim thief && c.seat.isNone && c.copy.isNone && (s.tagOf victim c.id).isNone

/-- The class of a card with ageing (R95). -/
def Card.agedClass (c : Card) : Nat := if c.aged then 3 else c.cls

/-- The first entry of a list, from its head, with the highest class. -/
def topOf : List Card → Option Card
  | [] => none
  | c :: r => match topOf r with
    | some d => if c.agedClass < d.agedClass then some d else some c
    | none => some c

/-- The entry that a thief takes from a victim's deque: nearest the top among those of the highest effective class (R97). -/
def State.stealFrom (s : State) (victim thief : Nat) : Option Card :=
  topOf ((s.core victim).deque.filter (s.stealable victim thief))

/-- Takes an entry out of a deque. -/
def State.takeFrom (s : State) (core id : Nat) : State :=
  s.modCore core fun k => { k with deque := k.deque.filter fun c => c.id != id }

/-- The selected value of CARD.SELF (R121). -/
def State.selfValue (s : State) (c : Card) (n : Nat) : Word :=
  match n with
  | 0 => c.hdr
  | 1 => truth (c.copy == some true)
  | 2 => word s.myCore ||| (word (s.cur % 4) <<< 16)
  | 3 => if c.slice = 0 then 0 else word (s.th.sliceAt - s.cycle s.myCore)
  | 4 => word (c.home % 256)
  | _ => 0

/-- CARD.SELF (R121). -/
def execCardSelf (rd rs1 : BitVec 5) (s : State) : Res :=
  plain s [rd, rs1] fun s =>
    match s.th.card with
    | none => s
    | some c => (s.wx rd (s.selfValue c (s.rx rs1).toNat)).retire

/-- PTAKE (R117, R118). -/
def execPtake (rd : BitVec 5) (n : BitVec 3) (s : State) : Res :=
  let r : BitVec 5 := (3#2) ++ n
  plain s [rd, r] fun s =>
    if !s.th.pres.getLsbD n.toNat then s
    else
      let rel := (s.th.landed.find? fun p => p.reg == n.toNat).bind fun p => p.rel.map fun sc => (sc, p.id)
      let v := s.rx r
      let s := s.modTh fun t => { t with
        pres := t.pres &&& ~~~((1 : BitVec 8) <<< n.toNat), landed := t.landed.filter fun p => p.reg != n.toNat }
      let s := (s.wx rd v).pump s.cur
      (match rel with
        | some r => s.acquireFrom (.thread s.cur) r.1 r.2
        | none => s).retire

/-- A release passes while an acquire of the thread set is pending: what that receives is released too (R377). -/
def Thread.passed (t : Thread) (sc : BitVec 2) : Thread :=
  if t.outs.any (·.acq.isSome) then { t with lateRel := some (match t.lateRel with
    | some r => if r < sc then sc else r
    | none => sc) }
  else t

/-- SCFENCE (R128): semantics and scope from x[rs2]; it waits for no outstanding result.  A release covers stores that the thread set has read
before they were performed; with both semantics it waits for the store buffer as FENCE does (R17, R75). -/
def execScfence (rs2 : BitVec 5) (s : State) : Res :=
  plain s [rs2] fun s =>
    let v := s.rx rs2
    let s := s.setMark
    let sc := v.extractLsb' 2 2
    if v.getLsbD 1 && (!s.released s.cur sc || !s.readsPerformed s.cur) then s
    else if v.extractLsb' 0 2 == 3 && (s.core s.myCore).sb.any (fun e => decide (e.id < s.mark)) then s
    else
      let s := if v.getLsbD 1 then ((s.publish s.cur sc).modTh (·.passed sc)).sysDone s.cur sc else s
      (if v.getLsbD 0 then s.acquire s.cur sc else s).retire

/-- LBFENCE (R66, R129, R201): the thread set's own-window and loop-back accesses have been performed, and nothing read early through one of
the two paths is returned any more. -/
def execLbfence (s : State) : Res :=
  plain s [] fun s =>
    if (s.core s.myCore).sb.any (fun e => e.tid == s.cur && e.path != .plain) || s.seqAccesses s.cur || s.loopLane s.cur then s
    else (s.modTh fun t => { t with early := t.early.filter fun e => e.path == .plain }).retire

/-- The seat that a thread set holds in a group. -/
def Group.seatOf (g : Group) (tid : Nat) : Option Seat := g.seats.find? fun x => x.tid == tid

/-- The number of a seat's subgroup at a level: core group, row group, die group or the whole group (R85, R124). -/
def Group.sub (g : Group) (level : Nat) (x : Seat) : Nat :=
  match level with
  | 1 => (x.dg * (g.rgd + 1) + x.rg) * (g.cgr + 1) + x.cg
  | 2 => x.dg * (g.rgd + 1) + x.rg
  | 3 => x.dg
  | _ => 0

/-- Whether a seat's card has arrived at an instance, or has exited (R108, R124). -/
def State.arrived (s : State) (w : BarWait) (x : Seat) : Bool := x.done || (s.thread x.tid).bar == some w

/-- Whether every card of an instance has arrived or exited (R124). -/
def State.barReady (s : State) (w : BarWait) : Bool :=
  match afind s.groups w.slot with
  | none => false
  | some g => (g.seats.filter fun x => g.sub w.level x == w.sub).all (s.arrived w)

/-- The scope of a barrier (R126). -/
def barScope : Nat → BitVec 2
  | 1 => 0
  | 2 => 1
  | 3 => 1
  | _ => 3

/-- An instance completes: each waiting card acquires at the barrier's scope and goes on at the next instruction (R124, R126). -/
def State.completeBarrier (s : State) (w : BarWait) : State :=
  let on := s.threads.map fun p =>
    if p.2.bar = some w then (p.1, { p.2.retireTo (p.2.pc + 4) with bar := none }) else p
  let here := (s.threads.filter fun p => p.2.bar == some w).map (·.1)
  let others := w.level == 4 && (afind s.groups w.slot).any fun g => g.pkgs != 0
  let member (p : Party) : Bool := match p with
    | .thread tid => here.contains tid
    | .outside n => others && n != 4097
    | _ => false
  here.foldl (fun s tid => s.receive (.thread tid) member) { s with threads := on }

/-- The core-group instances of a group that are complete end (R124). -/
def State.settleCore (s : State) (slot : Nat) : State :=
  s.threads.foldl (fun s p =>
    match p.2.bar with
    | some w => if w.slot = slot ∧ w.level = 1 ∧ s.barReady w then s.completeBarrier w else s
    | none => s) s

/-- Whether an instance of a row's clasp is open for gang operations (R225): once it has closed, its operations may stand at a k boundary. -/
def State.gangOpen (s : State) (slot sub : Nat) : Bool :=
  s.cores.any fun p => p.2.mq.any fun o => o.arrived && o.k == 0 && o.gang == some (slot, sub)

/-- Whether a gang operation of a thread set has not yet passed the clasp (R225). -/
def State.gangQueued (s : State) (tid : Nat) : Bool := (s.core (coreOf tid)).mq.any fun o => o.tid == tid && o.gang.isSome

/-- A barrier at a level (R124, R126): the wait for outstanding results, the release, the arrival. -/
def State.barrier (s : State) (level : Nat) : State :=
  match s.th.card with
  | none => s
  | some c =>
    match (afind s.groups c.group).bind fun g => (g.seatOf s.cur).map fun x => (g, x) with
    | none => s.illegal
    | some (g, x) =>
      if g.level < level || c.seat.isNone then s.illegal
      else if s.th.bar.isSome then s
      else
        let s := s.setMark
        if s.outstanding s.cur || !s.released s.cur (barScope level) || (level == 2 && s.th.gang && s.gangQueued s.cur) then s
        else if level == 2 && s.gangOpen c.group (g.sub 2 x) then s.trapHere 7 8
        else
          let w : BarWait := { slot := c.group, level := level, sub := g.sub level x }
          let s := (s.modTh fun t => { t with bar := some w }).publish s.cur (barScope level)
          let s := s.sysDone s.cur (barScope level)
          if level = 1 && s.barReady w then s.completeBarrier w else s

/-- BAR.CORE (R124). -/
def execBarCore (s : State) : Res := plain s [] fun s => s.barrier 1
/-- BAR.ROW (R124, R125). -/
def execBarRow (s : State) : Res := plain s [] fun s => s.barrier 2
/-- BAR.DIE (R124). -/
def execBarDie (s : State) : Res := plain s [] fun s => s.barrier 3
/-- BAR.POD (R124). -/
def execBarPod (s : State) : Res := plain s [] fun s => s.barrier 4

/-- Some thread set waits at an instance. -/
def State.waitsAt (s : State) (w : BarWait) : Bool := s.threads.any fun p => p.2.bar == some w

/-- ROW_CLASP_CLOSE (R125): the last arrival of a row group closes the clasp. -/
def State.rowClasp (s : State) (slot sub : Nat) : Option State :=
  let w : BarWait := { slot := slot, level := 2, sub := sub }
  if s.waitsAt w && s.barReady w then some (s.completeBarrier w) else none
def execRowClaspClose (slot sub : Nat) (s : State) : Res := event s (s.rowClasp slot sub)

/-- BARRIER_COMPLETE (R124, R125): a BAR.DIE or BAR.POD counter completes.  Other packages' shares of a pod group arrive when the
agenda says so (log 1). -/
def State.barrierDone (s : State) (slot level sub : Nat) : Option State :=
  let w : BarWait := { slot := slot, level := level, sub := sub }
  if 3 ≤ level && s.waitsAt w && s.barReady w then some (s.completeBarrier w) else none
def execBarrierComplete (slot level sub : Nat) (s : State) : Res := event s (s.barrierDone slot level sub)

/-- Ends the running card of the issuing thread set (R94, R108). -/
def State.exitCard (s : State) (c : Card) : State :=
  let slot := c.group
  let s := (s.releaseTag s.myCore c.id).retire
  let s := (s.modTh (·.release)).endCard c true false
  let s := (s.modTh fun t => { t with chans := [], landed := [], pres := 0 }).settleEvict s.myCore
  if c.seat.isSome then s.settleCore slot else s

/-- CARD.EXIT (R94, R108): outstanding results first, a handler's HDONE, and the release at SYS of a host entry's card, which cause 12 at
this instruction tells of a lost posted write (R375). -/
def execCardExit (s : State) : Res :=
  plain s [] fun s =>
    match s.th.card with
    | none => s
    | some c =>
      let s := s.setMark
      let open_ := c.handler && !c.hdone
      if s.outstanding s.cur || (c.entry.isSome && !s.released s.cur 3) || !s.mayHdone c then s
      else match s.th.lost with
      | some l =>
        if c.entry.isSome || (open_ && c.sendsSys) then (s.modTh fun t => { t with lost := none }).trapHere 12 (word l)
        else if open_ then (s.handlerDone c).exitCard c else s.exitCard c
      | none =>
        let s := if c.entry.isSome then s.publish s.cur 3 else s
        if open_ then (s.handlerDone c).exitCard c else s.exitCard c

/-- Once no acquire of a thread set is pending, what it has received is released as the SCFENCEs that passed meanwhile ask (R377). -/
def State.lateReleased (s : State) (tid : Nat) : State :=
  match (s.thread tid).lateRel with
  | some sc =>
    if (s.thread tid).outs.any (·.acq.isSome) then s
    else
      let r := (s.publish tid sc).newId
      r.2.modThread tid fun t => { t with lateRel := none, relAt := if sc = 3 then some r.1 else t.relAt }
  | none => s

/-- RESULT_RETURN (R32, R34): a result that is back writes its registers and is outstanding no longer; what a gallery atomic has written or read
is returned no older (R71). -/
def State.resultReturn (s : State) (tid id : Nat) : Option State :=
  match (s.thread tid).outs.find? fun o => o.id == id && o.vals.isSome with
  | none => none
  | some o =>
    let s := s.modThread tid fun t =>
      let t := (o.regs.zip (o.vals.getD [])).foldl (fun t p => t.wx p.1 p.2) t
      { t with outs := t.outs.filter fun x => x.id != id }
    let s := if o.kind == .gallery then s.answered tid id else s
    some (match o.acq with
      | some sc => (s.acquireFrom (.thread tid) sc id).lateReleased tid
      | none => s)

/-- ENGINE_TRAP_REPORT (R138): the oldest report that no handler goes before is taken at the thread set's boundary. -/
def State.takeReport (s : State) (tid : Nat) : Option State :=
  let t := s.thread tid
  match t.reports.find? fun r => r.hold == 0 with
  | none => none
  | some r =>
    if t.card.isNone then none
    else some ((s.setThread tid { t with reports := t.reports.erase r }).trap tid r.cause r.val t.pc)
def execEngineTrapReport (tid : Nat) (s : State) : Res := event s (s.takeReport tid)

/-- DEQUE_PUSH (R110): a posted card reaches its deque, or a woken card's push is tried again. -/
def State.dequePush (s : State) (id : Nat) : Option State :=
  match s.pushes.find? fun p => p.id == id with
  | some p =>
    let s := { s with pushes := s.pushes.filter fun q => q.id != id }
    match s.pushDeque p.core p.card with
    | some s' => some (s'.giveOut p.tid p.out [0])
    | none => some (s.giveOut p.tid p.out [1])
  | none =>
    match s.cores.find? fun p => p.2.asleep.any fun c => c.id == id with
    | some (core, k) =>
      match s.tagOf core id with
      | some tag => if s.hasHeld core tag && decide (k.deque.length < 256) then some (s.wake core id) else none
      | none => none
    | none => none
def execDequePush (id : Nat) (s : State) : Res := event s (s.dequePush id)

/-- ABORTED_HANDLER_PUSH (R142). -/
def State.abortedPush (s : State) (tid : Nat) : Option State :=
  let t := s.thread tid
  match t.card with
  | some c => if t.aborted && decide ((s.core c.home).deque.length < 256) then some (s.pushAborted tid) else none
  | none => none
def execAbortedHandlerPush (tid : Nat) (s : State) : Res := event s (s.abortedPush tid)

end Sys2Proof.Machine
end

