-- ==== Sys2Proof/Machine/Lanes.lean ====
section
/-! DEFINITION. Lanes of vector registers and the lane operations of the vector unit (R40, R165, R166, R171 to R182, R193, R196). -/

namespace Sys2Proof.Machine

/-- The width of a format code (R39). -/
def codeWidth : Nat → Nat
  | 0 => 32
  | 1 => 16
  | 7 => 16
  | 8 => 32
  | 9 => 64
  | _ => 8

/-- The floating-point format of a code. -/
def codeFmt : Nat → Option Fmt
  | 0 => some fp32
  | 1 => some bf16
  | 2 => some e4m3
  | 3 => some e5m2
  | _ => none

/-- Whether an integer code is signed; UINT8 alone is not (R39). -/
def codeSigned (c : Nat) : Bool := c != 6

/-- Element `i` of width `w` of a register (R40). -/
def lane {n : Nat} (v : BitVec n) (w i : Nat) : Nat := v.toNat / 2 ^ (w * i) % 2 ^ w

/-- The value whose elements of width `w` are `l`, the first the lowest. -/
def joinLanes (w : Nat) : List Nat → Nat
  | [] => 0
  | a :: r => a % 2 ^ w + 2 ^ w * joinLanes w r

/-- A register of elements. -/
def ofLanes (w : Nat) (l : List Nat) : VWord := BitVec.ofNat 1024 (joinLanes w l)

/-- Whether lane `i` of width `w` is active (R165). -/
def active (k : KWord) (w i : Nat) : Bool := k.getLsbD (i * (w / 8))

/-- Each active lane gets a new value, the others keep theirs (R166). -/
def mapLanes (w : Nat) (k : KWord) (old : VWord) (f : Nat → Nat × Flags) : VWord × Flags :=
  let r := (List.range (1024 / w)).map fun i => if active k w i then f i else (lane old w i, 0)
  (ofLanes w (r.map (·.1)), r.foldl (fun a p => a ||| p.2) 0)

/-- A predicate from the truth of each active lane, in all bits of the lane; inactive lanes get 0 (R166). -/
def predLanes (w : Nat) (k : KWord) (f : Nat → Bool) : KWord :=
  BitVec.ofNat 128 (joinLanes (w / 8) ((List.range (1024 / w)).map fun i => if active k w i && f i then 2 ^ (w / 8) - 1 else 0))

/-- The integer an element stands for. -/
def elemInt (code a : Nat) : Int :=
  let w := codeWidth code
  if codeSigned code && 2 ^ (w - 1) ≤ a then (a : Int) - 2 ^ w else a

/-- An integer modulo 2^w (R43). -/
def wrapInt (w : Nat) (x : Int) : Nat := (x % 2 ^ w).toNat

/-- The least and greatest integer of a code. -/
def codeMin (code : Nat) : Int := if codeSigned code then -(2 ^ (codeWidth code - 1)) else 0
def codeMax (code : Nat) : Int := if codeSigned code then 2 ^ (codeWidth code - 1) - 1 else 2 ^ codeWidth code - 1
/-- Clamped to the range of a code (R173). -/
def clampInt (code : Nat) (x : Int) : Int := max (codeMin code) (min (codeMax code) x)

/-- The operations of active lanes on two or three elements (R171). -/
inductive LaneOp where
  | add | sub | mul | fma | min | max | adds | subs | mulh | shl | shr | sra | div
  | abs | neg | sqrt | exp | popc | clz | mov
deriving DecidableEq, Repr

/-- The number of leading zero bits of a value below 2^w. -/
def leadingZeros (w a : Nat) : Nat := if a = 0 then w else w - 1 - a.log2

/-- The number of 1 bits of the low `n` bits. -/
def countOnes (a : Nat) : Nat → Nat
  | 0 => 0
  | n + 1 => a % 2 + countOnes (a / 2) n

/-- A lane operation on floating-point bit patterns (R172, R174). -/
def fpLane (f : Fmt) (op : LaneOp) (rm : Nat) (sat : Bool) (d a b : Nat) : Nat × Flags :=
  let x := f.decode a
  let y := f.decode b
  match op with
  | .add => f.add rm sat x y
  | .sub => f.add rm sat x y.negate
  | .mul => f.mul rm sat x y
  | .fma => f.fma rm sat (f.decode d) x y
  | .min => f.minMax false a b
  | .max => f.minMax true a b
  | .div => f.div rm sat x y
  | .sqrt => f.sqrt rm sat x
  | .exp => f.exp x
  | .abs => (a % 2 ^ (f.width - 1), 0)
  | .neg => (if a < 2 ^ (f.width - 1) then a + 2 ^ (f.width - 1) else a - 2 ^ (f.width - 1), 0)
  | _ => (a, 0)

/-- A lane operation on integers (R173): it sets no flag. -/
def intLane (code : Nat) (op : LaneOp) (d a b : Nat) : Nat :=
  let w := codeWidth code
  let x := elemInt code a
  let y := elemInt code b
  match op with
  | .add => wrapInt w (x + y)
  | .sub => wrapInt w (x - y)
  | .mul => wrapInt w (x * y)
  | .fma => wrapInt w (elemInt code d + x * y)
  | .min => if x < y then a else b
  | .max => if x < y then b else a
  | .adds => wrapInt w (clampInt code (x + y))
  | .subs => wrapInt w (clampInt code (x - y))
  | .mulh => wrapInt w (x * y / 2 ^ w)
  | .shl => a * 2 ^ (b % w) % 2 ^ w
  | .shr => a / 2 ^ (b % w)
  | .sra => wrapInt w (x / 2 ^ (b % w))
  | .abs => wrapInt w (x.natAbs : Nat)
  | .neg => wrapInt w (-x)
  | .popc => countOnes a w
  | .clz => leadingZeros w a
  | _ => a

/-- A lane operation under a format code (R171). -/
def laneOp (code : Nat) (op : LaneOp) (rm : Nat) (sat : Bool) (d a b : Nat) : Nat × Flags :=
  match codeFmt code with
  | some f => fpLane f op rm sat d a b
  | none => (intLane code op d a b, 0)

/-- The comparisons of R178. -/
inductive CmpOp where
  | eq | ne | lt | le | ltu | leu
deriving DecidableEq, Repr

/-- A comparison of two elements with its flags (R178). -/
def compareLane (code : Nat) (op : CmpOp) (a b : Nat) : Bool × Flags :=
  match codeFmt code with
  | some f =>
    let x := f.decode a
    let y := f.decode b
    if x.isNan || y.isNan then
      (op == .ne, if x.sig || y.sig || op == .lt || op == .le then flagNV else 0)
    else
      let c := cmpFp x y
      (match op with
        | .eq => c == 0
        | .ne => c != 0
        | .lt => decide (c < 0)
        | _ => decide (c ≤ 0), 0)
  | none =>
    let x := elemInt code a
    let y := elemInt code b
    (match op with
      | .eq => a == b
      | .ne => a != b
      | .lt => decide (x < y)
      | .le => decide (x ≤ y)
      | .ltu => decide (a < b)
      | .leu => decide (a ≤ b), 0)

/-- Reductions (R182). -/
inductive RedOp where
  | add | min | max
deriving DecidableEq, Repr

/-- The identity of a reduction (R182). -/
def redIdentity (code : Nat) : RedOp → Nat
  | .add => 0
  | .min => match codeFmt code with
    | some f => f.infBits
    | none => wrapInt (codeWidth code) (codeMax code)
  | .max => match codeFmt code with
    | some f => f.signBit true + f.infBits
    | none => wrapInt (codeWidth code) (codeMin code)

/-- One step of a reduction. -/
def redStep (code : Nat) (op : RedOp) (rm : Nat) (a b : Nat) : Nat × Flags :=
  laneOp code (match op with
    | .add => .add
    | .min => .min
    | .max => .max) rm false 0 a b

/-- The reduction of the active lanes in ascending order (R182).  Of one active lane alone that holds a NaN the manual says only that its value is
the result: that the bits are copied, with no flag, is the model's choice (log 75). -/
def reduceLanes (code : Nat) (op : RedOp) (rm : Nat) : List Nat → Nat × Flags
  | [] => (redIdentity code op, 0)
  | a :: r => r.foldl (fun acc b => let q := redStep code op rm acc.1 b; (q.1, acc.2 ||| q.2)) (a, 0)

/-- An element of one code converted to another (R50, R193). -/
def convertLane (src dst rm : Nat) (sat : Bool) (a : Nat) : Nat × Flags :=
  let toInt (neg : Bool) (m : Nat) (e : Int) : Nat × Flags :=
    let r := roundAt rm neg m e 0 false
    let x : Int := if neg then -(r.1 : Int) else r.1
    if x < codeMin dst ∨ codeMax dst < x then (wrapInt (codeWidth dst) (clampInt dst x), flagNV)
    else (wrapInt (codeWidth dst) x, if r.2 then flagNX else 0)
  match codeFmt src, codeFmt dst with
  | some f, some g =>
    match f.decode a with
    | .nan s => if src = dst && !s then (a, 0) else g.nan s
    | .inf n => if src = dst then (a, 0) else g.inf sat n
    | .fin n m e => if src = dst then (a, 0) else g.round rm sat n m e false
  | some f, none =>
    match f.decode a with
    | .nan _ => (0, flagNV)
    | .inf n => (wrapInt (codeWidth dst) (if n then codeMin dst else codeMax dst), flagNV)
    | .fin n m e => toInt n m e
  | none, some g => let x := elemInt src a; g.round rm sat (decide (x < 0)) x.natAbs 0 false
  | none, none =>
    let x := elemInt src a
    if x < codeMin dst ∨ codeMax dst < x then (wrapInt (codeWidth dst) (clampInt dst x), flagNV)
    else (wrapInt (codeWidth dst) x, 0)

/-- VCVT on a whole register (R193). -/
def convertReg (src dst rm : Nat) (sat : Bool) (k : KWord) (old v : VWord) : VWord × Flags :=
  let wm := max (codeWidth src) (codeWidth dst)
  let wd := codeWidth dst
  let r := (List.range (1024 / wm)).map fun i =>
    if active k wm i then convertLane src dst rm sat (lane v (codeWidth src) i) else (lane old wd i, 0)
  (ofLanes wd (r.map (·.1)), r.foldl (fun a p => a ||| p.2) 0)

/-- VMULW (R173): lanes of twice the width, each the product of the elements of its number. -/
def widenMul (code rm : Nat) (k : KWord) (old a b : VWord) : VWord × Flags :=
  let w := codeWidth code
  mapLanes (2 * w) k old fun i =>
    if code = 1 then fp32.mul rm false (bf16.decode (lane a 16 i)) (bf16.decode (lane b 16 i))
    else (wrapInt (2 * w) (elemInt code (lane a w i) * elemInt code (lane b w i)), 0)

/-- The rank of a magnitude for VCOMPRESS (R196): a NaN above every number. -/
def magnitude (code a : Nat) : Nat :=
  match codeFmt code with
  | some f => if (f.decode a).isNan then 2 ^ 64 else a % 2 ^ (f.width - 1)
  | none => (elemInt code a).natAbs

/-- The indices of the `n` largest magnitudes of a group of 32, ties to the lower, ascending (R196). -/
def keepIndices (code n : Nat) (g : List Nat) : List Nat :=
  (List.range 32).filter fun t =>
    let m := magnitude code (g.getD t 0)
    decide (((List.range 32).filter fun u =>
      decide (m < magnitude code (g.getD u 0)) || (magnitude code (g.getD u 0) == m && decide (u < t))).length < n)

/-- A metadata lane: eight ascending 5-bit indices (R196). -/
def packIndices : List Nat → Nat
  | [] => 0
  | a :: r => a + 32 * packIndices r

/-- VCOMPRESS (R196): the kept elements and the register of metadata. -/
def compressReg (code n m : Nat) (v old1 : VWord) : VWord × VWord :=
  let w := codeWidth code
  let groups := (List.range (1024 / w / 32)).map fun g => (List.range 32).map fun t => lane v w (32 * g + t)
  let keeps := groups.map (keepIndices code n)
  let kept := (groups.zip keeps).flatMap fun p => p.2.map fun t => p.1.getD t 0
  let md := keeps.flatMap fun l => (List.range (n / 8)).map fun h => packIndices ((l.drop (8 * h)).take 8)
  (ofLanes w kept,
   ofLanes 64 ((List.range 16).map fun i => if m ≤ i ∧ i < m + md.length then md.getD (i - m) 0 else lane old1 64 i))

/-- SMXSTEP on one lane (R176): the new m and l. -/
def smxStep (m l x : Nat) : Nat × Nat × Flags :=
  let dm := fp32.decode m
  let dl := fp32.decode l
  let dx := fp32.decode x
  if dm.isNan || dl.isNan || dx.isNan then
    (fp32.nanBits, fp32.nanBits, if dm.sig || dl.sig || dx.sig then flagNV else 0)
  else
    let mn := if 0 < cmpFp dx dm then x else m
    let p := sexp m mn
    let q := sexp x mn
    let r := fp32.fma 0 false (fp32.decode q.1) dl (fp32.decode p.1)
    (mn, r.1, p.2 ||| q.2 ||| r.2)

/-- SMXNORM on one lane (R177); DZ is never set. -/
def smxNorm (x m l : Nat) : Nat × Flags :=
  let dx := fp32.decode x
  let dm := fp32.decode m
  let dl := fp32.decode l
  if dx.isNan || dm.isNan || dl.isNan then (fp32.nanBits, if dx.sig || dm.sig || dl.sig then flagNV else 0)
  else if dl.isZero then (0, 0)
  else
    let p := sexp x m
    let r := fp32.div 0 false (fp32.decode p.1) dl
    (r.1, p.2 ||| r.2)

end Sys2Proof.Machine
end

