-- ==== Sys2Proof/Machine/Pave.lean ====
section
/-! DEFINITION. PAVE8 blocks (R44 to R47). -/

namespace Sys2Proof.Machine

/-- Bits of a value, most significant first. -/
def bitsOf (v : Nat) : Nat → List Bool
  | 0 => []
  | n + 1 => (v / 2 ^ n % 2 == 1) :: bitsOf v n

/-- The value of bits, most significant first. -/
def ofBits (l : List Bool) : Nat := l.foldl (fun n b => 2 * n + (if b then 1 else 0)) 0

/-- The exponent and mantissa fields of an E4M3 element. -/
def expField (a : Nat) : Nat := a / 8 % 16
def manField (a : Nat) : Nat := a % 8
/-- Whether an E4M3 element is a NaN. -/
def isNan8 (a : Nat) : Bool := a % 128 == 127

/-- EMAX of a block (R44). -/
def blockEmax (l : List Nat) : Nat := (l.filter fun a => !isNan8 a).foldl (fun n a => max n (expField a)) 0

/-- The token of an element (R45). -/
def token (emax a : Nat) : List Bool :=
  let e := expField a
  let d := emax - e
  if e = 0 || isNan8 a || 10 < d then bitsOf 15 4 ++ bitsOf e 4
  else if d = 0 then [false]
  else if d = 1 then [true, false]
  else if d = 2 then [true, true, false]
  else bitsOf 14 4 ++ bitsOf (d - 3) 3

/-- Bytes of a bit string, most significant bit first, the last filled with zeros. -/
def packBits : Nat → List Bool → List Byte
  | 0, _ => []
  | n + 1, l => BitVec.ofNat 8 (ofBits (l.take 8 ++ List.replicate (8 - (l.take 8).length) false)) :: packBits n (l.drop 8)

/-- Pads with zero bytes to a multiple of 4. -/
def padTo4 (l : List Byte) : List Byte := l ++ List.replicate ((4 - l.length % 4) % 4) 0

/-- The block of 32 elements (R44, R45). -/
def paveEncode (l : List Nat) : List Byte :=
  if l.all (· == 0) then [16, 0, 0, 0]
  else
    let emax := blockEmax l
    let nib (a : Nat) : Nat := a / 128 % 2 * 8 + manField a
    let nibs := (List.range 16).map fun j => BitVec.ofNat 8 (nib (l.getD (2 * j) 0) + 16 * nib (l.getD (2 * j + 1) 0))
    let toks := l.flatMap (token emax)
    padTo4 (BitVec.ofNat 8 emax :: nibs ++ packBits ((toks.length + 7) / 8) toks)

/-- Reads one token: the exponent field and the bits after it; `none` where bits are lacking or a short token goes below 1
(R46). -/
def readToken (emax : Nat) : List Bool → Option (Nat × List Bool)
  | false :: r => if emax < 1 then none else some (emax, r)
  | true :: false :: r => if emax < 2 then none else some (emax - 1, r)
  | true :: true :: false :: r => if emax < 3 then none else some (emax - 2, r)
  | true :: true :: true :: false :: a :: b :: c :: r =>
    let d := 3 + ofBits [a, b, c]
    if emax < d + 1 then none else some (emax - d, r)
  | true :: true :: true :: true :: a :: b :: c :: d :: r => some (ofBits [a, b, c, d], r)
  | _ => none

/-- Reads the tokens of `n` elements. -/
def readTokens (emax : Nat) : Nat → List Bool → Option (List Nat × List Bool)
  | 0, l => some ([], l)
  | n + 1, l =>
    match readToken emax l with
    | none => none
    | some (e, r) => (readTokens emax n r).map fun p => (e :: p.1, p.2)

/-- The 32 elements of a block whose table byte is `len`; `none` for a malformed block (R46, R47). -/
def paveDecode (len : Nat) (b : List Byte) : Option (List Nat) :=
  let h := (b.headD 0).toNat
  if len ≠ 1 ∧ ¬(6 ≤ len ∧ len ≤ 13) then none
  else if 32 ≤ h then none
  else if h / 16 % 2 = 1 then if len = 1 then some (List.replicate 32 0) else none
  else
    let bits := ((b.take (4 * len)).drop 17).flatMap fun x => bitsOf x.toNat 8
    match readTokens (h % 16) 32 bits with
    | none => none
    | some (es, rest) =>
      let used := bits.length - rest.length
      if (17 + (used + 7) / 8 + 3) / 4 ≠ len then none
      else some ((List.range 32).map fun i =>
        let nib := ((b.getD (1 + i / 2) 0).toNat / (if i % 2 = 1 then 16 else 1)) % 16
        nib / 8 * 128 + es.getD i 0 * 8 + nib % 8)

/-- The elements a decoder gives: a malformed block is 32 NaNs and sets NV (R46). -/
def paveElements (len : Nat) (b : List Byte) : List Nat × Flags :=
  match paveDecode len b with
  | some l => (l, 0)
  | none => (List.replicate 32 0x7F, flagNV)

end Sys2Proof.Machine
end

