-- ==== Sys2Proof/Machine/VecInfo.lean ====
section
/-! DEFINITION. What each vector instruction names (R170): the formats it accepts, its vector and x operands, and what it does to
lanes. -/

namespace Sys2Proof.Machine

/-- The format codes a vector instruction accepts; `none` if it takes no format (R57, R171 to R196). -/
def vFormats : Instr → Option (List Nat)
  | .vadd .. | .vsub .. | .vmul .. | .vfma .. | .vmin .. | .vmax .. | .vsel .. | .vperm .. => some [0, 1, 5, 6, 7, 8, 9]
  | .vabs .. | .vneg .. => some [0, 1, 5, 7, 8, 9]
  | .vadds .. | .vsubs .. | .vmulh .. | .vshl .. | .vshr .. | .vpopc .. | .vclz .. => some [5, 6, 7, 8, 9]
  | .vaddi .. | .vshli .. | .vshri .. | .viota .. | .vcmpltu .. | .vcmpleu .. => some [5, 6, 7, 8, 9]
  | .vsra .. | .vsrai .. => some [5, 7, 8, 9]
  | .vmulw .. => some [1, 5, 6, 7, 8]
  | .vdiv .. | .vsqrt .. | .vexp .. => some [0, 1]
  | .vcmpeq .. | .vcmpne .. | .vcmplt .. | .vcmple .. | .vwhile .. | .kcount .. | .kfirst .. => some [0, 1, 5, 6, 7, 8, 9]
  | .vbcast .. | .vmvx .. | .vredadd .. | .vredmin .. | .vredmax .. | .vldc .. | .vstc .. => some [0, 1, 5, 6, 7, 8, 9]
  | .smxstep .. | .smxnorm .. => some [0]
  | .vcvt .. => some [0, 1, 2, 3, 5, 6, 7, 8, 9]
  | .vpvenc .. | .vpvdec .. => some [4]
  | .vcompress .. => some [0, 1, 5, 6, 7]
  | _ => none

/-- The vector registers an instruction reads as sources (R12, R115, R170). -/
def vSources : Instr → List (BitVec 5)
  | .vadd _ a b _ | .vsub _ a b _ | .vmul _ a b _ | .vfma _ a b _ | .vmin _ a b _ | .vmax _ a b _ => [a, b]
  | .vadds _ a b _ | .vsubs _ a b _ | .vmulh _ a b _ | .vmulw _ a b _ | .vand _ a b _ | .vor _ a b _ | .vxor _ a b _ => [a, b]
  | .vshl _ a b _ | .vshr _ a b _ | .vsra _ a b _ | .vdiv _ a b _ | .vsel _ a b _ | .vperm _ a b _ => [a, b]
  | .vcmpeq _ a b _ | .vcmpne _ a b _ | .vcmplt _ a b _ | .vcmple _ a b _ | .vcmpltu _ a b _ | .vcmpleu _ a b _ => [a, b]
  | .vabs _ a _ | .vneg _ a _ | .vsqrt _ a _ | .vexp _ a _ | .vpopc _ a _ | .vclz _ a _ | .vmov _ a _ => [a]
  | .vredadd _ a _ | .vredmin _ a _ | .vredmax _ a _ | .smxstep _ a _ | .gaddr _ a _ _ => [a]
  | .vaddi _ a _ _ | .vshli _ a _ _ | .vshri _ a _ _ | .vsrai _ a _ _ => [a]
  | .vmvx _ a _ | .vcvt _ a _ _ | .vpvenc _ a _ | .vcompress _ a _ _ | .vdesc _ a _ => [a]
  | .smxnorm _ a b _ => [a, b, b + 1]
  | .vst d .. | .vstc d .. | .vsts d .. => [d]
  | .vldx _ _ i _ => [i]
  | .vstx d _ i _ => [d, i]
  | .vldg _ a _ _ => [a]
  | .vstg d a _ _ => [d, a]
  | _ => []

/-- The vector registers an instruction writes (R12, R170). -/
def vDests : Instr → List (BitVec 5)
  | .vadd d .. | .vsub d .. | .vmul d .. | .vfma d .. | .vmin d .. | .vmax d .. | .vadds d .. | .vsubs d .. => [d]
  | .vmulh d .. | .vmulw d .. | .vand d .. | .vor d .. | .vxor d .. | .vshl d .. | .vshr d .. | .vsra d .. => [d]
  | .vdiv d .. | .vsel d .. | .vperm d .. | .vabs d .. | .vneg d .. | .vsqrt d .. | .vexp d .. | .vpopc d .. => [d]
  | .vclz d .. | .vmov d .. | .vredadd d .. | .vredmin d .. | .vredmax d .. | .gaddr d .. | .vaddi d .. => [d]
  | .vshli d .. | .vshri d .. | .vsrai d .. | .vcvt d .. | .vdesc d .. | .vbcast d .. | .viota d .. => [d]
  | .vld d .. | .vldb d .. | .vldc d .. | .vlds d .. | .vldx d .. | .vldg d .. | .vpvdec d .. | .smxnorm d .. => [d]
  | .smxstep d .. | .vcompress d .. => [d, d + 1]
  | .mcommitVector d _ => [d]
  | _ => []

/-- The x registers whose values a vector instruction captures (R168): the operands xa and xb. -/
def vScalars : Instr → BitVec 5 × BitVec 5
  | .vwhile _ a b _ => (a, b)
  | .vbcast _ a _ => (a, 0)
  | .vmvx _ _ b => (0, b)
  | .vld _ a _ _ | .vst _ a _ _ | .vldb _ a _ _ => (a, 0)
  | .vldc _ a b _ | .vstc _ a b _ | .vlds _ a b _ | .vsts _ a b _ => (a, b)
  | .vldx _ a _ _ | .vstx _ a _ _ => (a, 0)
  | .vpvenc _ _ b => (0, b)
  | .vpvdec _ a b => (a, b)
  | .vflight _ a b => (a, b)
  | .mcommitVector _ a => (a, 0)
  | .mcommitScratchpad a b => (a, b)
  | _ => (0, 0)

/-- The governing predicate (R24). -/
def vPred : Instr → BitVec 3
  | .vadd _ _ _ k | .vsub _ _ _ k | .vmul _ _ _ k | .vfma _ _ _ k | .vmin _ _ _ k | .vmax _ _ _ k | .vadds _ _ _ k => k
  | .vsubs _ _ _ k | .vmulh _ _ _ k | .vmulw _ _ _ k | .vand _ _ _ k | .vor _ _ _ k | .vxor _ _ _ k | .vshl _ _ _ k => k
  | .vshr _ _ _ k | .vsra _ _ _ k | .vdiv _ _ _ k | .vsel _ _ _ k | .vperm _ _ _ k | .vaddi _ _ _ k | .vshli _ _ _ k => k
  | .vshri _ _ _ k | .vsrai _ _ _ k | .vcmpeq _ _ _ k | .vcmpne _ _ _ k | .vcmplt _ _ _ k | .vcmple _ _ _ k => k
  | .vcmpltu _ _ _ k | .vcmpleu _ _ _ k | .kand _ _ _ k | .kor _ _ _ k | .kxor _ _ _ k | .kandn _ _ _ k => k
  | .vwhile _ _ _ k | .smxnorm _ _ _ k | .gaddr _ _ _ k | .vld _ _ _ k | .vst _ _ _ k | .vldb _ _ _ k => k
  | .vldc _ _ _ k | .vstc _ _ _ k | .vlds _ _ _ k | .vsts _ _ _ k | .vldx _ _ _ k | .vstx _ _ _ k => k
  | .vldg _ _ _ k | .vstg _ _ _ k | .vcvt _ _ _ k => k
  | .vabs _ _ k | .vneg _ _ k | .vsqrt _ _ k | .vexp _ _ k | .vpopc _ _ k | .vclz _ _ k | .vmov _ _ k => k
  | .vredadd _ _ k | .vredmin _ _ k | .vredmax _ _ k | .kcount _ _ k | .kfirst _ _ k | .vbcast _ _ k | .smxstep _ _ k => k
  | .vdesc _ _ k | .viota _ k => k
  | _ => 0

/-- The lane operation of an instruction, and the immediate that stands for its second operand (R171). -/
def vLaneOp : Instr → Option (LaneOp × Option (BitVec 5))
  | .vadd .. => some (.add, none)
  | .vsub .. => some (.sub, none)
  | .vmul .. => some (.mul, none)
  | .vfma .. => some (.fma, none)
  | .vmin .. => some (.min, none)
  | .vmax .. => some (.max, none)
  | .vadds .. => some (.adds, none)
  | .vsubs .. => some (.subs, none)
  | .vmulh .. => some (.mulh, none)
  | .vshl .. => some (.shl, none)
  | .vshr .. => some (.shr, none)
  | .vsra .. => some (.sra, none)
  | .vdiv .. => some (.div, none)
  | .vabs .. => some (.abs, none)
  | .vneg .. => some (.neg, none)
  | .vsqrt .. => some (.sqrt, none)
  | .vexp .. => some (.exp, none)
  | .vpopc .. => some (.popc, none)
  | .vclz .. => some (.clz, none)
  | .vmov .. => some (.mov, none)
  | .vaddi _ _ i _ => some (.add, some i)
  | .vshli _ _ i _ => some (.shl, some i)
  | .vshri _ _ i _ => some (.shr, some i)
  | .vsrai _ _ i _ => some (.sra, some i)
  | _ => none

/-- The comparison of an instruction (R178). -/
def vCmpOp : Instr → Option CmpOp
  | .vcmpeq .. => some .eq
  | .vcmpne .. => some .ne
  | .vcmplt .. => some .lt
  | .vcmple .. => some .le
  | .vcmpltu .. => some .ltu
  | .vcmpleu .. => some .leu
  | _ => none

/-- The predicate register an instruction writes. -/
def vPredDest : Instr → BitVec 3
  | .vcmpeq d .. | .vcmpne d .. | .vcmplt d .. | .vcmple d .. | .vcmpltu d .. | .vcmpleu d .. => d
  | .kand d .. | .kor d .. | .kxor d .. | .kandn d .. | .vwhile d .. => d
  | _ => 0

/-- The reduction of an instruction (R182). -/
def vRedOp : Instr → Option RedOp
  | .vredadd .. => some .add
  | .vredmin .. => some .min
  | .vredmax .. => some .max
  | _ => none

/-- The bitwise operation of an instruction (R171, R179). -/
def vBitOp {n : Nat} : Instr → Option (BitVec n → BitVec n → BitVec n)
  | .vand .. | .kand .. => some fun a b => a &&& b
  | .vor .. | .kor .. => some fun a b => a ||| b
  | .vxor .. | .kxor .. => some fun a b => a ^^^ b
  | .kandn .. => some fun a b => a &&& ~~~b
  | _ => none

/-- The predicate sources of a predicate operation. -/
def vPredSources : Instr → BitVec 3 × BitVec 3
  | .kand _ a b _ | .kor _ a b _ | .kxor _ a b _ | .kandn _ a b _ => (a, b)
  | .kcount _ a _ | .kfirst _ a _ => (a, a)
  | _ => (0, 0)

/-- The scratchpad offset formed from x registers alone, with its alignment (R169, R186, R187, R189, R194): VLD and VST by 4, VLDB by
its size, VLDS and VSTS by 4, VLDX and VSTX none, VLDC and VSTC by 256, the block offset of VPVENC and VPVDEC by 4. -/
def vOffset (i : Instr) (xa xb : Word) : Option (Word × Nat) :=
  match i with
  | .vld _ _ imm _ | .vst _ _ imm _ => some (xa + sext imm * 128, 4)
  | .vldb _ _ sz _ => some (xa, 2 ^ sz.toNat)
  | .vlds .. | .vsts .. => some (xa, 4)
  | .vldc .. | .vstc .. => some (xa, 256)
  | .vpvenc .. | .vpvdec .. => some (zext (xb.extractLsb' 0 20), 4)
  | _ => none

/-- The format code an instruction takes now (R57). -/
def Thread.vfmtCode (t : Thread) : Nat := if t.pfx then t.pfxv.toNat else (t.vfmt.extractLsb' 0 5).toNat

/-- Whether a vector instruction is illegal in a thread set's state (R12, R57, R59, R185, R196): a code it does not accept, a prefix
it does not take, a channel window as a destination, an invalid distribution table, VCOMPRESS's metadata lanes out of range. -/
def Thread.vIllegal (t : Thread) (i : Instr) : Bool :=
  (match vFormats i with
    | some l => !l.contains t.vfmtCode
    | none => t.pfx) ||
  (t.chwin && (vDests i).any fun d => decide (24 ≤ d.toNat)) ||
  (match i with
    | .gaddr _ _ n _ => !(aget 0 t.dist n.toNat).getLsbD 63
    | .vcompress _ _ m n16 =>
      decide (16 < m.toNat + 1024 / codeWidth t.vfmtCode / 32 * (if n16 then 16 else 8) / 8)
    | _ => false)

/-- A leased register that an instruction names (R191): the lowest-numbered place in its operand order. -/
def Thread.leased (t : Thread) (i : Instr) : Option (BitVec 5) :=
  (vDests i ++ vSources i).find? fun r => t.jobs.any fun j => !j.store && j.vreg == r

/-- A misaligned offset, in its 20 bits, or stride at issue (R169, R187; log 23). -/
def vMisaligned (i : Instr) (xa xb : Word) : Option Word :=
  match vOffset i xa xb with
  | some (o, n) =>
    if o.toNat % n ≠ 0 then some (word (o.toNat % 0x100000))
    else match i with
      | .vlds .. | .vsts .. => if xb.toNat % 4 ≠ 0 then some xb else none
      | _ => none
  | none => none

/-- What an instruction captures at issue (R52, R114, R168, R198). -/
def State.capture (s : State) (i : Instr) : VOp :=
  let t := s.th
  let x := vScalars i
  { instr := i, fmt := BitVec.ofNat 5 t.vfmtCode, rm := t.vfmt.extractLsb' 5 3, sat := t.vfmt.getLsbD 8, chw := t.chwin,
    xa := t.rx x.1, xb := t.rx x.2, dt := t.dtbase, user := !t.steward }

end Sys2Proof.Machine
end

