-- ==== Sys2Proof/Machine/VecRun.lean ====
section
/-! DEFINITION. One execution of a vector instruction in the sequencer (R165 to R201). -/

namespace Sys2Proof.Machine

/-- What one execution in the sequencer ends with: done, an engine trap (R169), a parked access, or it must wait. -/
inductive VRes where
  | done (s : State)
  | fault (s : State) (cause : BitVec 6) (val : Word)
  | park (s : State) (va : Word)
  | wait

/-- Writes a vector register and sets flags. -/
def Thread.wvf (t : Thread) (d : BitVec 5) (r : VWord × Flags) : Thread := (t.wv d r.1).flagged r.2

/-- An immediate as an element: signed for VADDI, unsigned for a shift amount (R171). -/
def immElem (op : LaneOp) (w : Nat) (c : BitVec 5) : Nat :=
  match op with
  | .add => wrapInt w c.toInt
  | _ => c.toNat

/-- A lane operation of R171 on a thread set's registers. -/
def Thread.runLane (t : Thread) (src : BitVec 5 → VWord) (o : VOp) (op : LaneOp) (imm : Option (BitVec 5)) : Thread :=
  let code := if op = .mov then 6 else o.fmt.toNat
  let w := codeWidth code
  let d := (vDests o.instr).headD 0
  let a := src ((vSources o.instr).headD 0)
  let b := src ((vSources o.instr).getD 1 0)
  let old := t.rv d
  t.wvf d (mapLanes w (t.rk (vPred o.instr)) old fun i =>
    laneOp code op o.rm.toNat o.sat (lane old w i) (lane a w i)
      (match imm with
        | some c => immElem op w c
        | none => lane b w i))

/-- A comparison (R178): active lanes in all their bits, flags of active lanes. -/
def Thread.runCompare (t : Thread) (src : BitVec 5 → VWord) (o : VOp) (op : CmpOp) : Thread :=
  let code := o.fmt.toNat
  let w := codeWidth code
  let k := t.rk (vPred o.instr)
  let a := src ((vSources o.instr).headD 0)
  let b := src ((vSources o.instr).getD 1 0)
  let r (i : Nat) : Bool × Flags := compareLane code op (lane a w i) (lane b w i)
  let f := (List.range (1024 / w)).foldl (fun f i => if active k w i then f ||| (r i).2 else f) (0 : Flags)
  (t.wk (vPredDest o.instr) (predLanes w k fun i => (r i).1)).flagged f

/-- The active lanes of a width, ascending. -/
def activeLanes (k : KWord) (w : Nat) : List Nat := (List.range (1024 / w)).filter (active k w)

/-- A reduction (R182): element 0 of the destination. -/
def Thread.runReduce (t : Thread) (src : BitVec 5 → VWord) (o : VOp) (op : RedOp) : Thread :=
  let code := o.fmt.toNat
  let w := codeWidth code
  let d := (vDests o.instr).headD 0
  let a := src ((vSources o.instr).headD 0)
  let r := reduceLanes code op o.rm.toNat ((activeLanes (t.rk (vPred o.instr)) w).map (lane a w))
  let old := t.rv d
  t.wvf d (ofLanes w ((List.range (1024 / w)).map fun i => if i = 0 then r.1 else lane old w i), r.2)

/-- VSEL (R171): every lane. -/
def selectLanes (w : Nat) (k : KWord) (a b : VWord) : VWord :=
  ofLanes w ((List.range (1024 / w)).map fun i => if active k w i then lane a w i else lane b w i)

/-- VPERM's element (R171): 0 for an index of L or above. -/
def permElem (w : Nat) (a : VWord) (j : Nat) : Nat := if j < 1024 / w then lane a w j else 0

/-- VMVX's value (R181). -/
def elementOut (code : Nat) (v : VWord) (j : Nat) : Word :=
  let w := codeWidth code
  if 1024 / w ≤ j then 0
  else if code = 5 ∨ code = 7 ∨ code = 8 ∨ code = 9 then BitVec.ofInt 64 (elemInt code (lane v w j))
  else word (lane v w j)

/-- The lanes that KCOUNT and KFIRST find (R180). -/
def foundLanes (w : Nat) (kg ks : KWord) : List Nat := (activeLanes kg w).filter fun i => active ks w i

/-- What a vector instruction without memory does to the registers of its thread set; memory instructions do nothing here. -/
def Thread.runRegs (t : Thread) (src : BitVec 5 → VWord) (o : VOp) : Thread :=
  let code := o.fmt.toNat
  let w := codeWidth code
  let k := t.rk (vPred o.instr)
  match o.instr with
  | .vand d a b _ | .vor d a b _ | .vxor d a b _ =>
    match vBitOp (n := 1024) o.instr with
    | some f => let r := f (src a) (src b); t.wvf d (mapLanes 8 k (t.rv d) fun i => (lane r 8 i, 0))
    | none => t
  | .vmulw d a b _ => t.wvf d (widenMul code o.rm.toNat k (t.rv d) (src a) (src b))
  | .vsel d a b _ => t.wv d (selectLanes w k (src a) (src b))
  | .vperm d a b _ => t.wvf d (mapLanes w k (t.rv d) fun i => (permElem w (src a) (lane (src b) w i), 0))
  | .kand d a b _ | .kor d a b _ | .kxor d a b _ | .kandn d a b _ =>
    match vBitOp (n := 128) o.instr with
    | some f => t.wk d (f (t.rk a) (t.rk b) &&& k)
    | none => t
  | .vwhile d _ _ _ => t.wk d (predLanes w k fun i => decide (o.xa.toInt + i < o.xb.toInt))
  | .kcount rd ks _ => t.wx rd (word (foundLanes w k (t.rk ks)).length)
  | .kfirst rd ks _ => t.wx rd (word ((foundLanes w k (t.rk ks)).headD (1024 / w)))
  | .vbcast d _ _ => t.wvf d (mapLanes w k (t.rv d) fun _ => (o.xa.toNat % 2 ^ w, 0))
  | .vmvx rd a _ => t.wx rd (elementOut code (src a) o.xb.toNat)
  | .viota d _ => t.wvf d (mapLanes w k (t.rv d) fun i => (((activeLanes k w).filter fun j => decide (j < i)).length, 0))
  | .smxstep d a _ =>
    let m := t.rv d
    let l := t.rv (d + 1)
    let r (i : Nat) : Nat × Nat × Flags := smxStep (lane m 32 i) (lane l 32 i) (lane (src a) 32 i)
    (t.wvf d (mapLanes 32 k m fun i => ((r i).1, (r i).2.2))).wvf (d + 1) (mapLanes 32 k l fun i => ((r i).2.1, 0))
  | .smxnorm d a b _ =>
    t.wvf d (mapLanes 32 k (t.rv d) fun i => smxNorm (lane (src a) 32 i) (lane (src b) 32 i) (lane (src (b + 1)) 32 i))
  | .vcvt d a f _ => t.wvf d (convertReg code f.toNat o.rm.toNat o.sat k (t.rv d) (src a))
  | .vcompress d a m n16 =>
    let r := compressReg code (if n16 then 16 else 8) m.toNat (src a) (t.rv (d + 1))
    (t.wv d r.1).wv (d + 1) r.2
  | .vwidth rd => t.wx rd 1024
  | i =>
    match vLaneOp i, vCmpOp i, vRedOp i with
    | some (op, imm), _, _ => t.runLane src o op imm
    | _, some op, _ => t.runCompare src o op
    | _, _, some op => t.runReduce src o op
    | _, _, _ => t

/-- The local address of a scratchpad offset of a core (R169): bits [19:0]. -/
def spadAt (core : Nat) (o : Nat) : Nat := spadBase core + o % 0x100000
/-- The address of a scratchpad offset in the private window (R65). -/
def ownAddr (o : Word) : Word := BitVec.allOnes 44 ++ o.extractLsb' 0 20

/-- Scratchpad bytes from an offset, continuing at offset 0 past the end (R169). -/
def State.spadRead (s : State) (core o n : Nat) : List Byte := (List.range n).map fun i => s.readByte (spadAt core (o + i))
/-- Writes scratchpad bytes from an offset by a thread set's sequencer. -/
def State.spadWrite (s : State) (tid o : Nat) (d : List Byte) : State :=
  d.zipIdx.foldl (fun s p => s.store (.sequencer tid) (spadAt (coreOf tid) (o + p.2)) [p.1]) s
/-- Whether a store that a thread set has read, and that has not been performed, meets scratchpad bytes: memory has an older value (R71). -/
def State.spadBehind (s : State) (tid o n : Nat) : Bool :=
  (s.core (coreOf tid)).sb.any fun e => e.path == .own && (s.thread tid).seen.contains e.id &&
    (List.range n).any fun i => meets e.pa e.data.length (s.chipno * 2 ^ 40 + spadAt (coreOf tid) (o + i)) 1
/-- The address of a scratchpad offset of a thread set's core. -/
def State.spadPa (s : State) (tid o : Nat) : Nat := s.chipno * 2 ^ 40 + spadAt (coreOf tid) o
/-- An element of the own scratchpad as a sequencer access sees it: as seen early, or memory (R65, R78). -/
def State.spadSees (s : State) (tid o n : Nat) : List Byte :=
  (earlyOf (s.thread tid).early .own (s.spadPa tid o) n).getD (s.spadRead (coreOf tid) o n)
/-- A sequencer access has read elements of the own scratchpad: nothing older of them is returned any more (R71). -/
def State.spadSeen (s : State) (tid n : Nat) (l : List Nat) : State :=
  if s.threads.all fun p => p.2.early.isEmpty then s
  else l.foldl (fun s o => match earlyOf (s.thread tid).early .own (s.spadPa tid o) n with
    | some _ => s.modThread tid fun t => { t with early := afterEarly t.early .own (s.spadPa tid o) n }
    | none => s.memRead tid .own (s.spadPa tid o) n) s
/-- The key under which a byte of the scratchpad stands among what an access has read. -/
def spadKey (o : Nat) : Nat := 2 ^ 32 + o % 0x100000
/-- Scratchpad bytes of an access of VPVDEC, GADDR or VDESC: those that it has read before (R70), and the others as they are. -/
def State.spadTake (s : State) (tid : Nat) (got : List (Nat × Nat)) (o n : Nat) : List Byte :=
  (List.range n).map fun i => match afind got (spadKey (o + i)) with
    | some v => BitVec.ofNat 8 v
    | none => (s.spadSees tid (o + i) 1).headD 0
/-- Whether scratchpad bytes are poisoned. -/
def State.spadPoisoned (s : State) (core o n : Nat) : Bool := (List.range n).any fun i => s.isPoisoned (spadAt core (o + i)) 1
/-- Whether scratchpad bytes lie in a locket. -/
def State.spadLocket (s : State) (core o n : Nat) : Bool := (List.range n).any fun i => s.inLocket (spadAt core (o + i)) 1

/-- The lane width of a scratchpad access and the offset of each lane (R186, R187, R189), `add` being a flight's step (R200). -/
def vLanes (o : VOp) (idx : VWord) (add : Word) : Nat × (Nat → Word) :=
  match o.instr with
  | .vld _ _ imm _ | .vst _ _ imm _ => (8, fun i => o.xa + sext imm * 128 + add + word i)
  | .vldb _ _ sz _ => (8 * 2 ^ sz.toNat, fun _ => o.xa + add)
  | .vlds .. | .vsts .. => (32, fun i => o.xa + word i * o.xb + add)
  | .vldx .. | .vstx .. => (32, fun i => o.xa + word (lane idx 32 i) + add)
  | _ =>
    let w := codeWidth o.fmt.toNat
    (w, fun i => o.xa + add + word (256 * i + o.xb.toNat % (2048 / w) * (w / 8)))

/-- A misaligned offset found in the sequencer, in its 20 bits (R169, R187, R200): of the lowest active lane, or of a later iteration of a
flight. -/
def vLaneBad (o : VOp) (k : KWord) (idx : VWord) (add : Word) : Option Word :=
  let bad (off : Word) (n : Nat) : Option Word := if off.toNat % n ≠ 0 then some (word (off.toNat % 0x100000)) else none
  match o.instr with
  | .vldx .. | .vstx .. => (activeLanes k 32).findSome? fun i => bad ((vLanes o idx add).2 i) 4
  | i => (vOffset i o.xa o.xb).bind fun p => bad (p.1 + add) p.2

/-- The lanes of a scratchpad access that are still to be performed, ascending (R70). -/
def VOp.lanesLeft (o : VOp) (k : KWord) (w : Nat) : List Nat := (activeLanes k w).drop o.part

/-- A scratchpad load into active lanes (R186, R187, R189), with what its lanes done before have read (R70); poisoned data raises cause 2
(R392). -/
def State.vload (s : State) (tid : Nat) (o : VOp) (d : BitVec 5) (idx : VWord) (add : Word) : VRes :=
  let t := s.thread tid
  let core := coreOf tid
  let k := t.rk (vPred o.instr)
  let (w, off) := vLanes o idx add
  match vLaneBad o k idx add with
  | some a => .fault s 1 a
  | none =>
    if (o.lanesLeft k w).any fun i => s.spadBehind tid (off i).toNat (w / 8) then .wait
    else match (o.lanesLeft k w).find? fun i => s.spadPoisoned core (off i).toNat (w / 8) with
    | some i => .fault s 2 (ownAddr (off i))
    | none =>
      let get (i : Nat) : Nat := (afind o.got i).getD (leNat (s.spadSees tid (off i).toNat (w / 8)))
      .done ((s.spadSeen tid (w / 8) ((o.lanesLeft k w).map fun i => (off i).toNat)).modThread tid fun t =>
        t.wvf d (mapLanes w k (t.rv d) fun i => (get i, 0)))

/-- A scratchpad store of the active lanes left, the highest last (R70, R186, R187, R189); a locket refuses it whole (R160). -/
def State.vstore (s : State) (tid : Nat) (o : VOp) (v : VWord) (idx : VWord) (add : Word) : VRes :=
  let k := (s.thread tid).rk (vPred o.instr)
  let (w, off) := vLanes o idx add
  match vLaneBad o k idx add with
  | some a => .fault s 1 a
  | none =>
    match (o.lanesLeft k w).find? fun i => s.spadLocket (coreOf tid) (off i).toNat (w / 8) with
    | some i => .fault s 3 (ownAddr (off i))
    | none => .done ((o.lanesLeft k w).foldl (fun s i => s.spadWrite tid (off i).toNat (leBytes (lane v w i) (w / 8))) s)

/-- The four blocks of a register of E4M3 elements. -/
def paveGroups (v : VWord) : List (List Nat) := (List.range 4).map fun b => (List.range 32).map fun i => lane v 8 (32 * b + i)

/-- The bytes that VPVENC writes, each with its offset: the table, then the blocks (R194). -/
def paveWrites (v : VWord) (xb : Word) : List (Nat × Byte) :=
  let blocks := (paveGroups v).map paveEncode
  let at_ (o : Nat) (l : List Byte) : List (Nat × Byte) := l.zipIdx.map fun p => (o + p.2, p.1)
  at_ (xb.extractLsb' 20 20).toNat (blocks.map fun b => BitVec.ofNat 8 (b.length / 4)) ++ at_ (xb.extractLsb' 0 20).toNat blocks.flatten

/-- VPVENC (R194): the table, then the blocks, from where its access stands (R70); the length in bytes. -/
def State.vpvenc (s : State) (tid : Nat) (rd : BitVec 5) (v : VWord) (xb : Word) (part : Nat) : VRes :=
  let bytes := ((paveGroups v).map paveEncode).flatten
  let bo := (xb.extractLsb' 0 20).toNat
  let tb := (xb.extractLsb' 20 20).toNat
  if s.spadLocket (coreOf tid) tb 4 then .fault s 3 (ownAddr (word tb))
  else if s.spadLocket (coreOf tid) bo bytes.length then .fault s 3 (ownAddr (word bo))
  else .done ((((paveWrites v xb).drop part).foldl (fun s p => s.spadWrite tid p.1 [p.2]) s).modThread tid (·.wx rd (word bytes.length)))

/-- VPVDEC (R195). -/
def State.vpvdec (s : State) (tid : Nat) (d : BitVec 5) (xa xb add : Word) (got : List (Nat × Nat)) : VRes :=
  let core := coreOf tid
  let j := (xa.extractLsb' 0 16).toNat
  let bo := (xb.extractLsb' 0 20).toNat + add.toNat
  let tb := (xb.extractLsb' 20 20).toNat + add.toNat
  let table := s.spadTake tid got tb (j + 4)
  let start (k : Nat) : Nat := bo + 4 * ((table.take k).map (·.toNat)).sum
  let len (k : Nat) : Nat := (table.getD k 0).toNat
  if s.spadPoisoned core tb (j + 4) then .fault s 2 (ownAddr (word tb))
  else match (List.range 4).find? fun b => s.spadPoisoned core (start (j + b)) (4 * len (j + b)) with
    | some b => .fault s 2 (ownAddr (word (start (j + b))))
    | none =>
      let r := (List.range 4).map fun b => paveElements (len (j + b)) (s.spadTake tid got (start (j + b)) (min 52 (4 * len (j + b))))
      let read := (List.range (j + 4)).map (tb + ·) ++
        (List.range 4).flatMap fun b => (List.range (4 * len (j + b))).map (start (j + b) + ·)
      .done ((s.spadSeen tid 1 read).modThread tid fun t => t.wvf d (ofLanes 8 (r.flatMap (·.1)), r.foldl (fun f p => f ||| p.2) 0))

/-- Bits `lo` to `lo + len − 1` of a number. -/
def field (v lo len : Nat) : Nat := v / 2 ^ lo % 2 ^ len

/-- A dimension of a distribution table (R184): extent, block, grid and core step. -/
structure Dim where
  ext : Nat
  blk : Nat
  grid : Nat
  cstep : Nat

/-- Dimension `d` of the descriptor whose bytes form the number `v` (R184). -/
def tableDim (v d : Nat) : Dim :=
  let o := 128 + 128 * d
  { ext := field v o 32, blk := field v (o + 32) 32, grid := field v (o + 64) 16, cstep := field v (o + 80) 16 }

/-- A malformed descriptor (R184, R185). -/
def tableBad (v : Nat) : Bool :=
  field v 42 22 != 0 || field v 26 6 != 0 || field v 22 2 != 0 || field v 24 2 == 0 ||
  (List.range 3).any (fun d => field v (224 + 128 * d) 32 != 0) ||
  (List.range (field v 24 2)).any fun d => (tableDim v d).blk == 0 || (tableDim v d).grid == 0

/-- GADDR's lane (R185): the address of a coordinate, or all ones. -/
def tableAddr (v c : Nat) : Nat :=
  let dims := (List.range (field v 24 2)).map fun d => (tableDim v d, field c (21 * d) 21)
  let all := 2 ^ 64 - 1
  if tableBad v || dims.any (fun p => decide (p.1.ext ≤ p.2)) then all
  else
    let loc (p : Dim × Nat) : Nat := p.2 / (p.1.blk * p.1.grid) * p.1.blk + p.2 % p.1.blk
    let ext (p : Dim × Nat) : Nat := (p.1.ext + p.1.blk * p.1.grid - 1) / (p.1.blk * p.1.grid) * p.1.blk
    let idx := match dims with
      | [] => 0
      | p :: r => r.foldl (fun i q => i * ext q + loc q) (loc p)
    let core := field v 32 10 + (dims.map fun p => p.2 / p.1.blk % p.1.grid * p.1.cstep).sum
    let esz := 2 ^ field v 20 2
    let off := field v 0 20 + idx * esz
    if 1023 < core ∨ 0x100000 < off + esz then all
    else (field v 64 64 + core * 0x100000 + off) % 2 ^ 64

/-- GADDR (R185); a poisoned descriptor is cause 2 (R392).  Where DISTn is written after GADDR's issue, OFF is that of its execution and V is
not judged again (log 58). -/
def State.gaddr (s : State) (tid : Nat) (d : BitVec 5) (v : VWord) (n : BitVec 2) (k : KWord) (got : List (Nat × Nat)) :
    VRes :=
  let t := s.thread tid
  let o := ((aget 0 t.dist n.toNat).extractLsb' 6 14).toNat * 64
  let desc := leNat (s.spadTake tid got o 64)
  if s.spadPoisoned (coreOf tid) o 64 then .fault s 2 (ownAddr (word o))
  else .done ((s.spadSeen tid 1 ((List.range 64).map (o + ·))).modThread tid fun u =>
    u.wvf d (mapLanes 64 k (t.rv d) fun i => (tableAddr desc (lane v 64 i), 0)))

/-- The integer from 0 to 31 that an FP32 feature is, if it is one (R198). -/
def featureInt (f : Nat) : Option Nat := (List.range 32).find? fun n =>
  !(fp32.decode f).isNan && cmpFp (fp32.decode f) (.fin false n 0) == 0

/-- Whether the test of a node sends a feature left (R198). -/
def goesLeft (kind arg f : Nat) : Bool :=
  let x := fp32.decode f
  match kind with
  | 0 =>
    let y := fp32.decode arg
    !x.isNan && !y.isNan && decide (cmpFp x y < 0)
  | 1 => match featureInt f with
    | some n => arg / 2 ^ n % 2 == 1
    | none => false
  | _ => x.isNan

/-- One lane of VDESC (R198): state, node and feature give the new state and flags. -/
def descend (st node : Nat) (feature : Nat → Nat) : Nat × Flags :=
  let kind := field node 16 2
  let depth := field st 48 5
  let path := field st 32 16
  let mk (dn depth path nd : Nat) : Nat := dn * 2 ^ 63 + depth * 2 ^ 48 + path * 2 ^ 32 + nd
  if field node 18 14 ≠ 0 ∨ (kind ≠ 3 ∧ 16 ≤ depth) then (mk 1 depth path (field st 0 32), flagNV)
  else if kind = 3 then (mk 1 depth path (field st 0 32), 0)
  else
    let left := goesLeft kind (field node 32 32) (feature (field node 0 16))
    let path' := if left then path - path / 2 ^ depth % 2 * 2 ^ depth else path - path / 2 ^ depth % 2 * 2 ^ depth + 2 ^ depth
    (mk 0 (depth + 1) path' (if left then field node 64 32 else field node 96 32), 0)

/-- Whether a lane of VDESC reads a feature (R198). -/
def readsFeature (st node : Nat) : Bool := field node 18 14 == 0 && field node 16 2 != 3 && decide (field st 48 5 < 16)

/-- What reading VDESC's nodes ends with. -/
inductive Nodes where
  | got (s : State) (l : List (Nat × Nat))
  | fault (s : State) (cause : BitVec 6) (va : Word)
  | absent (s : State) (va : Word)
  | wait

/-- The address of the node of a lane of VDESC (R197, R198). -/
def nodeAt (dt : Word) (v : VWord) (i : Nat) : Word := (dt >>> 4) <<< 4 + 16 * word (field (lane v 64 i) 0 32)

/-- Reads a lane's node as a load of the thread set (R64, R198, R354, R356). -/
def State.readNode (s : State) (tid : Nat) (user : Bool) (va : Word) (i : Nat) : Nodes :=
  match s.reach tid user va 16 { r := true } with
  | (s, .fault c) => .fault s c va
  | (s, .absent) => .absent s va
  | (s, .at_ (.mem a) path pa) =>
    if s.portShut (coreOf tid) a || (s.flights.any fun f => coreOf f.tid == coreOf tid && meets f.pa f.data.length pa 16) ||
        (metBy (s.core (coreOf tid)).sb path pa 16).any (fun e => (s.thread tid).seen.contains e.id) then .wait
    else if s.isPoisoned a 16 then .fault s 2 va
    else .got (s.memRead tid path pa 16) [(i, s.readVal a 16)]
  | (s, .at_ (.ctl _) _ _) => if s.settled tid then .got s [(i, 0)] else .wait
  | (s, .at_ (.far pa) _ _) =>
    let w := s.route (pa / 2 ^ 40)
    if s.lineOpen tid pa then .wait
    else if !w.1 then .fault w.2 12 0xFFFF
    else let q := w.2.freeBytes 2; .got q.1 [(i, leNat q.2)]
  | (s, .at_ _ _ _) => .fault s 2 va

/-- Reads the nodes of lanes, in ascending order, but those read before (R70, R198). -/
def State.readNodes (s : State) (tid : Nat) (user : Bool) (dt : Word) (v : VWord) (got : List (Nat × Nat)) : List Nat → Nodes
  | [] => .got s []
  | i :: r =>
    let one : Nodes := match afind got i with
      | some n => .got s [(i, n)]
      | none => s.readNode tid user (nodeAt dt v i) i
    match one with
    | .got s l => match s.readNodes tid user dt v got r with
      | .got s m => .got s (l ++ m)
      | x => x
    | x => x

/-- The lanes of VDESC that are not done. -/
def nodeLanes (k : KWord) (v : VWord) : List Nat := (activeLanes k 64).filter fun i => field (lane v 64 i) 63 1 == 0

/-- VDESC (R198): lanes that are done are passed over; a poisoned feature is cause 2 (R392).  The row offsets of all active lanes not done are
judged first, a leaf's too (log 59). -/
def State.vdesc (s : State) (tid : Nat) (d : BitVec 5) (rows : VWord) (k : KWord) (dt : Word) (user : Bool)
    (got : List (Nat × Nat)) : VRes :=
  let core := coreOf tid
  let v := (s.thread tid).rv d
  let live := nodeLanes k v
  match live.find? fun i => lane rows 64 i % 4 != 0 with
  | some i => .fault s 1 (word (lane rows 64 i % 0x100000))
  | none =>
    match s.readNodes tid user dt v got live with
    | .wait => .wait
    | .fault s c va => .fault s c va
    | .absent s va => .park s va
    | .got s l =>
      let r (i : Nat) : Nat × Flags := match l.find? fun p => p.1 == i with
        | some (_, n) => descend (lane v 64 i) n fun f => leNat (s.spadTake tid got (lane rows 64 i % 0x100000 + 4 * f) 4)
        | none => (lane v 64 i, 0)
      let at_ (p : Nat × Nat) : Nat := lane rows 64 p.1 % 0x100000 + 4 * field p.2 0 16
      match l.find? fun p => readsFeature (lane v 64 p.1) p.2 && s.spadPoisoned core (at_ p) 4 with
      | some p => .fault s 2 (ownAddr (word (at_ p % 0x100000)))
      | none =>
        let read := (l.filter fun p => readsFeature (lane v 64 p.1) p.2).map at_
        .done ((s.spadSeen tid 4 read).modThread tid fun t => t.wvf d (mapLanes 64 k v r))

/-- The body of one execution, its vector sources read through `src`.  A flight's step moves the offsets that an instruction forms from its
operands, not the place of GADDR's descriptor (log 58). -/
def State.vbody (s : State) (tid : Nat) (o : VOp) (src : BitVec 5 → VWord) (add : Word) : VRes :=
  match o.instr with
  | .vld d .. | .vldb d .. | .vlds d .. | .vldc d .. => s.vload tid o d 0 add
  | .vldx d _ i _ => s.vload tid o d (src i) add
  | .vst v .. | .vsts v .. | .vstc v .. => s.vstore tid o (src v) 0 add
  | .vstx v _ i _ => s.vstore tid o (src v) (src i) add
  | .vpvenc rd a _ => s.vpvenc tid rd (src a) o.xb o.part
  | .vpvdec d _ _ => s.vpvdec tid d o.xa o.xb add o.got
  | .gaddr d a n k => s.gaddr tid d (src a) n ((s.thread tid).rk k) o.got
  | .vdesc d a k => s.vdesc tid d (src a) ((s.thread tid).rk k) o.dt o.user o.got
  | _ => .done (s.modThread tid (·.runRegs src o))

/-- The channels that an instruction pops (R115). -/
def vChannels (o : VOp) : List Nat :=
  if o.chw then (((vSources o.instr).filter fun r => decide (24 ≤ r.toNat)).map fun r => r.toNat - 24).eraseDups else []

/-- Whether every channel of a list holds an entry. -/
def Thread.channelsReady (t : Thread) (l : List Nat) : Bool := l.all fun n => !(aget [] t.chans n).isEmpty

/-- A vector source: a register, or the front entry of a channel (R115). -/
def Thread.vsource (t : Thread) (chw : Bool) (r : BitVec 5) : VWord :=
  if chw && decide (24 ≤ r.toNat) then
    match aget [] t.chans (r.toNat - 24) with
    | p :: _ => p.entryWord
    | [] => 0
  else t.rv r

/-- The system word of a crossing system's status 1 packet (R334, R339). -/
def Packet.stormStop (p : Packet) : Option Word :=
  if p.kind == 5 && p.payload.getD 31 0 == 1 then
    some (word (leNat ((p.payload.drop 8).take 8)) &&& ~~~(word (0xFFFFF * 2 ^ 16)))
  else none

/-- Pops the front entries of channels; a status 1 packet raises cause 10 at the popping thread set (R339); an entry sent with a release is acquired (R247), and held entries move up (R113). -/
def State.popChannels (s : State) (tid : Nat) (l : List Nat) : State :=
  l.foldl (fun s n =>
    let q := aget [] (s.thread tid).chans n
    let s := s.modThread tid fun t => { t with chans := aput t.chans n (q.drop 1) }
    let s := match q with
      | p :: _ =>
        let s := match p.rel with
          | some sc => s.acquireFrom (.thread tid) sc p.id
          | none => s
        match p.stormStop with
        | some w => s.report tid 10 w
        | none => s
      | [] => s
    s.pump tid) s

/-- One execution of a vector instruction: it waits for its channels and pops each once (R115). -/
def State.vrun (s : State) (tid : Nat) (o : VOp) (add : Word) : VRes :=
  let t := s.thread tid
  let l := vChannels o
  if !t.channelsReady l then .wait
  else match s.vbody tid o (t.vsource o.chw) add with
    | .done s => .done (s.popChannels tid l)
    | r => r

end Sys2Proof.Machine
end

