-- ==== Sys2Proof/Machine/MatMath.lean ====
section
/-! DEFINITION. Tiles and accumulation of the matrix engine (R53 to R55, R209, R210, R220, R221). -/

namespace Sys2Proof.Machine

/-- The error of twosum(a, b) whose sum is s (R54). -/
def twosumErr (a b s : Nat) : Nat :=
  let v := fp32.decode
  let sub (x y : Nat) : Nat := (fp32.add 0 false (v x) (v y).negate).1
  let bb := sub s a
  (fp32.add 0 false (v (sub a (sub s bb))) (v (sub b bb))).1

/-- One product added to an FP pair, with the flags so far (R53, R54). -/
def accFp (st : Nat × Nat × Flags) (a b : Fp) : Nat × Nat × Flags :=
  let p := fp32.mul 0 false a b
  let t := fp32.add 0 false (fp32.decode st.1) (fp32.decode p.1)
  match fp32.decode t.1 with
  | .fin .. =>
    let c := fp32.add 0 false (fp32.decode st.2.1) (fp32.decode (twosumErr st.1 p.1 t.1))
    (t.1, c.1, st.2.2 ||| p.2 ||| (c.2 &&& (flagUF ||| flagNX)))
  | _ => (t.1, 0, st.2.2 ||| p.2 ||| t.2)

/-- The products of two lists added to an FP cell in order (R54). -/
def cellFp (cell : Word) (ps : List (Fp × Fp)) : Word × Flags :=
  let r := ps.foldl (fun st p => accFp st p.1 p.2) (cell.toNat % 2 ^ 32, cell.toNat / 2 ^ 32, 0)
  (word (r.1 + 2 ^ 32 * r.2.1), r.2.2)

/-- The products of two lists added to an integer cell modulo 2^48 (R55). -/
def cellInt (cell : Word) (ps : List (Int × Int)) : Word :=
  word (wrapInt 48 (ps.foldl (fun a p => a + p.1 * p.2) (cell.toNat : Int)))

/-- The read-out of a cell (R54, R55): round_fp32(s + c), or sat32. -/
def readCell (k : AccKind) (cell : Word) : Nat × Flags :=
  match k with
  | .int =>
    let v : Nat := cell.toNat % 2 ^ 48
    let x : Int := if 2 ^ 47 ≤ v then (v : Int) - 2 ^ 48 else v
    (wrapInt 32 (clampInt 8 x), 0)
  | _ => fp32.add 0 false (fp32.decode (cell.toNat % 2 ^ 32)) (fp32.decode (cell.toNat / 2 ^ 32))

/-- Rows of a list, `c` elements each. -/
def chunk (c : Nat) (l : List Nat) : Nat → List (List Nat)
  | 0 => []
  | n + 1 => l.take c :: chunk c (l.drop c) n

/-- The transpose of rows of `c` elements. -/
def flipRows (c : Nat) (rows : List (List Nat)) : List (List Nat) := (List.range c).map fun j => rows.map fun r => r.getD j 0

/-- The blocks of a PAVE8 tile from its length table (R47, R210): `at_` is the offset of the next block in a slot of `size` bytes. -/
def State.paveBlocks (s : State) (core base size : Nat) : List Nat → Nat → List Nat × Flags
  | [], _ => ([], 0)
  | n :: r, at_ =>
    let q := s.paveBlocks core base size r (at_ + 4 * n)
    let e := if size < at_ + 4 * n then paveElements 0 [] else paveElements n (s.spadRead core (base + at_) (min 52 (4 * n)))
    (e.1 ++ q.1, e.2 ||| q.2)

/-- A tile of `r` stored rows of `c` elements in a slot (R209, R210). -/
def State.storedTile (s : State) (core base size code r c : Nat) : List (List Nat) × Flags :=
  if code = 4 then
    let n := r * c / 32
    let q := s.paveBlocks core base size ((s.spadRead core base n).map (·.toNat)) 256
    (chunk c q.1 r, q.2)
  else
    let es := codeWidth code / 8
    ((List.range r).map fun i => (List.range c).map fun j => leNat (s.spadRead core (base + 256 * i + es * j) es), 0)

/-- The rows of an A tile, 64 elements each (R209). -/
def State.tileA (s : State) (core base size code : Nat) (dir : Bool) : List (List Nat) × Flags :=
  let t := s.storedTile core base size code 64 64
  (if dir then flipRows 64 t.1 else t.1, t.2)

/-- The columns of a B tile, 64 elements each (R209). -/
def State.tileB (s : State) (core base size code : Nat) (dir : Bool) : List (List Nat) × Flags :=
  if dir then s.storedTile core base size code 128 64
  else
    let t := s.storedTile core base size code 64 128
    (flipRows 128 t.1, t.2)

/-- The floating-point format of a matrix code: PAVE8 elements are E4M3 (R210). -/
def matFmt (code : Nat) : Option Fmt := if code = 4 then some e4m3 else codeFmt code

/-- The cells of a slot: all zeros where none are listed. -/
def Accum.all (a : Accum) : List Word := if a.cells.isEmpty then List.replicate 8192 0 else a.cells

/-- Adds products to the cells of a row, `pairs j` being the operands of column j. -/
def accRow (code : Nat) (cells : List Word) (row : List Nat) (cols : List (List Nat)) : List Word × Flags :=
  match matFmt code with
  | some f =>
    let a := row.map f.decode
    let r := (cells.zip cols).map fun p => cellFp p.1 (a.zip (p.2.map f.decode))
    (r.map (·.1), r.foldl (fun fl p => fl ||| p.2) 0)
  | none =>
    let a := row.map (elemInt code)
    ((cells.zip cols).map fun p => cellInt p.1 (a.zip (p.2.map (elemInt code))), 0)

/-- Adds the products of the rows of A and the columns that each row meets to the cells of a slot (R220, R221). -/
def accRows (code : Nat) (cols : Nat → List (List Nat)) : Nat → List (List Nat) → List Word → List Word × Flags
  | _, [], _ => ([], 0)
  | i, row :: rest, cells =>
    let r := accRow code (cells.take 128) row (cols i)
    let q := accRows code cols (i + 1) rest (cells.drop 128)
    (r.1 ++ q.1, r.2 ||| q.2)

/-- A slot after the product of tiles has been added (R212, R220, R221): `cols i` are the columns that row i meets. -/
def Accum.accumulate (a : Accum) (code : Nat) (rows : List (List Nat)) (cols : Nat → List (List Nat)) : Accum × Flags :=
  let r := accRows code cols 0 rows a.all
  ({ a with kind := if (matFmt code).isSome then .fp else .int, cells := r.1 }, r.2)

/-- The elements of a row's kept indices in each column (R221). -/
def keptCols (cols : List (List Nat)) (kb : Nat) (idx : List Nat) : List (List Nat) :=
  cols.map fun c => idx.map fun k => c.getD (kb + k) 0

end Sys2Proof.Machine
end

