-- ==== Sys2Proof/WellFormed.lean ====
section
/-! DEFINITION. Which instructions can be encoded: the operand limits that the decoder enforces (R11, R24, R25 and each entry),
and which constructors are steps that no instruction word encodes. -/

namespace Sys2Proof

/-- An even register number: the first of a pair (R176, R196, R295). -/
def even (r : BitVec 5) : Bool := !r.getLsbD 0

/-- Any semantics; scope zero when there is none (R25). -/
def semAny (sem scope : BitVec 2) : Bool := sem != 0 || scope == 0

/-- Semantics 00 or 10 (R25, R238). -/
def semRel (sem scope : BitVec 2) : Bool := (sem == 0 && scope == 0) || sem == 2

/-- Semantics 00 or 01 (R25, R238). -/
def semAcq (sem scope : BitVec 2) : Bool := (sem == 0 && scope == 0) || sem == 1

/-- The constructors that are steps of the part and no instruction words. -/
def Instr.isStep : Instr → Bool
  | .vflagsAccess _ _ _ => true
  | .chwinWrite _ _ _ => true
  | .skewWrite _ _ _ _ => true
  | .ptbaseWrite _ _ _ => true
  | .plogbaseWrite _ _ _ => true
  | .stwcsrWrite _ _ _ => true
  | .hostAppend _ _ => true
  | .hostRead _ _ _ => true
  | .hostWrite _ _ => true
  | .controlRegisterWrite _ _ _ => true
  | .queueDescriptorWrite _ _ _ => true
  | .hintWrite _ => true
  | .rst _ => true
  | .podcfgWrite _ => true
  | .coldomEnable _ => true
  | .coldomDisable _ => true
  | .lcDeploy _ => true
  | .lcReturn _ => true
  | .provision => true
  | .attreq _ => true
  | .attestReportDone => true
  | .gcolWrite _ _ => true
  | .gfoldWrite _ _ => true
  | .columnMoveDone _ _ => true
  | .freplay _ _ => true
  | .evict _ _ => true
  | .preempt _ _ => true
  | .niovfWrite _ _ => true
  | .packageReset => true
  | .wipeDone => true
  | .idleTimeout => true
  | .powerWake => true
  | .powerExitDone => true
  | .correctedError _ => true
  | .uncorrectableError _ _ => true
  | .onDieLinkFailure _ => true
  | .storeBufferDrain _ => true
  | .resultReturn _ _ => true
  | .engineTrapReport _ => true
  | .vectorSequencerExecute _ => true
  | .leaseLaneLand _ _ _ => true
  | .matrixQueueExecute _ => true
  | .gangClaspClose _ => true
  | .landingTransferDone _ _ => true
  | .rowClaspClose _ _ => true
  | .barrierComplete _ _ _ => true
  | .galleryBankOperation _ => true
  | .galleryQueueStep _ => true
  | .beadStep _ => true
  | .sendAccepted _ => true
  | .activeMessageArrival _ => true
  | .taggedPacketArrival _ => true
  | .rwrArrival _ => true
  | .heapReplay _ => true
  | .handlerTrigger _ => true
  | .handlerPushRetry _ => true
  | .abortedHandlerPush _ => true
  | .copyChunkDone _ _ => true
  | .gatherElementLand _ _ => true
  | .scatterElementAck _ _ => true
  | .postedWriteArrival _ _ => true
  | .postedWriteAck _ => true
  | .remoteLoadReply _ _ => true
  | .flitCrcFailure _ => true
  | .linkLoss _ => true
  | .linkRetrained _ => true
  | .linkDownTimeout _ => true
  | .tamgonLinkDown _ => true
  | .linkTrained _ => true
  | .peerExchange _ _ _ => true
  | .queueDispatch _ => true
  | .gangAdmit _ => true
  | .cardPickup _ => true
  | .stealScanStep _ => true
  | .stealPauseEnd _ => true
  | .dequePush _ => true
  | .ageing _ => true
  | .sliceExpiry _ => true
  | .watchdogExpiry _ => true
  | .checkpointDeadline _ => true
  | .evictionReadmit _ _ => true
  | .instantBegin _ _ => true
  | .systemHold _ _ => true
  | .sampleTake _ _ => true
  | .crossingEventArrival _ => true
  | .crossingFrontierArrival _ => true
  | .collectiveRegistration _ => true
  | .replicationAck _ => true
  | .assignmentNotice _ => true
  | .collectiveBegin => true
  | .collectiveComplete _ => true
  | .finishReport _ => true
  | .collectiveWithdrawal _ => true
  | .cancelNotice _ => true
  | .newelHeartbeat => true
  | .standbyTakeover => true
  | .takeoverNotice _ => true
  | .illegalInstruction _ => true
  | .fetchFault => true
  | .finishReportAck _ => true
  | _ => false

/-- The operand limits of each instruction word (R11, R24, R25); every step is well formed. -/
def Instr.wellFormed : Instr → Bool
  | .fence imm rs1 rd => !((imm == 0x833 || imm == 0x010) && rs1 == 0 && rd == 0)
  | .vcmpeq kd _ _ _ => kd != 0
  | .vcmpne kd _ _ _ => kd != 0
  | .vcmplt kd _ _ _ => kd != 0
  | .vcmple kd _ _ _ => kd != 0
  | .vcmpltu kd _ _ _ => kd != 0
  | .vcmpleu kd _ _ _ => kd != 0
  | .kand kd _ _ _ => kd != 0
  | .kor kd _ _ _ => kd != 0
  | .kxor kd _ _ _ => kd != 0
  | .kandn kd _ _ _ => kd != 0
  | .vwhile kd _ _ _ => kd != 0
  | .smxstep vd _ _ => even vd
  | .smxnorm _ _ vs2 _ => even vs2
  | .vcvt _ _ fmt _ => fmt != 4 && fmt.toNat < 10
  | .vcompress vd _ _ _ => even vd
  | .vflight n _ _ => n != 0
  | .msend sem scope _ _ _ => semRel sem scope
  | .rwr sem scope _ _ => semRel sem scope
  | .cpy sem scope _ _ => semAny sem scope
  | .cpym sem scope _ _ _ => semAny sem scope
  | .gath sem scope _ _ => semAny sem scope
  | .scat sem scope _ _ => semAny sem scope
  | .bowait sem scope _ _ => semAcq sem scope
  | .gadd sem scope _ _ _ => semAny sem scope
  | .gfadd sem scope _ _ _ => semAny sem scope
  | .gmin sem scope _ _ _ => semAny sem scope
  | .gmax sem scope _ _ _ => semAny sem scope
  | .gor sem scope _ _ _ => semAny sem scope
  | .gand sem scope _ _ _ => semAny sem scope
  | .gxor sem scope _ _ _ => semAny sem scope
  | .gcas sem scope _ _ _ => semAny sem scope
  | .gqpush sem scope _ _ _ => semAny sem scope
  | .gqpop sem scope _ _ => semAny sem scope
  | .bpush sem scope _ _ rs2 => semAny sem scope && even rs2
  | .bpop sem scope rd _ => semAny sem scope && even rd && rd != 0
  | .bround sem scope _ _ _ => semRel sem scope
  | .back sem scope _ _ _ => semRel sem scope
  | .bidxget sem scope _ _ _ => semAny sem scope
  | .bidxput sem scope _ _ rs2 => semAny sem scope && even rs2
  | .qrun sem scope _ _ _ => semRel sem scope
  | .qslope sem scope _ _ _ => semRel sem scope
  | .qsample sem scope _ _ _ => semRel sem scope
  | .qinj sem scope _ _ _ => semRel sem scope
  | .cstart sem scope _ _ => semRel sem scope
  | .cwait sem scope _ _ => semAcq sem scope
  | .fmtp fmt => fmt.toNat < 10
  | .trap imm => decide (2 ≤ imm.toNat)
  | .mcommitScratchpad _ rs2 => rs2 != 0
  | _ => true

end Sys2Proof
end

