-- ==== Sys2Proof/Decode.lean ====
section
/-! DEFINITION. The decoder, total on every 32-bit word, and the encoder, both written from the encoding tables of R13, R14,
R23 to R30, R58, R104, R142, R170, R214, R238, R278, R286, R295, R324, R358 and R363. -/

namespace Sys2Proof

/-- Why a word is no instruction; every one of them raises cause 0 (R31). -/
inductive Reject where
  /-- bits [1:0] or [4:2] name another length (R8). -/
  | length
  /-- an illegal major opcode (R13). -/
  | majorOpcode
  /-- an unlisted combination of a base opcode (R14, R20). -/
  | baseField
  /-- an unassigned custom function code (R27, R28, R30). -/
  | unassigned
  /-- a reserved field that is not zero (R24). -/
  | reservedField
  /-- a predicate field above 7 (R24, R166). -/
  | predicateField
  /-- a semantics and scope that the entry does not accept (R25). -/
  | semantics
  /-- an operand that the entry calls illegal (R11, R58, R142, R170, R295). -/
  | operand
deriving DecidableEq, Repr

/-- The six fields of every format (R23): `f7` holds S and f6, or S, sem, scope and f2. -/
structure Fields where
  f7 : BitVec 7
  rs2 : BitVec 5
  rs1 : BitVec 5
  f3 : BitVec 3
  rd : BitVec 5
  op : BitVec 7
deriving DecidableEq, Repr

/-- The fields of a word. -/
def Fields.ofWord (w : IWord) : Fields :=
  { f7 := w.extractLsb' 25 7, rs2 := w.extractLsb' 20 5, rs1 := w.extractLsb' 15 5,
    f3 := w.extractLsb' 12 3, rd := w.extractLsb' 7 5, op := w.extractLsb' 0 7 }

/-- The word of six fields. -/
def Fields.toWord (f : Fields) : IWord := f.f7 ++ f.rs2 ++ f.rs1 ++ f.f3 ++ f.rd ++ f.op

/-- The I immediate: bits [31:20]. -/
def Fields.immI (f : Fields) : BitVec 12 := f.f7 ++ f.rs2
/-- The S immediate: bits [31:25] and [11:7]. -/
def Fields.immS (f : Fields) : BitVec 12 := f.f7 ++ f.rd
/-- The U immediate: bits [31:12]. -/
def Fields.immU (f : Fields) : BitVec 20 := f.f7 ++ f.rs2 ++ f.rs1 ++ f.f3
/-- The branch offset without its zero bit: imm[12], imm[11], imm[10:5], imm[4:1]. -/
def Fields.immB (f : Fields) : BitVec 12 :=
  f.f7.extractLsb' 6 1 ++ f.rd.extractLsb' 0 1 ++ f.f7.extractLsb' 0 6 ++ f.rd.extractLsb' 1 4
/-- The JAL offset without its zero bit: imm[20], imm[19:12], imm[11], imm[10:1]. -/
def Fields.immJ (f : Fields) : BitVec 20 :=
  f.f7.extractLsb' 6 1 ++ f.rs1 ++ f.f3 ++ f.rs2.extractLsb' 0 1 ++ f.f7.extractLsb' 0 6 ++ f.rs2.extractLsb' 1 4
/-- The switch marker. -/
def Fields.s (f : Fields) : Bool := f.f7.getLsbD 6
/-- f6 of formats V and Y. -/
def Fields.f6 (f : Fields) : BitVec 6 := f.f7.extractLsb' 0 6
/-- sem of format E. -/
def Fields.sem (f : Fields) : BitVec 2 := f.f7.extractLsb' 4 2
/-- scope of format E. -/
def Fields.scope (f : Fields) : BitVec 2 := f.f7.extractLsb' 2 2
/-- f2 of format E. -/
def Fields.f2 (f : Fields) : BitVec 2 := f.f7.extractLsb' 0 2
/-- The six-bit shift amount. -/
def Fields.sh6 (f : Fields) : BitVec 6 := f.f7.extractLsb' 0 1 ++ f.rs2
/-- f7 without the top bit of the shift amount. -/
def Fields.shf (f : Fields) : BitVec 6 := f.f7.extractLsb' 1 6

/-- The low three bits of a predicate field. -/
def klo (r : BitVec 5) : BitVec 3 := r.extractLsb' 0 3
/-- A predicate field whose bits [4:3] are zero (R24). -/
def kOk (r : BitVec 5) : Bool := r.extractLsb' 3 2 == 0
/-- The low two bits of a table or size field. -/
def lo2 (r : BitVec 5) : BitVec 2 := r.extractLsb' 0 2
/-- A table or size field whose bits [4:2] are zero. -/
def zOk (r : BitVec 5) : Bool := r.extractLsb' 2 3 == 0

/-- Checks in order: the first that fails names the rejection. -/
def chk (ok : Bool) (why : Reject) (rest : Except Reject Instr) : Except Reject Instr :=
  if ok then rest else .error why

/-- LOAD (R14). -/
def decodeLoad (f : Fields) : Except Reject Instr :=
  match f.f3.toNat with
  | 0 => .ok (.lb f.rd f.rs1 f.immI)
  | 1 => .ok (.lh f.rd f.rs1 f.immI)
  | 2 => .ok (.lw f.rd f.rs1 f.immI)
  | 3 => .ok (.ld f.rd f.rs1 f.immI)
  | 4 => .ok (.lbu f.rd f.rs1 f.immI)
  | 5 => .ok (.lhu f.rd f.rs1 f.immI)
  | 6 => .ok (.lwu f.rd f.rs1 f.immI)
  | _ => .error .baseField

/-- STORE (R14). -/
def decodeStore (f : Fields) : Except Reject Instr :=
  match f.f3.toNat with
  | 0 => .ok (.sb f.rs1 f.rs2 f.immS)
  | 1 => .ok (.sh f.rs1 f.rs2 f.immS)
  | 2 => .ok (.sw f.rs1 f.rs2 f.immS)
  | 3 => .ok (.sd f.rs1 f.rs2 f.immS)
  | _ => .error .baseField

/-- OP-IMM (R14). -/
def decodeOpImm (f : Fields) : Except Reject Instr :=
  match f.f3.toNat with
  | 0 => .ok (.addi f.rd f.rs1 f.immI)
  | 1 => chk (f.shf == 0) .baseField (.ok (.slli f.rd f.rs1 f.sh6))
  | 2 => .ok (.slti f.rd f.rs1 f.immI)
  | 3 => .ok (.sltiu f.rd f.rs1 f.immI)
  | 4 => .ok (.xori f.rd f.rs1 f.immI)
  | 5 => if f.shf == 0 then .ok (.srli f.rd f.rs1 f.sh6)
         else chk (f.shf == 16) .baseField (.ok (.srai f.rd f.rs1 f.sh6))
  | 6 => .ok (.ori f.rd f.rs1 f.immI)
  | _ => .ok (.andi f.rd f.rs1 f.immI)

/-- OP-IMM-32, with SLLI.UW (R14). -/
def decodeOpImm32 (f : Fields) : Except Reject Instr :=
  match f.f3.toNat with
  | 0 => .ok (.addiw f.rd f.rs1 f.immI)
  | 1 => if f.f7 == 0 then .ok (.slliw f.rd f.rs1 f.rs2)
         else chk (f.shf == 2) .baseField (.ok (.slliUw f.rd f.rs1 f.sh6))
  | 5 => if f.f7 == 0 then .ok (.srliw f.rd f.rs1 f.rs2)
         else chk (f.f7 == 32) .baseField (.ok (.sraiw f.rd f.rs1 f.rs2))
  | _ => .error .baseField

/-- OP, with M and Zba (R14). -/
def decodeOp (f : Fields) : Except Reject Instr :=
  match f.f7.toNat, f.f3.toNat with
  | 0, 0 => .ok (.add f.rd f.rs1 f.rs2)
  | 32, 0 => .ok (.sub f.rd f.rs1 f.rs2)
  | 0, 1 => .ok (.sll f.rd f.rs1 f.rs2)
  | 0, 2 => .ok (.slt f.rd f.rs1 f.rs2)
  | 0, 3 => .ok (.sltu f.rd f.rs1 f.rs2)
  | 0, 4 => .ok (.xor f.rd f.rs1 f.rs2)
  | 0, 5 => .ok (.srl f.rd f.rs1 f.rs2)
  | 32, 5 => .ok (.sra f.rd f.rs1 f.rs2)
  | 0, 6 => .ok (.or f.rd f.rs1 f.rs2)
  | 0, 7 => .ok (.and f.rd f.rs1 f.rs2)
  | 1, 0 => .ok (.mul f.rd f.rs1 f.rs2)
  | 1, 1 => .ok (.mulh f.rd f.rs1 f.rs2)
  | 1, 2 => .ok (.mulhsu f.rd f.rs1 f.rs2)
  | 1, 3 => .ok (.mulhu f.rd f.rs1 f.rs2)
  | 1, 4 => .ok (.div f.rd f.rs1 f.rs2)
  | 1, 5 => .ok (.divu f.rd f.rs1 f.rs2)
  | 1, 6 => .ok (.rem f.rd f.rs1 f.rs2)
  | 1, 7 => .ok (.remu f.rd f.rs1 f.rs2)
  | 16, 2 => .ok (.sh1add f.rd f.rs1 f.rs2)
  | 16, 4 => .ok (.sh2add f.rd f.rs1 f.rs2)
  | 16, 6 => .ok (.sh3add f.rd f.rs1 f.rs2)
  | _, _ => .error .baseField

/-- OP-32, with M and Zba (R14). -/
def decodeOp32 (f : Fields) : Except Reject Instr :=
  match f.f7.toNat, f.f3.toNat with
  | 0, 0 => .ok (.addw f.rd f.rs1 f.rs2)
  | 32, 0 => .ok (.subw f.rd f.rs1 f.rs2)
  | 0, 1 => .ok (.sllw f.rd f.rs1 f.rs2)
  | 0, 5 => .ok (.srlw f.rd f.rs1 f.rs2)
  | 32, 5 => .ok (.sraw f.rd f.rs1 f.rs2)
  | 1, 0 => .ok (.mulw f.rd f.rs1 f.rs2)
  | 1, 4 => .ok (.divw f.rd f.rs1 f.rs2)
  | 1, 5 => .ok (.divuw f.rd f.rs1 f.rs2)
  | 1, 6 => .ok (.remw f.rd f.rs1 f.rs2)
  | 1, 7 => .ok (.remuw f.rd f.rs1 f.rs2)
  | 4, 0 => .ok (.addUw f.rd f.rs1 f.rs2)
  | 16, 2 => .ok (.sh1addUw f.rd f.rs1 f.rs2)
  | 16, 4 => .ok (.sh2addUw f.rd f.rs1 f.rs2)
  | 16, 6 => .ok (.sh3addUw f.rd f.rs1 f.rs2)
  | _, _ => .error .baseField

/-- BRANCH (R14). -/
def decodeBranch (f : Fields) : Except Reject Instr :=
  match f.f3.toNat with
  | 0 => .ok (.beq f.rs1 f.rs2 f.immB)
  | 1 => .ok (.bne f.rs1 f.rs2 f.immB)
  | 4 => .ok (.blt f.rs1 f.rs2 f.immB)
  | 5 => .ok (.bge f.rs1 f.rs2 f.immB)
  | 6 => .ok (.bltu f.rs1 f.rs2 f.immB)
  | 7 => .ok (.bgeu f.rs1 f.rs2 f.immB)
  | _ => .error .baseField

/-- MISC-MEM: FENCE in its three names (R17) and FENCE.I (R18). -/
def decodeMiscMem (f : Fields) : Except Reject Instr :=
  match f.f3.toNat with
  | 0 => if f.immI == 0x833 && f.rs1 == 0 && f.rd == 0 then .ok .fenceTso
         else if f.immI == 0x010 && f.rs1 == 0 && f.rd == 0 then .ok .pause
         else .ok (.fence f.immI f.rs1 f.rd)
  | 1 => .ok (.fenceI f.immI f.rs1 f.rd)
  | _ => .error .baseField

/-- SYSTEM (R14, R19, R20). -/
def decodeSystem (f : Fields) : Except Reject Instr :=
  match f.f3.toNat with
  | 0 => if f.rs1 == 0 && f.rd == 0 && f.immI == 0 then .ok .ecall
         else if f.rs1 == 0 && f.rd == 0 && f.immI == 1 then .ok .ebreak
         else if f.rs1 == 0 && f.rd == 0 && f.immI == 0x105 then .ok .wfi
         else .error .baseField
  | 1 => .ok (.csrrw f.rd f.rs1 f.immI)
  | 2 => .ok (.csrrs f.rd f.rs1 f.immI)
  | 3 => .ok (.csrrc f.rd f.rs1 f.immI)
  | 5 => .ok (.csrrwi f.rd f.rs1 f.immI)
  | 6 => .ok (.csrrsi f.rd f.rs1 f.immI)
  | 7 => .ok (.csrrci f.rd f.rs1 f.immI)
  | _ => .error .baseField

/-- AMO: the A extension (R14); funct5 in the high bits, then aq and rl. -/
def decodeAmo (f : Fields) : Except Reject Instr :=
  match (f.f7.extractLsb' 2 5).toNat, f.f3.toNat with
  | 2, 2 => chk (f.rs2 == 0) .baseField (.ok (.lrW (f.f7.getLsbD 1) (f.f7.getLsbD 0) f.rd f.rs1))
  | 2, 3 => chk (f.rs2 == 0) .baseField (.ok (.lrD (f.f7.getLsbD 1) (f.f7.getLsbD 0) f.rd f.rs1))
  | 3, 2 => .ok (.scW (f.f7.getLsbD 1) (f.f7.getLsbD 0) f.rd f.rs1 f.rs2)
  | 3, 3 => .ok (.scD (f.f7.getLsbD 1) (f.f7.getLsbD 0) f.rd f.rs1 f.rs2)
  | 1, 2 => .ok (.amoswapW (f.f7.getLsbD 1) (f.f7.getLsbD 0) f.rd f.rs1 f.rs2)
  | 1, 3 => .ok (.amoswapD (f.f7.getLsbD 1) (f.f7.getLsbD 0) f.rd f.rs1 f.rs2)
  | 0, 2 => .ok (.amoaddW (f.f7.getLsbD 1) (f.f7.getLsbD 0) f.rd f.rs1 f.rs2)
  | 0, 3 => .ok (.amoaddD (f.f7.getLsbD 1) (f.f7.getLsbD 0) f.rd f.rs1 f.rs2)
  | 4, 2 => .ok (.amoxorW (f.f7.getLsbD 1) (f.f7.getLsbD 0) f.rd f.rs1 f.rs2)
  | 4, 3 => .ok (.amoxorD (f.f7.getLsbD 1) (f.f7.getLsbD 0) f.rd f.rs1 f.rs2)
  | 12, 2 => .ok (.amoandW (f.f7.getLsbD 1) (f.f7.getLsbD 0) f.rd f.rs1 f.rs2)
  | 12, 3 => .ok (.amoandD (f.f7.getLsbD 1) (f.f7.getLsbD 0) f.rd f.rs1 f.rs2)
  | 8, 2 => .ok (.amoorW (f.f7.getLsbD 1) (f.f7.getLsbD 0) f.rd f.rs1 f.rs2)
  | 8, 3 => .ok (.amoorD (f.f7.getLsbD 1) (f.f7.getLsbD 0) f.rd f.rs1 f.rs2)
  | 16, 2 => .ok (.amominW (f.f7.getLsbD 1) (f.f7.getLsbD 0) f.rd f.rs1 f.rs2)
  | 16, 3 => .ok (.amominD (f.f7.getLsbD 1) (f.f7.getLsbD 0) f.rd f.rs1 f.rs2)
  | 20, 2 => .ok (.amomaxW (f.f7.getLsbD 1) (f.f7.getLsbD 0) f.rd f.rs1 f.rs2)
  | 20, 3 => .ok (.amomaxD (f.f7.getLsbD 1) (f.f7.getLsbD 0) f.rd f.rs1 f.rs2)
  | 24, 2 => .ok (.amominuW (f.f7.getLsbD 1) (f.f7.getLsbD 0) f.rd f.rs1 f.rs2)
  | 24, 3 => .ok (.amominuD (f.f7.getLsbD 1) (f.f7.getLsbD 0) f.rd f.rs1 f.rs2)
  | 28, 2 => .ok (.amomaxuW (f.f7.getLsbD 1) (f.f7.getLsbD 0) f.rd f.rs1 f.rs2)
  | 28, 3 => .ok (.amomaxuD (f.f7.getLsbD 1) (f.f7.getLsbD 0) f.rd f.rs1 f.rs2)
  | _, _ => .error .baseField

/-- custom-0, format V (R27, R170). -/
def decodeVa (f : Fields) : Except Reject Instr :=
  match f.f6.toNat with
  | 0 => .ok (.vadd f.rd f.rs1 f.rs2 f.f3)
  | 1 => .ok (.vsub f.rd f.rs1 f.rs2 f.f3)
  | 2 => .ok (.vmul f.rd f.rs1 f.rs2 f.f3)
  | 3 => .ok (.vfma f.rd f.rs1 f.rs2 f.f3)
  | 4 => .ok (.vmin f.rd f.rs1 f.rs2 f.f3)
  | 5 => .ok (.vmax f.rd f.rs1 f.rs2 f.f3)
  | 6 => chk (f.rs2 == 0) .reservedField (.ok (.vabs f.rd f.rs1 f.f3))
  | 7 => chk (f.rs2 == 0) .reservedField (.ok (.vneg f.rd f.rs1 f.f3))
  | 8 => .ok (.vadds f.rd f.rs1 f.rs2 f.f3)
  | 9 => .ok (.vsubs f.rd f.rs1 f.rs2 f.f3)
  | 10 => .ok (.vmulh f.rd f.rs1 f.rs2 f.f3)
  | 11 => .ok (.vmulw f.rd f.rs1 f.rs2 f.f3)
  | 12 => .ok (.vand f.rd f.rs1 f.rs2 f.f3)
  | 13 => .ok (.vor f.rd f.rs1 f.rs2 f.f3)
  | 14 => .ok (.vxor f.rd f.rs1 f.rs2 f.f3)
  | 15 => .ok (.vshl f.rd f.rs1 f.rs2 f.f3)
  | 16 => .ok (.vshr f.rd f.rs1 f.rs2 f.f3)
  | 17 => .ok (.vsra f.rd f.rs1 f.rs2 f.f3)
  | 18 => .ok (.vaddi f.rd f.rs1 f.rs2 f.f3)
  | 19 => .ok (.vshli f.rd f.rs1 f.rs2 f.f3)
  | 20 => .ok (.vshri f.rd f.rs1 f.rs2 f.f3)
  | 21 => .ok (.vsrai f.rd f.rs1 f.rs2 f.f3)
  | 22 => .ok (.vdiv f.rd f.rs1 f.rs2 f.f3)
  | 23 => chk (f.rs2 == 0) .reservedField (.ok (.vsqrt f.rd f.rs1 f.f3))
  | 24 => chk (f.rs2 == 0) .reservedField (.ok (.vexp f.rd f.rs1 f.f3))
  | 25 => .ok (.vsel f.rd f.rs1 f.rs2 f.f3)
  | 26 => chk (kOk f.rd) .predicateField (chk ((klo f.rd) != 0) .operand (.ok (.vcmpeq (klo f.rd) f.rs1 f.rs2 f.f3)))
  | 27 => chk (kOk f.rd) .predicateField (chk ((klo f.rd) != 0) .operand (.ok (.vcmpne (klo f.rd) f.rs1 f.rs2 f.f3)))
  | 28 => chk (kOk f.rd) .predicateField (chk ((klo f.rd) != 0) .operand (.ok (.vcmplt (klo f.rd) f.rs1 f.rs2 f.f3)))
  | 29 => chk (kOk f.rd) .predicateField (chk ((klo f.rd) != 0) .operand (.ok (.vcmple (klo f.rd) f.rs1 f.rs2 f.f3)))
  | 30 => chk (kOk f.rd) .predicateField (chk ((klo f.rd) != 0) .operand (.ok (.vcmpltu (klo f.rd) f.rs1 f.rs2 f.f3)))
  | 31 => chk (kOk f.rd) .predicateField (chk ((klo f.rd) != 0) .operand (.ok (.vcmpleu (klo f.rd) f.rs1 f.rs2 f.f3)))
  | 32 => chk (kOk f.rs2) .predicateField (chk (kOk f.rs1) .predicateField (chk (kOk f.rd) .predicateField (chk ((klo f.rd) != 0) .operand (.ok (.kand (klo f.rd) (klo f.rs1) (klo f.rs2) f.f3)))))
  | 33 => chk (kOk f.rs2) .predicateField (chk (kOk f.rs1) .predicateField (chk (kOk f.rd) .predicateField (chk ((klo f.rd) != 0) .operand (.ok (.kor (klo f.rd) (klo f.rs1) (klo f.rs2) f.f3)))))
  | 34 => chk (kOk f.rs2) .predicateField (chk (kOk f.rs1) .predicateField (chk (kOk f.rd) .predicateField (chk ((klo f.rd) != 0) .operand (.ok (.kxor (klo f.rd) (klo f.rs1) (klo f.rs2) f.f3)))))
  | 35 => chk (kOk f.rs2) .predicateField (chk (kOk f.rs1) .predicateField (chk (kOk f.rd) .predicateField (chk ((klo f.rd) != 0) .operand (.ok (.kandn (klo f.rd) (klo f.rs1) (klo f.rs2) f.f3)))))
  | 36 => chk (kOk f.rd) .predicateField (chk ((klo f.rd) != 0) .operand (.ok (.vwhile (klo f.rd) f.rs1 f.rs2 f.f3)))
  | 37 => chk (f.rs2 == 0) .reservedField (chk (kOk f.rs1) .predicateField (.ok (.kcount f.rd (klo f.rs1) f.f3)))
  | 38 => chk (f.rs2 == 0) .reservedField (chk (kOk f.rs1) .predicateField (.ok (.kfirst f.rd (klo f.rs1) f.f3)))
  | 39 => chk (f.rs2 == 0) .reservedField (.ok (.vredadd f.rd f.rs1 f.f3))
  | 40 => chk (f.rs2 == 0) .reservedField (.ok (.vredmin f.rd f.rs1 f.f3))
  | 41 => chk (f.rs2 == 0) .reservedField (.ok (.vredmax f.rd f.rs1 f.f3))
  | 42 => chk (f.rs2 == 0) .reservedField (.ok (.vbcast f.rd f.rs1 f.f3))
  | 43 => chk (f.f3 == 0) .reservedField (.ok (.vmvx f.rd f.rs1 f.rs2))
  | 44 => .ok (.vperm f.rd f.rs1 f.rs2 f.f3)
  | 45 => chk (f.rs2 == 0) .reservedField (chk (f.rs1 == 0) .reservedField (.ok (.viota f.rd f.f3)))
  | 46 => chk (f.rs2 == 0) .reservedField (.ok (.vmov f.rd f.rs1 f.f3))
  | 47 => chk (f.rs2 == 0) .reservedField (chk (even f.rd) .operand (.ok (.smxstep f.rd f.rs1 f.f3)))
  | 48 => chk (even f.rs2) .operand (.ok (.smxnorm f.rd f.rs1 f.rs2 f.f3))
  | 49 => chk (f.rs2 == 0) .reservedField (.ok (.vpopc f.rd f.rs1 f.f3))
  | 50 => chk (f.rs2 == 0) .reservedField (.ok (.vclz f.rd f.rs1 f.f3))
  | 51 => chk (zOk f.rs2) .operand (.ok (.gaddr f.rd f.rs1 (lo2 f.rs2) f.f3))
  | _ => .error .unassigned

/-- custom-1, format V (R28, R170). -/
def decodeVx (f : Fields) : Except Reject Instr :=
  match f.f6.toNat with
  | 0 => .ok (.vld f.rd f.rs1 f.rs2 f.f3)
  | 1 => .ok (.vldc f.rd f.rs1 f.rs2 f.f3)
  | 2 => .ok (.vst f.rd f.rs1 f.rs2 f.f3)
  | 3 => .ok (.vstc f.rd f.rs1 f.rs2 f.f3)
  | 4 => .ok (.vlds f.rd f.rs1 f.rs2 f.f3)
  | 5 => .ok (.vsts f.rd f.rs1 f.rs2 f.f3)
  | 6 => .ok (.vldx f.rd f.rs1 f.rs2 f.f3)
  | 7 => .ok (.vstx f.rd f.rs1 f.rs2 f.f3)
  | 8 => chk (zOk f.rs2) .operand (.ok (.vldg f.rd f.rs1 (lo2 f.rs2) f.f3))
  | 9 => chk (zOk f.rs2) .operand (.ok (.vstg f.rd f.rs1 (lo2 f.rs2) f.f3))
  | 10 => chk (f.rs2 != 4) .operand (chk (decide (f.rs2.toNat < 10)) .operand (.ok (.vcvt f.rd f.rs1 f.rs2 f.f3)))
  | 11 => chk (f.f3 == 0) .reservedField (.ok (.vpvenc f.rd f.rs1 f.rs2))
  | 12 => chk (f.f3 == 0) .reservedField (.ok (.vpvdec f.rd f.rs1 f.rs2))
  | 13 => chk (f.f3 == 0) .reservedField (chk (even f.rd) .operand (.ok (.vcompress f.rd f.rs1 (f.rs2.extractLsb' 1 4) (f.rs2.getLsbD 0))))
  | 14 => chk (f.rs2 == 0) .reservedField (.ok (.vdesc f.rd f.rs1 f.f3))
  | 15 => chk (f.f3 == 0) .reservedField (chk (!f.rd.getLsbD 4) .operand (chk ((f.rd.extractLsb' 0 4) != 0) .operand (.ok (.vflight (f.rd.extractLsb' 0 4) f.rs1 f.rs2))))
  | 16 => chk (f.rs2 == 0) .reservedField (chk (f.rs1 == 0) .reservedField (chk (f.f3 == 0) .reservedField (.ok (.vwidth f.rd))))
  | 17 => chk (f.rs2 == 0) .reservedField (chk (f.rs1 == 0) .reservedField (chk (f.f3 == 0) .reservedField (chk (f.rd == 0) .reservedField (.ok (.lwait)))))
  | 18 => chk (zOk f.rs2) .operand (.ok (.vldb f.rd f.rs1 (lo2 f.rs2) f.f3))
  | _ => .error .unassigned

/-- custom-2, format E (R29, R238, R278, R286, R295, R324, R363). -/
def decodeEn (f : Fields) : Except Reject Instr :=
  match f.f3.toNat, f.f2.toNat with
  | 0, 0 => chk (semRel f.sem f.scope) .semantics (.ok (.msend f.sem f.scope f.rd f.rs1 f.rs2))
  | 0, 1 => chk (f.rd == 0) .reservedField (chk (semRel f.sem f.scope) .semantics (.ok (.rwr f.sem f.scope f.rs1 f.rs2)))
  | 0, 2 => chk (f.rs2 == 0) .reservedField (chk (semAny f.sem f.scope) .semantics (.ok (.cpy f.sem f.scope f.rd f.rs1)))
  | 0, 3 => chk (semAny f.sem f.scope) .semantics (.ok (.cpym f.sem f.scope f.rd f.rs1 f.rs2))
  | 1, 0 => chk (f.rs2 == 0) .reservedField (chk (semAny f.sem f.scope) .semantics (.ok (.gath f.sem f.scope f.rd f.rs1)))
  | 1, 1 => chk (f.rs2 == 0) .reservedField (chk (semAny f.sem f.scope) .semantics (.ok (.scat f.sem f.scope f.rd f.rs1)))
  | 1, 2 => chk (f.rd == 0) .reservedField (chk (f.sem == 0 && f.scope == 0) .semantics (.ok (.boinit f.rs1 f.rs2)))
  | 1, 3 => chk (f.rs2 == 0) .reservedField (chk (semAcq f.sem f.scope) .semantics (.ok (.bowait f.sem f.scope f.rd f.rs1)))
  | 2, 0 => chk (semAny f.sem f.scope) .semantics (.ok (.gadd f.sem f.scope f.rd f.rs1 f.rs2))
  | 2, 1 => chk (semAny f.sem f.scope) .semantics (.ok (.gfadd f.sem f.scope f.rd f.rs1 f.rs2))
  | 2, 2 => chk (semAny f.sem f.scope) .semantics (.ok (.gmin f.sem f.scope f.rd f.rs1 f.rs2))
  | 2, 3 => chk (semAny f.sem f.scope) .semantics (.ok (.gmax f.sem f.scope f.rd f.rs1 f.rs2))
  | 3, 0 => chk (semAny f.sem f.scope) .semantics (.ok (.gor f.sem f.scope f.rd f.rs1 f.rs2))
  | 3, 1 => chk (semAny f.sem f.scope) .semantics (.ok (.gand f.sem f.scope f.rd f.rs1 f.rs2))
  | 3, 2 => chk (semAny f.sem f.scope) .semantics (.ok (.gxor f.sem f.scope f.rd f.rs1 f.rs2))
  | 3, 3 => chk (semAny f.sem f.scope) .semantics (.ok (.gcas f.sem f.scope f.rd f.rs1 f.rs2))
  | 4, 0 => chk (semAny f.sem f.scope) .semantics (.ok (.gqpush f.sem f.scope f.rd f.rs1 f.rs2))
  | 4, 1 => chk (f.rs2 == 0) .reservedField (chk (semAny f.sem f.scope) .semantics (.ok (.gqpop f.sem f.scope f.rd f.rs1)))
  | 4, 2 => chk (semAny f.sem f.scope) .semantics (chk (even f.rs2) .operand (.ok (.bpush f.sem f.scope f.rd f.rs1 f.rs2)))
  | 4, 3 => chk (f.rs2 == 0) .reservedField (chk (semAny f.sem f.scope) .semantics (chk (even f.rd) .operand (chk (f.rd != 0) .operand (.ok (.bpop f.sem f.scope f.rd f.rs1)))))
  | 5, 0 => chk (semRel f.sem f.scope) .semantics (.ok (.bround f.sem f.scope f.rd f.rs1 f.rs2))
  | 5, 1 => chk (semRel f.sem f.scope) .semantics (.ok (.back f.sem f.scope f.rd f.rs1 f.rs2))
  | 5, 2 => chk (semAny f.sem f.scope) .semantics (.ok (.bidxget f.sem f.scope f.rd f.rs1 f.rs2))
  | 5, 3 => chk (semAny f.sem f.scope) .semantics (chk (even f.rs2) .operand (.ok (.bidxput f.sem f.scope f.rd f.rs1 f.rs2)))
  | 6, 0 => chk (semRel f.sem f.scope) .semantics (.ok (.qrun f.sem f.scope f.rd f.rs1 f.rs2))
  | 6, 1 => chk (semRel f.sem f.scope) .semantics (.ok (.qslope f.sem f.scope f.rd f.rs1 f.rs2))
  | 6, 2 => chk (semRel f.sem f.scope) .semantics (.ok (.qsample f.sem f.scope f.rd f.rs1 f.rs2))
  | 6, 3 => chk (semRel f.sem f.scope) .semantics (.ok (.qinj f.sem f.scope f.rd f.rs1 f.rs2))
  | 7, 0 => chk (f.rs2 == 0) .reservedField (chk (semRel f.sem f.scope) .semantics (.ok (.cstart f.sem f.scope f.rd f.rs1)))
  | 7, 1 => chk (f.rs2 == 0) .reservedField (chk (semAcq f.sem f.scope) .semantics (.ok (.cwait f.sem f.scope f.rd f.rs1)))
  | 7, 2 => chk (f.rs2 == 0) .reservedField (chk (f.sem == 0 && f.scope == 0) .semantics (.ok (.ccancel f.rd f.rs1)))
  | 7, 3 => chk (f.rs2 == 0) .reservedField (chk (f.rs1 == 0) .reservedField (chk (f.sem == 0 && f.scope == 0) .semantics (.ok (.pflush f.rd))))
  | _, _ => .error .unassigned

/-- custom-3, format Y (R30, R35, R58, R104, R142, R214).  The two forms of MCOMMIT share one code: rs2 = 0 is the vector form. -/
def decodeSy (f : Fields) : Except Reject Instr :=
  match f.f3.toNat, f.f6.toNat with
  | 0, 0 => .ok (.cardPost f.rd f.rs1 f.rs2)
  | 0, 1 => chk (f.rs2 == 0) .reservedField (chk (f.rd == 0) .reservedField (.ok (.cardSusp f.rs1)))
  | 0, 2 => .ok (.cardBind f.rd f.rs1 f.rs2)
  | 0, 3 => chk (f.rs2 == 0) .reservedField (chk (f.rs1 == 0) .reservedField (chk (f.rd == 0) .reservedField (.ok (.cardExit))))
  | 0, 4 => chk (f.rs2 == 0) .reservedField (chk (f.rs1 == 0) .reservedField (chk (f.rd == 0) .reservedField (.ok (.cardYield))))
  | 0, 5 => chk (f.rs2 == 0) .reservedField (.ok (.cardPrio f.rd f.rs1))
  | 0, 6 => chk (f.rs2 == 0) .reservedField (.ok (.cardSteal f.rd f.rs1))
  | 0, 7 => chk (f.rs2 == 0) .reservedField (.ok (.cardSelf f.rd f.rs1))
  | 0, 8 => chk (f.rs2 == 0) .reservedField (chk (f.rs1 == 0) .reservedField (chk (f.rd == 0) .reservedField (.ok (.hdone))))
  | 0, 9 => chk (f.rs2 == 0) .reservedField (chk (f.rd == 0) .reservedField (.ok (.dualsig f.rs1)))
  | 0, 10 => chk (f.rs2 == 0) .reservedField (chk (f.rs1.extractLsb' 3 2 == 3) .operand (.ok (.ptake f.rd (klo f.rs1))))
  | 1, 0 => chk (f.rs2 == 0) .reservedField (chk (f.rs1 == 0) .reservedField (chk (f.rd == 0) .reservedField (.ok (.barCore))))
  | 1, 1 => chk (f.rs2 == 0) .reservedField (chk (f.rs1 == 0) .reservedField (chk (f.rd == 0) .reservedField (.ok (.barRow))))
  | 1, 2 => chk (f.rs2 == 0) .reservedField (chk (f.rs1 == 0) .reservedField (chk (f.rd == 0) .reservedField (.ok (.barDie))))
  | 1, 3 => chk (f.rs2 == 0) .reservedField (chk (f.rs1 == 0) .reservedField (chk (f.rd == 0) .reservedField (.ok (.barPod))))
  | 1, 4 => chk (f.rs1 == 0) .reservedField (chk (f.rd == 0) .reservedField (.ok (.scfence f.rs2)))
  | 1, 5 => chk (f.rs2 == 0) .reservedField (chk (f.rs1 == 0) .reservedField (chk (f.rd == 0) .reservedField (.ok (.lbfence))))
  | 1, 6 => chk (f.rs2 == 0) .reservedField (chk (f.rd == 0) .reservedField (chk (decide (f.rs1.toNat < 10)) .operand (.ok (.fmtp f.rs1))))
  | 1, 7 => chk (f.rs2 == 0 && f.rs1 == 0 && f.rd == 0) .reservedField (chk f.s .operand (.ok .switch))
  | 2, 0 => chk (f.rs2 == 0) .reservedField (chk (f.rs1 == 0) .reservedField (chk (f.rd == 0) .reservedField (.ok (.tret))))
  | 2, 1 => chk (f.rd == 0) .reservedField (chk (decide (2 ≤ (f.rs2 ++ f.rs1).toNat)) .operand (.ok (.trap (f.rs2 ++ f.rs1))))
  | 2, 2 => chk (f.rs2 == 0) .reservedField (chk (f.rd == 0) .reservedField (.ok (.ckpt f.rs1)))
  | 2, 3 => .ok (.seal f.rd f.rs1 f.rs2)
  | 2, 4 => .ok (.plog f.rd f.rs1 f.rs2)
  | 2, 5 => chk (f.rs2 == 0) .reservedField (chk (f.rd == 0) .reservedField (.ok (.tlbReplay f.rs1)))
  | 2, 6 => chk (f.rd == 0) .reservedField (.ok (.tlbInv f.rs1 f.rs2))
  | 3, 0 => .ok (.mringCfg f.rd f.rs1 f.rs2)
  | 3, 1 => chk (f.rs2 == 0) .reservedField (.ok (.mringFree f.rd f.rs1))
  | 3, 2 => .ok (.mringDrop f.rd f.rs1 f.rs2)
  | 3, 3 => chk (f.rs2 == 0) .reservedField (.ok (.mgang f.rd f.rs1))
  | 3, 4 => chk (f.rs2 == 0) .reservedField (.ok (.mma f.rd f.rs1))
  | 3, 5 => .ok (.mmaSp f.rd f.rs1 f.rs2)
  | 3, 6 => .ok (.mgroup f.rd f.rs1 f.rs2)
  | 3, 7 => chk (f.rs2 == 0) .reservedField (.ok (.mread f.rd f.rs1))
  | 3, 8 => if f.rs2 == 0 then .ok (.mcommitVector f.rd f.rs1)
            else chk (f.rd == 0) .reservedField (.ok (.mcommitScratchpad f.rs1 f.rs2))
  | 3, 9 => chk (f.rs2 == 0) .reservedField (chk (f.rd == 0) .reservedField (.ok (.mwait f.rs1)))
  | 3, 10 => chk (f.rs2 == 0) .reservedField (chk (f.rd == 0) .reservedField (.ok (.mzero f.rs1)))
  | 3, 11 => chk (f.rs2 == 0) .reservedField (.ok (.mringPush f.rd f.rs1))
  | 5, 0 => .ok (.bqcfg f.rd f.rs1 f.rs2)
  | 5, 1 => .ok (.bquiet f.rd f.rs1 f.rs2)
  | 5, 2 => chk (f.rs2 == 0) .reservedField (.ok (.wptr f.rd f.rs1))
  | 5, 3 => .ok (.qcfg f.rd f.rs1 f.rs2)
  | 5, 4 => .ok (.qvset f.rd f.rs1 f.rs2)
  | 5, 5 => .ok (.qstat f.rd f.rs1 f.rs2)
  | 5, 6 => .ok (.qstop f.rd f.rs1 f.rs2)
  | 5, 7 => .ok (.qconv f.rd f.rs1 f.rs2)
  | 5, 8 => .ok (.cstat f.rd f.rs1 f.rs2)
  | _, _ => .error .unassigned

/-- The instruction of six fields (R13). -/
def decodeFields (f : Fields) : Except Reject Instr :=
  match f.op.toNat with
  | 0x03 => decodeLoad f
  | 0x0B => decodeVa f
  | 0x0F => decodeMiscMem f
  | 0x13 => decodeOpImm f
  | 0x17 => .ok (.auipc f.rd f.immU)
  | 0x1B => decodeOpImm32 f
  | 0x23 => decodeStore f
  | 0x2B => decodeVx f
  | 0x2F => decodeAmo f
  | 0x33 => decodeOp f
  | 0x37 => .ok (.lui f.rd f.immU)
  | 0x3B => decodeOp32 f
  | 0x5B => decodeEn f
  | 0x63 => decodeBranch f
  | 0x67 => chk (f.f3 == 0) .baseField (.ok (.jalr f.rd f.rs1 f.immI))
  | 0x6F => .ok (.jal f.rd f.immJ)
  | 0x73 => decodeSystem f
  | 0x7B => decodeSy f
  | _ => .error (if f.op.extractLsb' 0 2 == 3 && f.op.extractLsb' 2 3 != 7 then .majorOpcode else .length)

/-- A decoded word: the instruction and, for a custom word, its switch marker (R23, R33). -/
structure Decoded where
  instr : Instr
  sw : Bool
deriving DecidableEq, Repr

/-- The custom major opcodes (R23). -/
def customOp (op : BitVec 7) : Bool := op == 0x0B || op == 0x2B || op == 0x5B || op == 0x7B

/-- The decoder: total on every word. -/
def decode (w : IWord) : Except Reject Decoded :=
  let f := Fields.ofWord w
  (decodeFields f).map fun i => { instr := i, sw := customOp f.op && f.s }

/-- The word held by four bytes, the first at the lowest address (R8, R40). -/
def wordOfBytes : List Byte → Option IWord
  | [b0, b1, b2, b3] => some (b3 ++ b2 ++ b1 ++ b0)
  | _ => none

/-- The decoder on bytes: the instruction and the bytes after it, or the reason there is none (R8). -/
def decodeBytes : List Byte → Except Reject (Decoded × List Byte)
  | b0 :: b1 :: b2 :: b3 :: rest => (decode (b3 ++ b2 ++ b1 ++ b0)).map (fun i => (i, rest))
  | _ => .error .length

/-- The four bytes of a word (R40). -/
def bytesOfWord (w : IWord) : List Byte :=
  [w.extractLsb' 0 8, w.extractLsb' 8 8, w.extractLsb' 16 8, w.extractLsb' 24 8]

/-- The instruction the decoder reads from the low `nbits` bits of `w`, laid out as the part stores an instruction word (R8). -/
def decodeTableWord (nbits w : Nat) : Option Instr :=
  match decodeBytes (bytesOfWord (BitVec.ofNat 32 (w % 2 ^ nbits))) with
  | .ok (d, _) => some d.instr
  | .error _ => none

/-- The high seven bits of a 12-bit field. -/
def hi7 (i : BitVec 12) : BitVec 7 := i.extractLsb' 5 7
/-- The low five bits of a 12-bit field. -/
def lo5 (i : BitVec 12) : BitVec 5 := i.extractLsb' 0 5
/-- S and f6. -/
def v6 (sw : Bool) (f6 : BitVec 6) : BitVec 7 := BitVec.ofBool sw ++ f6
/-- S, sem, scope and f2. -/
def e7 (sw : Bool) (sem scope f2 : BitVec 2) : BitVec 7 := BitVec.ofBool sw ++ sem ++ scope ++ f2
/-- funct5, aq and rl. -/
def amo7 (f5 : BitVec 5) (aq rl : Bool) : BitVec 7 := f5 ++ BitVec.ofBool aq ++ BitVec.ofBool rl
/-- A predicate number in a 5-bit field. -/
def k5 (k : BitVec 3) : BitVec 5 := (0#2) ++ k
/-- A table or size code in a 5-bit field. -/
def z5 (z : BitVec 2) : BitVec 5 := (0#3) ++ z

/-- The fields that encode an instruction with switch marker `sw`; a step has none and gives zeros. -/
def Instr.fields (sw : Bool) : Instr → Fields
  | .lui rd imm => ⟨imm.extractLsb' 13 7, imm.extractLsb' 8 5, imm.extractLsb' 3 5, imm.extractLsb' 0 3, rd, 55⟩
  | .auipc rd imm => ⟨imm.extractLsb' 13 7, imm.extractLsb' 8 5, imm.extractLsb' 3 5, imm.extractLsb' 0 3, rd, 23⟩
  | .jal rd off => ⟨off.extractLsb' 19 1 ++ off.extractLsb' 4 6, off.extractLsb' 0 4 ++ off.extractLsb' 10 1, off.extractLsb' 14 5, off.extractLsb' 11 3, rd, 111⟩
  | .jalr rd rs1 imm => ⟨hi7 imm, lo5 imm, rs1, 0, rd, 103⟩
  | .beq rs1 rs2 off => ⟨off.extractLsb' 11 1 ++ off.extractLsb' 4 6, rs2, rs1, 0, off.extractLsb' 0 4 ++ off.extractLsb' 10 1, 99⟩
  | .bne rs1 rs2 off => ⟨off.extractLsb' 11 1 ++ off.extractLsb' 4 6, rs2, rs1, 1, off.extractLsb' 0 4 ++ off.extractLsb' 10 1, 99⟩
  | .blt rs1 rs2 off => ⟨off.extractLsb' 11 1 ++ off.extractLsb' 4 6, rs2, rs1, 4, off.extractLsb' 0 4 ++ off.extractLsb' 10 1, 99⟩
  | .bge rs1 rs2 off => ⟨off.extractLsb' 11 1 ++ off.extractLsb' 4 6, rs2, rs1, 5, off.extractLsb' 0 4 ++ off.extractLsb' 10 1, 99⟩
  | .bltu rs1 rs2 off => ⟨off.extractLsb' 11 1 ++ off.extractLsb' 4 6, rs2, rs1, 6, off.extractLsb' 0 4 ++ off.extractLsb' 10 1, 99⟩
  | .bgeu rs1 rs2 off => ⟨off.extractLsb' 11 1 ++ off.extractLsb' 4 6, rs2, rs1, 7, off.extractLsb' 0 4 ++ off.extractLsb' 10 1, 99⟩
  | .lb rd rs1 imm => ⟨hi7 imm, lo5 imm, rs1, 0, rd, 3⟩
  | .lh rd rs1 imm => ⟨hi7 imm, lo5 imm, rs1, 1, rd, 3⟩
  | .lw rd rs1 imm => ⟨hi7 imm, lo5 imm, rs1, 2, rd, 3⟩
  | .ld rd rs1 imm => ⟨hi7 imm, lo5 imm, rs1, 3, rd, 3⟩
  | .lbu rd rs1 imm => ⟨hi7 imm, lo5 imm, rs1, 4, rd, 3⟩
  | .lhu rd rs1 imm => ⟨hi7 imm, lo5 imm, rs1, 5, rd, 3⟩
  | .lwu rd rs1 imm => ⟨hi7 imm, lo5 imm, rs1, 6, rd, 3⟩
  | .sb rs1 rs2 imm => ⟨hi7 imm, rs2, rs1, 0, lo5 imm, 35⟩
  | .sh rs1 rs2 imm => ⟨hi7 imm, rs2, rs1, 1, lo5 imm, 35⟩
  | .sw rs1 rs2 imm => ⟨hi7 imm, rs2, rs1, 2, lo5 imm, 35⟩
  | .sd rs1 rs2 imm => ⟨hi7 imm, rs2, rs1, 3, lo5 imm, 35⟩
  | .addi rd rs1 imm => ⟨hi7 imm, lo5 imm, rs1, 0, rd, 19⟩
  | .slti rd rs1 imm => ⟨hi7 imm, lo5 imm, rs1, 2, rd, 19⟩
  | .sltiu rd rs1 imm => ⟨hi7 imm, lo5 imm, rs1, 3, rd, 19⟩
  | .xori rd rs1 imm => ⟨hi7 imm, lo5 imm, rs1, 4, rd, 19⟩
  | .ori rd rs1 imm => ⟨hi7 imm, lo5 imm, rs1, 6, rd, 19⟩
  | .andi rd rs1 imm => ⟨hi7 imm, lo5 imm, rs1, 7, rd, 19⟩
  | .slli rd rs1 amt => ⟨(0#6) ++ amt.extractLsb' 5 1, amt.extractLsb' 0 5, rs1, 1, rd, 19⟩
  | .srli rd rs1 amt => ⟨(0#6) ++ amt.extractLsb' 5 1, amt.extractLsb' 0 5, rs1, 5, rd, 19⟩
  | .srai rd rs1 amt => ⟨(16#6) ++ amt.extractLsb' 5 1, amt.extractLsb' 0 5, rs1, 5, rd, 19⟩
  | .add rd rs1 rs2 => ⟨0, rs2, rs1, 0, rd, 51⟩
  | .sub rd rs1 rs2 => ⟨32, rs2, rs1, 0, rd, 51⟩
  | .sll rd rs1 rs2 => ⟨0, rs2, rs1, 1, rd, 51⟩
  | .slt rd rs1 rs2 => ⟨0, rs2, rs1, 2, rd, 51⟩
  | .sltu rd rs1 rs2 => ⟨0, rs2, rs1, 3, rd, 51⟩
  | .xor rd rs1 rs2 => ⟨0, rs2, rs1, 4, rd, 51⟩
  | .srl rd rs1 rs2 => ⟨0, rs2, rs1, 5, rd, 51⟩
  | .sra rd rs1 rs2 => ⟨32, rs2, rs1, 5, rd, 51⟩
  | .or rd rs1 rs2 => ⟨0, rs2, rs1, 6, rd, 51⟩
  | .and rd rs1 rs2 => ⟨0, rs2, rs1, 7, rd, 51⟩
  | .addiw rd rs1 imm => ⟨hi7 imm, lo5 imm, rs1, 0, rd, 27⟩
  | .slliw rd rs1 amt => ⟨0, amt, rs1, 1, rd, 27⟩
  | .srliw rd rs1 amt => ⟨0, amt, rs1, 5, rd, 27⟩
  | .sraiw rd rs1 amt => ⟨32, amt, rs1, 5, rd, 27⟩
  | .addw rd rs1 rs2 => ⟨0, rs2, rs1, 0, rd, 59⟩
  | .subw rd rs1 rs2 => ⟨32, rs2, rs1, 0, rd, 59⟩
  | .sllw rd rs1 rs2 => ⟨0, rs2, rs1, 1, rd, 59⟩
  | .srlw rd rs1 rs2 => ⟨0, rs2, rs1, 5, rd, 59⟩
  | .sraw rd rs1 rs2 => ⟨32, rs2, rs1, 5, rd, 59⟩
  | .fence imm rs1 rd => ⟨hi7 imm, lo5 imm, rs1, 0, rd, 15⟩
  | .fenceTso => ⟨0x41, 0x13, 0, 0, 0, 15⟩
  | .pause => ⟨0x00, 0x10, 0, 0, 0, 15⟩
  | .fenceI imm rs1 rd => ⟨hi7 imm, lo5 imm, rs1, 1, rd, 15⟩
  | .ecall => ⟨0, 0, 0, 0, 0, 115⟩
  | .ebreak => ⟨0, 1, 0, 0, 0, 115⟩
  | .wfi => ⟨8, 5, 0, 0, 0, 115⟩
  | .mul rd rs1 rs2 => ⟨1, rs2, rs1, 0, rd, 51⟩
  | .mulh rd rs1 rs2 => ⟨1, rs2, rs1, 1, rd, 51⟩
  | .mulhsu rd rs1 rs2 => ⟨1, rs2, rs1, 2, rd, 51⟩
  | .mulhu rd rs1 rs2 => ⟨1, rs2, rs1, 3, rd, 51⟩
  | .div rd rs1 rs2 => ⟨1, rs2, rs1, 4, rd, 51⟩
  | .divu rd rs1 rs2 => ⟨1, rs2, rs1, 5, rd, 51⟩
  | .rem rd rs1 rs2 => ⟨1, rs2, rs1, 6, rd, 51⟩
  | .remu rd rs1 rs2 => ⟨1, rs2, rs1, 7, rd, 51⟩
  | .mulw rd rs1 rs2 => ⟨1, rs2, rs1, 0, rd, 59⟩
  | .divw rd rs1 rs2 => ⟨1, rs2, rs1, 4, rd, 59⟩
  | .divuw rd rs1 rs2 => ⟨1, rs2, rs1, 5, rd, 59⟩
  | .remw rd rs1 rs2 => ⟨1, rs2, rs1, 6, rd, 59⟩
  | .remuw rd rs1 rs2 => ⟨1, rs2, rs1, 7, rd, 59⟩
  | .lrW aq rl rd rs1 => ⟨amo7 2 aq rl, 0, rs1, 2, rd, 47⟩
  | .lrD aq rl rd rs1 => ⟨amo7 2 aq rl, 0, rs1, 3, rd, 47⟩
  | .scW aq rl rd rs1 rs2 => ⟨amo7 3 aq rl, rs2, rs1, 2, rd, 47⟩
  | .scD aq rl rd rs1 rs2 => ⟨amo7 3 aq rl, rs2, rs1, 3, rd, 47⟩
  | .amoswapW aq rl rd rs1 rs2 => ⟨amo7 1 aq rl, rs2, rs1, 2, rd, 47⟩
  | .amoswapD aq rl rd rs1 rs2 => ⟨amo7 1 aq rl, rs2, rs1, 3, rd, 47⟩
  | .amoaddW aq rl rd rs1 rs2 => ⟨amo7 0 aq rl, rs2, rs1, 2, rd, 47⟩
  | .amoaddD aq rl rd rs1 rs2 => ⟨amo7 0 aq rl, rs2, rs1, 3, rd, 47⟩
  | .amoxorW aq rl rd rs1 rs2 => ⟨amo7 4 aq rl, rs2, rs1, 2, rd, 47⟩
  | .amoxorD aq rl rd rs1 rs2 => ⟨amo7 4 aq rl, rs2, rs1, 3, rd, 47⟩
  | .amoandW aq rl rd rs1 rs2 => ⟨amo7 12 aq rl, rs2, rs1, 2, rd, 47⟩
  | .amoandD aq rl rd rs1 rs2 => ⟨amo7 12 aq rl, rs2, rs1, 3, rd, 47⟩
  | .amoorW aq rl rd rs1 rs2 => ⟨amo7 8 aq rl, rs2, rs1, 2, rd, 47⟩
  | .amoorD aq rl rd rs1 rs2 => ⟨amo7 8 aq rl, rs2, rs1, 3, rd, 47⟩
  | .amominW aq rl rd rs1 rs2 => ⟨amo7 16 aq rl, rs2, rs1, 2, rd, 47⟩
  | .amominD aq rl rd rs1 rs2 => ⟨amo7 16 aq rl, rs2, rs1, 3, rd, 47⟩
  | .amomaxW aq rl rd rs1 rs2 => ⟨amo7 20 aq rl, rs2, rs1, 2, rd, 47⟩
  | .amomaxD aq rl rd rs1 rs2 => ⟨amo7 20 aq rl, rs2, rs1, 3, rd, 47⟩
  | .amominuW aq rl rd rs1 rs2 => ⟨amo7 24 aq rl, rs2, rs1, 2, rd, 47⟩
  | .amominuD aq rl rd rs1 rs2 => ⟨amo7 24 aq rl, rs2, rs1, 3, rd, 47⟩
  | .amomaxuW aq rl rd rs1 rs2 => ⟨amo7 28 aq rl, rs2, rs1, 2, rd, 47⟩
  | .amomaxuD aq rl rd rs1 rs2 => ⟨amo7 28 aq rl, rs2, rs1, 3, rd, 47⟩
  | .csrrw rd rs1 csr => ⟨hi7 csr, lo5 csr, rs1, 1, rd, 115⟩
  | .csrrs rd rs1 csr => ⟨hi7 csr, lo5 csr, rs1, 2, rd, 115⟩
  | .csrrc rd rs1 csr => ⟨hi7 csr, lo5 csr, rs1, 3, rd, 115⟩
  | .csrrwi rd zimm csr => ⟨hi7 csr, lo5 csr, zimm, 5, rd, 115⟩
  | .csrrsi rd zimm csr => ⟨hi7 csr, lo5 csr, zimm, 6, rd, 115⟩
  | .csrrci rd zimm csr => ⟨hi7 csr, lo5 csr, zimm, 7, rd, 115⟩
  | .sh1add rd rs1 rs2 => ⟨16, rs2, rs1, 2, rd, 51⟩
  | .sh2add rd rs1 rs2 => ⟨16, rs2, rs1, 4, rd, 51⟩
  | .sh3add rd rs1 rs2 => ⟨16, rs2, rs1, 6, rd, 51⟩
  | .addUw rd rs1 rs2 => ⟨4, rs2, rs1, 0, rd, 59⟩
  | .sh1addUw rd rs1 rs2 => ⟨16, rs2, rs1, 2, rd, 59⟩
  | .sh2addUw rd rs1 rs2 => ⟨16, rs2, rs1, 4, rd, 59⟩
  | .sh3addUw rd rs1 rs2 => ⟨16, rs2, rs1, 6, rd, 59⟩
  | .slliUw rd rs1 amt => ⟨(2#6) ++ amt.extractLsb' 5 1, amt.extractLsb' 0 5, rs1, 1, rd, 27⟩
  | .vadd vd vs1 vs2 kg => ⟨v6 sw 0, vs2, vs1, kg, vd, 11⟩
  | .vsub vd vs1 vs2 kg => ⟨v6 sw 1, vs2, vs1, kg, vd, 11⟩
  | .vmul vd vs1 vs2 kg => ⟨v6 sw 2, vs2, vs1, kg, vd, 11⟩
  | .vfma vd vs1 vs2 kg => ⟨v6 sw 3, vs2, vs1, kg, vd, 11⟩
  | .vmin vd vs1 vs2 kg => ⟨v6 sw 4, vs2, vs1, kg, vd, 11⟩
  | .vmax vd vs1 vs2 kg => ⟨v6 sw 5, vs2, vs1, kg, vd, 11⟩
  | .vabs vd vs1 kg => ⟨v6 sw 6, 0, vs1, kg, vd, 11⟩
  | .vneg vd vs1 kg => ⟨v6 sw 7, 0, vs1, kg, vd, 11⟩
  | .vadds vd vs1 vs2 kg => ⟨v6 sw 8, vs2, vs1, kg, vd, 11⟩
  | .vsubs vd vs1 vs2 kg => ⟨v6 sw 9, vs2, vs1, kg, vd, 11⟩
  | .vmulh vd vs1 vs2 kg => ⟨v6 sw 10, vs2, vs1, kg, vd, 11⟩
  | .vmulw vd vs1 vs2 kg => ⟨v6 sw 11, vs2, vs1, kg, vd, 11⟩
  | .vand vd vs1 vs2 kg => ⟨v6 sw 12, vs2, vs1, kg, vd, 11⟩
  | .vor vd vs1 vs2 kg => ⟨v6 sw 13, vs2, vs1, kg, vd, 11⟩
  | .vxor vd vs1 vs2 kg => ⟨v6 sw 14, vs2, vs1, kg, vd, 11⟩
  | .vshl vd vs1 vs2 kg => ⟨v6 sw 15, vs2, vs1, kg, vd, 11⟩
  | .vshr vd vs1 vs2 kg => ⟨v6 sw 16, vs2, vs1, kg, vd, 11⟩
  | .vsra vd vs1 vs2 kg => ⟨v6 sw 17, vs2, vs1, kg, vd, 11⟩
  | .vaddi vd vs1 imm kg => ⟨v6 sw 18, imm, vs1, kg, vd, 11⟩
  | .vshli vd vs1 imm kg => ⟨v6 sw 19, imm, vs1, kg, vd, 11⟩
  | .vshri vd vs1 imm kg => ⟨v6 sw 20, imm, vs1, kg, vd, 11⟩
  | .vsrai vd vs1 imm kg => ⟨v6 sw 21, imm, vs1, kg, vd, 11⟩
  | .vdiv vd vs1 vs2 kg => ⟨v6 sw 22, vs2, vs1, kg, vd, 11⟩
  | .vsqrt vd vs1 kg => ⟨v6 sw 23, 0, vs1, kg, vd, 11⟩
  | .vexp vd vs1 kg => ⟨v6 sw 24, 0, vs1, kg, vd, 11⟩
  | .vsel vd vs1 vs2 kg => ⟨v6 sw 25, vs2, vs1, kg, vd, 11⟩
  | .vcmpeq kd vs1 vs2 kg => ⟨v6 sw 26, vs2, vs1, kg, k5 kd, 11⟩
  | .vcmpne kd vs1 vs2 kg => ⟨v6 sw 27, vs2, vs1, kg, k5 kd, 11⟩
  | .vcmplt kd vs1 vs2 kg => ⟨v6 sw 28, vs2, vs1, kg, k5 kd, 11⟩
  | .vcmple kd vs1 vs2 kg => ⟨v6 sw 29, vs2, vs1, kg, k5 kd, 11⟩
  | .vcmpltu kd vs1 vs2 kg => ⟨v6 sw 30, vs2, vs1, kg, k5 kd, 11⟩
  | .vcmpleu kd vs1 vs2 kg => ⟨v6 sw 31, vs2, vs1, kg, k5 kd, 11⟩
  | .kand kd ks1 ks2 kg => ⟨v6 sw 32, k5 ks2, k5 ks1, kg, k5 kd, 11⟩
  | .kor kd ks1 ks2 kg => ⟨v6 sw 33, k5 ks2, k5 ks1, kg, k5 kd, 11⟩
  | .kxor kd ks1 ks2 kg => ⟨v6 sw 34, k5 ks2, k5 ks1, kg, k5 kd, 11⟩
  | .kandn kd ks1 ks2 kg => ⟨v6 sw 35, k5 ks2, k5 ks1, kg, k5 kd, 11⟩
  | .vwhile kd rs1 rs2 kg => ⟨v6 sw 36, rs2, rs1, kg, k5 kd, 11⟩
  | .kcount rd ks kg => ⟨v6 sw 37, 0, k5 ks, kg, rd, 11⟩
  | .kfirst rd ks kg => ⟨v6 sw 38, 0, k5 ks, kg, rd, 11⟩
  | .vredadd vd vs1 kg => ⟨v6 sw 39, 0, vs1, kg, vd, 11⟩
  | .vredmin vd vs1 kg => ⟨v6 sw 40, 0, vs1, kg, vd, 11⟩
  | .vredmax vd vs1 kg => ⟨v6 sw 41, 0, vs1, kg, vd, 11⟩
  | .vbcast vd rs1 kg => ⟨v6 sw 42, 0, rs1, kg, vd, 11⟩
  | .vmvx rd vs1 rs2 => ⟨v6 sw 43, rs2, vs1, 0, rd, 11⟩
  | .vperm vd vs1 vs2 kg => ⟨v6 sw 44, vs2, vs1, kg, vd, 11⟩
  | .viota vd kg => ⟨v6 sw 45, 0, 0, kg, vd, 11⟩
  | .vmov vd vs1 kg => ⟨v6 sw 46, 0, vs1, kg, vd, 11⟩
  | .smxstep vd vs1 kg => ⟨v6 sw 47, 0, vs1, kg, vd, 11⟩
  | .smxnorm vd vs1 vs2 kg => ⟨v6 sw 48, vs2, vs1, kg, vd, 11⟩
  | .vpopc vd vs1 kg => ⟨v6 sw 49, 0, vs1, kg, vd, 11⟩
  | .vclz vd vs1 kg => ⟨v6 sw 50, 0, vs1, kg, vd, 11⟩
  | .gaddr vd vs1 tbl kg => ⟨v6 sw 51, z5 tbl, vs1, kg, vd, 11⟩
  | .vld vd rs1 imm kg => ⟨v6 sw 0, imm, rs1, kg, vd, 43⟩
  | .vldc vd rs1 rs2 kg => ⟨v6 sw 1, rs2, rs1, kg, vd, 43⟩
  | .vst vd rs1 imm kg => ⟨v6 sw 2, imm, rs1, kg, vd, 43⟩
  | .vstc vd rs1 rs2 kg => ⟨v6 sw 3, rs2, rs1, kg, vd, 43⟩
  | .vlds vd rs1 rs2 kg => ⟨v6 sw 4, rs2, rs1, kg, vd, 43⟩
  | .vsts vd rs1 rs2 kg => ⟨v6 sw 5, rs2, rs1, kg, vd, 43⟩
  | .vldx vd rs1 vs2 kg => ⟨v6 sw 6, vs2, rs1, kg, vd, 43⟩
  | .vstx vd rs1 vs2 kg => ⟨v6 sw 7, vs2, rs1, kg, vd, 43⟩
  | .vldg vd vs1 sz kg => ⟨v6 sw 8, z5 sz, vs1, kg, vd, 43⟩
  | .vstg vd vs1 sz kg => ⟨v6 sw 9, z5 sz, vs1, kg, vd, 43⟩
  | .vcvt vd vs1 fmt kg => ⟨v6 sw 10, fmt, vs1, kg, vd, 43⟩
  | .vpvenc rd vs1 rs2 => ⟨v6 sw 11, rs2, vs1, 0, rd, 43⟩
  | .vpvdec vd rs1 rs2 => ⟨v6 sw 12, rs2, rs1, 0, vd, 43⟩
  | .vcompress vd vs1 m n16 => ⟨v6 sw 13, m ++ BitVec.ofBool n16, vs1, 0, vd, 43⟩
  | .vdesc vd vs1 kg => ⟨v6 sw 14, 0, vs1, kg, vd, 43⟩
  | .vflight n rs1 rs2 => ⟨v6 sw 15, rs2, rs1, 0, (0#1) ++ n, 43⟩
  | .vwidth rd => ⟨v6 sw 16, 0, 0, 0, rd, 43⟩
  | .lwait => ⟨v6 sw 17, 0, 0, 0, 0, 43⟩
  | .vldb vd rs1 sz kg => ⟨v6 sw 18, z5 sz, rs1, kg, vd, 43⟩
  | .msend sem scope rd rs1 rs2 => ⟨e7 sw sem scope 0, rs2, rs1, 0, rd, 91⟩
  | .rwr sem scope rs1 rs2 => ⟨e7 sw sem scope 1, rs2, rs1, 0, 0, 91⟩
  | .cpy sem scope rd rs1 => ⟨e7 sw sem scope 2, 0, rs1, 0, rd, 91⟩
  | .cpym sem scope rd rs1 rs2 => ⟨e7 sw sem scope 3, rs2, rs1, 0, rd, 91⟩
  | .gath sem scope rd rs1 => ⟨e7 sw sem scope 0, 0, rs1, 1, rd, 91⟩
  | .scat sem scope rd rs1 => ⟨e7 sw sem scope 1, 0, rs1, 1, rd, 91⟩
  | .boinit rs1 rs2 => ⟨e7 sw 0 0 2, rs2, rs1, 1, 0, 91⟩
  | .bowait sem scope rd rs1 => ⟨e7 sw sem scope 3, 0, rs1, 1, rd, 91⟩
  | .gadd sem scope rd rs1 rs2 => ⟨e7 sw sem scope 0, rs2, rs1, 2, rd, 91⟩
  | .gfadd sem scope rd rs1 rs2 => ⟨e7 sw sem scope 1, rs2, rs1, 2, rd, 91⟩
  | .gmin sem scope rd rs1 rs2 => ⟨e7 sw sem scope 2, rs2, rs1, 2, rd, 91⟩
  | .gmax sem scope rd rs1 rs2 => ⟨e7 sw sem scope 3, rs2, rs1, 2, rd, 91⟩
  | .gor sem scope rd rs1 rs2 => ⟨e7 sw sem scope 0, rs2, rs1, 3, rd, 91⟩
  | .gand sem scope rd rs1 rs2 => ⟨e7 sw sem scope 1, rs2, rs1, 3, rd, 91⟩
  | .gxor sem scope rd rs1 rs2 => ⟨e7 sw sem scope 2, rs2, rs1, 3, rd, 91⟩
  | .gcas sem scope rd rs1 rs2 => ⟨e7 sw sem scope 3, rs2, rs1, 3, rd, 91⟩
  | .gqpush sem scope rd rs1 rs2 => ⟨e7 sw sem scope 0, rs2, rs1, 4, rd, 91⟩
  | .gqpop sem scope rd rs1 => ⟨e7 sw sem scope 1, 0, rs1, 4, rd, 91⟩
  | .bpush sem scope rd rs1 rs2 => ⟨e7 sw sem scope 2, rs2, rs1, 4, rd, 91⟩
  | .bpop sem scope rd rs1 => ⟨e7 sw sem scope 3, 0, rs1, 4, rd, 91⟩
  | .bround sem scope rd rs1 rs2 => ⟨e7 sw sem scope 0, rs2, rs1, 5, rd, 91⟩
  | .back sem scope rd rs1 rs2 => ⟨e7 sw sem scope 1, rs2, rs1, 5, rd, 91⟩
  | .bidxget sem scope rd rs1 rs2 => ⟨e7 sw sem scope 2, rs2, rs1, 5, rd, 91⟩
  | .bidxput sem scope rd rs1 rs2 => ⟨e7 sw sem scope 3, rs2, rs1, 5, rd, 91⟩
  | .qrun sem scope rd rs1 rs2 => ⟨e7 sw sem scope 0, rs2, rs1, 6, rd, 91⟩
  | .qslope sem scope rd rs1 rs2 => ⟨e7 sw sem scope 1, rs2, rs1, 6, rd, 91⟩
  | .qsample sem scope rd rs1 rs2 => ⟨e7 sw sem scope 2, rs2, rs1, 6, rd, 91⟩
  | .qinj sem scope rd rs1 rs2 => ⟨e7 sw sem scope 3, rs2, rs1, 6, rd, 91⟩
  | .cstart sem scope rd rs1 => ⟨e7 sw sem scope 0, 0, rs1, 7, rd, 91⟩
  | .cwait sem scope rd rs1 => ⟨e7 sw sem scope 1, 0, rs1, 7, rd, 91⟩
  | .ccancel rd rs1 => ⟨e7 sw 0 0 2, 0, rs1, 7, rd, 91⟩
  | .pflush rd => ⟨e7 sw 0 0 3, 0, 0, 7, rd, 91⟩
  | .cardPost rd rs1 rs2 => ⟨v6 sw 0, rs2, rs1, 0, rd, 123⟩
  | .cardSusp rs1 => ⟨v6 sw 1, 0, rs1, 0, 0, 123⟩
  | .cardBind rd rs1 rs2 => ⟨v6 sw 2, rs2, rs1, 0, rd, 123⟩
  | .cardExit => ⟨v6 sw 3, 0, 0, 0, 0, 123⟩
  | .cardYield => ⟨v6 sw 4, 0, 0, 0, 0, 123⟩
  | .cardPrio rd rs1 => ⟨v6 sw 5, 0, rs1, 0, rd, 123⟩
  | .cardSteal rd rs1 => ⟨v6 sw 6, 0, rs1, 0, rd, 123⟩
  | .cardSelf rd rs1 => ⟨v6 sw 7, 0, rs1, 0, rd, 123⟩
  | .hdone => ⟨v6 sw 8, 0, 0, 0, 0, 123⟩
  | .dualsig rs1 => ⟨v6 sw 9, 0, rs1, 0, 0, 123⟩
  | .ptake rd n => ⟨v6 sw 10, 0, (3#2) ++ n, 0, rd, 123⟩
  | .barCore => ⟨v6 sw 0, 0, 0, 1, 0, 123⟩
  | .barRow => ⟨v6 sw 1, 0, 0, 1, 0, 123⟩
  | .barDie => ⟨v6 sw 2, 0, 0, 1, 0, 123⟩
  | .barPod => ⟨v6 sw 3, 0, 0, 1, 0, 123⟩
  | .scfence rs2 => ⟨v6 sw 4, rs2, 0, 1, 0, 123⟩
  | .lbfence => ⟨v6 sw 5, 0, 0, 1, 0, 123⟩
  | .fmtp fmt => ⟨v6 sw 6, 0, fmt, 1, 0, 123⟩
  | .switch => ⟨0x47, 0, 0, 1, 0, 123⟩
  | .tret => ⟨v6 sw 0, 0, 0, 2, 0, 123⟩
  | .trap imm => ⟨v6 sw 1, imm.extractLsb' 5 5, imm.extractLsb' 0 5, 2, 0, 123⟩
  | .ckpt rs1 => ⟨v6 sw 2, 0, rs1, 2, 0, 123⟩
  | .seal rd rs1 rs2 => ⟨v6 sw 3, rs2, rs1, 2, rd, 123⟩
  | .plog rd rs1 rs2 => ⟨v6 sw 4, rs2, rs1, 2, rd, 123⟩
  | .tlbReplay rs1 => ⟨v6 sw 5, 0, rs1, 2, 0, 123⟩
  | .tlbInv rs1 rs2 => ⟨v6 sw 6, rs2, rs1, 2, 0, 123⟩
  | .mringCfg rd rs1 rs2 => ⟨v6 sw 0, rs2, rs1, 3, rd, 123⟩
  | .mringFree rd rs1 => ⟨v6 sw 1, 0, rs1, 3, rd, 123⟩
  | .mringDrop rd rs1 rs2 => ⟨v6 sw 2, rs2, rs1, 3, rd, 123⟩
  | .mgang rd rs1 => ⟨v6 sw 3, 0, rs1, 3, rd, 123⟩
  | .mma rd rs1 => ⟨v6 sw 4, 0, rs1, 3, rd, 123⟩
  | .mmaSp rd rs1 vm => ⟨v6 sw 5, vm, rs1, 3, rd, 123⟩
  | .mgroup rd rs1 rs2 => ⟨v6 sw 6, rs2, rs1, 3, rd, 123⟩
  | .mread rd rs1 => ⟨v6 sw 7, 0, rs1, 3, rd, 123⟩
  | .mcommitVector vd rs1 => ⟨v6 sw 8, 0, rs1, 3, vd, 123⟩
  | .mcommitScratchpad rs1 rs2 => ⟨v6 sw 8, rs2, rs1, 3, 0, 123⟩
  | .mwait rs1 => ⟨v6 sw 9, 0, rs1, 3, 0, 123⟩
  | .mzero rs1 => ⟨v6 sw 10, 0, rs1, 3, 0, 123⟩
  | .mringPush rd rs1 => ⟨v6 sw 11, 0, rs1, 3, rd, 123⟩
  | .bqcfg rd rs1 rs2 => ⟨v6 sw 0, rs2, rs1, 5, rd, 123⟩
  | .bquiet rd rs1 rs2 => ⟨v6 sw 1, rs2, rs1, 5, rd, 123⟩
  | .wptr rd rs1 => ⟨v6 sw 2, 0, rs1, 5, rd, 123⟩
  | .qcfg rd rs1 rs2 => ⟨v6 sw 3, rs2, rs1, 5, rd, 123⟩
  | .qvset rd rs1 rs2 => ⟨v6 sw 4, rs2, rs1, 5, rd, 123⟩
  | .qstat rd rs1 rs2 => ⟨v6 sw 5, rs2, rs1, 5, rd, 123⟩
  | .qstop rd rs1 rs2 => ⟨v6 sw 6, rs2, rs1, 5, rd, 123⟩
  | .qconv rd rs1 rs2 => ⟨v6 sw 7, rs2, rs1, 5, rd, 123⟩
  | .cstat rd rs1 rs2 => ⟨v6 sw 8, rs2, rs1, 5, rd, 123⟩
  | _ => ⟨0, 0, 0, 0, 0, 0⟩

/-- The encoder: the word of a well-formed instruction with switch marker `sw`. -/
def encode (sw : Bool) (i : Instr) : IWord := (i.fields sw).toWord

end Sys2Proof
end

