-- ==== Sys2Proof/Machine/Csr.lean ====
section
/-! DEFINITION. The control and status registers (R21, R48 to R52, R56, R114, R133 to R145, R151, R156, R162, R165, R167, R183,
R188, R197, R352) and the instructions that read and write them. -/

namespace Sys2Proof.Machine

/-- CHWIN (R114): CHNE is what the channels hold. -/
def Thread.chwinWord (t : Thread) : Word :=
  (zext t.pres <<< 16) ||| bit t.chwin 0 |||
  (List.range 8).foldl (fun w n => w ||| bit (!(aget [] t.chans n).isEmpty) (8 + n)) 0

/-- What a CSR reads on a thread set; `none` where no such CSR exists (R21, R133). -/
def State.csrRead (s : State) (tid n : Nat) : Option Word :=
  let t := s.thread tid
  match n with
  | 0xC00 => some (word (s.cycle (coreOf tid)))
  | 0xC01 => some (word s.time)
  | 0xC02 => some t.instret
  | 0xCC0 => some (word (coreOf tid))
  | 0xCC1 => some (word s.chipno)
  | 0xCC2 => some 1024
  | 0x800 => some t.vfmt
  | 0x801 => some t.mfmt
  | 0x802 => some (zext t.vflags)
  | 0x803 => some t.xstat
  | 0x804 => some t.chwinWord
  | 0x805 => some t.dtbase
  | 0x806 | 0x807 | 0x808 | 0x809 => some (aget 0 t.dist (n - 0x806))
  | 0x80A | 0x80B | 0x80C | 0x80D => some (aget 0 t.skew (n - 0x80A))
  | 0x5C0 => some t.tvec0
  | 0x5C1 => some t.tvec1
  | 0x5C2 => some t.bank0.tepc
  | 0x5C3 => some t.bank1.tepc
  | 0x5C4 => some t.bank0.tcause
  | 0x5C5 => some t.bank1.tcause
  | 0x5C6 => some t.bank0.tval
  | 0x5C7 => some t.bank1.tval
  | 0x5C8 => some t.bank0.tstat
  | 0x5C9 => some t.bank1.tstat
  | 0x5CA => some t.tmsg
  | 0x5CB => some t.savearea
  | 0x5CC => some t.ckptab
  | 0x5CD => some t.ckptmax
  | 0x5CE => some (aget 0 s.roots t.asid.toNat)
  | 0x5CF => some (s.fbuf (dieOf (coreOf tid)))
  | 0x5D0 => some t.plogbase
  | _ => none

/-- The steward CSRs (R21, R133). -/
def stewardCsr (n : Nat) : Bool := decide (0x5C0 ≤ n ∧ n ≤ 0x5D0)
/-- The read-only CSRs (R21). -/
def readOnlyCsr (n : Nat) : Bool := decide (0xC00 ≤ n ∧ n < 0xD00)

/-- Zero in bits [lo + len − 1 : lo]. -/
def zeroAt (v : Word) (lo len : Nat) : Bool := v.extractLsb' lo len == 0

/-- The region of a path log: local base and length (R162). -/
def logRegion (v : Word) : Nat × Nat := ((v.extractLsb' 16 24).toNat * 2 ^ 16, 32 * 2 ^ (v.extractLsb' 56 5).toNat)

/-- Whether a value may be written to a CSR: reserved fields and codes zero, and the conditions of its entry.  Of VFLAGS the manual says only that
bits [63:5] must be written as zero: that another value is illegal is the model's choice (log 56). -/
def State.csrOk (s : State) (n : Nat) (v : Word) : Bool :=
  match n with
  | 0x800 => zeroAt v 9 55 && decide ((v.extractLsb' 0 5).toNat < 10) && decide ((v.extractLsb' 5 3).toNat < 4)
  | 0x801 => zeroAt v 5 59 && decide ((v.extractLsb' 0 5).toNat < 10)
  | 0x802 => zeroAt v 5 59
  | 0x804 => zeroAt v 24 40 && zeroAt v 1 7
  | 0x805 => zeroAt v 0 4
  | 0x806 | 0x807 | 0x808 | 0x809 => zeroAt v 20 43 && zeroAt v 0 6
  | 0x80A | 0x80B | 0x80C | 0x80D =>
    let len := (v.extractLsb' 20 21).toNat
    let base := (v.extractLsb' 0 20).toNat
    zeroAt v 41 22 && (!v.getLsbD 63 ||
      (len % 256 == 0 && base % 256 == 0 && decide (256 ≤ len ∧ len ≤ 0x100000 ∧ base + len ≤ 0x100000)))
  | 0x5C0 | 0x5C1 => zeroAt v 0 2
  | 0x5C4 | 0x5C5 => zeroAt v 6 58
  | 0x5C8 | 0x5C9 => zeroAt v 13 51 && zeroAt v 7 1 && zeroAt v 3 1
  | 0x5CB => zeroAt v 52 12 && zeroAt v 0 16
  | 0x5CC => zeroAt v 2 4
  | 0x5CD => zeroAt v 32 32
  | 0x5CE => zeroAt v 52 11
  | 0x5D0 =>
    let r := logRegion v
    zeroAt v 61 2 && zeroAt v 52 4 && zeroAt v 0 16 && (!v.getLsbD 63 ||
      (decide (11 ≤ (v.extractLsb' 56 5).toNat ∧ (v.extractLsb' 56 5).toNat ≤ 30) &&
       decide ((v.extractLsb' 40 12).toNat = s.chipno) && decide (r.1 + r.2 ≤ 0xC000000000) && !s.inLocket r.1 r.2))
  | _ => true

/-- The writable fields of TSTAT placed in a bank; END, ABT and ACT keep their values (R134). -/
def TrapBank.putStat (b : TrapBank) (v : Word) : TrapBank :=
  { b with pfxv := v.extractLsb' 8 5, park := v.getLsbD 2, pm := v.getLsbD 1, pfx := v.getLsbD 0 }

/-- Writes a CSR with a value that may be written; read-only fields keep theirs (R56, R114, R134, R145, R151, R156, R162). -/
def State.csrPut (s : State) (tid n : Nat) (v : Word) : State :=
  let t := s.thread tid
  let set (u : Thread) : State := s.setThread tid u
  match n with
  | 0x800 => set { t with vfmt := v }
  | 0x801 => set { t with mfmt := v }
  | 0x802 => set { t with vflags := v.extractLsb' 0 5 }
  | 0x804 => set { t with chwin := v.getLsbD 0 }
  | 0x805 => set { t with dtbase := v }
  | 0x806 | 0x807 | 0x808 | 0x809 => set { t with dist := aput t.dist (n - 0x806) v }
  | 0x80A | 0x80B | 0x80C | 0x80D => set { t with skew := aput t.skew (n - 0x80A) v }
  | 0x5C0 => set { t with tvec0 := v }
  | 0x5C1 => set { t with tvec1 := v }
  | 0x5C2 => set { t with bank0 := { t.bank0 with tepc := v &&& ~~~3 } }
  | 0x5C3 => set { t with bank1 := { t.bank1 with tepc := v &&& ~~~3 } }
  | 0x5C4 => set { t with bank0 := { t.bank0 with tcause := v } }
  | 0x5C5 => set { t with bank1 := { t.bank1 with tcause := v } }
  | 0x5C6 => set { t with bank0 := { t.bank0 with tval := v } }
  | 0x5C7 => set { t with bank1 := { t.bank1 with tval := v } }
  | 0x5C8 => set { t with bank0 := t.bank0.putStat v }
  | 0x5C9 => set { t with bank1 := t.bank1.putStat v }
  | 0x5CB => set { t with savearea := v }
  | 0x5CC => set { t with ckptab := (v &&& ~~~2) ||| (t.ckptab &&& 2) }
  | 0x5CD => set { t with ckptmax := v }
  | 0x5CE =>
    let asid := (v.extractLsb' 0 16).toNat
    { s with roots := if v.getLsbD 63 then aput s.roots asid v else adel s.roots asid }
  | 0x5D0 =>
    let s' := set { t with plogbase := v, plogIndex := 0, plogChain := List.replicate 64 0 }
    if t.plogbase.getLsbD 63 then
      { s' with logs := s'.logs ++ [{ base := t.plogbase, index := t.plogIndex, chain := t.plogChain }] }
    else s'
  | _ => s

/-- Whether a CSR access must wait: VFLAGS for every earlier vector instruction (R52), a write of CHWIN for a flight (R114), a write
of PLOGBASE for room at the Dravty root (R391). -/
def State.csrWaits (s : State) (tid n : Nat) (write : Bool) : Bool :=
  (n == 0x802 && !(s.seqOf tid).isEmpty) ||
  (write && n == 0x804 && (s.seqOf tid).any fun i => decide (i.entries ≠ 1)) ||
  (write && n == 0x5D0 && (s.thread tid).plogbase.getLsbD 63 && decide (4096 ≤ s.logs.length))

/-- The value an operation gives a CSR (R14). -/
def csrApply : CsrOp → Word → Word → Word
  | .write, _, v => v
  | .set, old, v => old ||| v
  | .clear, old, v => old &&& ~~~v

/-- The value of a CSR instruction's source. -/
def State.csrSrc (s : State) : CsrSrc → Word
  | .reg r => s.rx r
  | .imm z => zext z

/-- Whether a CSR instruction writes (R21): CSRRW and CSRRWI in any case, the others with a non-zero rs1 field. -/
def csrWrites (op : CsrOp) : CsrSrc → Bool
  | .reg r => op == .write || r != 0
  | .imm z => op == .write || z != 0

/-- The registers a CSR instruction names. -/
def csrRegs (rd : BitVec 5) : CsrSrc → List (BitVec 5)
  | .reg r => [rd, r]
  | .imm _ => [rd]

/-- A CSR instruction (R21): illegal where the CSR does not exist, is read-only and would be written, belongs to the steward, or
refuses the value. -/
def State.csrAccess (s : State) (n : Nat) (op : CsrOp) (rd : BitVec 5) (src : CsrSrc) : State :=
  let w := csrWrites op src
  match s.csrRead s.cur n with
  | none => s.illegal
  | some old =>
    if (w && readOnlyCsr n) || (stewardCsr n && !s.th.steward) then s.illegal
    else if s.csrWaits s.cur n w then s
    else if !w then (s.wx rd old).retire
    else
      let v := csrApply op old (s.csrSrc src)
      if s.csrOk n v then ((s.csrPut s.cur n v).wx rd old).retire else s.illegal

/-- CSRRW (R21). -/
def execCsrrw (rd rs1 : BitVec 5) (csr : BitVec 12) (s : State) : Res :=
  plain s [rd, rs1] fun s => s.csrAccess csr.toNat .write rd (.reg rs1)
/-- CSRRS (R21). -/
def execCsrrs (rd rs1 : BitVec 5) (csr : BitVec 12) (s : State) : Res :=
  plain s [rd, rs1] fun s => s.csrAccess csr.toNat .set rd (.reg rs1)
/-- CSRRC (R21). -/
def execCsrrc (rd rs1 : BitVec 5) (csr : BitVec 12) (s : State) : Res :=
  plain s [rd, rs1] fun s => s.csrAccess csr.toNat .clear rd (.reg rs1)
/-- CSRRWI (R21). -/
def execCsrrwi (rd zimm : BitVec 5) (csr : BitVec 12) (s : State) : Res :=
  plain s [rd] fun s => s.csrAccess csr.toNat .write rd (.imm zimm)
/-- CSRRSI (R21). -/
def execCsrrsi (rd zimm : BitVec 5) (csr : BitVec 12) (s : State) : Res :=
  plain s [rd] fun s => s.csrAccess csr.toNat .set rd (.imm zimm)
/-- CSRRCI (R21). -/
def execCsrrci (rd zimm : BitVec 5) (csr : BitVec 12) (s : State) : Res :=
  plain s [rd] fun s => s.csrAccess csr.toNat .clear rd (.imm zimm)

/-- VFLAGS_ACCESS (R52): the step of a CSR instruction that names VFLAGS. -/
def execVflagsAccess (op : CsrOp) (rd : BitVec 5) (src : CsrSrc) (s : State) : Res :=
  plain s (csrRegs rd src) fun s => s.csrAccess 0x802 op rd src
/-- CHWIN_WRITE (R114): the step of a CSR instruction that names CHWIN. -/
def execChwinWrite (op : CsrOp) (rd : BitVec 5) (src : CsrSrc) (s : State) : Res :=
  plain s (csrRegs rd src) fun s => s.csrAccess 0x804 op rd src
/-- SKEW_WRITE (R188): the step of a CSR instruction that names SKEWn; re-placed rows keep their values. -/
def execSkewWrite (n : BitVec 2) (op : CsrOp) (rd : BitVec 5) (src : CsrSrc) (s : State) : Res :=
  plain s (csrRegs rd src) fun s => s.csrAccess (0x80A + n.toNat) op rd src
/-- PTBASE_WRITE (R151): the step of a CSR instruction that names PTBASE. -/
def execPtbaseWrite (op : CsrOp) (rd : BitVec 5) (src : CsrSrc) (s : State) : Res :=
  plain s (csrRegs rd src) fun s => s.csrAccess 0x5CE op rd src
/-- PLOGBASE_WRITE (R162): the step of a CSR instruction that names PLOGBASE. -/
def execPlogbaseWrite (op : CsrOp) (rd : BitVec 5) (src : CsrSrc) (s : State) : Res :=
  plain s (csrRegs rd src) fun s => s.csrAccess 0x5D0 op rd src

/-- A write through a steward CSR window with a value a CSR instruction could write (R135); one of PLOGBASE that must wait for room at the root
waits, and acts then (R391). -/
def State.windowWrite (s : State) (tid off : Nat) (v : Word) : State :=
  let n := 0x5C0 + off / 8
  if off % 8 ≠ 0 ∨ !([0x00, 0x08, 0x58, 0x60, 0x68, 0x70, 0x80].contains off) then s
  else if (s.thread tid).bank0.act then s
  else if !s.csrOk n v then s
  else if n == 0x5D0 && (s.csrWaits tid n true || !(s.thread tid).plogNext.isEmpty) then
    s.modThread tid fun t => { t with plogNext := t.plogNext ++ [v] }
  else s.csrPut tid n v

/-- The writes of PLOGBASE of a thread set that now find room act, in order (R135, R391); one whose ring a locket has meanwhile been sealed
over has no effect, as an illegal write of the window. -/
def State.plogRetry (s : State) (tid : Nat) : List Word → State
  | [] => s.modThread tid fun t => { t with plogNext := [] }
  | v :: r =>
    if s.csrWaits tid 0x5D0 true then s.modThread tid fun t => { t with plogNext := v :: r }
    else (if s.csrOk 0x5D0 v then s.csrPut tid 0x5D0 v else s).plogRetry tid r

/-- As `plogRetry`, for every thread set. -/
def State.plogRetryAll (s : State) : State :=
  s.threads.foldl (fun s p => if p.2.plogNext.isEmpty then s else s.plogRetry p.1 p.2.plogNext) s

/-- STWCSR_WRITE (R135). -/
def execStwcsrWrite (tid off : Nat) (val : Word) (s : State) : Res := .next (s.windowWrite tid off val)

/-- What a steward CSR window reads (R135). -/
def State.windowRead (s : State) (tid off : Nat) : Word := if off < 0x88 then (s.csrRead tid (0x5C0 + off / 8)).getD 0 else 0

end Sys2Proof.Machine
end

