-- ==== Sys2Proof/Machine/Sha512.lean ====
section
/-! DEFINITION. SHA-512, which the path log (R163), lockets (R161) and the report (R391) name: the standard hash of a string of
bytes. -/

namespace Sys2Proof.Machine

/-- Round constants 0 to 7. -/
def shaK0 : List Word := [0x428A2F98D728AE22, 0x7137449123EF65CD, 0xB5C0FBCFEC4D3B2F, 0xE9B5DBA58189DBBC, 0x3956C25BF348B538, 0x59F111F1B605D019, 0x923F82A4AF194F9B, 0xAB1C5ED5DA6D8118]
/-- Round constants 8 to 15. -/
def shaK1 : List Word := [0xD807AA98A3030242, 0x12835B0145706FBE, 0x243185BE4EE4B28C, 0x550C7DC3D5FFB4E2, 0x72BE5D74F27B896F, 0x80DEB1FE3B1696B1, 0x9BDC06A725C71235, 0xC19BF174CF692694]
/-- Round constants 16 to 23. -/
def shaK2 : List Word := [0xE49B69C19EF14AD2, 0xEFBE4786384F25E3, 0x0FC19DC68B8CD5B5, 0x240CA1CC77AC9C65, 0x2DE92C6F592B0275, 0x4A7484AA6EA6E483, 0x5CB0A9DCBD41FBD4, 0x76F988DA831153B5]
/-- Round constants 24 to 31. -/
def shaK3 : List Word := [0x983E5152EE66DFAB, 0xA831C66D2DB43210, 0xB00327C898FB213F, 0xBF597FC7BEEF0EE4, 0xC6E00BF33DA88FC2, 0xD5A79147930AA725, 0x06CA6351E003826F, 0x142929670A0E6E70]
/-- Round constants 32 to 39. -/
def shaK4 : List Word := [0x27B70A8546D22FFC, 0x2E1B21385C26C926, 0x4D2C6DFC5AC42AED, 0x53380D139D95B3DF, 0x650A73548BAF63DE, 0x766A0ABB3C77B2A8, 0x81C2C92E47EDAEE6, 0x92722C851482353B]
/-- Round constants 40 to 47. -/
def shaK5 : List Word := [0xA2BFE8A14CF10364, 0xA81A664BBC423001, 0xC24B8B70D0F89791, 0xC76C51A30654BE30, 0xD192E819D6EF5218, 0xD69906245565A910, 0xF40E35855771202A, 0x106AA07032BBD1B8]
/-- Round constants 48 to 55. -/
def shaK6 : List Word := [0x19A4C116B8D2D0C8, 0x1E376C085141AB53, 0x2748774CDF8EEB99, 0x34B0BCB5E19B48A8, 0x391C0CB3C5C95A63, 0x4ED8AA4AE3418ACB, 0x5B9CCA4F7763E373, 0x682E6FF3D6B2B8A3]
/-- Round constants 56 to 63. -/
def shaK7 : List Word := [0x748F82EE5DEFB2FC, 0x78A5636F43172F60, 0x84C87814A1F0AB72, 0x8CC702081A6439EC, 0x90BEFFFA23631E28, 0xA4506CEBDE82BDE9, 0xBEF9A3F7B2C67915, 0xC67178F2E372532B]
/-- Round constants 64 to 71. -/
def shaK8 : List Word := [0xCA273ECEEA26619C, 0xD186B8C721C0C207, 0xEADA7DD6CDE0EB1E, 0xF57D4F7FEE6ED178, 0x06F067AA72176FBA, 0x0A637DC5A2C898A6, 0x113F9804BEF90DAE, 0x1B710B35131C471B]
/-- Round constants 72 to 79. -/
def shaK9 : List Word := [0x28DB77F523047D84, 0x32CAAB7B40C72493, 0x3C9EBE0A15C9BEBC, 0x431D67C49C100D4C, 0x4CC5D4BECB3E42B6, 0x597F299CFC657E2A, 0x5FCB6FAB3AD6FAEC, 0x6C44198C4A475817]

/-- The 80 round constants. -/
def shaK : List Word := shaK0 ++ shaK1 ++ shaK2 ++ shaK3 ++ shaK4 ++ shaK5 ++ shaK6 ++ shaK7 ++ shaK8 ++ shaK9

/-- The initial hash value. -/
def shaInit : List Word := [0x6A09E667F3BCC908, 0xBB67AE8584CAA73B, 0x3C6EF372FE94F82B, 0xA54FF53A5F1D36F1, 0x510E527FADE682D1, 0x9B05688C2B3E6C1F, 0x1F83D9ABFB41BD6B, 0x5BE0CD19137E2179]

/-- Big-endian value of bytes. -/
def beNat (l : List Byte) : Nat := l.foldl (fun n b => 256 * n + b.toNat) 0
/-- `n` big-endian bytes of a value. -/
def beBytes (v n : Nat) : List Byte := (leBytes v n).reverse

/-- The padded message: a 1 bit, zeros to 16 bytes short of a block, and the length in bits as 16 bytes. -/
def shaPad (m : List Byte) : List Byte :=
  m ++ (0x80 : Byte) :: (List.replicate ((239 - m.length % 128) % 128) 0 ++ beBytes (8 * m.length) 16)

def shaS0 (x : Word) : Word := x.rotateRight 28 ^^^ x.rotateRight 34 ^^^ x.rotateRight 39
def shaS1 (x : Word) : Word := x.rotateRight 14 ^^^ x.rotateRight 18 ^^^ x.rotateRight 41
def shaT0 (x : Word) : Word := x.rotateRight 1 ^^^ x.rotateRight 8 ^^^ (x >>> (7 : Nat))
def shaT1 (x : Word) : Word := x.rotateRight 19 ^^^ x.rotateRight 61 ^^^ (x >>> (6 : Nat))

/-- The words of a block. -/
def shaWords (b : List Byte) : Nat → List Word
  | 0 => []
  | n + 1 => BitVec.ofNat 64 (beNat (b.take 8)) :: shaWords (b.drop 8) n

/-- Rounds over the last 16 schedule words `w` (oldest first), the state and the remaining constants. -/
def shaRounds : List Word → List Word → List Word → List Word
  | [], _, st => st
  | k :: ks, w, [a, b, c, d, e, f, g, h] =>
    let w0 := w.headD 0
    let t1 := h + shaS1 e + ((e &&& f) ^^^ (~~~e &&& g)) + k + w0
    let t2 := shaS0 a + ((a &&& b) ^^^ (a &&& c) ^^^ (b &&& c))
    let next := shaT1 (w.getD 14 0) + w.getD 9 0 + shaT0 (w.getD 1 0) + w0
    shaRounds ks (w.drop 1 ++ [next]) [t1 + t2, a, b, c, d + t1, e, f, g]
  | _, _, st => st

/-- One block. -/
def shaBlock (st : List Word) (b : List Byte) : List Word :=
  (st.zip (shaRounds shaK (shaWords b 16) st)).map fun p => p.1 + p.2

/-- The blocks in order. -/
def shaBlocks : Nat → List Word → List Byte → List Word
  | 0, st, _ => st
  | n + 1, st, m => shaBlocks n (shaBlock st (m.take 128)) (m.drop 128)

/-- SHA-512: 64 bytes. -/
def sha512 (m : List Byte) : List Byte :=
  let p := shaPad m
  (shaBlocks (p.length / 128) shaInit p).flatMap fun w => beBytes w.toNat 8

end Sys2Proof.Machine
end

