-- ==== Sys2Proof/Machine/System.lean ====
section
/-! DEFINITION. Fetch (R8, R9, R18), environment calls and software traps (R19, R142), the return from a trap (R142), the format
prefix (R58), the park (R35), lockets (R161), the path log (R163) and the translation instructions (R158, R159). -/

namespace Sys2Proof.Machine

/-- What a fetch gives. -/
inductive Fetched where
  | word (w : IWord)
  | fault (cause : BitVec 6)
  | absent
  | wait
deriving DecidableEq, Repr

/-- The word at a local address for a core: what its instruction buffer holds, else memory, which it then holds (R18). -/
def State.bufferedWord (s : State) (core a : Nat) : State × IWord :=
  match afind (s.core core).ibuf a with
  | some w => (s, w)
  | none =>
    let w : IWord := BitVec.ofNat 32 (s.readVal a 4)
    (s.modCore core fun c => { c with ibuf := aput c.ibuf a w }, w)

/-- Fetches the word at an address for a thread set (R9, R154): the private scratchpad window is never executable; a page needs X;
only memory of the package is fetched from.  Another core's port that takes no request holds the fetch (R245).  R9 does not say what the pc
holds where pc + 4 leaves the 55-bit range, or where TVEC or TEPC holds no sign-extended 55-bit address: that the pc keeps the 64-bit value and
its fetch takes cause 2 is the model's choice (log 70). -/
def State.fetchAt (s : State) (tid : Nat) (pc : Word) : State × Fetched :=
  let t := s.thread tid
  if isOwnWindow pc || !isVa pc then (s, .fault 2)
  else
    match s.translate (coreOf tid) t.asid pc { x := true } (!t.steward) with
    | (s, .fault c) => (s, .fault c)
    | (s, .absent) => (s, .absent)
    | (s, .ok pa) =>
      match s.locate pa 4 with
      | .mem a =>
        if s.isPoisoned a 4 then (s, .fault 2)
        else if (afind (s.core (coreOf tid)).ibuf a).isNone && s.portShut (coreOf tid) a then (s, .wait)
        else match s.bufferedWord (coreOf tid) a with
          | (s, w) => (s, .word w)
      | _ => (s, .fault 2)

/-- Fetches the word at the pc of a thread set. -/
def State.fetch (s : State) (tid : Nat) : State × Fetched := s.fetchAt tid (s.thread tid).pc

/-- ILLEGAL_INSTRUCTION (R31): cause 0 with the word. -/
def execIllegalInstruction (word : IWord) (s : State) : Res := .next { s with ir := word }.illegal

/-- FETCH_FAULT (R9, R155): a fetch that is refused raises cause 2, one from a non-resident page parks. -/
def execFetchFault (s : State) : Res :=
  .next (match s.fetch s.cur with
    | (s, .fault c) => s.trapHere c s.th.pc
    | (s, .absent) => s.parkAccess s.cur none s.th.asid s.th.pc 2
    | (_, _) => s)

/-- ECALL (R19). -/
def execEcall (s : State) : Res := plain s [] fun s => s.trapHere 9 0
/-- EBREAK (R19). -/
def execEbreak (s : State) : Res := plain s [] fun s => s.trapHere 9 1
/-- TRAP (R142): legal in both modes. -/
def execTrap (imm : BitVec 10) (s : State) : Res := plain s [] fun s => s.trapHere 9 (zext imm)
/-- TRET (R142). -/
def execTret (s : State) : Res := stewardOnly s [] fun s => s.trapReturn s.cur

/-- FMTP (R58): the prefix is pending for the next instruction. -/
def execFmtp (fmt : BitVec 5) (s : State) : Res :=
  plain s [] fun s => s.retire.modTh fun t => { t with pfx := true, pfxv := fmt }
/-- SWITCH (R35): only the park of R33. -/
def execSwitch (s : State) : Res := plain s [] fun s => s.retire.modTh fun t => { t with park := true }

/-- The value of a status that SEAL gives beside an index (R161). -/
def sealStatus (n : Nat) : Word := word (2 ^ 63 + n)

/-- The leaves of the 64 KiB pages of a virtual range, if each is mapped with R = 1 and they are physically contiguous and
ascending (R161): the local address of the first byte and the leaves' places. -/
def State.sealLeaves (s : State) (asid : BitVec 16) (va : Word) : Nat → Option Nat → List Nat → Option (Nat × List Nat)
  | 0, first, l => first.map fun a => (a, l.reverse)
  | n + 1, first, l =>
    if !isVa va || isOwnWindow va then none
    else match s.walk asid va with
      | .leaf e at_ bits =>
        let pa := ptePage e / 2 ^ bits * 2 ^ bits + va.toNat % 2 ^ bits
        let ok := match first with
          | none => true
          | some a => pa % 2 ^ 40 == a + 0x10000 * l.length
        if pteR e && pa / 2 ^ 40 == s.chipno && ok then
          s.sealLeaves asid (va + 0x10000) n (some (first.getD (pa % 2 ^ 40))) (at_ :: l)
        else none
      | _ => none

/-- Whether a range lies within local HBM or within the galleries of the package (R161). -/
def inHbmOrGallery (a n : Nat) : Bool :=
  decide (a + n ≤ 0xC000000000) || decide (galleryBase ≤ a ∧ a + n ≤ galleryBase + 0x10000000)

/-- Whether a range meets the region of a path log open on some thread set (R161, R162). -/
def State.meetsLog (s : State) (a n : Nat) : Bool :=
  s.threads.any fun p => p.2.plogbase.getLsbD 63 &&
    meets (logRegion p.2.plogbase).1 (logRegion p.2.plogbase).2 a n

/-- Drops every translation whose leaf is one of these (R161). -/
def State.dropLeaves (s : State) (l : List Nat) : State :=
  { s with tlb := s.tlb.filter fun e => !l.contains e.at_ }

/-- Installs a locket (R161): every later write is refused, L is set in the leaves, their translations are dropped, and the root
measures the bytes. -/
def State.installLocket (s : State) (a n : Nat) (leaves : List Nat) : State × Nat :=
  let i := s.lockets.length
  let s := leaves.foldl (fun s p => s.store (.unit_ (dieOf (coreOf s.cur))) p (leBytes ((word (s.readVal p 8) ||| bit true 6).toNat) 8)) s
  let s := s.dropLeaves leaves
  ({ s with lockets := aput s.lockets i { base := a, len := n, digest := sha512 (s.readBytes a n) } }, i)

/-- SEAL (R161). -/
def execSeal (rd rs1 rs2 : BitVec 5) (s : State) : Res :=
  stewardOnly s [rd, rs1, rs2] fun s =>
    if s.outstanding s.cur || !s.released s.cur 2 then s
    else
      let s := s.publish s.cur 2
      let va := s.rx rs1
      let n := (s.rx rs2).toNat
      if va.toNat % 0x10000 ≠ 0 ∨ n % 0x10000 ≠ 0 ∨ n = 0 ∨ 0x800000000 < n then (s.wx rd (sealStatus 1)).retire
      else match s.sealLeaves s.th.asid va (n / 0x10000) none [] with
        | none => (s.wx rd (sealStatus 2)).retire
        | some (a, leaves) =>
          if !inHbmOrGallery a n then (s.wx rd (sealStatus 2)).retire
          else if s.inLocket a n || s.isHeld a n || s.meetsLog a n then (s.wx rd (sealStatus 3)).retire
          else if 64 ≤ s.lockets.length then (s.wx rd (sealStatus 4)).retire
          else match s.installLocket a n leaves with
            | (s, i) => (s.wx rd (word i)).retire

/-- The last word of a path-log record (R163). -/
def State.logStamp (s : State) : Word :=
  (word (s.cycle (coreOf s.cur) % 2 ^ 40) <<< 24) ||| (word (s.cur % 4) <<< 10) ||| word (coreOf s.cur)

/-- PLOG (R163): legal in both modes; the record goes through the log port, so no L bit is consulted. -/
def execPlog (rd rs1 rs2 : BitVec 5) (s : State) : Res :=
  plain s [rd, rs1, rs2] fun s =>
    let t := s.th
    if !t.plogbase.getLsbD 63 || t.plogIndex == 2 ^ (t.plogbase.extractLsb' 56 5).toNat then
      (s.wx rd (BitVec.allOnes 64)).retire
    else if !s.released s.cur 1 then s
    else
      let s := s.publish s.cur 1
      let rec_ := [word t.plogIndex, s.rx rs1, s.rx rs2, s.logStamp].flatMap fun (w : Word) => leBytes w.toNat 8
      let s := s.store (.thread s.cur .plain) ((logRegion t.plogbase).1 + 32 * t.plogIndex) rec_
      let s := s.modTh fun u => { u with plogChain := sha512 (t.plogChain ++ rec_), plogIndex := t.plogIndex + 1 }
      (s.wx rd (word t.plogIndex)).retire

/-- TLB.REPLAY (R158). -/
def execTlbReplay (rs1 : BitVec 5) (s : State) : Res :=
  stewardOnly s [rs1] fun s =>
    if !s.released s.cur 2 then s
    else
      let s := s.publish s.cur 2
      let d := dieOf (coreOf s.cur)
      ((s.freeFaults d ((s.rx rs1).extractLsb' 0 8)).replayDie d).retire

/-- Whether TLB.INV drops an entry (R159): `sel` holds the ASID and the mode. -/
def invDrops (va sel : Word) (e : TlbEntry) : Bool :=
  let asid := sel.extractLsb' 0 16
  match (sel.extractLsb' 16 2).toNat with
  | 0 => (pteG e.pte || e.asid == asid) && (va.toNat % 2 ^ 55) / 2 ^ e.bits == e.vbase
  | 1 => !pteG e.pte && e.asid == asid
  | 2 => !pteG e.pte
  | _ => true

/-- Every access issued before a mark, by any core, and translated since has been performed (R159): stores, posted writes, loads of other packages
and queue steps at their bank; every other access is translated as it is performed. -/
def State.allPerformed (s : State) (m : Nat) : Bool :=
  s.cores.all (fun p => p.2.sb.all fun e => decide (m ≤ e.id)) && s.flights.all (fun f => decide (m ≤ f.id)) &&
  s.posted.all (fun p => decide (m ≤ p.id)) &&
  s.threads.all (fun p => match p.2.remote with
    | some r => decide (m ≤ r.id)
    | none => true) &&
  s.bank.all fun o => o.arr.isNone || decide (m ≤ o.id)

/-- TLB.INV (R159): after its release the entries are dropped; it ends when every access made through them has been performed. -/
def execTlbInv (rs1 rs2 : BitVec 5) (s : State) : Res :=
  stewardOnly s [rs1, rs2] fun s =>
    match s.th.mark with
    | some m => if s.allPerformed m then s.retire else s
    | none =>
      if !s.released s.cur 2 then s
      else
        let s := s.publish s.cur 2
        let s := { s with tlb := s.tlb.filter fun e => !invDrops (s.rx rs1) (s.rx rs2) e }.setMark
        if s.allPerformed s.mark then s.retire else s

end Sys2Proof.Machine
end

