-- ==== Sys2Proof/Machine/Vector.lean ====
section
/-! DEFINITION. The vector instructions as the integer pipeline issues them (R168, R169, R190 to R192, R199, R200). -/

namespace Sys2Proof.Machine

/-- Free entries of a core's sequencer of 16 (R168). -/
def Core.freeEntries (c : Core) : Nat := 16 - (c.seq.map (·.entries)).sum

/-- Takes `n` entries in turn (R168): a thread set whose need is not met waits, and none takes an entry ahead of an earlier waiter. -/
def State.claim (s : State) (n : Nat) (k : State → State) : State :=
  let c := s.core s.myCore
  let turn := match c.seqWait with
    | [] => true
    | h :: _ => h == s.cur
  if turn && decide (n ≤ c.freeEntries) then
    k (s.modCore s.myCore fun c => { c with seqWait := c.seqWait.filter fun x => x != s.cur })
  else if c.seqWait.contains s.cur then s
  else s.modCore s.myCore fun c => { c with seqWait := c.seqWait ++ [s.cur] }

/-- Puts instructions into the sequencer as one item (R168, R200). -/
def State.enqueueAs (s : State) (id : Nat) (ops : List VOp) (iters : Nat) (step : Word) (entries : Nat) : State :=
  s.modCore s.myCore fun c => { c with seq := c.seq ++
    [{ id := id, tid := s.cur, ops := ops, iters := iters, j := 0, at_ := 0, step := step, entries := entries }] }
/-- The same under a fresh name. -/
def State.enqueue (s : State) (ops : List VOp) (iters : Nat) (step : Word) (entries : Nat) : State :=
  let r := s.newId
  r.2.enqueueAs r.1 ops iters step entries

/-- Whether an x register that an instruction reads or writes is pending (R34). -/
def State.vPending (s : State) (i : Instr) : Bool :=
  ([(vScalars i).1, (vScalars i).2] ++ vopDest i).any (s.pending s.cur)

/-- The misaligned offset of an instruction at issue, if any (R169). -/
def State.vOffsetBad (s : State) (i : Instr) : Option Word := vMisaligned i (s.rx (vScalars i).1) (s.rx (vScalars i).2)

/-- Whether an acquire still holds a sequencer access (R202). -/
def State.vHeld (s : State) (i : Instr) : Bool := isSeqAccess i && s.acquiring s.cur

/-- A vector instruction at issue (R168, R169): cause 0, cause 4, the wait for pending registers, cause 1, the wait for an acquire and
for an entry; then it enters the sequencer and retires. -/
def State.vissue (s : State) (i : Instr) : State :=
  if s.th.vIllegal i then s.illegal
  else match s.th.leased i with
    | some r => s.trapHere 4 (zext r)
    | none =>
      if s.vPending i then s
      else match s.vOffsetBad i with
        | some o => s.trapHere 1 o
        | none => if s.vHeld i then s else s.claim 1 fun s => (s.enqueue [s.capture i] 1 0 1).retire

/-- VADD (R171). -/
def execVadd (vd : BitVec 5) (vs1 : BitVec 5) (vs2 : BitVec 5) (kg : BitVec 3) (s : State) : Res :=
  .next (s.vissue (.vadd vd vs1 vs2 kg))

/-- VSUB (R171). -/
def execVsub (vd : BitVec 5) (vs1 : BitVec 5) (vs2 : BitVec 5) (kg : BitVec 3) (s : State) : Res :=
  .next (s.vissue (.vsub vd vs1 vs2 kg))

/-- VMUL (R171). -/
def execVmul (vd : BitVec 5) (vs1 : BitVec 5) (vs2 : BitVec 5) (kg : BitVec 3) (s : State) : Res :=
  .next (s.vissue (.vmul vd vs1 vs2 kg))

/-- VFMA (R173). -/
def execVfma (vd : BitVec 5) (vs1 : BitVec 5) (vs2 : BitVec 5) (kg : BitVec 3) (s : State) : Res :=
  .next (s.vissue (.vfma vd vs1 vs2 kg))

/-- VMIN (R172). -/
def execVmin (vd : BitVec 5) (vs1 : BitVec 5) (vs2 : BitVec 5) (kg : BitVec 3) (s : State) : Res :=
  .next (s.vissue (.vmin vd vs1 vs2 kg))

/-- VMAX (R172). -/
def execVmax (vd : BitVec 5) (vs1 : BitVec 5) (vs2 : BitVec 5) (kg : BitVec 3) (s : State) : Res :=
  .next (s.vissue (.vmax vd vs1 vs2 kg))

/-- VABS (R172). -/
def execVabs (vd : BitVec 5) (vs1 : BitVec 5) (kg : BitVec 3) (s : State) : Res :=
  .next (s.vissue (.vabs vd vs1 kg))

/-- VNEG (R172). -/
def execVneg (vd : BitVec 5) (vs1 : BitVec 5) (kg : BitVec 3) (s : State) : Res :=
  .next (s.vissue (.vneg vd vs1 kg))

/-- VADDS (R173). -/
def execVadds (vd : BitVec 5) (vs1 : BitVec 5) (vs2 : BitVec 5) (kg : BitVec 3) (s : State) : Res :=
  .next (s.vissue (.vadds vd vs1 vs2 kg))

/-- VSUBS (R173). -/
def execVsubs (vd : BitVec 5) (vs1 : BitVec 5) (vs2 : BitVec 5) (kg : BitVec 3) (s : State) : Res :=
  .next (s.vissue (.vsubs vd vs1 vs2 kg))

/-- VMULH (R173). -/
def execVmulh (vd : BitVec 5) (vs1 : BitVec 5) (vs2 : BitVec 5) (kg : BitVec 3) (s : State) : Res :=
  .next (s.vissue (.vmulh vd vs1 vs2 kg))

/-- VMULW (R173). -/
def execVmulw (vd : BitVec 5) (vs1 : BitVec 5) (vs2 : BitVec 5) (kg : BitVec 3) (s : State) : Res :=
  .next (s.vissue (.vmulw vd vs1 vs2 kg))

/-- VAND (R171). -/
def execVand (vd : BitVec 5) (vs1 : BitVec 5) (vs2 : BitVec 5) (kg : BitVec 3) (s : State) : Res :=
  .next (s.vissue (.vand vd vs1 vs2 kg))

/-- VOR (R171). -/
def execVor (vd : BitVec 5) (vs1 : BitVec 5) (vs2 : BitVec 5) (kg : BitVec 3) (s : State) : Res :=
  .next (s.vissue (.vor vd vs1 vs2 kg))

/-- VXOR (R171). -/
def execVxor (vd : BitVec 5) (vs1 : BitVec 5) (vs2 : BitVec 5) (kg : BitVec 3) (s : State) : Res :=
  .next (s.vissue (.vxor vd vs1 vs2 kg))

/-- VSHL (R173). -/
def execVshl (vd : BitVec 5) (vs1 : BitVec 5) (vs2 : BitVec 5) (kg : BitVec 3) (s : State) : Res :=
  .next (s.vissue (.vshl vd vs1 vs2 kg))

/-- VSHR (R173). -/
def execVshr (vd : BitVec 5) (vs1 : BitVec 5) (vs2 : BitVec 5) (kg : BitVec 3) (s : State) : Res :=
  .next (s.vissue (.vshr vd vs1 vs2 kg))

/-- VSRA (R173). -/
def execVsra (vd : BitVec 5) (vs1 : BitVec 5) (vs2 : BitVec 5) (kg : BitVec 3) (s : State) : Res :=
  .next (s.vissue (.vsra vd vs1 vs2 kg))

/-- VADDI (R171). -/
def execVaddi (vd : BitVec 5) (vs1 : BitVec 5) (imm : BitVec 5) (kg : BitVec 3) (s : State) : Res :=
  .next (s.vissue (.vaddi vd vs1 imm kg))

/-- VSHLI (R171). -/
def execVshli (vd : BitVec 5) (vs1 : BitVec 5) (imm : BitVec 5) (kg : BitVec 3) (s : State) : Res :=
  .next (s.vissue (.vshli vd vs1 imm kg))

/-- VSHRI (R171). -/
def execVshri (vd : BitVec 5) (vs1 : BitVec 5) (imm : BitVec 5) (kg : BitVec 3) (s : State) : Res :=
  .next (s.vissue (.vshri vd vs1 imm kg))

/-- VSRAI (R171). -/
def execVsrai (vd : BitVec 5) (vs1 : BitVec 5) (imm : BitVec 5) (kg : BitVec 3) (s : State) : Res :=
  .next (s.vissue (.vsrai vd vs1 imm kg))

/-- VDIV (R172). -/
def execVdiv (vd : BitVec 5) (vs1 : BitVec 5) (vs2 : BitVec 5) (kg : BitVec 3) (s : State) : Res :=
  .next (s.vissue (.vdiv vd vs1 vs2 kg))

/-- VSQRT (R172). -/
def execVsqrt (vd : BitVec 5) (vs1 : BitVec 5) (kg : BitVec 3) (s : State) : Res :=
  .next (s.vissue (.vsqrt vd vs1 kg))

/-- VEXP (R174). -/
def execVexp (vd : BitVec 5) (vs1 : BitVec 5) (kg : BitVec 3) (s : State) : Res :=
  .next (s.vissue (.vexp vd vs1 kg))

/-- VSEL (R171). -/
def execVsel (vd : BitVec 5) (vs1 : BitVec 5) (vs2 : BitVec 5) (kg : BitVec 3) (s : State) : Res :=
  .next (s.vissue (.vsel vd vs1 vs2 kg))

/-- VCMPEQ (R178). -/
def execVcmpeq (kd : BitVec 3) (vs1 : BitVec 5) (vs2 : BitVec 5) (kg : BitVec 3) (s : State) : Res :=
  .next (s.vissue (.vcmpeq kd vs1 vs2 kg))

/-- VCMPNE (R178). -/
def execVcmpne (kd : BitVec 3) (vs1 : BitVec 5) (vs2 : BitVec 5) (kg : BitVec 3) (s : State) : Res :=
  .next (s.vissue (.vcmpne kd vs1 vs2 kg))

/-- VCMPLT (R178). -/
def execVcmplt (kd : BitVec 3) (vs1 : BitVec 5) (vs2 : BitVec 5) (kg : BitVec 3) (s : State) : Res :=
  .next (s.vissue (.vcmplt kd vs1 vs2 kg))

/-- VCMPLE (R178). -/
def execVcmple (kd : BitVec 3) (vs1 : BitVec 5) (vs2 : BitVec 5) (kg : BitVec 3) (s : State) : Res :=
  .next (s.vissue (.vcmple kd vs1 vs2 kg))

/-- VCMPLTU (R178). -/
def execVcmpltu (kd : BitVec 3) (vs1 : BitVec 5) (vs2 : BitVec 5) (kg : BitVec 3) (s : State) : Res :=
  .next (s.vissue (.vcmpltu kd vs1 vs2 kg))

/-- VCMPLEU (R178). -/
def execVcmpleu (kd : BitVec 3) (vs1 : BitVec 5) (vs2 : BitVec 5) (kg : BitVec 3) (s : State) : Res :=
  .next (s.vissue (.vcmpleu kd vs1 vs2 kg))

/-- KAND (R179). -/
def execKand (kd : BitVec 3) (ks1 : BitVec 3) (ks2 : BitVec 3) (kg : BitVec 3) (s : State) : Res :=
  .next (s.vissue (.kand kd ks1 ks2 kg))

/-- KOR (R179). -/
def execKor (kd : BitVec 3) (ks1 : BitVec 3) (ks2 : BitVec 3) (kg : BitVec 3) (s : State) : Res :=
  .next (s.vissue (.kor kd ks1 ks2 kg))

/-- KXOR (R179). -/
def execKxor (kd : BitVec 3) (ks1 : BitVec 3) (ks2 : BitVec 3) (kg : BitVec 3) (s : State) : Res :=
  .next (s.vissue (.kxor kd ks1 ks2 kg))

/-- KANDN (R179). -/
def execKandn (kd : BitVec 3) (ks1 : BitVec 3) (ks2 : BitVec 3) (kg : BitVec 3) (s : State) : Res :=
  .next (s.vissue (.kandn kd ks1 ks2 kg))

/-- VWHILE (R179). -/
def execVwhile (kd : BitVec 3) (rs1 : BitVec 5) (rs2 : BitVec 5) (kg : BitVec 3) (s : State) : Res :=
  .next (s.vissue (.vwhile kd rs1 rs2 kg))

/-- KCOUNT (R180). -/
def execKcount (rd : BitVec 5) (ks : BitVec 3) (kg : BitVec 3) (s : State) : Res :=
  .next (s.vissue (.kcount rd ks kg))

/-- KFIRST (R180). -/
def execKfirst (rd : BitVec 5) (ks : BitVec 3) (kg : BitVec 3) (s : State) : Res :=
  .next (s.vissue (.kfirst rd ks kg))

/-- VREDADD (R182). -/
def execVredadd (vd : BitVec 5) (vs1 : BitVec 5) (kg : BitVec 3) (s : State) : Res :=
  .next (s.vissue (.vredadd vd vs1 kg))

/-- VREDMIN (R182). -/
def execVredmin (vd : BitVec 5) (vs1 : BitVec 5) (kg : BitVec 3) (s : State) : Res :=
  .next (s.vissue (.vredmin vd vs1 kg))

/-- VREDMAX (R182). -/
def execVredmax (vd : BitVec 5) (vs1 : BitVec 5) (kg : BitVec 3) (s : State) : Res :=
  .next (s.vissue (.vredmax vd vs1 kg))

/-- VBCAST (R181). -/
def execVbcast (vd : BitVec 5) (rs1 : BitVec 5) (kg : BitVec 3) (s : State) : Res :=
  .next (s.vissue (.vbcast vd rs1 kg))

/-- VMVX (R181). -/
def execVmvx (rd : BitVec 5) (vs1 : BitVec 5) (rs2 : BitVec 5) (s : State) : Res :=
  .next (s.vissue (.vmvx rd vs1 rs2))

/-- VPERM (R171). -/
def execVperm (vd : BitVec 5) (vs1 : BitVec 5) (vs2 : BitVec 5) (kg : BitVec 3) (s : State) : Res :=
  .next (s.vissue (.vperm vd vs1 vs2 kg))

/-- VIOTA (R181). -/
def execViota (vd : BitVec 5) (kg : BitVec 3) (s : State) : Res :=
  .next (s.vissue (.viota vd kg))

/-- VMOV (R171). -/
def execVmov (vd : BitVec 5) (vs1 : BitVec 5) (kg : BitVec 3) (s : State) : Res :=
  .next (s.vissue (.vmov vd vs1 kg))

/-- SMXSTEP (R176). -/
def execSmxstep (vd : BitVec 5) (vs1 : BitVec 5) (kg : BitVec 3) (s : State) : Res :=
  .next (s.vissue (.smxstep vd vs1 kg))

/-- SMXNORM (R177). -/
def execSmxnorm (vd : BitVec 5) (vs1 : BitVec 5) (vs2 : BitVec 5) (kg : BitVec 3) (s : State) : Res :=
  .next (s.vissue (.smxnorm vd vs1 vs2 kg))

/-- VPOPC (R171). -/
def execVpopc (vd : BitVec 5) (vs1 : BitVec 5) (kg : BitVec 3) (s : State) : Res :=
  .next (s.vissue (.vpopc vd vs1 kg))

/-- VCLZ (R171). -/
def execVclz (vd : BitVec 5) (vs1 : BitVec 5) (kg : BitVec 3) (s : State) : Res :=
  .next (s.vissue (.vclz vd vs1 kg))

/-- GADDR (R185). -/
def execGaddr (vd : BitVec 5) (vs1 : BitVec 5) (tbl : BitVec 2) (kg : BitVec 3) (s : State) : Res :=
  .next (s.vissue (.gaddr vd vs1 tbl kg))

/-- VLD (R186). -/
def execVld (vd : BitVec 5) (rs1 : BitVec 5) (imm : BitVec 5) (kg : BitVec 3) (s : State) : Res :=
  .next (s.vissue (.vld vd rs1 imm kg))

/-- VLDC (R189). -/
def execVldc (vd : BitVec 5) (rs1 : BitVec 5) (rs2 : BitVec 5) (kg : BitVec 3) (s : State) : Res :=
  .next (s.vissue (.vldc vd rs1 rs2 kg))

/-- VST (R186). -/
def execVst (vd : BitVec 5) (rs1 : BitVec 5) (imm : BitVec 5) (kg : BitVec 3) (s : State) : Res :=
  .next (s.vissue (.vst vd rs1 imm kg))

/-- VSTC (R189). -/
def execVstc (vd : BitVec 5) (rs1 : BitVec 5) (rs2 : BitVec 5) (kg : BitVec 3) (s : State) : Res :=
  .next (s.vissue (.vstc vd rs1 rs2 kg))

/-- VLDS (R187). -/
def execVlds (vd : BitVec 5) (rs1 : BitVec 5) (rs2 : BitVec 5) (kg : BitVec 3) (s : State) : Res :=
  .next (s.vissue (.vlds vd rs1 rs2 kg))

/-- VSTS (R187). -/
def execVsts (vd : BitVec 5) (rs1 : BitVec 5) (rs2 : BitVec 5) (kg : BitVec 3) (s : State) : Res :=
  .next (s.vissue (.vsts vd rs1 rs2 kg))

/-- VLDX (R187). -/
def execVldx (vd : BitVec 5) (rs1 : BitVec 5) (vs2 : BitVec 5) (kg : BitVec 3) (s : State) : Res :=
  .next (s.vissue (.vldx vd rs1 vs2 kg))

/-- VSTX (R187). -/
def execVstx (vd : BitVec 5) (rs1 : BitVec 5) (vs2 : BitVec 5) (kg : BitVec 3) (s : State) : Res :=
  .next (s.vissue (.vstx vd rs1 vs2 kg))

/-- VLDB (R186). -/
def execVldb (vd : BitVec 5) (rs1 : BitVec 5) (sz : BitVec 2) (kg : BitVec 3) (s : State) : Res :=
  .next (s.vissue (.vldb vd rs1 sz kg))

/-- VCVT (R193). -/
def execVcvt (vd : BitVec 5) (vs1 : BitVec 5) (fmt : BitVec 5) (kg : BitVec 3) (s : State) : Res :=
  .next (s.vissue (.vcvt vd vs1 fmt kg))

/-- VPVENC (R194). -/
def execVpvenc (rd : BitVec 5) (vs1 : BitVec 5) (rs2 : BitVec 5) (s : State) : Res :=
  .next (s.vissue (.vpvenc rd vs1 rs2))

/-- VPVDEC (R195). -/
def execVpvdec (vd : BitVec 5) (rs1 : BitVec 5) (rs2 : BitVec 5) (s : State) : Res :=
  .next (s.vissue (.vpvdec vd rs1 rs2))

/-- VCOMPRESS (R196). -/
def execVcompress (vd : BitVec 5) (vs1 : BitVec 5) (m : BitVec 4) (n16 : Bool) (s : State) : Res :=
  .next (s.vissue (.vcompress vd vs1 m n16))

/-- VDESC (R198). -/
def execVdesc (vd : BitVec 5) (vs1 : BitVec 5) (kg : BitVec 3) (s : State) : Res :=
  .next (s.vissue (.vdesc vd vs1 kg))

/-- VWIDTH (R199). -/
def execVwidth (rd : BitVec 5) (s : State) : Res :=
  .next (s.vissue (.vwidth rd))

/-- An instruction that a flight's body may not hold (R200). -/
def bodyBarred : Instr → Bool
  | .vflight .. | .vwidth .. | .lwait | .vldg .. | .vstg .. | .vdesc .. | .vpvenc .. | .vmvx .. | .kcount .. | .kfirst .. => true
  | _ => false

/-- The instruction of a body word; `none` makes VFLIGHT illegal (R200). -/
def Thread.bodyInstr (t : Thread) (w : IWord) : Option Instr :=
  let op := w.extractLsb' 0 7
  if op != 0x0B && op != 0x2B then none
  else match decode w with
    | .error _ => none
    | .ok d => if d.sw || bodyBarred d.instr || t.vIllegal d.instr then none else some d.instr

/-- What reading a flight's body ends with. -/
inductive Body where
  | got (s : State) (l : List Instr)
  | illegal (s : State)
  | fault (s : State) (cause : BitVec 6) (va : Word)
  | absent (s : State) (va : Word)
  | wait

/-- Reads the body of a flight: `n` words from an address. -/
def State.readBody (s : State) (pc : Word) : Nat → Body
  | 0 => .got s []
  | n + 1 =>
    match s.fetchAt s.cur pc with
    | (s, .fault c) => .fault s c pc
    | (s, .absent) => .absent s pc
    | (_, .wait) => .wait
    | (s, .word w) =>
      match s.th.bodyInstr w with
      | none => .illegal s
      | some i => match s.readBody (pc + 4) n with
        | .got s l => .got s (i :: l)
        | r => r

/-- The flight's own issue, its body read (R200).  Whether the body words count in instret the manual does not say: that the flight counts as one
retired instruction is the model's choice (log 72). -/
def State.flightIssue (s : State) (l : List Instr) (iters step : Word) : State :=
  if step.toNat % 4 ≠ 0 then s.trapHere 1 step
  else match l.findSome? s.th.leased with
    | some r => s.trapHere 4 (zext r)
    | none =>
      if l.any s.vPending then s
      else match l.findSome? s.vOffsetBad with
        | some o => s.trapHere 1 o
        | none =>
          if l.any s.vHeld then s
          else
            let n := l.length + 1
            s.claim n fun s => (s.enqueue (l.map s.capture) (iters.extractLsb' 0 32).toNat step n).retireTo (s.th.pc + word (4 * n))

/-- VFLIGHT (R200). -/
def execVflight (n : BitVec 4) (rs1 rs2 : BitVec 5) (s : State) : Res :=
  plain s [rs1, rs2] fun s =>
    match s.readBody (s.th.pc + 4) n.toNat with
    | .fault s c va => s.trapHere c va
    | .absent s va => s.parkAccess s.cur none s.th.asid va 2
    | .wait => s
    | .illegal s => s.illegal
    | .got s l => s.flightIssue l (s.rx rs1) (s.rx rs2)

/-- LWAIT (R191): every lease of the thread set has ended. -/
def execLwait (s : State) : Res :=
  plain s [] fun s => if s.th.jobs.any fun j => !j.store then s else s.retire

/-- The lanes a gather or scatter accesses: number, address and element (R190, R192). -/
def ngLanes (k : KWord) (va v : VWord) (size : Nat) : List (Nat × Word × Nat) :=
  (activeLanes k 64).map fun i => (i, word (lane va 64 i), lane v (8 * size) i)

/-- Whether the addresses of VLDG or VSTG can be judged at issue (R190): no earlier instruction in the sequencer writes the register or the
predicate that gives them, or pops its channel, and the channel holds an entry.  R32 and R203 list no such wait: that the instruction waits at issue until cause 1 can be
judged is the model's choice (log 71). -/
def State.ngKnown (s : State) (va : BitVec 5) (kg : BitVec 3) : Bool :=
  let chan : List Nat := if s.th.chwin && decide (24 ≤ va.toNat) then [va.toNat - 24] else []
  s.th.channelsReady chan && (s.seqOf s.cur).all fun i => i.ops.all fun o =>
    !(vDests o.instr).contains va && (kg == 0 || vPredDest o.instr != kg) && chan.all fun n => !(vChannels o).contains n

/-- VLDG and VSTG at issue (R168, R190 to R192, R203): they wait for the thread set's stores and for their addresses, which are judged; then
they enter the sequencer, and a gather's register is leased. -/
def State.ngIssue (s : State) (i : Instr) (store : Bool) (vd va : BitVec 5) (sz : BitVec 2) (kg : BitVec 3) : State :=
  let t := s.th
  let size := 2 ^ sz.toNat
  if t.vIllegal i then s.illegal
  else match t.leased i with
    | some r => s.trapHere 4 (zext r)
    | none =>
      if (s.core s.myCore).sb.any (fun e => e.tid == s.cur) || s.acquiring s.cur || !s.ngKnown va kg then s
      else
        let lanes := ngLanes (t.rk kg) (t.vsource t.chwin va) 0 size
        match lanes.find? fun l => l.2.1.toNat % size != 0 && l.2.1 != BitVec.allOnes 64 with
        | some l => s.trapHere 1 l.2.1
        | none => s.claim 1 fun s =>
          let r := s.newId
          let job : LaneJob := { id := r.1, store := store, vreg := vd, size := size, user := !s.th.steward, lanes := lanes, hit := [] }
          let s := r.2.enqueueAs r.1 [s.capture i] 1 0 1
          (s.modTh fun t => { t with jobs := t.jobs ++ [job] }).retire

/-- VLDG (R190). -/
def execVldg (vd vs1 : BitVec 5) (sz : BitVec 2) (kg : BitVec 3) (s : State) : Res :=
  .next (s.ngIssue (.vldg vd vs1 sz kg) false vd vs1 sz kg)
/-- VSTG (R192). -/
def execVstg (vd vs1 : BitVec 5) (sz : BitVec 2) (kg : BitVec 3) (s : State) : Res :=
  .next (s.ngIssue (.vstg vd vs1 sz kg) true vd vs1 sz kg)

end Sys2Proof.Machine
end

