-- ==== Sys2Proof/Machine/Matrix.lean ====
section
/-! DEFINITION. The matrix engine (R205 to R233): rings, the matrix queue, accumulator and landing slots, gang operations. -/

namespace Sys2Proof.Machine

/-- An accumulator slot of a core. -/
def Core.acc (c : Core) (n : Nat) : Accum := aget {} c.accs n
/-- A landing slot of a core. -/
def Core.land (c : Core) (n : Nat) : Landing := aget {} c.lands n
/-- Changes a ring of a core. -/
def State.modRing (s : State) (core r : Nat) (f : Ring → Ring) : State :=
  s.modCore core fun c => match afind c.rings r with
    | some g => { c with rings := aput c.rings r (f g) }
    | none => c
/-- Replaces an accumulator slot. -/
def State.setAcc (s : State) (core n : Nat) (a : Accum) : State := s.modCore core fun c => { c with accs := aput c.accs n a }
/-- Replaces a landing slot. -/
def State.setLand (s : State) (core n : Nat) (l : Landing) : State := s.modCore core fun c => { c with lands := aput c.lands n l }

/-- The bytes of a ring's slots (R207). -/
def Ring.size (g : Ring) : Nat := if g.wide then 0x8000 else 0x4000
/-- The scratchpad offset of slot n (R207). -/
def Ring.slotAt (g : Ring) (n : BitVec 32) : Nat := g.base + g.size * (n.toNat % g.slots)
/-- Occupied slots (R207). -/
def Ring.occupied (g : Ring) : Nat := (g.tail - g.head).toNat

/-- A queued MRING.FREE of a ring: readers issued after it claim only tiles pushed after it executes (R218). -/
def Core.freeing (c : Core) (r : Nat) : Bool := c.mq.any fun o => match o.kind with
  | .free q _ => q == r
  | _ => false

/-- TAIL − CLAIM of a ring (R207, R237). -/
def Core.unclaimed (c : Core) (r : Nat) : Nat :=
  match afind c.rings r with
  | some g => (g.tail - g.claim).toNat
  | none => 0
/-- Available tiles of a ring (R207): TAIL − CLAIM; none while an MRING.FREE of it is queued, which keeps a later reader's claim to tiles pushed
after it (R218; log 61). -/
def Core.available (c : Core) (r : Nat) : Nat := if c.freeing r then 0 else c.unclaimed r

/-- Whether an ASID holds a scratchpad allocation on a core (R89). -/
def Core.holdsAlloc (c : Core) (asid : BitVec 16) : Bool := c.allocs.any fun a => a.asid == asid

/-- Whether a card of an ASID may name a ring (R208). -/
def Core.ringOf (c : Core) (r : Nat) (asid : BitVec 16) : Option Ring :=
  match afind c.rings r with
  | some g => if g.owner == asid then some g else none
  | none => none

/-- Kind and owner of an accumulator slot after every queued operation (R212). -/
def slotAfter (n : Nat) (o : MatOp) (k : AccKind × Option (BitVec 16)) : AccKind × Option (BitVec 16) :=
  let put (code : Nat) : AccKind := if (matFmt code).isSome then .fp else .int
  match o.kind with
  | .mma m => if m.slot = n then (put m.fmt, k.2) else k
  | .group f _ _ rows => rows.foldl (fun k g =>
      if g.slot ≠ n ∨ g.count = 0 then k else (put f, if g.clr then some o.asid else k.2)) k
  | .read a _ clr => if clr ∧ a = n then (.empty, some o.asid) else k
  | .zero m => if m.getLsbD n then (.empty, some o.asid) else k
  | _ => k
/-- Kind and owner of an accumulator slot as an instruction issued now meets it (R212). -/
def Core.slotState (c : Core) (n : Nat) : AccKind × Option (BitVec 16) :=
  c.mq.foldl (fun k o => slotAfter n o k) ((c.acc n).kind, (c.acc n).owner)

/-- Whether an ASID may zero a slot (R212). -/
def Core.mayZero (c : Core) (n : Nat) (asid : BitVec 16) : Bool :=
  match (c.slotState n).2 with
  | none => true
  | some o => o == asid || !c.holdsAlloc o

/-- The first failing check of a list: cause and TVAL (R409). -/
def firstFault (l : List (Bool × BitVec 6 × Nat)) : Option (BitVec 6 × Word) :=
  (l.find? (·.1)).map fun p => (p.2.1, word p.2.2)

/-- Continues after a list of checks at issue. -/
def State.checked (s : State) (l : List (Bool × BitVec 6 × Nat)) (k : State → State) : State :=
  match firstFault l with
  | some (c, v) => s.trapHere c v
  | none => k s

/-- The format code of a matrix instruction (R57). -/
def Thread.mfmtCode (t : Thread) : Nat := if t.pfx then t.pfxv.toNat else (t.mfmt.extractLsb' 0 5).toNat

/-- Puts an operation into the matrix queue (R206), with a ticket or without. -/
def State.queueMat (s : State) (kind : MatKind) (ticketed : Bool) (gang : Option (Nat × Nat)) : State :=
  let r := s.newId
  let s := r.2
  s.modCore s.myCore fun c =>
    let o : MatOp :=
      { id := r.1, tid := s.cur, card := s.th.card.map (·.id), asid := s.th.asid, kind := kind,
        ticket := if ticketed then some c.ticket else none, gang := gang, arrived := false, flags := 0 }
    { c with mq := c.mq ++ [o], ticket := if ticketed then c.ticket + 1 else c.ticket }

/-- A full matrix queue holds the instruction at issue (R206). -/
def State.matRoom (s : State) (k : State → State) : State := if 16 ≤ (s.core s.myCore).mq.length then s else k s

/-- The half of a ring by the bank of its first byte (R188, R211): the skewed region of the lowest thread set and register decides. -/
def State.half (s : State) (core base : Nat) : Nat :=
  let regs := (tidsOf core).flatMap fun tid => (List.range 4).map fun n => aget 0 (s.thread tid).skew n
  let covers (v : Word) : Bool :=
    let b := (v.extractLsb' 0 20).toNat
    v.getLsbD 63 && decide (b ≤ base ∧ base < b + (v.extractLsb' 20 21).toNat)
  match regs.find? covers with
  | some v => (base / 4 % 64 + (base - (v.extractLsb' 0 20).toNat) / 256) % 64 / 32
  | none => base / 4 % 64 / 32

/-- MRING.CFG (R215). -/
def execMringCfg (rd rs1 rs2 : BitVec 5) (s : State) : Res :=
  plain s [rd, rs1, rs2] fun s =>
    let r := (s.rx rs1).toNat
    let w := s.rx rs2
    let c := s.core s.myCore
    let g : Ring :=
      { base := (w.extractLsb' 8 12).toNat * 256, wide := w.getLsbD 20, slots := (w.extractLsb' 24 4).toNat + 1,
        owner := s.th.asid, head := 0, claim := 0, tail := 0 }
    let old := afind c.rings r
    let busy := match old with
      | some q => q.tail != q.head || q.claim != q.head || (q.owner != g.owner && c.holdsAlloc q.owner)
      | none => false
    s.checked [(decide (7 < r), 7, 1), (w.extractLsb' 28 36 != 0 || w.extractLsb' 21 3 != 0 || w.extractLsb' 0 8 != 0, 7, 2),
        (decide (0x100000 < g.base + g.size * g.slots), 7, 3), (busy, 6, r)] fun s =>
      ((s.modCore s.myCore fun c => { c with rings := aput c.rings r g }).wx rd (word g.base)).retire

/-- The checks that every other ring instruction makes of ring x[rs1] (R208, R213). -/
def State.ringChecks (s : State) (r : Nat) : List (Bool × BitVec 6 × Nat) :=
  [(decide (7 < r), 7, 1), (((s.core s.myCore).ringOf r s.th.asid).isNone, 6, r)]

/-- MRING.PUSH (R216): the release, then the publication. -/
def execMringPush (rd rs1 : BitVec 5) (s : State) : Res :=
  plain s [rd, rs1] fun s =>
    let r := (s.rx rs1).toNat
    s.checked (s.ringChecks r) fun s =>
      if !s.released s.cur 0 || s.acquiring s.cur then s
      else match (s.core s.myCore).ringOf r s.th.asid with
        | none => s
        | some g =>
          if g.occupied = g.slots then (s.wx rd (bit true 63 ||| word (g.slotAt g.tail))).retire
          else (((s.publishTile s.cur s.myCore r g.tail.toNat).modRing s.myCore r fun q => { q with tail := q.tail + 1 }).wx rd (word (g.slotAt (g.tail + 1)))).retire

/-- MRING.DROP (R217). -/
def execMringDrop (rd rs1 rs2 : BitVec 5) (s : State) : Res :=
  plain s [rd, rs1, rs2] fun s =>
    let r := (s.rx rs1).toNat
    let n := min (s.rx rs2).toNat (2 ^ 32 - 1)
    s.matRoom fun s =>
      let a := (s.core s.myCore).available r
      s.checked (s.ringChecks r ++ [(decide (a < n), 6, r)]) fun s =>
        let s := (s.modRing s.myCore r fun q => { q with claim := q.claim + BitVec.ofNat 32 n }).queueMat (.drop r n) false none
        (s.wx rd (word (a - n))).retire

/-- MRING.FREE (R218). -/
def execMringFree (rd rs1 : BitVec 5) (s : State) : Res :=
  plain s [rd, rs1] fun s =>
    let r := (s.rx rs1).toNat
    s.matRoom fun s =>
      s.checked (s.ringChecks r) fun s =>
        let q := s.newId
        let s := q.2.addOut s.cur { id := q.1, kind := .ringFree, regs := [rd], vals := none, acq := none }
        (s.queueMat (.free r q.1) false none).retire

/-- MZERO (R219). -/
def execMzero (rs1 : BitVec 5) (s : State) : Res :=
  plain s [rs1] fun s =>
    let w := s.rx rs1
    let m := w.extractLsb' 0 4
    s.matRoom fun s =>
      let c := s.core s.myCore
      s.checked [(w.extractLsb' 4 60 != 0, 7, 2),
          ((List.range 4).any fun n => m.getLsbD n && !c.mayZero n s.th.asid, 7, 5)] fun s =>
        (s.queueMat (.zero m) false none).retire

/-- The ring checks of a reader, steps 4 to 8 of R409: `need` gives for each B ring, ascending, whether a group reads it in column
direction and how many tiles it needs; a reader that only looks at its B tile needs no tile that it could claim (R237). -/
def State.readerChecks (s : State) (aring aneed : Nat) (need : List (Nat × Bool × Nat)) (looks : Bool) : List (Bool × BitVec 6 × Nat) :=
  let core := s.myCore
  let c := s.core core
  let own (r : Nat) : Bool := (c.ringOf r s.th.asid).isSome
  let g (r : Nat) : Ring := (afind c.rings r).getD { base := 0, wide := true, slots := 1, owner := 0, head := 0, claim := 0, tail := 0 }
  let bs := need.map (·.1)
  [((aring :: bs).any fun r => decide (7 < r), 7, 1), (!own aring, 6, aring)] ++ bs.map (fun r => (!own r, 6, r)) ++
  need.map (fun p => (p.2.1 && !(g p.1).wide, 6, p.1)) ++
  bs.map (fun r => (r == aring || s.half core (g r).base == s.half core (g aring).base, 6, r)) ++
  [(decide (c.available aring < aneed), 6, aring)] ++
  need.map fun p => (decide ((if looks then c.unclaimed p.1 else c.available p.1) < p.2.2), 6, p.1)

/-- The slot checks of a reader, steps 9 and 10 of R409, for one slot. -/
def State.slotChecks (s : State) (slot code : Nat) : List (Bool × BitVec 6 × Nat) :=
  let k := (s.core s.myCore).slotState slot
  let want : AccKind := if (matFmt code).isSome then .fp else .int
  [(k.2 != some s.th.asid, 7, 5), (k.1 != .empty && k.1 != want, 7, 4)]

/-- The group slot and row group of a thread set in gang mode, and whether it is the lead (R224). -/
def State.gangOf (s : State) : Option (Nat × Nat) × Bool :=
  let g := match s.th.card with
    | some c => (afind s.groups c.group).bind fun g => (g.seatOf s.cur).map fun x => (c.group, g.sub 2 x)
    | none => none
  if s.th.gang then (g, s.myCore % 8 == 0) else (none, true)

/-- Claims tiles of rings and queues a reader with its ticket in rd (R206, R207). -/
def State.claimTiles (s : State) (rd : BitVec 5) (claims : List (Nat × Nat)) (kind : MatKind) (gang : Option (Nat × Nat)) : State :=
  let t := (s.core s.myCore).ticket
  let s := claims.foldl (fun s p => s.modRing s.myCore p.1 fun q => { q with claim := q.claim + BitVec.ofNat 32 p.2 }) s
  ((s.queueMat kind true gang).wx rd (zext t)).retire

/-- The tile at CLAIM of a ring. -/
def Core.claimed (c : Core) (r : Nat) : BitVec 32 := match afind c.rings r with
  | some g => g.claim
  | none => 0

/-- MMA (R220). -/
def execMma (rd rs1 : BitVec 5) (s : State) : Res :=
  .next (
    let code := s.th.mfmtCode
    if code < 1 ∨ 6 < code then s.illegal
    else if [rd, rs1].any (s.pending s.cur) then s
    else s.matRoom fun s =>
      let w := s.rx rs1
      let ar := (w.extractLsb' 0 4).toNat
      let br := (w.extractLsb' 4 4).toNat
      let slot := (w.extractLsb' 8 2).toNat
      let bdir := w.getLsbD 13
      let g := s.gangOf
      let an := if g.2 then 1 else 0
      let c := s.core s.myCore
      s.checked ([(w.extractLsb' 16 48 != 0 || w.extractLsb' 14 2 != 0 || w.extractLsb' 10 2 != 0, 7, 2)] ++
          s.readerChecks ar an [(br, bdir, 1)] false ++ s.slotChecks slot code) fun s =>
        let o : MmaOp :=
          { fmt := code, aring := ar, bring := br, slot := slot, adir := w.getLsbD 12, bdir := bdir,
            atile := c.claimed ar, btile := c.claimed br, sparse := false, keep := 64, bhalf := 0, popb := true, idx := [] }
        s.claimTiles rd [(ar, an), (br, 1)] (.mma o) g.1)

/-- The metadata lanes of MMA.SP (R221): group of `n` registers, in lane order. -/
def Thread.metaLanes (t : Thread) (vm : BitVec 5) (n : Nat) : List Nat :=
  (List.range n).flatMap fun i => (List.range 16).map fun j => lane (t.rv (vm + BitVec.ofNat 5 i)) 64 j

/-- The kept indices of row r (R196, R221): `h` lanes for each row. -/
def rowIndices (lanes : List Nat) (h r : Nat) : List Nat :=
  (List.range h).flatMap fun p => (List.range 8).map fun j => lanes.getD (r * h + p) 0 / 32 ^ j % 32

/-- Strictly ascending. -/
def ascending : List Nat → Bool
  | a :: b :: r => decide (a < b) && ascending (b :: r)
  | _ => true

/-- The lowest malformed row of metadata (R221). -/
def badRow (lanes : List Nat) (h : Nat) : Option Nat :=
  (List.range 64).find? fun r =>
    !ascending (rowIndices lanes h r) || (List.range h).any fun p => lanes.getD (r * h + p) 0 / 2 ^ 40 != 0

/-- MMA.SP (R221, R237): a core of a gang operation that is not the lead reads and checks no metadata.  With a reserved NSEL, check 1 takes
the group of N = 8 (log 62). -/
def execMmaSp (rd rs1 vm : BitVec 5) (s : State) : Res :=
  .next (
    let code := s.th.mfmtCode
    if !(code == 1 || code == 2 || code == 3 || code == 5 || code == 6) then s.illegal
    else if [rd, rs1].any (s.pending s.cur) || !(s.seqOf s.cur).isEmpty then s
    else s.matRoom fun s =>
      let t := s.th
      let w := s.rx rs1
      let nsel := (w.extractLsb' 14 2).toNat
      let h := if nsel = 1 then 2 else 1
      let n := 4 * h
      let ar := (w.extractLsb' 0 4).toNat
      let br := (w.extractLsb' 4 4).toNat
      let slot := (w.extractLsb' 8 2).toNat
      let bdir := w.getLsbD 13
      let popb := w.getLsbD 11
      let g := s.gangOf
      let an := if g.2 then 1 else 0
      let c := s.core s.myCore
      let lanes := if g.2 then t.metaLanes vm n else []
      let bad := if g.2 then badRow lanes h else none
      let lease := (List.range n).find? fun i => t.jobs.any fun j => !j.store && j.vreg == vm + BitVec.ofNat 5 i
      if vm.toNat % n != 0 || (t.chwin && decide (24 < vm.toNat + n)) then s.illegal
      else
        s.checked ([(lease.isSome, 4, vm.toNat + lease.getD 0), (w.extractLsb' 16 48 != 0 || decide (1 < nsel), 7, 2)] ++
            s.readerChecks ar an [(br, bdir, 1)] (!popb) ++ s.slotChecks slot code ++ [(bad.isSome, 5, bad.getD 0)]) fun s =>
          let o : MmaOp :=
            { fmt := code, aring := ar, bring := br, slot := slot, adir := w.getLsbD 12, bdir := bdir,
              atile := c.claimed ar, btile := c.claimed br, sparse := true, keep := 8 * h, bhalf := if w.getLsbD 10 then 1 else 0,
              popb := popb, idx := (List.range 64).map (rowIndices lanes h) }
          s.claimTiles rd [(ar, an), (br, if popb then 1 else 0)] (.mma o) g.1)

/-- A row of a group table (R222). -/
def tableRow (w : Word) : GroupRow :=
  { count := (w.extractLsb' 0 16).toNat, bring := (w.extractLsb' 16 3).toNat, slot := (w.extractLsb' 20 2).toNat,
    bdir := w.getLsbD 25, clr := w.getLsbD 24 }
/-- A row of a group table that breaks its limits (R222). -/
def tableRowBad (w : Word) : Bool :=
  w.extractLsb' 26 38 != 0 || w.extractLsb' 22 2 != 0 || w.getLsbD 19 || decide (16 < (w.extractLsb' 0 16).toNat)

/-- Tiles that a group table takes of a B ring (R222). -/
def ringNeed (rows : List GroupRow) (r : Nat) : Nat := ((rows.filter fun g => g.bring == r).map (·.count)).sum

/-- The rings that MGROUP's table names, with what it needs of each (R222): a group of no tiles reads none in column direction (log 60). -/
def groupNeeds (rows : List GroupRow) : List (Nat × Bool × Nat) :=
  ((List.range 8).filter fun r => rows.any fun g => g.bring == r).map fun r =>
    (r, rows.any (fun g => g.bring == r && g.bdir && decide (0 < g.count)), ringNeed rows r)

/-- Whether the groups that name a slot, in table order, break the rule of its owner (R212, R222): one with CLR = 1 zeroes it if it has tiles,
one without CLR must find it owned (log 60). -/
def ownerBad (c : Core) (asid : BitVec 16) : Option (BitVec 16) → List GroupRow → Bool
  | _, [] => false
  | o, g :: rest =>
    if !g.clr then o != some asid || ownerBad c asid o rest
    else if g.count = 0 then ownerBad c asid o rest
    else (match o with
      | some b => b != asid && c.holdsAlloc b
      | none => false) || ownerBad c asid (some asid) rest

/-- The owner and kind checks of MGROUP's slots, ascending (R212, R409). -/
def State.groupSlotChecks (s : State) (rows : List GroupRow) (code : Nat) : List (Bool × BitVec 6 × Nat) :=
  let c := s.core s.myCore
  let of (n : Nat) : List GroupRow := rows.filter fun g => g.slot == n
  let want : AccKind := if (matFmt code).isSome then .fp else .int
  (List.range 4).map (fun n => (ownerBad c s.th.asid (c.slotState n).2 (of n), 7, 5)) ++
  (List.range 4).map fun n =>
    let first := ((of n).takeWhile fun g => !(g.clr && decide (0 < g.count))).any fun g => decide (0 < g.count)
    let k := (c.slotState n).1
    (first && k != .empty && k != want, 7, 4)

/-- MGROUP (R222). -/
def execMgroup (rd rs1 rs2 : BitVec 5) (s : State) : Res :=
  .next (
    let code := s.th.mfmtCode
    if code < 1 ∨ 6 < code then s.illegal
    else if [rd, rs1, rs2].any (s.pending s.cur) || !s.performed s.cur || s.acquiring s.cur then s
    else s.matRoom fun s =>
      let w := s.rx rs1
      let ar := (w.extractLsb' 0 4).toNat
      let off := ((s.rx rs2).extractLsb' 0 20).toNat
      let entry (i : Nat) : Word := word (leNat (s.spadRead s.myCore (off + 8 * i) 8))
      let n := ((entry 0).extractLsb' 0 5).toNat
      let ws := (List.range n).map fun i => entry (i + 1)
      let bad := decide (n = 0) || decide (16 < n) || (entry 0).extractLsb' 5 59 != 0 || ws.any tableRowBad
      let rows := if bad then [] else ws.map tableRow
      let need := groupNeeds rows
      let an := (rows.map (·.count)).sum
      s.checked ([(off % 8 != 0, 1, off), (s.th.gang, 7, 8),
            (w.extractLsb' 13 51 != 0 || w.extractLsb' 4 8 != 0, 7, 2), (bad, 7, 7)] ++
          s.readerChecks ar an need false ++ s.groupSlotChecks rows code) fun s =>
        s.claimTiles rd ((ar, an) :: need.map fun p => (p.1, p.2.2)) (.group code ar (w.getLsbD 12) rows) none)

/-- MREAD (R227). -/
def execMread (rd rs1 : BitVec 5) (s : State) : Res :=
  plain s [rd, rs1] fun s =>
    let w := s.rx rs1
    let acc := (w.extractLsb' 0 2).toNat
    let l := (w.extractLsb' 4 1).toNat
    s.matRoom fun s =>
      let c := s.core s.myCore
      s.checked [(w.extractLsb' 9 55 != 0 || w.extractLsb' 5 3 != 0 || w.extractLsb' 2 2 != 0, 7, 2),
          ((c.land l).state != .free, 7, 6), ((c.slotState acc).2 != some s.th.asid, 7, 5)] fun s =>
        let q := s.newId
        let s := q.2.addOut s.cur { id := q.1, kind := .landing, regs := [], vals := none, acq := none }
        let s := s.setLand s.myCore l { c.land l with state := .filling, owner := some s.th.asid, tid := s.cur, out := q.1 }
        s.claimTiles rd [] (.read acc l (w.getLsbD 8)) none

/-- MCOMMIT at issue (R228): the form by the control word's mode, its checks, then the sequencer. -/
def State.mcommit (s : State) (rd rs1 rs2 : BitVec 5) : State :=
  let w := s.rx rs1
  let l := (s.core s.myCore).land (w.extractLsb' 0 1).toNat
  let part := (w.extractLsb' 8 10).toNat
  let vector := w.getLsbD 1
  let i : Instr := if vector then .mcommitVector rd rs1 else .mcommitScratchpad rs1 rs2
  let off := ((s.rx rs2).extractLsb' 0 20).toNat
  if (if vector then rs2 != 0 || s.th.vIllegal i else rd != 0) then s.illegal
  else
    s.checked [((s.th.leased i).isSome, 4, ((s.th.leased i).getD 0).toNat),
        (w.extractLsb' 18 46 != 0 || w.extractLsb' 3 5 != 0, 7, 2), (!vector && off % 256 != 0, 1, off),
        (vector && decide (256 ≤ part), 7, 2), (l.state == .free, 7, 6), (l.owner != some s.th.asid, 7, 5)] fun s =>
      if s.vHeld i then s else s.claim 1 fun s => (s.enqueue [s.capture i] 1 0 1).retire

/-- MCOMMIT, the form with rs2 = 0 (R228). -/
def execMcommitVector (vd rs1 : BitVec 5) (s : State) : Res := plain s [rs1] fun s => s.mcommit vd rs1 0
/-- MCOMMIT, the form with an offset (R228). -/
def execMcommitScratchpad (rs1 rs2 : BitVec 5) (s : State) : Res := plain s [rs1, rs2] fun s => s.mcommit 0 rs1 rs2

/-- Whether an operation must retire before MWAIT on a ticket goes on (R229): that ticket's, or for a ticket beyond the last one
every operation present at issue. -/
def Core.matPending (c : Core) (t : BitVec 32) (mark : Nat) : Bool :=
  c.mq.any fun o => o.ticket == some t || (decide (2 ^ 31 ≤ (c.ticket - 1 - t).toNat) && decide (o.id < mark))

/-- MWAIT (R229). -/
def execMwait (rs1 : BitVec 5) (s : State) : Res :=
  plain s [rs1] fun s =>
    let s := s.setMark
    if (s.core s.myCore).matPending ((s.rx rs1).extractLsb' 0 32) s.mark then s
    else ((s.modTh (·.takeMatFlags)).acquireMatrix s.cur s.myCore ((s.rx rs1).extractLsb' 0 32)).retire

/-- MGANG (R224). -/
def execMgang (rd rs1 : BitVec 5) (s : State) : Res :=
  plain s [rd, rs1] fun s =>
    let ok := match s.th.card with
      | some c => (match afind s.groups c.group with
        | some g => decide (2 ≤ g.level ∧ 7 ≤ g.cgr)
        | none => false) && c.seat.isSome
      | none => false
    let on := (s.rx rs1).getLsbD 0
    let other := (tidsOf s.myCore).any fun tid => tid != s.cur && (s.thread tid).gang
    if !ok then s.illegal
    else s.checked [(on && other, 7, 9)] fun s =>
      let old := truth s.th.gang
      ((s.modTh fun t => { t with gang := on }).wx rd old).retire

/-- Takes an operation out of a core's matrix queue. -/
def State.dropMat (s : State) (core id : Nat) : State := s.modCore core fun c => { c with mq := c.mq.filter fun q => q.id != id }

/-- Flags join those of a card that has been admitted again and has not resumed (R205, R233). -/
def Saved.matFlagged (v : Saved) (card : Option Nat) (f : Flags) : Saved :=
  if v.evicted && card == some v.card.id then { v with mflags := v.mflags ||| f } else v

/-- An operation leaves the matrix queue; its flags join the MFLAGS of its thread set while that still runs its card (R205). -/
def State.retireMat (s : State) (core : Nat) (o : MatOp) (f : Flags) : State :=
  let s := (s.dropMat core o.id).modCore core fun c => { c with stopped := c.stopped.map (·.matFlagged o.card (o.flags ||| f)) }
  s.modThread o.tid (·.matFlagged o.card (o.flags ||| f))

/-- A tile number after a tile claimed before it has been given back (R225). -/
def tileAfter (gone n : BitVec 32) : BitVec 32 := if n = gone ∨ 2 ^ 31 ≤ (n - gone).toNat then n else n - 1

/-- An operation after a tile of a ring has been given back (R225). -/
def MatOp.unclaimed (o : MatOp) (ring : Nat) (gone : BitVec 32) : MatOp :=
  match o.kind with
  | .mma m => { o with kind := .mma { m with
      atile := if m.aring = ring then tileAfter gone m.atile else m.atile
      btile := if m.bring = ring then tileAfter gone m.btile else m.btile } }
  | _ => o

/-- A gang operation leaves the queue without effect (R225, R226): its thread set is told, and the tiles that it claimed are those of the
readers behind it. -/
def State.refuseGang (s : State) (core : Nat) (o : MatOp) : State :=
  let s := (s.report o.tid 7 8).dropMat core o.id
  match o.kind with
  | .mma m =>
    let give (s : State) (ring : Nat) (tile : BitVec 32) : State :=
      (s.modRing core ring fun g => { g with claim := g.claim - 1 }).modCore core fun c =>
        { c with mq := c.mq.map (·.unclaimed ring tile) }
    let s := if core % 8 = 0 then give s m.aring m.atile else s
    if m.popb then give s m.bring m.btile else s
  | _ => s

/-- Pops tiles of a ring (R207). -/
def State.popRing (s : State) (core r n : Nat) : State := s.modRing core r fun g => { g with head := g.head + BitVec.ofNat 32 n }

/-- The A rows of an operation of a core's ring. -/
def State.rowsOf (s : State) (core : Nat) (m : MmaOp) : List (List Nat) × Flags :=
  match afind (s.core core).rings m.aring with
  | some g => s.tileA core (g.slotAt m.atile) g.size m.fmt m.adir
  | none => ([], 0)

/-- Steps of a product begin at `k`, and `n` of them are made (R233). -/
structure Steps where
  k : Nat
  n : Nat
deriving DecidableEq, Repr
/-- The operands of the steps. -/
def Steps.cut (p : Steps) (l : List Nat) : List Nat := (l.drop p.k).take p.n
/-- The steps of a pair of tiles: 64, or a kept index each (R220, R221). -/
def MmaOp.steps (m : MmaOp) : Nat := if m.sparse then m.keep else 64

/-- Steps of MMA or MMA.SP of a core with rows of A already read; `lead` is the operation that governs A (R220, R221, R226). -/
def State.multiply (s : State) (core : Nat) (m lead : MmaOp) (rows : List (List Nat)) (p : Steps) : State × Flags :=
  match afind (s.core core).rings m.bring with
  | none => (s, 0)
  | some g =>
    let b := s.tileB core (g.slotAt m.btile) g.size m.fmt m.bdir
    let a := (s.core core).acc m.slot
    let r := if lead.sparse then
        a.accumulate m.fmt (rows.map fun l => p.cut (l.take lead.keep)) fun i =>
          keptCols b.1 (32 * lead.bhalf) (p.cut (lead.idx.getD i []))
      else a.accumulate m.fmt (rows.map p.cut) fun _ => b.1.map p.cut
    (s.setAcc core m.slot r.1, b.2 ||| r.2)

/-- An operation of the queue that stands after `k` steps of its pair of tiles, with the flags of those made. -/
def State.standAt (s : State) (core id k : Nat) (f : Flags) : State := s.modCore core fun c => { c with
  mq := c.mq.map fun q => if q.id = id then { q with k := k, flags := q.flags ||| f } else q }

/-- The acquires of an operation's reads of its tiles (R216): of A of a core's ring, of B of the operation's own core's. -/
def State.readTiles (s : State) (core lead : Nat) (m : MmaOp) (ticket : Option (BitVec 32)) : State :=
  let read (s : State) (from_ r n : Nat) : State := match ticket with
    | some t => s.readTile from_ r n core t
    | none => s
  read (read s lead m.aring m.atile.toNat) core m.bring m.btile.toNat

/-- Steps of MMA and MMA.SP outside gang mode (R220, R221): at most `n`, and with the last one it retires. -/
def State.doMma (s : State) (core : Nat) (o : MatOp) (m : MmaOp) (n : Nat) : State :=
  let a := s.rowsOf core m
  let r := (s.readTiles core core m o.ticket).multiply core m m a.1 { k := o.k, n := n }
  if o.k + n < m.steps then r.1.standAt core o.id (o.k + n) (a.2 ||| r.2)
  else
    let s := r.1.popRing core m.aring 1
    (if m.popb then s.popRing core m.bring 1 else s).retireMat core o (a.2 ||| r.2)

/-- Steps of MGROUP (R223): a group of no tiles retires; or at most `n` steps of one pair of tiles are made, which is popped with its last
step. -/
def State.doGroup (s : State) (core : Nat) (o : MatOp) (code ar : Nat) (adir : Bool) (n : Nat) : List GroupRow → State
  | [] => s.retireMat core o 0
  | g :: rest =>
    let keep (s : State) (rows : List GroupRow) (k : Nat) (f : Flags) : State := s.modCore core fun c => { c with
      mq := c.mq.map fun q => if q.id = o.id then { q with kind := .group code ar adir rows, k := k, flags := q.flags ||| f } else q }
    if g.count = 0 then if rest.isEmpty then s.retireMat core o 0 else keep s rest 0 0
    else
      let s := if g.clr then s.setAcc core g.slot { kind := .empty, owner := some o.asid, cells := [] } else s
      let head (r : Nat) : BitVec 32 := match afind (s.core core).rings r with
        | some q => q.head
        | none => 0
      let m : MmaOp :=
        { fmt := code, aring := ar, bring := g.bring, slot := g.slot, adir := adir, bdir := g.bdir, atile := head ar,
          btile := head g.bring, sparse := false, keep := 64, bhalf := 0, popb := true, idx := [] }
      let a := s.rowsOf core m
      let r := (s.readTiles core core m o.ticket).multiply core m m a.1 { k := o.k, n := n }
      if o.k + n < m.steps then keep r.1 ({ g with clr := false } :: rest) (o.k + n) (a.2 ||| r.2)
      else
        let s := (r.1.popRing core ar 1).popRing core g.bring 1
        if g.count = 1 ∧ rest.isEmpty then s.retireMat core o (a.2 ||| r.2)
        else keep s (if g.count = 1 then rest else { g with count := g.count - 1, clr := false } :: rest) 0 (a.2 ||| r.2)

/-- MREAD's read-out (R227): the landing slot's elements; the transfer ends with LANDING_TRANSFER_DONE. -/
def State.doRead (s : State) (core : Nat) (o : MatOp) (acc l : Nat) (clr : Bool) : State :=
  let a := (s.core core).acc acc
  let r := a.all.map (readCell a.kind)
  let s := s.setLand core l { (s.core core).land l with state := .moving, data := r.map (·.1) }
  let s := if clr then s.setAcc core acc { kind := .empty, owner := some o.asid, cells := [] } else s
  s.retireMat core o (r.foldl (fun f p => f ||| p.2) 0)

/-- The remaining operations at the head of the queue (R217 to R219). -/
def State.doZero (s : State) (core : Nat) (o : MatOp) (m : BitVec 4) : State :=
  ((List.range 4).foldl (fun s n =>
    if m.getLsbD n then s.setAcc core n { kind := .empty, owner := some o.asid, cells := [] } else s) s).retireMat core o 0

/-- MRING.FREE's effect (R218). -/
def State.doFree (s : State) (core : Nat) (o : MatOp) (r out : Nat) : State :=
  let n := match afind (s.core core).rings r with
    | some g => g.occupied
    | none => 0
  let s := s.modRing core r fun g => { g with head := g.tail, claim := g.tail }
  (s.giveOut o.tid out [word n]).retireMat core o 0

/-- A gang operation arrives at the row's clasp (R225): refused while a barrier instance is open. -/
def State.gangArrive (s : State) (core : Nat) (o : MatOp) (slot sub : Nat) : State :=
  if s.waitsAt { slot := slot, level := 2, sub := sub } then
    s.refuseGang core o
  else s.modCore core fun c => { c with mq := c.mq.map fun q => if q.id = o.id then { q with arrived := true } else q }

/-- MATRIX_QUEUE_EXECUTE (R206): the operation at the head of a core's queue. -/
def State.matStep (s : State) (core : Nat) : Option State :=
  match (s.core core).mq with
  | [] => none
  | o :: _ =>
    match o.gang with
    | some (slot, sub) => if o.arrived then none else some (s.gangArrive core o slot sub)
    | none => match o.kind with
      | .mma m => some (s.doMma core o m m.steps)
      | .group code ar adir rows => some (s.doGroup core o code ar adir 64 rows)
      | .read acc l clr => some (s.doRead core o acc l clr)
      | .zero m => some (s.doZero core o m)
      | .drop r n => some ((s.popRing core r n).retireMat core o 0)
      | .free r out => some (s.doFree core o r out)
def execMatrixQueueExecute (core : Nat) (s : State) : Res := event s (s.matStep core)

/-- The gang operation that has arrived at the head of a core's queue. -/
def State.gangHead (s : State) (core : Nat) : Option (MatOp × MmaOp) :=
  match (s.core core).mq with
  | o :: _ => if o.arrived then match o.kind with
    | .mma m => some (o, m)
    | _ => none
    else none
  | [] => none

/-- Steps of one core's part of a gang operation (R226): a core whose format differs performs nothing and pops nothing. -/
def State.gangPart (s : State) (lead : MmaOp) (rows : List (List Nat)) (f : Flags) (p : Steps) (core : Nat) : State :=
  match s.gangHead core with
  | none => s
  | some (o, m) =>
    if m.fmt ≠ lead.fmt then s.refuseGang core o
    else
      let r := (s.readTiles core (core / 8 * 8) { m with aring := lead.aring, atile := lead.atile } o.ticket).multiply core m lead rows p
      if p.k + p.n < lead.steps then r.1.standAt core o.id (p.k + p.n) (f ||| r.2)
      else
        let s := if core % 8 = 0 then r.1.popRing core m.aring 1 else r.1
        (if m.popb then s.popRing core m.bring 1 else s).retireMat core o (f ||| r.2)

/-- Steps of a gang operation on a row (R225, R226): from the eighth arrival of its row group on, all slices make them together; those that take
part have made as many as the lead. -/
def State.gangSteps (s : State) (row : Nat) (n : Option Nat) : Option State :=
  let cores := (List.range 8).map fun i => 8 * row + i
  match s.gangHead (8 * row) with
  | none => none
  | some (o, m) =>
    let takes (c : Nat) : Bool := match s.gangHead c with
      | some (q, _) => q.gang == o.gang && q.k == o.k
      | none => false
    if o.k ≠ 0 ∨ cores.all takes then
      let a := s.rowsOf (8 * row) m
      some ((cores.filter takes).foldl (fun s c => s.gangPart m a.1 a.2 { k := o.k, n := n.getD m.steps } c) s)
    else none

/-- GANG_CLASP_CLOSE (R225): the eighth arrival of a row group on a row. -/
def execGangClaspClose (row : Nat) (s : State) : Res := event s (s.gangSteps row none)

/-- The operation at the head of a core's matrix queue makes at most `n` steps more, so that an eviction finds it at that boundary (R233); a
gang operation on all slices of its row. -/
def State.matPart (s : State) (core n : Nat) : Option State :=
  match (s.core core).mq with
  | [] => none
  | o :: _ => match o.gang, o.kind with
    | some _, _ => s.gangSteps (core / 8) (some n)
    | none, .mma m => some (s.doMma core o m n)
    | none, .group code ar adir rows => some (s.doGroup core o code ar adir n rows)
    | none, _ => none

/-- LANDING_TRANSFER_DONE (R227): the landing slot is FULL. -/
def State.landed (s : State) (core slot : Nat) : Option State :=
  let l := (s.core core).land slot
  if l.state == .moving then some ((s.setLand core slot { l with state := .full }).dropOut l.tid l.out) else none
def execLandingTransferDone (core slot : Nat) (s : State) : Res := event s (s.landed core slot)

end Sys2Proof.Machine
end

