-- ==== Sys2Proof/Machine/Ni.lean ====
section
/-! DEFINITION. The network interface (R238 to R266): messages, remote register writes, the issue of copies, gathers and scatters,
barrier objects, and the packets' arrival. -/

namespace Sys2Proof.Machine

/-- The wait of R240: the thread set's stores have drained and its sequencer accesses are performed. -/
def State.niReady (s : State) : Bool :=
  !(s.core s.myCore).sb.any (fun e => e.tid == s.cur) && !s.seqAccesses s.cur && !s.acquiring s.cur

/-- Whether a package number names a package of the pod (R63). -/
def State.inPod (s : State) (pkg : Nat) : Bool :=
  pkg == s.chipno || match s.podLast with
    | some n => decide (pkg ≤ n)
    | none => false

/-- Continues after the check of a package number: one that names none raises cause 2, whose TVAL the spec does not state (R239). -/
def State.podCheck (s : State) (pkg : Nat) (k : State → State) : State :=
  if s.inPod pkg then k s else let r := s.freeWord; r.2.trapHere 2 r.1

/-- Messages and RWRs that a core's staging buffer of 8 holds (R247). -/
def State.staged (s : State) (core : Nat) : Nat :=
  (s.net.filter fun p => match p.tid with
    | some t => coreOf t == core
    | none => false).length

/-- Whether the issuing thread set is in the handler phase of its card (R250). -/
def State.inPhase (s : State) : Bool := s.th.inHandler

/-- The release of a command with semantics and scope. -/
def relOf (sem scope : BitVec 2) : Option (BitVec 2) := if sem.getLsbD 1 then some scope else none

/-- The acquire of a command with semantics and scope. -/
def acqOf (sem scope : BitVec 2) : Option (BitVec 2) := if sem.getLsbD 0 then some scope else none

/-- Stages a packet of the issuing thread set and retires (R247, R250): a handler phase keeps it until its HDONE; otherwise it is an
outstanding result until accepted. -/
def State.stage (s : State) (p0 : Packet) : State :=
  let r := s.newId
  let s := r.2
  let p := { p0 with id := r.1, tid := some s.cur, out := r.1 }
  if s.inPhase then (s.modTh fun t => { t with card := t.card.map fun (c : Card) => { c with sends := c.sends ++ [p] } }).retire
  else
    let m := s.nextMid s.myCore
    let p := { p with mid := m.1 }
    let s := m.2.carry (.thread s.cur) p.rel r.1
    let s := s.addOut s.cur { id := r.1, kind := .ni, regs := [], vals := none, acq := none }
    State.retire { s with net := s.net ++ [p] }

/-- The sends that the card of the issuing thread set holds (R250). -/
def State.heldSends (s : State) : List Packet := match s.th.card with
  | some c => c.sends
  | none => []

/-- The staging of MSEND and RWR after their own checks: the ninth held send (R250), the package, the waits of R240 and R247. -/
def State.stageAfter (s : State) (pkg : Nat) (k : State → Packet) : State :=
  s.podCheck pkg fun s =>
    s.checked [(s.inPhase && decide (8 ≤ s.heldSends.length), 7, 7)] fun s =>
      if !s.niReady || (!s.inPhase && decide (8 ≤ s.staged s.myCore)) then s else s.stage (k s)

/-- MSEND (R246, R247). -/
def execMsend (sem scope : BitVec 2) (rd rs1 rs2 : BitVec 5) (s : State) : Res :=
  plain s [rd, rs1, rs2] fun s =>
    let p := ((s.rx rs1).extractLsb' 0 20).toNat
    let w := s.rx rs2
    let h := s.rx rd
    let tagged := w.getLsbD 63
    let len := (w.extractLsb' 53 7).toNat
    let pkg := (w.extractLsb' 40 12).toNat
    if p % 16 ≠ 0 then s.trapHere 1 (s.rx rs1)
    else
      s.checked [
          (w.getLsbD 60 || w.getLsbD 52 || w.extractLsb' 22 18 != 0 || w.extractLsb' 10 6 != 0 ||
            (if tagged then w.extractLsb' 61 2 != 0 else w.extractLsb' 16 6 != 0), 7, 1),
          (decide ((if tagged then 112 else 48) < len), 7, 2),
          (!tagged && (h.extractLsb' 0 2 != 0 || h.extractLsb' 48 16 != 0), 7, 4)] fun s =>
        s.stageAfter pkg fun s => {
          id := 0, arr := 0, kind := if tagged then 1 else 0, pkg := pkg, core := (w.extractLsb' 0 10).toNat,
          tag := (w.extractLsb' 16 6).toNat, reg := 0, mid := 0, hpc := if tagged then 0 else h, asid := s.th.asid,
          cls := (w.extractLsb' 61 2).toNat, payload := s.spadRead s.myCore p len, tid := none, out := 0,
          rel := relOf sem scope, served := none,
          bad := (List.range len).filter fun i => s.spadPoisoned s.myCore (p + i) 1 }

/-- RWR (R251). -/
def execRwr (sem scope : BitVec 2) (rs1 rs2 : BitVec 5) (s : State) : Res :=
  plain s [rs1, rs2] fun s =>
    let w := s.rx rs1
    let v := s.rx rs2
    let pkg := (w.extractLsb' 40 12).toNat
    let reg := (w.extractLsb' 24 3).toNat
    s.checked [(w.extractLsb' 52 12 != 0 || w.extractLsb' 27 13 != 0 || w.extractLsb' 22 2 != 0 || w.extractLsb' 10 6 != 0, 7, 1)]
      fun s =>
        s.stageAfter pkg fun s => {
          id := 0, arr := 0, kind := 2, pkg := pkg, core := (w.extractLsb' 0 10).toNat, tag := (w.extractLsb' 16 6).toNat,
          reg := reg, mid := 0, hpc := 0, asid := s.th.asid, cls := 0, payload := leBytes v.toNat 8 ++ [BitVec.ofNat 8 reg],
          tid := none, out := 0, rel := relOf sem scope, served := none }

/-- A packet that an engine sends to a tag of a core (R242): copy completions, notifications, wakes, completions, with the release of `party`.
The identifier of a packet that no core's NI sends is a free value (log 2). -/
def State.sendTagged (s : State) (kind : Nat) (src : Option Nat) (core tag : Nat) (asid : BitVec 16) (payload : List Byte)
    (rel : Option (BitVec 2)) (party : Party) : State :=
  let r := s.newId
  let m : BitVec 48 × State := match src with
    | some c => r.2.nextMid c
    | none => let f := r.2.freeWord; (f.1.extractLsb' 0 48, f.2)
  let s := m.2
  let p : Packet :=
    { id := r.1, arr := 0, kind := kind, pkg := s.chipno, core := core, tag := tag, reg := 0, mid := m.1, hpc := 0, asid := asid,
      cls := 0, payload := payload, tid := none, out := 0, rel := rel, served := none }
  State.carry { s with net := s.net ++ [p] } party rel p.id

/-- Whether a packet of the network may be accepted now (R247, R266): its release is made and none of its in-order class, nor of the packets of
one crossing engine to one tag (R353), is ahead. -/
def State.maySend (s : State) (p : Packet) : Bool :=
  (match p.tid, p.rel with
    | some t, some sc => s.releasedBefore t sc p.id
    | _, _ => true) &&
  (p.kind != 5 || !(s.net.takeWhile fun q => q.id != p.id).any fun q => q.kind == 5 && q.core == p.core && q.tag == p.tag) &&
  (p.tid.isNone || !(s.net.takeWhile fun q => q.id != p.id).any fun q => q.tid == p.tid && q.pkg == p.pkg && q.core == p.core)

/-- A packet leaves the network; the port that it held takes others again (R245). -/
def State.leaveNet (s : State) (p : Packet) : State :=
  let s := { s with net := s.net.filter fun q => q.id != p.id }
  if (s.core p.core).stuck == some p.id then s.modCore p.core fun c => { c with stuck := none } else s

/-- A packet of this package's network arrives at its core (R243); SEND_ACCEPTED then tells the sender.  One that is not accepted waits, and
the core's port takes no other one before it (R245). -/
def State.packetArrival (s : State) (id : Nat) (ok : Nat → Bool) : Option State :=
  match s.net.find? fun p => p.id == id with
  | none => none
  | some p =>
    if !ok p.kind || p.pkg ≠ s.chipno || !s.maySend p || (s.core p.core).stuck.any (· != id) then none
    else match s.arrive p.core p with
      | none => some (s.modCore p.core fun c => { c with stuck := some id })
      | some s =>
        let s := s.leaveNet p
        some (match p.tid with
          | some t => (s.giveOut t p.out []).sysDone t (p.rel.getD 0)
          | none => s)
/-- ACTIVE_MESSAGE_ARRIVAL (R243). -/
def execActiveMessageArrival (id : Nat) (s : State) : Res := event s (s.packetArrival id fun k => k == 0)
/-- TAGGED_PACKET_ARRIVAL (R243). -/
def execTaggedPacketArrival (id : Nat) (s : State) : Res := event s (s.packetArrival id fun k => k != 0 && k != 2)
/-- RWR_ARRIVAL (R116). -/
def execRwrArrival (id : Nat) (s : State) : Res := event s (s.packetArrival id fun k => k == 2)

/-- A message or RWR is lost on its way, or no route leads to its package (R270, R354): cause 12 at its issuer. -/
def State.sendFails (s : State) (p : Packet) (l : Nat) : State := match p.tid with
  | some t => if p.free then s.report t 12 (word l) else s.failOut t p.out 12 (word l)
  | none => s

/-- SEND_ACCEPTED (R247): the sender's command completes; a packet to another package is accepted there, or no route leads there (R354). -/
def State.sendAccepted (s : State) (id : Nat) : Option State :=
  match s.net.find? fun p => p.id == id with
  | some p =>
    if p.pkg == s.chipno || !s.maySend p then none
    else
      let w := s.route p.pkg
      let s := w.2.leaveNet p
      some (match p.tid with
        | some t =>
          if w.1 then (s.dropOut t p.out).sysDone t (p.rel.getD 0)
          else s.sendFails p 0xFFFF
        | none => s)
  | none =>
    match s.threads.find? fun q => q.2.outs.any fun o => o.id == id && o.kind == .ni && o.vals.isSome with
    | some (t, _) => some (s.dropOut t id)
    | none => none
def execSendAccepted (id : Nat) (s : State) : Res := event s (s.sendAccepted id)

/-- HEAP_REPLAY (R245): the oldest packet of the heap enters the inbox and is delivered from there if it can be. -/
def State.heapReplay (s : State) (core : Nat) : Option State :=
  let c := s.core core
  match c.heap with
  | [] => none
  | p :: r =>
    if c.free < p.entries then none
    else
      let p := s.slotOut core p
      let s := s.setCore core { c with heap := r, inbox := c.inbox ++ [p] }
      some (if p.kind = 0 then s
        else match s.tagHolder core p.tag with
          | none => s
          | some card => match s.runs core card with
            | some tid => s.pump tid
            | none => s.wake core card)
def execHeapReplay (core : Nat) (s : State) : Res := event s (s.heapReplay core)

/-- The handler card of an active message (R249). -/
def handlerCard (id core time : Nat) (p : Packet) : Card :=
  let hdr : Word := (zext p.asid <<< 48) ||| (0xFFFF <<< 32) ||| (0xFFFF <<< 16) ||| bit true 6 ||| word p.cls
  let b := p.payload ++ List.replicate (48 - p.payload.length) 0
  { newCard id ([p.hpc, hdr] ++ (List.range 6).map fun i => word (leNat ((b.drop (8 * i)).take 8))) hdr core 0 time with msg := some p }

/-- HANDLER_TRIGGER (R249): the oldest active message not yet in service, with fewer than 8 in service. -/
def State.handlerTrigger (s : State) (core : Nat) : Option State :=
  let c := s.core core
  if 8 ≤ (c.inbox.filter fun p => p.served.isSome).length then none
  else match c.inbox.find? fun p => p.kind == 0 && p.served.isNone with
    | none => none
    | some p =>
      if (afind s.roots p.asid.toNat).isNone then
        let s := s.setCore core { c with inbox := c.inbox.filter fun q => q.id != p.id }
        some (s.modDie (dieOf core) fun d => { d with msgdrop := d.msgdrop + 1 })
      else
        let r := s.newId
        let s := r.2.modCore core fun c => { c with inbox := c.inbox.map fun q => if q.id = p.id then { q with served := some r.1 } else q }
        let k := handlerCard r.1 core s.time p
        some ((s.pushDeque core k).getD (s.modCore core fun c => { c with building := c.building ++ [k] }))
def execHandlerTrigger (core : Nat) (s : State) : Res := event s (s.handlerTrigger core)

/-- HANDLER_PUSH_RETRY (R249): a handler card whose push failed. -/
def State.handlerRetry (s : State) (core : Nat) : Option State :=
  match (s.core core).building with
  | [] => none
  | k :: r => (s.pushDeque core k).map fun s => s.modCore core fun c => { c with building := r }
def execHandlerPushRetry (core : Nat) (s : State) : Res := event s (s.handlerRetry core)

/-- A copy channel of a core (R254). -/
def Core.channel (c : Core) (n : Nat) : CopyChan := aget {} c.copies n
/-- Replaces a copy channel. -/
def State.setChannel (s : State) (core n : Nat) (x : CopyChan) : State := s.modCore core fun c => { c with copies := aput c.copies n x }

/-- Queues a command on a channel with its old issue pointer in rd (R254), and retires. -/
def State.queueCopy (s : State) (rd : BitVec 5) (ch : Nat) (k : Nat → CopyCmd) : State :=
  let x := (s.core s.myCore).channel ch
  if 16 ≤ x.q.length then s
  else
    let r := s.newId
    let c := k r.1
    let s := r.2.setChannel s.myCore ch { x with ip := x.ip + word c.len, q := x.q ++ [c] }
    let s := s.addOut s.cur { id := r.1, kind := .ni, regs := [], vals := none, acq := none }
    ((s.inherit s.cur r.1 c.rel).wx rd x.ip).retire

/-- Reserved bits of a completion word (R253). -/
def complBad (w : Word) : Bool := w.extractLsb' 42 22 != 0 || w.extractLsb' 20 13 != 0
/-- BOV, BODST, NOTE, NTAG and BOOFF of a completion word (R253). -/
def boOff (w : Word) : Nat := (w.extractLsb' 0 20).toNat
def boValid (w : Word) : Bool := w.getLsbD 33
def boDest (w : Word) : Bool := w.getLsbD 34
def noteOf (w : Word) : Option Nat := if w.getLsbD 35 then some (w.extractLsb' 36 6).toNat else none

/-- The word of a command block at a scratchpad offset of the issuing core. -/
def State.blockWord (s : State) (off i : Nat) : Word := word (leNat (s.spadRead s.myCore (off + 8 * i) 8))

/-- What a destination address translates to for BODST (R255): a core's scratchpad of a package, other memory, a fault or an absent
page. -/
inductive DestCore where
  | core (pkg core : Nat)
  | other
  | fault
  | absent
deriving DecidableEq, Repr

/-- Translates a destination address with the card's ASID (R255). -/
def State.destCore (s : State) (va : Word) : State × DestCore :=
  if !isCanonical va then (s, .fault)
  else if isOwnWindow va then (s, .core s.chipno s.myCore)
  else match s.translate s.myCore s.th.asid va { w := true } (!s.th.steward) with
    | (s, .absent) => (s, .absent)
    | (s, .fault _) => (s, .fault)
    | (s, .ok pa) => (s, match localPlace (pa % 2 ^ 40) with
      | .mem a => if windowBase ≤ a then .core (pa / 2 ^ 40) ((a - windowBase) / 0x100000) else .other
      | _ => .other)

/-- The destination core of a copy whose barrier object lies there (R255): both ends in one core's scratchpad, or the trap or park. -/
def State.destEnds (s : State) (dst : Word) (len : Nat) (k : State → Nat → Nat → State) : State :=
  let last := dst + word len - 1
  let one (s : State) (va : Word) (k : State → DestCore → State) : State := match s.destCore va with
    | (s, .fault) => s.trapHere 2 va
    | (s, .absent) => s.parkAccess s.cur none s.th.asid va 1
    | (s, d) => k s d
  one s dst fun s a => one s last fun s b =>
    match a, b with
    | .core p c, .core q d => if p = q ∧ c = d then k s p c else s.trapHere 7 3
    | _, _ => s.trapHere 7 3

/-- The local address of a barrier object of a core. -/
def objAt (core off : Nat) : Nat := spadBase core + off

/-- CPY and CPYM at issue (R252 to R256); `mask` is CPYM's. -/
def State.copyIssue (s : State) (sem scope : BitVec 2) (rd rs1 : BitVec 5) (mask : Option Word) : State :=
  let off := ((s.rx rs1).extractLsb' 0 20).toNat
  if off % 32 ≠ 0 then s.trapHere 1 (word off)
  else if !s.niReady then s
  else
    let dst := s.blockWord off 0
    let src := s.blockWord off 1
    let w2 := s.blockWord off 2
    let cw := s.blockWord off 3
    let len := (w2.extractLsb' 0 40).toNat
    let ch := (w2.extractLsb' 60 4).toNat
    let multi := mask.isSome
    let m := mask.getD 0
    s.checked [
        (complBad cw || w2.extractLsb' 40 20 != 0 || (multi && dst.extractLsb' 20 44 != 0), 7, 1),
        (boOff cw % 16 != 0, 1, boOff cw),
        (multi && decide (0x100000 < dst.toNat + len), 7, 2),
        (multi && (m == 0 || (boValid cw && !boDest cw)), 7, 3),
        (!multi && decide (0 < len ∧ src.toNat < dst.toNat + len ∧ dst.toNat < src.toNat + len), 7, 5)] fun s =>
      let peers := (List.range 64).filter fun i => m.getLsbD i
      let hall := s.myCore / 64 * 64
      let go (s : State) (objs : List Nat) (home : Option Nat) : State :=
        s.queueCopy rd ch fun id => {
          id := id, tid := s.cur, asid := s.th.asid, user := !s.th.steward,
          kind := match mask with
            | some m => .multi m
            | none => .copy
          dst := dst, src := src, len := len, compl := cw, objs := if boValid cw then objs else [], home := home, done := 0, run := 0,
          deliv := 0, fault := none, rel := relOf sem scope, acq := acqOf sem scope }
      if multi then go s (peers.map fun i => objAt (hall + i) (boOff cw)) none
      else if boValid cw && boDest cw then
        s.destEnds dst len fun s p c => go s (if p = s.chipno then [objAt c (boOff cw)] else []) (some (p * 1024 + c))
      else go s [objAt s.myCore (boOff cw)] none

/-- CPY (R255). -/
def execCpy (sem scope : BitVec 2) (rd rs1 : BitVec 5) (s : State) : Res :=
  plain s [rd, rs1] fun s => s.copyIssue sem scope rd rs1 none
/-- CPYM (R256). -/
def execCpym (sem scope : BitVec 2) (rd rs1 rs2 : BitVec 5) (s : State) : Res :=
  plain s [rd, rs1, rs2] fun s => s.copyIssue sem scope rd rs1 (some (s.rx rs2))

/-- GATH and SCAT at issue (R262 to R264). -/
def State.gatherIssue (s : State) (sem scope : BitVec 2) (rd rs1 : BitVec 5) (scatter : Bool) : State :=
  let off := ((s.rx rs1).extractLsb' 0 20).toNat
  if off % 32 ≠ 0 then s.trapHere 1 (word off)
  else if !s.niReady then s
  else
    let base := s.blockWord off 0
    let w1 := s.blockWord off 1
    let w2 := s.blockWord off 2
    let cw := s.blockWord off 3
    let count := (w2.extractLsb' 0 21).toNat
    let table := w1.getLsbD 44
    let dist := aget 0 s.th.dist (w1.extractLsb' 42 2).toNat
    let desc := leNat (s.spadRead s.myCore ((dist.extractLsb' 6 14).toNat * 64) 64)
    let esz := if table then field desc 20 2 else (w1.extractLsb' 45 2).toNat
    let z := 2 ^ esz
    let idx := (w1.extractLsb' 20 20).toNat
    let loc := (w1.extractLsb' 0 20).toNat
    let isz := if table then 8 else 4
    s.checked [
        (complBad cw || boDest cw || w2.extractLsb' 21 39 != 0 || w1.extractLsb' 47 17 != 0 || w1.extractLsb' 40 2 != 0 ||
          (!table && w1.extractLsb' 42 2 != 0), 7, 1),
        (table && (!dist.getLsbD 63 || base != 0 || w1.extractLsb' 45 2 != 0), 7, 6),
        (boOff cw % 16 != 0, 1, boOff cw), (idx % isz != 0, 1, idx), (loc % z != 0, 1, loc),
        (decide (0x100000 < count ∨ 0x100000 < idx + isz * count ∨ 0x100000 < loc + z * count), 7, 2)] fun s =>
      s.queueCopy rd (w2.extractLsb' 60 4).toNat fun id => {
        id := id, tid := s.cur, asid := s.th.asid, user := !s.th.steward,
        kind := if scatter then .scatter idx esz (if table then some desc else none)
          else .gather idx esz (if table then some desc else none)
        dst := word loc, src := base, len := count * z, compl := cw,
        objs := if boValid cw then [objAt s.myCore (boOff cw)] else [], home := none, done := 0, run := 0, deliv := 0,
        fault := none, rel := relOf sem scope, acq := acqOf sem scope }

/-- The bytes of the chunk of a copy that begins at byte `o` (R255). -/
def CopyCmd.chunk (c : CopyCmd) (o : Nat) : Nat := min (64 - (c.dst.toNat + o) % 64) (c.len - o)

/-- Index list offset, element size and table of a gather or scatter. -/
def CopyKind.index : CopyKind → Option (Bool × Nat × Nat × Option Nat)
  | .gather idx esz d => some (false, idx, 2 ^ esz, d)
  | .scatter idx esz d => some (true, idx, 2 ^ esz, d)
  | _ => none

/-- The address of element n (R262): as it was formed, or from the index list. -/
def State.elementAddr (s : State) (core : Nat) (c : CopyCmd) (idx z n : Nat) (desc : Option Nat) : Word :=
  match afind c.ahead n, desc with
  | some (.at_ va), _ => va
  | _, none => c.src + word (leNat (s.spadRead core (idx + 4 * n) 4) * z)
  | _, some d => word (tableAddr d (leNat (s.spadRead core (idx + 8 * n) 8)))

/-- GATH (R263). -/
def execGath (sem scope : BitVec 2) (rd rs1 : BitVec 5) (s : State) : Res :=
  plain s [rd, rs1] fun s => s.gatherIssue sem scope rd rs1 false
/-- SCAT (R264). -/
def execScat (sem scope : BitVec 2) (rd rs1 : BitVec 5) (s : State) : Res :=
  plain s [rd, rs1] fun s => s.gatherIssue sem scope rd rs1 true

/-- BOINIT (R258). -/
def execBoinit (rs1 rs2 : BitVec 5) (s : State) : Res :=
  plain s [rs1, rs2] fun s =>
    let off := ((s.rx rs1).extractLsb' 0 20).toNat
    let e := s.rx rs2
    s.checked [(off % 16 != 0, 1, off), (e.getLsbD 63, 7, 1)] fun s =>
      if !s.niReady then s
      else if s.spadLocket s.myCore off 16 then s.trapHere 3 (ownAddr (word off))
      else (s.spadWrite s.cur off (leBytes e.toNat 16)).retire

/-- BOWAIT (R259). -/
def execBowait (sem scope : BitVec 2) (rd rs1 : BitVec 5) (s : State) : Res :=
  plain s [rd, rs1] fun s =>
    let off := ((s.rx rs1).extractLsb' 0 20).toNat
    s.checked [(off % 16 != 0, 1, off)] fun s =>
      let v := leNat (s.spadRead s.myCore off 16)
      if !s.niReady || decide (field v 64 63 < field v 0 63) then s
      else
        let pa := s.spadPa s.cur off
        let s := (s.memRead s.cur .own pa 16).wx rd (word (v / 2 ^ 64))
        (if sem.getLsbD 0 then s.acquireAt (.thread s.cur) scope pa 16 else s).retire

/-- WPTR (R260): an acquire at CORE scope of what the pointer counts in the own scratchpad, and of nothing else; a later release carries that
(R396). -/
def execWptr (rd rs1 : BitVec 5) (s : State) : Res :=
  plain s [rd, rs1] fun s =>
    let c := s.rx rs1
    s.checked [(c.extractLsb' 4 60 != 0, 7, 8)] fun s =>
      ((s.acquireCount s.cur s.myCore c.toNat).wx rd ((s.core s.myCore).channel c.toNat).wp).retire

end Sys2Proof.Machine
end

