-- ==== Sys2Proof/Machine/Gallery.lean ====
section
/-! DEFINITION. The gallery's bank ALUs (R273 to R289): gallery atomics and gallery queues. -/

namespace Sys2Proof.Machine

/-- Signed or unsigned order of two values of width w (R279). -/
def atomicLess (w : Nat) (signed : Bool) (a b : Nat) : Bool :=
  let v (x : Nat) : Int := if signed && decide (2 ^ (w - 1) ≤ x) then (x : Int) - 2 ^ w else x
  decide (v a < v b)

/-- The width of a mode (R279). -/
def modeWidth (m : BitVec 2) : Nat := if m.getLsbD 1 then 32 else 64

/-- The operation of a gallery atomic on the old value p (R278 to R280). -/
def atomicValue (op : GalleryOp) (m : BitVec 2) (p v e : Nat) : Nat :=
  let w := modeWidth m
  match op with
  | .add => (p + v) % 2 ^ w
  | .fadd =>
    let f := if w = 64 then fp64 else fp32
    (f.add 0 false (f.decode p) (f.decode v)).1
  | .min => if atomicLess w (!m.getLsbD 0) v p then v else p
  | .max => if atomicLess w (!m.getLsbD 0) p v then v else p
  | .or => p ||| v
  | .and => p &&& v
  | .xor => p ^^^ v
  | .cas => if p = e then v else p

/-- The old value as rd receives it (R279). -/
def atomicReturn (op : GalleryOp) (m : BitVec 2) (p : Nat) : Word :=
  if m = 2 ∧ op ≠ .fadd then sext (BitVec.ofNat 32 p) else word p

/-- Performs a gallery atomic on the word at a local address (R280): the old value and the state. -/
def State.bankAtomicAt (s : State) (by_ : Writer) (a : Nat) (op : GalleryOp) (m : BitVec 2) (v e : Word) : Word × State :=
  let w := modeWidth m
  let p := s.readVal a (w / 8)
  (atomicReturn op m p, s.store by_ a (leBytes (atomicValue op m p (v.toNat % 2 ^ w) (e.toNat % 2 ^ w)) (w / 8)))

/-- The atomic that a command is, if it returns a value to its instruction (R281). -/
def BankKind.returns (rd : BitVec 5) : BankKind → Option (GalleryOp × BitVec 2)
  | .atomic op m _ _ => if rd ≠ 0 ∨ op = .cas then some (op, m) else none
  | _ => none

/-- A returning atomic on another package's gallery (R282, R355, R356): its release is made, no write of its thread set to the line is open,
and it travels as a request for whose reply the thread set waits; without a route, cause 12 (R354). -/
def State.remoteAtomic (s : State) (sem scope : BitVec 2) (rd : BitVec 5) (pa : Nat) (op : GalleryOp) (m : BitVec 2) : State :=
  let s := s.setMark
  if (sem.getLsbD 1 && !s.released s.cur scope) || s.lineOpen s.cur pa then s
  else
    let s := if sem.getLsbD 1 then (s.releaseTo (.thread s.cur) scope s.nextId).sysDone s.cur scope else s
    let w := s.route (pa / 2 ^ 40)
    if !w.1 then w.2.trapHere 12 0xFFFF
    else
      let r := w.2.newId
      let q : RemoteWait :=
        { id := r.1, rd := rd, pa := pa, size := modeWidth m / 8, signed := m == 2 && op != .fadd, atomic := true, acq := acqOf sem scope }
      r.2.modTh fun t => { t with remote := some q }

/-- Sends a command to the gallery and retires (R240, R280 to R282): its result is outstanding, and an acquire holds later accesses.  An atomic
that returns from another package does not retire before its reply (R355). -/
def State.toBank (s : State) (sem scope : BitVec 2) (rd : BitVec 5) (addr : Word) (kind : BankKind) : State :=
  if !s.niReady || s.th.remote.isSome then s
  else
    let r := s.newId
    let o : BankOp :=
      { id := r.1, tid := s.cur, asid := s.th.asid, user := !s.th.steward, kind := kind, addr := addr, rel := relOf sem scope,
        arr := none, sent := false }
    let here (s : State) : State :=
      let s := (s.entrust s.cur o.id o.rel).addOut s.cur { id := o.id, kind := .gallery, regs := [rd], vals := none, acq := acqOf sem scope }
      State.retire { s with bank := s.bank ++ [o] }
    match kind.returns rd, s.bankFar o with
    | some k, some pa =>
      if inGallery (pa % 2 ^ 40) then
        (s.reachAs s.myCore o.asid o.user addr kind.size { r := true, w := true }).1.remoteAtomic sem scope rd pa k.1 k.2
      else here r.2
    | _, _ => here r.2

/-- A gallery atomic at issue (R279, R280). -/
def galleryAtomic (op : GalleryOp) (sem scope : BitVec 2) (rd rs1 rs2 : BitVec 5) (s : State) : Res :=
  plain s [rd, rs1, rs2] fun s =>
    let x := s.rx rs1
    let m := x.extractLsb' 0 2
    let a := (x >>> 2) <<< 2
    if a.toNat % (modeWidth m / 8) ≠ 0 then s.trapHere 1 x
    else s.checked [(op == .fadd && m.getLsbD 0, 7, 1)] fun s =>
      s.toBank sem scope rd a (.atomic op m (s.rx rs2) (s.rx rd))

/-- GADD (R278). -/
def execGadd (sem scope : BitVec 2) (rd rs1 rs2 : BitVec 5) (s : State) : Res := galleryAtomic .add sem scope rd rs1 rs2 s
/-- GFADD (R278). -/
def execGfadd (sem scope : BitVec 2) (rd rs1 rs2 : BitVec 5) (s : State) : Res := galleryAtomic .fadd sem scope rd rs1 rs2 s
/-- GMIN (R278). -/
def execGmin (sem scope : BitVec 2) (rd rs1 rs2 : BitVec 5) (s : State) : Res := galleryAtomic .min sem scope rd rs1 rs2 s
/-- GMAX (R278). -/
def execGmax (sem scope : BitVec 2) (rd rs1 rs2 : BitVec 5) (s : State) : Res := galleryAtomic .max sem scope rd rs1 rs2 s
/-- GOR (R278). -/
def execGor (sem scope : BitVec 2) (rd rs1 rs2 : BitVec 5) (s : State) : Res := galleryAtomic .or sem scope rd rs1 rs2 s
/-- GAND (R278). -/
def execGand (sem scope : BitVec 2) (rd rs1 rs2 : BitVec 5) (s : State) : Res := galleryAtomic .and sem scope rd rs1 rs2 s
/-- GXOR (R278). -/
def execGxor (sem scope : BitVec 2) (rd rs1 rs2 : BitVec 5) (s : State) : Res := galleryAtomic .xor sem scope rd rs1 rs2 s
/-- GCAS (R278). -/
def execGcas (sem scope : BitVec 2) (rd rs1 rs2 : BitVec 5) (s : State) : Res := galleryAtomic .cas sem scope rd rs1 rs2 s

/-- GQPUSH and GQPOP at issue (R286). -/
def galleryQueue (sem scope : BitVec 2) (rd rs1 : BitVec 5) (s : State) (kind : BankKind) : State :=
  let a := s.rx rs1
  if a.toNat % 64 ≠ 0 then s.trapHere 1 a else s.toBank sem scope rd a kind
/-- GQPUSH (R287). -/
def execGqpush (sem scope : BitVec 2) (rd rs1 rs2 : BitVec 5) (s : State) : Res :=
  plain s [rd, rs1, rs2] fun s => galleryQueue sem scope rd rs1 s (.push (s.rx rs2))
/-- GQPOP (R287). -/
def execGqpop (sem scope : BitVec 2) (rd rs1 : BitVec 5) (s : State) : Res :=
  plain s [rd, rs1] fun s => galleryQueue sem scope rd rs1 s .pop

/-- What the command performs at another package. -/
def BankOp.posted (o : BankOp) : PostedWrite :=
  match o.kind with
  | .atomic op m v e => .atomic op m v e
  | .push v => .push v o.asid o.rel
  | .pop => .pop

/-- Whether a gallery command of a thread set, earlier than another posted write, is itself one to its line that has not left (R356). -/
def State.bankEarlier (s : State) (id tid pa : Nat) : Bool :=
  (s.bankPosts tid).any fun o => decide (o.id < id) && (s.bankFar o).any fun q => q / 64 == pa / 64

/-- A posted write leaves for another package (R355, R356): not while 512 of the core's are open, nor while one of its thread set to
the same line is, or an earlier one is still to leave. -/
def State.post (s : State) (id tid pa : Nat) (w : PostedWrite) (cmd : Option Nat) : Option State :=
  if 512 ≤ (s.posted.filter fun p => coreOf p.tid == coreOf tid).length ∨
      s.posted.any (fun p => p.tid == tid && p.pa / 64 == pa / 64) ∨ s.bankEarlier id tid pa then none
  else some { s with posted := s.posted ++ [{ id := id, tid := tid, pa := pa, w := w, cmd := cmd }] }

/-- Whether a posted write is still open. -/
def State.isOpen (s : State) (id : Nat) : Bool := s.posted.any fun p => p.id == id

/-- Where a gallery command acts, once it can be told. -/
def State.bankPlace (s : State) (o : BankOp) : Option Nat :=
  match (s.reachAs (coreOf o.tid) o.asid o.user o.addr o.kind.size { r := true, w := true }).2 with
  | .at_ _ _ pa => some pa
  | _ => none

/-- Whether an earlier command of the same thread set to the same bytes is still on its way (R71). -/
def State.bankBlocked (s : State) (o : BankOp) : Bool :=
  (s.bank.takeWhile fun q => q.id != o.id).any fun q => q.tid == o.tid && match s.bankPlace q, s.bankPlace o with
    | some a, some b => meets a q.kind.size b o.kind.size
    | _, _ => meets q.addr.toNat q.kind.size o.addr.toNat o.kind.size

/-- What a gallery command is as a party. -/
def BankOp.party (o : BankOp) : Party := .command o.tid o.id

/-- A command reads bytes at its bank (R69, R71): its answer carries what a release there does. -/
def State.bankReads (s : State) (o : BankOp) (a n : Nat) : State :=
  (s.seenBy o.party (s.chipno * 2 ^ 40 + a) n).answerTakes o.id (s.chipno * 2 ^ 40 + a) n

/-- Ends the flushes that wait for nothing any more (R358). -/
def State.settleFlushes (s : State) : State :=
  (s.flushes.filter fun f => f.left.isEmpty).foldl (fun s f =>
    let s := { s with flushes := s.flushes.filter fun g => g.id != f.id }
    match f.lost with
    | some l => s.failOut f.tid f.id 12 (word l)
    | none => s.giveOut f.tid f.id [word (min f.count (2 ^ 32 - 1))]) s

/-- A posted write is open no longer (R355, R358): acknowledged, or lost on a link, or never sent. -/
def State.closePosted (s : State) (id : Nat) (lost : Option Nat) : State :=
  let upd (f : Flush) : Flush := if f.left.contains id then { f with left := f.left.filter (· != id), lost := f.lost <|> lost } else f
  { s with posted := s.posted.filter (fun p => p.id != id), flushes := s.flushes.map upd }.settleFlushes

/-- A posted write of a thread set is lost (R375): what waits for it learns of it, else its next PFLUSH or release at SYS scope. -/
def State.loseWrite (s : State) (tid id l : Nat) : State :=
  if s.flushes.any fun f => f.left.contains id then s.closePosted id (some l)
  else (s.closePosted id (some l)).modThread tid fun t => { t with lost := t.lost <|> some l }

/-- Takes a command out of the way to its bank. -/
def State.leaveBank (s : State) (id : Nat) : State := { s with bank := s.bank.filter fun o => o.id != id }.closePosted id none

/-- A command to another package is lost, or has no route (R354, R375): a posted atomic counts as a lost write, a queue step ends with cause
12. -/
def State.loseCommand (s : State) (o : BankOp) (l : Nat) : State :=
  match o.kind with
  | .atomic _ _ _ _ => ((s.loseWrite o.tid o.id l).dropOut o.tid o.id).leaveBank o.id
  | _ => (((s.closePosted o.id (some l)).failOut o.tid o.id 12 (word l))).leaveBank o.id

/-- Changes a command. -/
def State.setBank (s : State) (o : BankOp) : State := { s with bank := s.bank.map fun q => if q.id = o.id then o else q }

/-- A command reaches its bank with its release made (R280 to R284): a fault ends it, an absent page parks it, an atomic is
performed, a queue step waits for its descriptor's turn, and a command to another package is posted.  A store of the same thread set to its
bytes goes first (R71). -/
def State.bankArrive (s : State) (o : BankOp) : Option State :=
  match s.reachAs (coreOf o.tid) o.asid o.user o.addr o.kind.size { r := true, w := true } with
  | (s, .fault c) => some ((s.failOut o.tid o.id c o.addr).leaveBank o.id)
  | (s, .absent) => some (s.parkAccess o.tid (some o.id) o.asid o.addr 1)
  | (s, .at_ (.mem a) _ _) =>
    let pa := s.chipno * 2 ^ 40 + a
    if !inGallery a then some ((s.failOut o.tid o.id 2 o.addr).leaveBank o.id)
    else if s.behind o.tid .plain pa o.kind.size then none
    else match o.kind with
      | .atomic op m v e =>
        let r := (s.bankReads o a o.kind.size).bankAtomicAt (.engine o.party) a op m v e
        some (((r.2.completeAt o.tid o.id o.rel pa o.kind.size).giveOut o.tid o.id [r.1]).leaveBank o.id)
      | _ => some { (s.setBank { o with arr := some (s.nextId, a) }) with nextId := s.nextId + 1 }
  | (s, .at_ (.far pa) _ _) =>
    if !inGallery (pa % 2 ^ 40) then some ((s.failOut o.tid o.id 2 o.addr).leaveBank o.id)
    else
      let w := s.route (pa / 2 ^ 40)
      if !w.1 then some (w.2.loseCommand o 0xFFFF)
      else (w.2.post o.id o.tid pa o.posted (some o.id)).map (·.setBank { o with sent := true })
  | (s, .at_ _ _ _) => some ((s.failOut o.tid o.id 2 o.addr).leaveBank o.id)

/-- GALLERY_BANK_OPERATION (R274, R280). -/
def State.bankOperation (s : State) (id : Nat) : Option State :=
  match s.bank.find? fun o => o.id == id with
  | none => none
  | some o =>
    if o.arr.isSome || o.sent || s.engParked id || s.bankBlocked o ||
        !(match o.rel with
          | some sc => s.releasedBefore o.tid sc id
          | none => true) then none
    else
      (s.bankArrive o).map fun s => if s.engParked id then s else s.sysDone o.tid (o.rel.getD 0)
def execGalleryBankOperation (id : Nat) (s : State) : Res := event s (s.bankOperation id)

/-- The descriptor of a gallery queue as a number (R285). -/
def State.descriptor (s : State) (a : Nat) : Nat := s.readVal a 64

/-- Fields of a descriptor (R285). -/
def qSent (v : Nat) : Nat := field v 0 64
def qCap (v : Nat) : Nat := 2 ^ field v 64 5
def qBase (v : Nat) : Nat := field v 128 26
def qHead (v : Nat) : Nat := field v 192 32
def qTail (v : Nat) : Nat := field v 224 32
def qOcc (head tail : Nat) : Nat := (tail + 2 ^ 32 - head) % 2 ^ 32

/-- A malformed descriptor (R285). -/
def queueBad (v : Nat) : Bool :=
  field v 320 192 != 0 || field v 154 38 != 0 || field v 69 27 != 0 || field v 112 15 != 0 ||
  field v 64 5 == 0 || decide (20 < field v 64 5) || qBase v % 8 != 0 || decide (0x3800000 < qBase v + 8 * qCap v) ||
  decide (qCap v < qOcc (qHead v) (qTail v))

/-- The local address of entry n of the queue whose descriptor lies at `a` (R285). -/
def queueEntry (a v n : Nat) : Nat := galleryBase + dieOfAddr a * 0x4000000 + qBase v + 8 * (n % qCap v)

/-- Writes the counters of a descriptor. -/
def State.putCounts (s : State) (w : Party) (a head tail empties fulls : Nat) : State :=
  s.store (.engine w) (a + 24) (leBytes head 4 ++ leBytes tail 4 ++ leBytes empties 4 ++ leBytes fulls 4)

/-- A queue step of a party at a descriptor (R287 to R289): the pop if any, then the push if any, whose issuer's ASID and release a
notification carries.  It answers the popped value, and the push's status or the cause that refused its entry. -/
def State.queueStep (s : State) (w : Party) (a : Nat) (pop : Bool) (push : Option (Word × BitVec 16 × Option (BitVec 2))) :
    State × Word × Except (BitVec 6) Word :=
  let v := s.descriptor a
  let start := qOcc (qHead v) (qTail v)
  let empties := field v 256 32
  let fulls := field v 288 32
  let popped := if start = 0 then word (qSent v) else word (s.readVal (queueEntry a v (qHead v)) 8)
  let head := if pop ∧ start ≠ 0 then (qHead v + 1) % 2 ^ 32 else qHead v
  let empties := if pop ∧ start = 0 then (empties + 1) % 2 ^ 32 else empties
  match push with
  | none => (s.putCounts w a head (qTail v) empties fulls, popped, .ok 0)
  | some (x, asid, rel) =>
    let e := queueEntry a v (qTail v)
    if x.toNat = qSent v then (s.putCounts w a head (qTail v) empties fulls, popped, .ok 2)
    else if qOcc head (qTail v) = qCap v then (s.putCounts w a head (qTail v) empties ((fulls + 1) % 2 ^ 32), popped, .ok 1)
    else if s.inLocket e 8 then (s.putCounts w a head (qTail v) empties fulls, popped, .error 3)
    else if s.isHeld e 8 then (s.putCounts w a head (qTail v) empties fulls, popped, .error 2)
    else
      let tail := (qTail v + 1) % 2 ^ 32
      let s := (s.store (.engine w) e (leBytes x.toNat 8)).putCounts w a head tail empties fulls
      let s := if field v 127 1 = 1 ∧ start = 0 then
          s.sendTagged 4 none (field v 96 10) (field v 106 6) asid
            (leBytes (s.chipno * 2 ^ 40 + a) 8 ++ leBytes tail 8 ++ leBytes x.toNat 8) rel w
        else s
      (s, popped, .ok 0)

/-- Whether two commands are a pop and a push. -/
def otherKind : BankKind → BankKind → Bool
  | .push _, .pop => true
  | .pop, .push _ => true
  | _, _ => false

/-- The commands that wait at a descriptor, oldest first (R274). -/
def State.waiting (s : State) (a : Nat) : List BankOp :=
  (s.bank.filter fun o => match o.arr with
    | some (_, b) => b == a
    | none => false).mergeSort fun p q => decide ((p.arr.getD (0, 0)).1 ≤ (q.arr.getD (0, 0)).1)

/-- GALLERY_QUEUE_STEP (R287, R289): the oldest waiting command of a descriptor, with the oldest of the other kind; a descriptor that has come
to lie in a locket or a held line since is not written (R160, R298). -/
def State.galleryStep (s : State) (id : Nat) : Option State :=
  match s.bank.find? fun o => o.id == id with
  | none => none
  | some o =>
    match o.arr with
    | none => none
    | some (_, a) =>
      match s.waiting a with
      | [] => none
      | f :: rest =>
        if f.id ≠ id then none
        else
          let g := rest.find? fun q => otherKind o.kind q.kind
          let both := o :: g.toList
          let leave (s : State) : State := both.foldl (fun s q => s.leaveBank q.id) s
          if s.inLocket a 64 then some (leave (both.foldl (fun s q => s.failOut q.tid q.id 3 q.addr) s))
          else if s.isHeld a 64 then some (leave (both.foldl (fun s q => s.failOut q.tid q.id 2 q.addr) s))
          else if queueBad (s.descriptor a) then some (leave (both.foldl (fun s q => s.failOut q.tid q.id 7 2) s))
          else
            let pop := both.find? fun q => q.kind == .pop
            let push := both.findSome? fun q => match q.kind with
              | .push v => some (q, v)
              | _ => none
            let v := s.descriptor a
            let s := both.foldl (fun s q => s.bankReads q a 64) s
            let s := match pop with
              | some q => s.bankReads q (queueEntry a v (qHead v)) 8
              | none => s
            let r := s.queueStep ((push.map (·.1)).getD o).party a pop.isSome (push.map fun p => (p.2, p.1.asid, p.1.rel))
            let pa := s.chipno * 2 ^ 40 + a
            let s := both.foldl (fun s q => (s.seenBy q.party pa 64).completeAt q.tid q.id q.rel pa 64) r.1
            let s := match push with
              | some p => s.completeAt p.1.tid p.1.id p.1.rel (s.chipno * 2 ^ 40 + queueEntry a v (qTail v)) 8
              | none => s
            let s := match pop with
              | some q => s.giveOut q.tid q.id [r.2.1]
              | none => s
            let s := match push, r.2.2 with
              | some p, .ok st => s.giveOut p.1.tid p.1.id [st]
              | some p, .error c => s.failOut p.1.tid p.1.id c p.1.addr
              | none, _ => s
            some (leave s)
def execGalleryQueueStep (id : Nat) (s : State) : Res := event s (s.galleryStep id)

end Sys2Proof.Machine
end

