-- ==== Sys2Proof/Machine/Bead.lean ====
section
/-! DEFINITION. Bead queues, pipelines and bead indices (R294 to R312). -/

namespace Sys2Proof.Machine

/-- The order in which beads leave: ascending round, key, value (R304). -/
def Bead.before (a b : Bead) : Bool :=
  decide (a.round < b.round ∨ (a.round = b.round ∧ (a.key < b.key ∨ (a.key = b.key ∧ a.val < b.val))))
/-- Beads that consolidate (R302). -/
def Bead.same (a b : Bead) : Bool := a.key == b.key && a.val == b.val && a.round == b.round

/-- The bead of a register pair (R294). -/
def beadOf (lo hi : Word) : Bead :=
  { key := (lo.extractLsb' 0 32).toNat, val := (lo.extractLsb' 32 32).toNat, round := (hi.extractLsb' 32 32).toNat,
    mult := (hi.extractLsb' 0 32).toInt }
/-- The register pair of a bead (R294). -/
def Bead.pair (b : Bead) : List Word :=
  [word (b.key + 2 ^ 32 * b.val), word ((BitVec.ofInt 32 b.mult).toNat + 2 ^ 32 * b.round)]

/-- Inserts a bead in leaving order. -/
def insertBead (b : Bead) : List Bead → List Bead
  | [] => [b]
  | c :: r => if b.before c then b :: c :: r else c :: insertBead b r

/-- The fields of a queue descriptor (R300). -/
structure BeadQ where
  qid : Nat
  qidx : Nat
  v : Bool
  logcap : Nat
  base : Nat
  poff : Nat
  pending : Nat
  inhand : Nat
  hround : Nat
  pmask : BitVec 16
  fulls : Nat
  frontier : Nat
  cancels : Nat
  pushes : Nat
  rounds : List Nat
deriving DecidableEq, Repr

/-- Reads a queue descriptor (R300). -/
def State.beadQ (s : State) (a : Nat) : BeadQ :=
  let d := s.readVal a 128
  { qid := field d 48 16, qidx := field d 45 3, v := field d 44 1 == 1, logcap := field d 39 5, base := field d 25 14,
    poff := field d 0 20, pending := field d 96 32, inhand := field d 64 32, hround := field d 160 32,
    pmask := BitVec.ofNat 16 (field d 144 16), fulls := field d 224 32, frontier := field d 192 32, cancels := field d 288 32,
    pushes := field d 256 32, rounds := (List.range 16).map fun p => field d (512 + 32 * p) 32 }

/-- The 128 bytes of a queue descriptor (R300). -/
def BeadQ.bytes (q : BeadQ) : List Byte :=
  let lo := fun a b : Nat => leBytes a 4 ++ leBytes b 4
  leBytes (q.qid * 2 ^ 48 + q.qidx * 2 ^ 45 + (if q.v then 2 ^ 44 else 0) + q.logcap * 2 ^ 39 + q.base * 2 ^ 25 + q.poff) 8 ++
    lo q.inhand q.pending ++ lo (q.pmask.toNat * 2 ^ 16) q.hround ++ lo q.frontier q.fulls ++ lo q.pushes q.cancels ++
    leBytes 0 24 ++ q.rounds.flatMap fun r => leBytes r 4

/-- Writes a queue descriptor. -/
def State.putQ (s : State) (a : Nat) (q : BeadQ) : State := s.store (.unit_ (dieOfAddr a)) a q.bytes

/-- The frontier: the least round declared by a registered producer, kept with none; it never decreases (R303). -/
def BeadQ.refront (q : BeadQ) : BeadQ :=
  let rs := (List.range 16).filterMap fun p => if q.pmask.getLsbD p then some (q.rounds.getD p 0) else none
  match rs with
  | [] => q
  | r :: l => { q with frontier := max q.frontier (l.foldl min r) }

/-- The first local address of the gallery that an address lies in. -/
def galleryOf (a : Nat) : Nat := galleryBase + dieOfAddr a * 0x4000000
/-- The pending or entry area of a structure at `a`: its place and its length (R300, R309). -/
def areaOf (a base logcap : Nat) : Nat × Nat := (galleryOf a + base * 0x1000, 16 * 2 ^ logcap)
/-- The pipeline block of a descriptor at `a` (R300). -/
def blockOf (a poff : Nat) : Nat := galleryOf a + poff * 64

/-- How a bead step ends: done with its results, having written or not, or with a cause. -/
inductive BeadEnd where
  | done (s : State) (vals : List Word) (wrote : Bool)
  | fail (cause : BitVec 6) (val : Word)

/-- The pending beads of a queue change, with its descriptor. -/
def State.putBeads (s : State) (a : Nat) (q : BeadQ) (l : List Bead) : State :=
  let r := areaOf a q.base q.logcap
  ({ s with beads := aput s.beads a l }.blur r.1 r.2).putQ a q

/-- The pending beads of a queue, in leaving order. -/
def State.pendingBeads (s : State) (a : Nat) : List Bead := aget [] s.beads a

/-- The push step (R302). -/
def State.beadPush (s : State) (a slot : Nat) (b : Bead) : BeadEnd :=
  let q := s.beadQ a
  let l := s.pendingBeads a
  let q' := { q with pushes := (q.pushes + 1) % 2 ^ 32 }
  if b.mult = 0 then .done s [2] false
  else if !q.pmask.getLsbD slot then .done s [3] false
  else if b.round < q.rounds.getD slot 0 ∨ b.round = 0xFFFFFFFF then .done s [4] false
  else match l.find? (·.same b) with
    | some e =>
      let m := e.mult + b.mult
      if m < -2147483648 ∨ 2147483647 < m then .fail 11 (word q.qid)
      else if m = 0 then
        .done (s.putBeads a { q' with pending := q.pending - 1, cancels := (q.cancels + 1) % 2 ^ 32 }
          (l.filter fun c => !c.same b)) [0] true
      else .done (s.putBeads a q' (l.map fun c => if c.same b then { c with mult := m } else c)) [0] true
    | none =>
      if q.pending = 2 ^ q.logcap then .done (s.putQ a { q with fulls := (q.fulls + 1) % 2 ^ 32 }) [1] true
      else .done (s.putBeads a { q' with pending := q.pending + 1 } (insertBead b l)) [0] true

/-- The pop step (R304). -/
def State.beadPop (s : State) (a : Nat) : BeadEnd :=
  let q := s.beadQ a
  let none_ := fun n : Nat => BeadEnd.done s [word (q.pending * 2 ^ 32 + q.frontier), word (n * 2 ^ 32)] false
  match s.pendingBeads a with
  | [] => none_ 0
  | c :: l =>
    if q.frontier ≤ c.round then none_ 0
    else if 0 < q.inhand ∧ q.hround ≠ c.round then none_ 1
    else .done (s.putBeads a { q with pending := q.pending - 1, inhand := q.inhand + 1, hround := c.round } l) c.pair true

/-- The round step (R303). -/
def State.beadRound (s : State) (a slot r : Nat) : BeadEnd :=
  let q := s.beadQ a
  let old := q.rounds.getD slot 0
  if !q.pmask.getLsbD slot then .done s [word (2 * 2 ^ 32)] false
  else if r < old then .done s [word (2 ^ 32 + old)] false
  else .done (s.putQ a { q with rounds := q.rounds.set slot r }.refront) [word r] true

/-- The acknowledgement step (R305). -/
def State.beadAck (s : State) (a n : Nat) : BeadEnd :=
  let q := s.beadQ a
  if q.inhand < n then .fail 7 3
  else .done (s.putQ a { q with inhand := q.inhand - n }) [word (q.inhand - n)] (n != 0)

/-- Entry q of a pipeline block: its configured bit and its descriptor's gallery offset (R299). -/
def State.blockEntry (s : State) (b q : Nat) : Bool × Nat :=
  let v := s.readVal (b + 4 * q) 4
  (field v 31 1 == 1, field v 0 26)

/-- A pipeline block whose reserved bits are not zero (R299). -/
def State.blockBad (s : State) (b : Nat) : Bool :=
  s.readVal (b + 32) 32 != 0 || (List.range 8).any fun q => field (s.readVal (b + 4 * q) 4) 26 5 != 0

/-- Whether a round is quiescent in a queue (R307). -/
def State.quietIn (s : State) (a r : Nat) : Bool :=
  let q := s.beadQ a
  decide (r < q.frontier) && (s.pendingBeads a).all (fun b => decide (r < b.round)) && (q.inhand == 0 || decide (r < q.hround))

/-- The quiescence test (R307). -/
def State.beadQuiet (s : State) (b r : Nat) : BeadEnd :=
  if s.blockBad b then .done s [0xFF00] false
  else
    let busy := (List.range 8).filter fun q => (s.blockEntry b q).1 && !s.quietIn (galleryOf b + (s.blockEntry b q).2) r
    let m := (busy.map fun q => 2 ^ q).sum
    .done s [word (m * 256 + if m = 0 then 1 else 0)] false

/-- The fields of an index descriptor (R308). -/
structure BeadIdx where
  dflt : Word
  v : Bool
  logcap : Nat
  base : Nat
  count : Nat
  fulls : Nat
deriving DecidableEq, Repr

/-- Reads an index descriptor. -/
def State.beadIdx (s : State) (a : Nat) : BeadIdx :=
  let d := s.readVal a 64
  { dflt := word d, v := field d 108 1 == 1, logcap := field d 103 5, base := field d 89 14, count := field d 128 32,
    fulls := field d 160 32 }

/-- Writes an index descriptor: DEFAULT stands, the reserved bytes are zero (R308). -/
def State.putIdx (s : State) (a : Nat) (x : BeadIdx) : State :=
  s.store (.unit_ (dieOfAddr a)) (a + 8) (leBytes ((if x.v then 2 ^ 44 else 0) + x.logcap * 2 ^ 39 + x.base * 2 ^ 25) 8 ++ leBytes x.count 4 ++
    leBytes x.fulls 4 ++ leBytes 0 40)

/-- The entries of an index. -/
def State.entriesOf (s : State) (a : Nat) : AMap Word := aget [] s.indices a

/-- The entries of an index change. -/
def State.putEntries (s : State) (a : Nat) (x : BeadIdx) (m : AMap Word) : State :=
  let r := areaOf a x.base x.logcap
  ({ s with indices := aput s.indices a m }.blur r.1 r.2).putIdx a x

/-- The lookup step of an index (R309). -/
def State.beadGet (s : State) (a key : Nat) : BeadEnd :=
  .done s [(afind (s.entriesOf a) key).getD (s.beadIdx a).dflt] false

/-- The store step of an index (R309). -/
def State.beadPut (s : State) (a key : Nat) (v : Word) : BeadEnd :=
  let x := s.beadIdx a
  let m := s.entriesOf a
  let there := (afind m key).isSome
  if v = x.dflt then
    if there then .done (s.putEntries a { x with count := x.count - 1 } (adel m key)) [2] true else .done s [2] false
  else if there then .done (s.putEntries a x (aput m key v)) [1] true
  else if x.count < 2 ^ x.logcap then .done (s.putEntries a { x with count := x.count + 1 } (aput m key v)) [0] true
  else .done (s.putIdx a { x with fulls := (x.fulls + 1) % 2 ^ 32 }) [3] true

/-- A refusal of BQCFG (R301). -/
def cfgStatus (n : Nat) : Word := word (2 ^ 63 + n)

/-- Makes a range held, once (R298). -/
def State.hold_ (s : State) (a n : Nat) : State :=
  { s with held := (a, n) :: s.held.filter fun h => h != (a, n) }
/-- Releases a held range (R298). -/
def State.unhold (s : State) (a n : Nat) : State := { s with held := s.held.filter fun h => h != (a, n) }

/-- A range of one gallery that ends below the scheduler area (R301). -/
def belowSched (a n : Nat) : Bool := decide (galleryOff a + n ≤ 0x3800000)

/-- Whether a held range belongs to a crossing system. -/
def State.sysHolds (s : State) (h : Nat × Nat) : Bool := s.systems.any fun p => p.2.holds.contains h
/-- Whether INITQ has configured the queue whose descriptor lies at an address. -/
def State.queueAt (s : State) (a : Nat) : Bool := s.held.contains (a, 128) && !s.sysHolds (a, 128)
/-- Whether a pipeline block at an address is held: one of its queues is configured (R298). -/
def State.blockAt (s : State) (b : Nat) : Bool := s.held.any fun h => s.queueAt h.1 && blockOf h.1 (s.beadQ h.1).poff == b
/-- Whether INITIDX has configured the index whose descriptor lies at an address. -/
def State.indexAt (s : State) (a : Nat) : Bool := s.held.contains (a, 64) && !s.sysHolds (a, 64) && !s.blockAt a

/-- The valid entries of the table at a physical address, found from the bytes that memory lists. -/
def State.validEntries (s : State) (t : Nat) : List Word :=
  if t / 2 ^ 40 ≠ s.chipno ∨ 0xC000000000 ≤ t % 2 ^ 40 then []
  else
    let b := t % 2 ^ 40
    ((s.mem.filter fun c => decide (b ≤ c.1 ∧ c.1 < b + 0x10000)).map fun c => word (s.readVal (c.1 / 8 * 8) 8)).filter pteV

/-- A leaf with L = 1 that maps one of `n` bytes at a physical address. -/
def leafLocks (e : Word) (level pa n : Nat) : Bool :=
  pteL e && !pteReserved e && !pteT e && !leafBad e level && meets (ptePage e) (2 ^ sizeBits (pteSize e)) pa n

/-- Whether a leaf with L = 1 below a table maps one of `n` bytes at a physical address. -/
def State.lockedBelow (s : State) (pa n : Nat) : Nat → Nat → Bool
  | 0, t => (s.validEntries t).any fun e => leafLocks e 0 pa n
  | l + 1, t => (s.validEntries t).any fun e =>
    if pteT e && !pteReserved e then s.lockedBelow pa n l (ptePage e) else leafLocks e (l + 1) pa n

/-- Whether bytes at a local address may not be written by a structure's steps: they meet a locket, or a leaf with L = 1 of the card's
address space maps them (R160, R301). -/
def State.sealed (s : State) (asid : BitVec 16) (a n : Nat) : Bool :=
  s.inLocket a n || match afind s.roots asid.toNat with
    | some r => s.lockedBelow (s.chipno * 2 ^ 40 + a) n 2 ((r.extractLsb' 16 36).toNat * 2 ^ 16)
    | none => false

/-- INITQ (R301). -/
def State.initQ (s : State) (a : Nat) (locked : Bool) (asid : BitVec 16) (w : Word) : BeadEnd :=
  let v := w.toNat
  let area := areaOf a (field v 25 14) (field v 39 5)
  let b := blockOf a (field v 0 20)
  let n := field v 20 3
  if (s.beadQ a).v then .done s [cfgStatus 2] false
  else if locked || decide (0x3800000 < field v 25 14 * 0x1000 + area.2) || !belowSched b 64 || s.isHeld a 128 ||
      s.isHeld area.1 area.2 || (!s.blockAt b && s.isHeld b 64) || s.sealed asid a 128 ||
      s.sealed asid area.1 area.2 || s.sealed asid b 64 then .done s [cfgStatus 3] false
  else if s.blockBad b then .done s [cfgStatus 4] false
  else if (s.blockEntry b n).1 then .done s [cfgStatus 1] false
  else
    let q : BeadQ :=
      { qid := field v 44 16, qidx := n, v := true, logcap := field v 39 5, base := field v 25 14, poff := field v 0 20,
        pending := 0, inhand := 0, hround := 0, pmask := 0, fulls := 0, frontier := 0, cancels := 0, pushes := 0,
        rounds := List.replicate 16 0 }
    let s := s.putBeads a q []
    let s := s.store (.unit_ (dieOfAddr b)) (b + 4 * n) (leBytes (2 ^ 31 + galleryOff a) 4)
    .done (((s.hold_ a 128).hold_ area.1 area.2).hold_ b 64) [0] true

/-- FREEQ (R301). -/
def State.freeQ (s : State) (a : Nat) : BeadEnd :=
  let q := s.beadQ a
  if q.pending ≠ 0 ∨ q.inhand ≠ 0 then .done s [cfgStatus 7] false
  else
    let area := areaOf a q.base q.logcap
    let b := blockOf a q.poff
    let s := { s with beads := adel s.beads a }.putQ a { q with v := false, pmask := 0 }
    let s := s.store (.unit_ (dieOfAddr b)) (b + 4 * q.qidx) (leBytes (s.readVal (b + 4 * q.qidx) 4 % 2 ^ 31) 4)
    let s := (s.unhold a 128).unhold area.1 area.2
    .done (if s.blockAt b then s else s.unhold b 64) [0] true

/-- REGP (R301). -/
def State.regProducer (s : State) (a r : Nat) : BeadEnd :=
  let q := s.beadQ a
  match (List.range 16).find? fun p => !q.pmask.getLsbD p with
  | none => .done s [cfgStatus 5] false
  | some p =>
    .done (s.putQ a { q with pmask := q.pmask ||| ((1 : BitVec 16) <<< p), rounds := q.rounds.set p (max r q.frontier) }.refront)
      [word p] true

/-- DEREGP (R301). -/
def State.deregProducer (s : State) (a p : Nat) : BeadEnd :=
  let q := s.beadQ a
  if !q.pmask.getLsbD p then .done s [cfgStatus 6] false
  else .done (s.putQ a { q with pmask := q.pmask &&& ~~~((1 : BitVec 16) <<< p) }.refront) [0] true

/-- INITIDX (R301). -/
def State.initIdx (s : State) (a : Nat) (locked : Bool) (asid : BitVec 16) (w : Word) : BeadEnd :=
  let v := w.toNat
  let x := s.beadIdx a
  let area := areaOf a (field v 25 14) (field v 39 5)
  if x.v then .done s [cfgStatus 2] false
  else if locked || decide (0x3800000 < field v 25 14 * 0x1000 + area.2) || s.isHeld a 64 || s.isHeld area.1 area.2 ||
      s.sealed asid a 64 || s.sealed asid area.1 area.2 then .done s [cfgStatus 3] false
  else
    let y : BeadIdx := { x with v := true, logcap := field v 39 5, base := field v 25 14, count := 0, fulls := 0 }
    .done (((s.putEntries a y []).hold_ a 64).hold_ area.1 area.2) [0] true

/-- FREEIDX (R301). -/
def State.freeIdx (s : State) (a : Nat) : BeadEnd :=
  let x := s.beadIdx a
  let area := areaOf a x.base x.logcap
  let s := { s with indices := adel s.indices a }.putIdx a { x with v := false }
  .done ((s.unhold a 64).unhold area.1 area.2) [0] true

/-- A configuration step (R301); the check for V = 0 comes before an operation's own refusals. -/
def State.beadCfg (s : State) (a : Nat) (locked : Bool) (asid : BitVec 16) (w : Word) : BeadEnd :=
  let op := (w.extractLsb' 60 4).toNat
  if op = 0 then s.initQ a locked asid w
  else if op = 4 then s.initIdx a locked asid w
  else if op = 5 then if (s.beadIdx a).v then s.freeIdx a else .done s [cfgStatus 8] false
  else if !(s.beadQ a).v then .done s [cfgStatus 8] false
  else if op = 1 then s.regProducer a (w.extractLsb' 0 32).toNat
  else if op = 2 then s.deregProducer a (w.extractLsb' 0 4).toNat
  else if op = 3 then s.freeQ a
  else .done (s.putQ a { s.beadQ a with inhand := 0 }) [word (s.beadQ a).inhand] true

/-- A bead step on the structure at a local address (R297, R309): a descriptor with V = 0 raises cause 7, TVAL 2 (R296). -/
def State.beadEffect (s : State) (a : Nat) (locked : Bool) (asid : BitVec 16) (k : BeadKind) : BeadEnd :=
  let onQ := fun e : BeadEnd => if (s.beadQ a).v then e else .fail 7 2
  let onI := fun e : BeadEnd => if (s.beadIdx a).v then e else .fail 7 2
  match k with
  | .push p b => onQ (s.beadPush a p b)
  | .pop => onQ (s.beadPop a)
  | .round p r => onQ (s.beadRound a p r)
  | .ack n => onQ (s.beadAck a n)
  | .get key => onI (s.beadGet a key)
  | .put key v => onI (s.beadPut a key v)
  | .cfg w => s.beadCfg a locked asid w
  | .quiet r => s.beadQuiet a r

/-- The address of the structure a command names: the producer slot is no part of it (R296). -/
def BeadOp.va (o : BeadOp) : Word := (o.addr >>> 4) <<< 4

/-- Where a bead command's address leads. -/
inductive BeadAt where
  | fault (cause : BitVec 6)
  | absent
  | at_ (a : Nat) (locked : Bool)

/-- Whether a command is an index step (R311). -/
def BeadKind.index : BeadKind → Bool
  | .get _ => true
  | .put _ _ => true
  | .cfg w => w.extractLsb' 60 4 == 4 || w.extractLsb' 60 4 == 5
  | _ => false

/-- Translates a bead command's address as a gallery atomic's (R296): a leaf with L = 1, or a locket, refuses only a step that writes. -/
def State.beadReach (s : State) (o : BeadOp) : State × BeadAt :=
  let place := fun (s : State) (pa : Nat) (locked : Bool) => match s.locate pa (if o.kind.index then 64 else 128) with
    | .mem a => if inGallery a then (s, BeadAt.at_ a (locked || s.inLocket a 64)) else (s, .fault 2)
    | _ => (s, .fault 2)
  if !isVa o.va || isOwnWindow o.va then (s, .fault 2)
  else match s.translate (coreOf o.tid) o.asid o.va { r := true, w := true } o.user with
    | (s, .ok pa) => place s pa false
    | (s, .absent) => (s, .absent)
    | (s, .fault c) =>
      if c ≠ 3 then (s, .fault c)
      else match s.translate (coreOf o.tid) o.asid o.va { r := true } o.user with
        | (s, .ok pa) => place s pa true
        | (s, .fault c) => (s, .fault c)
        | (s, .absent) => (s, .absent)

/-- The pipeline block or the index descriptor whose order a command's step takes (R297, R311), once it can be told. -/
def State.beadOrder (s : State) (o : BeadOp) : Option Nat :=
  match (s.beadReach o).2 with
  | .at_ a _ =>
    if o.kind.index then some a
    else match o.kind with
      | .quiet _ => some a
      | .cfg w => some (blockOf a (if w.extractLsb' 60 4 == 0 then (w.extractLsb' 0 20).toNat else (s.beadQ a).poff))
      | _ => some (blockOf a (s.beadQ a).poff)
  | _ => none

/-- Whether an earlier step of the same thread set to the same pipeline or index is still to be performed (R311).  A parked earlier
command counts as one to the same pipeline or index. -/
def State.beadBlocked (s : State) (o : BeadOp) : Bool :=
  (s.beadOps.takeWhile fun q => q.id != o.id).any fun q =>
    q.tid == o.tid && q.kind.index == o.kind.index &&
    match s.beadOrder q, s.beadOrder o with
    | some a, some b => a == b
    | _, _ => true

/-- The lines that a step on a structure writes where no BQCFG has configured it, though its descriptor reads V = 1: nothing keeps them
from another structure's lines or a locket's. -/
def State.beadLines (s : State) (a : Nat) (k : BeadKind) : List (Nat × Nat) :=
  let q := s.beadQ a
  let x := s.beadIdx a
  let queue (l : List (Nat × Nat)) : List (Nat × Nat) := if s.queueAt a then [] else (a, 128) :: l
  let index : List (Nat × Nat) := if s.indexAt a then [] else [(a, 64), areaOf a x.base x.logcap]
  match k with
  | .quiet _ => []
  | .get _ => []
  | .put _ _ => index
  | .push _ _ => queue [areaOf a q.base q.logcap]
  | .pop => queue [areaOf a q.base q.logcap]
  | .round _ _ => queue []
  | .ack _ => queue []
  | .cfg w =>
    let op := (w.extractLsb' 60 4).toNat
    if op = 0 ∨ op = 4 then []
    else if op = 5 then index
    else if op = 3 then queue [areaOf a q.base q.logcap, (blockOf a q.poff, 64)]
    else queue []

/-- The cause with which the writes of a step are refused: 3 where they meet a locket or the page is locked (R296), 2 where they meet a line
that another structure holds (R298). -/
def State.beadRefused (s : State) (a : Nat) (locked : Bool) (k : BeadKind) : Option (BitVec 6) :=
  let l := s.beadLines a k
  if locked || l.any (fun r => s.inLocket r.1 r.2) then some 3
  else if l.any (fun r => s.isHeld r.1 r.2) then some 2 else none

/-- BEAD_STEP (R297): a command whose release has been made performs its step as a whole or not at all. -/
def State.beadStep (s : State) (id : Nat) : Option State :=
  match s.beadOps.find? fun o => o.id == id with
  | none => none
  | some o =>
    if s.engParked id || s.beadBlocked o || !(match o.rel with
      | some sc => s.releasedBefore o.tid sc id
      | none => true) then none
    else
      let key := (s.beadOrder o).getD 0
      let leave := fun s : State =>
        State.sysDone { s with beadOps := s.beadOps.filter fun q => q.id != id } o.tid (o.rel.getD 0)
      match s.beadReach o with
      | (s, .fault c) => some ((leave s).failOut o.tid id c o.va)
      | (s, .absent) => some (s.parkAccess o.tid (some id) o.asid o.va 1)
      | (s, .at_ a locked) =>
        match (s.answerIn id key).beadEffect a locked o.asid o.kind with
        | .fail c v => some ((leave s).failOut o.tid id c v)
        | .done s' vals wrote =>
          match if wrote then s.beadRefused a locked o.kind else none with
          | some c => some ((leave s).failOut o.tid id c o.va)
          | none => some ((((leave s').releaseIn (.command o.tid id) o.rel key).cover o.tid id).giveOut o.tid id vals)
def execBeadStep (id : Nat) (s : State) : Res := event s (s.beadStep id)

/-- Issues a bead command (R295, R296, R310): the bits of the address that must be zero, the wait of R240, and an outstanding result
in `regs`. -/
def State.beadIssue (s : State) (addr : Word) (low : Nat) (regs : List (BitVec 5)) (acq rel : Option (BitVec 2))
    (k : BeadKind) : State :=
  if addr.toNat &&& low ≠ 0 then s.trapHere 1 addr
  else if !s.niReady then s
  else
    let r := s.newId
    let s := (r.2.entrust s.cur r.1 rel).addOut s.cur { id := r.1, kind := .bead, regs := regs, vals := none, acq := acq }
    let o : BeadOp := { id := r.1, tid := s.cur, asid := s.th.asid, user := !s.th.steward, addr := addr, kind := k, rel := rel }
    State.retire { s with beadOps := s.beadOps ++ [o] }

/-- A bead command that a handler may not issue before its HDONE (R312). -/
def State.noHandler (s : State) (k : State → State) : State := if s.inPhase then s.illegal else k s

/-- BPUSH (R302). -/
def execBpush (sem scope : BitVec 2) (rd rs1 rs2 : BitVec 5) (s : State) : Res :=
  plain s [rd, rs1, rs2, rs2 + 1] fun s => s.noHandler fun s =>
    s.beadIssue (s.rx rs1) 0x70 [rd] (acqOf sem scope) (relOf sem scope)
      (.push ((s.rx rs1).extractLsb' 0 4).toNat (beadOf (s.rx rs2) (s.rx (rs2 + 1))))
/-- BPOP (R304). -/
def execBpop (sem scope : BitVec 2) (rd rs1 : BitVec 5) (s : State) : Res :=
  plain s [rd, rd + 1, rs1] fun s => s.noHandler fun s =>
    s.beadIssue (s.rx rs1) 0x7F [rd, rd + 1] (acqOf sem scope) (relOf sem scope) .pop
/-- BROUND (R303). -/
def execBround (sem scope : BitVec 2) (rd rs1 rs2 : BitVec 5) (s : State) : Res :=
  plain s [rd, rs1, rs2] fun s => s.noHandler fun s =>
    s.beadIssue (s.rx rs1) 0x70 [rd] (acqOf sem scope) (relOf sem scope)
      (.round ((s.rx rs1).extractLsb' 0 4).toNat ((s.rx rs2).extractLsb' 0 32).toNat)
/-- BACK (R305). -/
def execBack (sem scope : BitVec 2) (rd rs1 rs2 : BitVec 5) (s : State) : Res :=
  plain s [rd, rs1, rs2] fun s => s.noHandler fun s =>
    s.beadIssue (s.rx rs1) 0x7F [rd] (acqOf sem scope) (relOf sem scope) (.ack ((s.rx rs2).extractLsb' 0 32).toNat)
/-- BIDXGET (R309). -/
def execBidxget (sem scope : BitVec 2) (rd rs1 rs2 : BitVec 5) (s : State) : Res :=
  plain s [rd, rs1, rs2] fun s =>
    s.beadIssue (s.rx rs1) 0x3F [rd] (acqOf sem scope) (relOf sem scope) (.get ((s.rx rs2).extractLsb' 0 32).toNat)
/-- BIDXPUT (R309). -/
def execBidxput (sem scope : BitVec 2) (rd rs1 rs2 : BitVec 5) (s : State) : Res :=
  plain s [rd, rs1, rs2, rs2 + 1] fun s =>
    s.beadIssue (s.rx rs1) 0x3F [rd] (acqOf sem scope) (relOf sem scope)
      (.put ((s.rx rs2).extractLsb' 0 32).toNat (s.rx (rs2 + 1)))

/-- A configuration word with a non-zero reserved bit, a reserved LOGCAP or a reserved operation (R296, R301). -/
def cfgBad (w : Word) : Bool :=
  let v := w.toNat
  let cap := decide (field v 39 5 < 8 ∨ 20 < field v 39 5)
  match field v 60 4 with
  | 0 => field v 23 2 != 0 || cap
  | 1 => field v 32 28 != 0
  | 2 => field v 4 56 != 0
  | 3 => field v 0 60 != 0
  | 4 => field v 44 16 != 0 || field v 0 25 != 0 || cap
  | 5 => field v 0 60 != 0
  | 6 => field v 0 60 != 0
  | _ => true

/-- BQCFG (R301): a release and an acquire at PKG scope. -/
def execBqcfg (rd rs1 rs2 : BitVec 5) (s : State) : Res :=
  plain s [rd, rs1, rs2] fun s =>
    let w := s.rx rs2
    s.checked [(cfgBad w, 7, 1)] fun s =>
      s.beadIssue (s.rx rs1) (if (BeadKind.cfg w).index then 0x3F else 0x7F) [rd] (some 2) (some 2) (.cfg w)
/-- BQUIET (R307): an acquire at PKG scope. -/
def execBquiet (rd rs1 rs2 : BitVec 5) (s : State) : Res :=
  plain s [rd, rs1, rs2] fun s => s.beadIssue (s.rx rs1) 0x3F [rd] (some 2) none (.quiet ((s.rx rs2).extractLsb' 0 32).toNat)

end Sys2Proof.Machine
end

