-- ==== Sys2Proof/Machine/Crossing.lean ====
section
/-! DEFINITION. The crossing engines (R316 to R349, R408): systems, instants, neurons, storms, samples and delayed edges. -/

namespace Sys2Proof.Machine

/-- Why a step of a crossing system does not complete: an error code (R325), or a non-resident page (R155). -/
inductive XStop where
  | err (code : Nat)
  | park (va : Word) (kind : Nat)
deriving DecidableEq, Repr

/-- A step of a crossing system: performed as a whole, or stopped with nothing changed. -/
abbrev XM (α : Type) := State → Except XStop (α × State)

/-- A value, with nothing changed. -/
def XM.val {α : Type} (a : α) : XM α := fun s => .ok (a, s)
/-- One step after another. -/
def XM.andThen {α β : Type} (m : XM α) (f : α → XM β) : XM β := fun s =>
  match m s with
  | .ok (a, s) => f a s
  | .error e => .error e
/-- A value read from the state. -/
def XM.look {α : Type} (f : State → α) : XM α := fun s => .ok (f s, s)
/-- A change of the state. -/
def XM.change (f : State → State) : XM Unit := fun s => .ok ((), f s)
/-- An error of the system (R325). -/
def XM.fail {α : Type} (code : Nat) : XM α := fun _ => .error (.err code)
/-- An error unless a condition holds. -/
def XM.need (b : Bool) (code : Nat) : XM Unit := if b then XM.val () else XM.fail code
/-- A step for each element of a list. -/
def XM.each {α : Type} (f : α → XM Unit) : List α → XM Unit
  | [] => XM.val ()
  | a :: r => (f a).andThen fun _ => XM.each f r

/-- A system by its place, die · 16384 + SYS. -/
def State.system (s : State) (k : Nat) : CrossSys :=
  aget { id := 0, die := 0, num := 0, block := 0, asid := 0, user := false, nvar := 0 } s.systems k
/-- Changes a system. -/
def State.modSystem (s : State) (k : Nat) (f : CrossSys → CrossSys) : State := { s with systems := aput s.systems k (f (s.system k)) }
/-- The place of a system. -/
def sysPlace (die num : Nat) : Nat := die * 16384 + num
/-- The system id of a system of this package (R317). -/
def State.sysId (s : State) (k : Nat) : Nat := s.chipno * 2 ^ 52 + k * 2 ^ 36
/-- The system word of a system (R317). -/
def CrossSys.sysWord (y : CrossSys) : Nat := y.die * 2 ^ 14 + y.num

/-- A field of a system's block (R318): `len` bits from bit `lo` of byte `b`. -/
def State.blockField (s : State) (k b lo len : Nat) : Nat := field (s.readVal ((s.system k).block + b) 8) lo len
/-- STATE of a system (R318): 0 IDLE, 1 RUN, 2 HELD, 3 STOPPED, 4 STORM, 5 ENDED, 6 ERROR. -/
def State.sysState (s : State) (k : Nat) : Nat := s.blockField k 0 60 3
/-- Writes bytes of a system's block. -/
def State.putBlock (s : State) (k b v n : Nat) : State := s.store (.unit_ (s.system k).die) ((s.system k).block + b) (leBytes v n)
/-- Sets STATE. -/
def State.setSysState (s : State) (k n : Nat) : State :=
  let v := s.readVal (s.system k).block 8
  s.putBlock k 0 (v - field v 60 3 * 2 ^ 60 + n * 2 ^ 60) 8
/-- NOW as an FP64 pattern. -/
def State.sysNow (s : State) (k : Nat) : Nat := s.blockField k 104 0 64

/-- The FP64 pattern of +∞. -/
def inf64 : Nat := 0x7FF0000000000000
/-- The FP64 pattern of −∞. -/
def minusInf64 : Nat := 0xFFF0000000000000
/-- The value of an FP64 or FP32 pattern. -/
def v64 (b : Nat) : Fp := fp64.decode b
def v32 (b : Nat) : Fp := fp32.decode b
/-- A value rounded once to a format with RNE (R331). -/
def Fmt.of (f : Fmt) : Fp → Nat
  | .nan _ => f.nanBits
  | .inf n => f.signBit n + f.infBits
  | .fin n m e => (f.round 0 false n m e false).1
/-- FP64 and FP32 operations, each rounded once with RNE. -/
def add64 (a b : Fp) : Fp := v64 (fp64.add 0 false a b).1
def sub64 (a b : Fp) : Fp := add64 a b.negate
def mul64 (a b : Fp) : Fp := v64 (fp64.mul 0 false a b).1
def div64 (a b : Fp) : Fp := v64 (fp64.div 0 false a b).1
def add32 (a b : Fp) : Fp := v32 (fp32.add 0 false a b).1
def mul32 (a b : Fp) : Fp := v32 (fp32.mul 0 false a b).1
/-- A value rounded to FP32. -/
def to32 (a : Fp) : Fp := v32 (fp32.of a)
/-- The value 1. -/
def oneFp : Fp := .fin false 1 0
/-- a < b; false if either is a NaN. -/
def ltFp (a b : Fp) : Bool := !a.isNan && !b.isNan && decide (cmpFp a b < 0)
/-- a = b. -/
def eqFp (a b : Fp) : Bool := !a.isNan && !b.isNan && cmpFp a b == 0
/-- a ≤ b; false if either is a NaN. -/
def leFp (a b : Fp) : Bool := !a.isNan && !b.isNan && decide (cmpFp a b ≤ 0)
/-- A finite value. -/
def Fp.finite : Fp → Bool
  | .fin _ _ _ => true
  | _ => false
/-- A magnitude. -/
def Fp.abs : Fp → Fp
  | .nan b => .nan b
  | .inf _ => .inf false
  | .fin _ m e => .fin false m e
/-- The lesser of two FP64 patterns. -/
def minTime (a b : Nat) : Nat := if ltFp (v64 b) (v64 a) then b else a
/-- The greater of two FP64 patterns. -/
def maxTime (a b : Nat) : Nat := if ltFp (v64 a) (v64 b) then b else a

/-- The heap minimum of a system (R330): +∞ of an empty heap. -/
def CrossSys.heapMin (y : CrossSys) : Nat :=
  y.arrivals.foldl (fun m a => minTime m a.time) (y.sched.foldl (fun m p => minTime m p.2) inf64)

/-- The local address of `n` bytes that a system's engine accesses (R318): a fault is ERR 4, a non-resident page parks. -/
def xplace (k : Nat) (va : Word) (n : Nat) (w : Bool) : XM Nat := fun s =>
  let y := s.system k
  if !isVa va then .error (.err 4)
  else match s.translate (y.die * 256) y.asid va { r := !w, w := w } y.user with
    | (_, .fault _) => .error (.err 4)
    | (_, .absent) => .error (.park va (if w then 1 else 0))
    | (s, .ok pa) =>
      match s.locate pa n with
      | .mem a =>
        let mine := y.holds.any fun h => decide (h.1 ≤ a ∧ a + n ≤ h.1 + h.2)
        if w && (s.inLocket a n || (s.isHeld a n && !mine)) then .error (.err 4)
        else if !w && s.isPoisoned a n then .error (.err 4)
        else .ok (a, s)
      | _ => .error (.err 4)

/-- Reads bytes of a system's tables and records. -/
def xread (k : Nat) (va : Word) (n : Nat) : XM Nat := (xplace k va n false).andThen fun a => XM.look (·.readVal a n)
/-- Writes bytes for a system. -/
def xwrite (k : Nat) (va : Word) (d : List Byte) : XM Unit :=
  (xplace k va d.length true).andThen fun a => XM.change fun s => s.store (.unit_ (s.system k).die) a d
/-- Writes bytes of a log or buffer, which lie in the gallery or HBM (R318). -/
def xwriteOut (k : Nat) (va : Word) (d : List Byte) : XM Unit :=
  (xplace k va d.length true).andThen fun a =>
    (XM.need (decide (a < windowBase)) 4).andThen fun _ => XM.change fun s => s.store (.unit_ (s.system k).die) a d

/-- The record and control entry of a variable (R319, R320), as bit patterns. -/
structure XVar where
  kind : Nat
  x : Nat
  q : Nat
  delta : Nat
  d : Nat
  tx : Nat
  tn : Nat
  pend : Bool
  lv : Bool
  ldir : Bool
  c : Nat
  aux : Nat
  tw : Nat
deriving DecidableEq, Repr

/-- The address of a variable's record and of its control entry. -/
def State.recVa (s : State) (k i : Nat) : Word := word (s.blockField k 8 0 64) + word (32 * i)
def State.ctlVa (s : State) (k i : Nat) : Word := word (s.blockField k 16 0 64) + word (16 * i)

/-- The variable of a record and a control entry. -/
def xvarOf (r c : Nat) : XVar :=
  { kind := field c 126 2, x := field r 0 32, q := field r 32 32, delta := field r 64 32, d := field r 96 32, tx := field r 128 64,
    tn := field r 192 64, pend := field c 125 1 == 1, lv := field c 124 1 == 1, ldir := field c 123 1 == 1, c := field c 96 16,
    aux := field c 64 32, tw := field c 0 64 }
/-- The bytes of a record. -/
def XVar.rec_ (v : XVar) : List Byte :=
  leBytes v.x 4 ++ leBytes v.q 4 ++ leBytes v.delta 4 ++ leBytes v.d 4 ++ leBytes v.tx 8 ++ leBytes v.tn 8
/-- The bytes of a control entry. -/
def XVar.ctl (v : XVar) : List Byte :=
  let b := fun (x : Bool) (n : Nat) => if x then 2 ^ n else 0
  leBytes v.tw 8 ++ leBytes (v.aux + v.c * 2 ^ 32 + b v.ldir 59 + b v.lv 60 + b v.pend 61 + v.kind * 2 ^ 62) 8

/-- Reads a variable. -/
def xload (k i : Nat) : XM XVar :=
  (XM.look fun s => (s.recVa k i, s.ctlVa k i)).andThen fun p =>
    (xread k p.1 32).andThen fun r => (xread k p.2 16).andThen fun c => XM.val (xvarOf r c)

/-- Whether a time is scheduled in the heap: kinds 0, 2 and 3, never +∞ (R330). -/
def XVar.scheduled (v : XVar) : Bool := v.kind != 1 && ltFp (v64 v.tn) (v64 inf64)

/-- Writes a variable, with its heap entry. -/
def xsave (k i : Nat) (v : XVar) : XM Unit :=
  (XM.look fun s => (s.recVa k i, s.ctlVa k i)).andThen fun p =>
    (xwrite k p.1 v.rec_).andThen fun _ => (xwrite k p.2 v.ctl).andThen fun _ =>
      XM.change fun s => s.modSystem k fun y =>
        { y with sched := if v.scheduled then aput y.sched i v.tn else adel y.sched i }

/-- X + D · (t − TX) in FP32, the FP64 operations rounded once each (R333 to R335, R340). -/
def XVar.at_ (v : XVar) (t : Nat) : Nat := fp32.of (add64 (v32 v.x) (mul64 (v32 v.d) (sub64 (v64 t) (v64 v.tx))))

/-- The next crossing time from t (R335). -/
def XVar.slopetime (v : XVar) (t : Nat) : Nat :=
  let d := v32 v.d
  if d.isZero then inf64
  else
    let step := if d.neg then (v32 v.delta).negate else v32 v.delta
    let g := div64 (sub64 (add64 (v32 v.q) step) (v32 v.x)) d
    fp64.of (add64 (v64 t) (if ltFp g (.fin false 0 0) then .fin false 0 0 else g))

/-- The next emission of a phase converter from t (R328). -/
def emission (rate t : Nat) : Nat :=
  if ltFp (.fin false 0 0) (v32 rate) then fp64.of (add64 (v64 t) (div64 oneFp (v32 rate))) else inf64

/-- The entries of a link table (R323), inbound and outbound: peers' system ids and bounds. -/
def xlinks (k : Nat) : XM (List (Nat × Nat) × List (Nat × Nat)) :=
  (XM.look fun s => word (s.blockField k 32 0 64)).andThen fun va =>
    if va = 0 then XM.val ([], [])
    else (xread k va 8).andThen fun h =>
      let nin := field h 0 8
      let nout := field h 8 8
      let rec go : Nat → Word → XM (List (Nat × Nat))
        | 0, _ => XM.val []
        | n + 1, a => (xread k a 16).andThen fun e => (go n (a + 16)).andThen fun r => XM.val ((field e 0 64, field e 64 32) :: r)
      (go (nin + nout) (va + 16)).andThen fun l => XM.val (l.take nin, l.drop nin)

/-- The bound that an inbound peer sets (R330, R342): F_j + LMIN_j, −∞ before its first frontier. -/
def CrossSys.bound (y : CrossSys) (p : Nat × Nat) : Nat :=
  match afind y.peers p.1 with
  | some f => fp64.of (add64 (v64 f) (v32 p.2))
  | none => minusInf64

/-- The least bound of the inbound peers; +∞ of none. -/
def xbound (k : Nat) : XM Nat :=
  (xlinks k).andThen fun l => XM.look fun s => l.1.foldl (fun m p => minTime m ((s.system k).bound p)) inf64

/-- Sends a KIND 7 packet to a peer (R343); one to another package leaves the model. -/
def State.sendPeer (s : State) (k peer : Nat) (frontier : Option Nat) (e : Arrival) : State :=
  if peer / 2 ^ 52 ≠ s.chipno then s
  else
    let p : CrossPkt :=
      { id := s.nextId, src := s.sysId k, dst := peer / 2 ^ 36 % 2 ^ 16, frontier := frontier, event := e }
    { s with xnet := s.xnet ++ [p], nextId := s.nextId + 1 }

/-- No event: the contents of a frontier packet. -/
def noArrival : Arrival := { time := 0, src := 0, entry := 0, seq := 0, var := 0, kind := .qchange, arg := 0, q := 0 }

/-- The frontier of a running system (R342), never less than before; sent to every outbound peer when it rises, or on entering RUN
(R343). -/
def xfront (k : Nat) (enter : Bool) : XM Unit :=
  (XM.look (·.sysState k)).andThen fun st =>
    if st ≠ 1 then XM.val ()
    else (xlinks k).andThen fun l => XM.change fun s =>
      let y := s.system k
      let f0 := l.1.foldl (fun m p => minTime m (y.bound p)) (minTime y.heapMin (y.opened.getD inf64))
      let f := maxTime (y.front.getD minusInf64) f0
      let rises := y.front.isNone || ltFp (v64 (y.front.getD minusInf64)) (v64 f)
      let s := s.modSystem k fun y => { y with front := some f }
      if enter || rises then l.2.foldl (fun s p => s.sendPeer k p.1 (some f) noArrival) s else s

/-- Sends a KIND 5 packet of a system (R334): `dcore` within the die. -/
def State.sendWake (s : State) (k core tag time w x q d status : Nat) (scope : BitVec 2) : State :=
  let y := s.system k
  s.sendTagged 5 none (y.die * 256 + core) tag y.asid
    (leBytes time 8 ++ leBytes w 8 ++ leBytes x 4 ++ leBytes q 4 ++ leBytes d 4 ++ leBytes (status * 2 ^ 24) 4) (some scope) (.unit_ y.die)

/-- A status packet to the owner (R334). -/
def State.sendStatus (s : State) (k time var status : Nat) : State :=
  s.sendWake k (s.blockField k 56 48 8) (s.blockField k 56 42 6) time ((s.system k).sysWord + var * 2 ^ 16) 0 0 0 status 2

/-- A system stops with an error (R325). -/
def State.sysError (s : State) (k code : Nat) : State :=
  let s := (s.setSysState k 6).putBlock k 100 code 1
  let s := s.modSystem k fun y => { y with opened := none, applied := [], stopVar := none, stopq := false }
  s.sendStatus k (s.sysNow k) 0 5

/-- The system of this package that sent an event stops with ERR 1 (R333). -/
def State.blame (s : State) (src : Nat) : State :=
  let k := src / 2 ^ 36 % 2 ^ 16
  if src / 2 ^ 52 = s.chipno ∧ (afind s.systems k).isSome ∧ s.sysState k ≠ 5 ∧ s.sysState k ≠ 6 then s.sysError k 1 else s

/-- Whether an event may act on a variable of a kind (R333). -/
def admits (kind : Nat) : ArrKind → Bool
  | .inject => true
  | .qchange => kind == 0 || kind == 2
  | .spike => kind == 1 || kind == 3

/-- The first local address of a die's gallery. -/
def dieGallery (d : Nat) : Nat := galleryBase + d * 0x4000000

/-- An input slot that an edge may name (R333). -/
def slotPlaced (arg : Nat) : Bool := arg % 4 == 0 && decide (arg + 4 ≤ 0x3800000)
/-- As `slotPlaced`, and outside held lines. -/
def State.slotOk (s : State) (die arg : Nat) : Bool := slotPlaced arg && !s.isHeld (dieGallery die + arg) 4

/-- The kind of an edge's target, if its system is configured in this package. -/
def xkind (pkg k var : Nat) : XM (Option Nat) :=
  (XM.look fun s => (decide (pkg = s.chipno) && (afind s.systems k).isSome, (s.system k).nvar)).andThen fun c =>
    if !c.1 then XM.val none
    else if c.2 ≤ var then XM.fail 1
    else (xload k var).andThen fun v => XM.val (some v.kind)

/-- An event pends at a variable of a system. -/
def CrossSys.pend (y : CrossSys) (a : Arrival) : CrossSys := { y with arrivals := y.arrivals ++ [a] }

/-- Whether another package's system takes an event as malformed or forbidden (R333): what stands there is not known, so the answer is free
(log 2). -/
def xforeign (pkg : Nat) : XM Bool := fun s =>
  if pkg = s.chipno then .ok (false, s) else let r := s.freeWord; .ok (r.1.getLsbD 0, r.2)

/-- An event travels along entry n of the dependence table (R322, R333); the slot of a target that is not known as one of kind 0 is judged at its
arrival. -/
def xedge (k t i : Nat) (kind : ArrKind) (q base n : Nat) : XM Unit :=
  (xread k (word base + word (16 * n)) 16).andThen fun e =>
    let arg := field e 64 32
    let dl := v32 (field e 96 32)
    let dly := field e 32 1 == 1
    let var := field e 0 20
    let peer := field e 36 28 * 2 ^ 36
    let tk := field e 36 16
    (XM.look fun s => s.sysId k).andThen fun me =>
      let own := peer == me
      (XM.need (field e 20 12 == 0 && field e 33 3 == 0 &&
          (if dly then dl.finite && ltFp (.fin false 0 0) dl else field e 96 32 == 0 && own)) 1).andThen fun _ =>
        (xkind (peer / 2 ^ 52) tk var).andThen fun tkind =>
          (XM.need (match tkind with
            | some n => admits n kind
            | none => !own) 1).andThen fun _ =>
            (XM.look fun s => !(kind == .qchange && dly && tkind == some 0) || s.slotOk (tk / 2 ^ 14) arg).andThen fun ok =>
              (XM.need ok 1).andThen fun _ => (xforeign (peer / 2 ^ 52)).andThen fun bad => (XM.need (!bad) 1).andThen fun _ =>
                let time := if dly then fp64.of (add64 (v64 t) dl) else t
                (XM.need (!dly || ltFp (v64 t) (v64 time)) 2).andThen fun _ =>
                  if kind == .qchange && !dly && tkind == some 0 then
                    XM.change fun s => s.modSystem k fun y => { y with wake := if y.wake.contains var then y.wake else var :: y.wake }
                  else
                    let ev := fun s : State =>
                      ({ time := time, src := me + i, entry := n, seq := s.nextId, var := var, kind := kind, arg := arg, q := q } :
                        Arrival)
                    if own then XM.change fun s => { (s.modSystem k fun y => y.pend (ev s)) with nextId := s.nextId + 1 }
                    else (xlinks k).andThen fun l =>
                      match l.2.find? fun p => p.1 / 2 ^ 36 == peer / 2 ^ 36 with
                      | none => XM.fail 2
                      | some p =>
                        if ltFp dl (v32 p.2) then XM.fail 2
                        else XM.change fun s => { (s.sendPeer k peer none (ev s)) with nextId := s.nextId + 2 }

/-- A variable emits an event along every edge (R333). -/
def xemit (k t i : Nat) (kind : ArrKind) (q : Nat) : XM Unit :=
  (XM.look fun s => (word (s.blockField k 24 0 64), (s.system k).nvar)).andThen fun p =>
    (xread k (p.1 + word (4 * i)) 4).andThen fun a => (xread k (p.1 + word (4 * i + 4)) 4).andThen fun b =>
      (XM.need (decide (a ≤ b)) 1).andThen fun _ =>
        XM.each (xedge k t i kind q (p.1.toNat + 16 * ((p.2 + 4) / 4))) (List.range' a (b - a))

/-- A counter of the block advances, wrapping (R318). -/
def xcount (k b by_ : Nat) : XM Unit :=
  XM.change fun s => s.putBlock k b ((s.readVal ((s.system k).block + b) 4 + by_) % 2 ^ 32) 4

/-- An FP32 field of the block. -/
def State.param (s : State) (k b : Nat) : Fp := v32 (s.blockField k b 0 32)

/-- A neuron's potential at t without inputs (R332). -/
def State.leak (s : State) (k : Nat) (v : XVar) (t : Nat) : Fp :=
  let a := to32 (div64 (sub64 (v64 t) (v64 v.tx)) (s.param k 80))
  let e := v32 (fp32.exp a.negate).1
  let rest := s.param k 88
  add32 rest (mul32 (add32 (v32 v.x) rest.negate) e)

/-- The neuron update of an instant (R332): all its inputs together. -/
def xneuron (k t i : Nat) (v : XVar) (ins : List Arrival) : XM Unit :=
  if ins.isEmpty then XM.val ()
  else if ltFp (v64 t) (v64 v.tn) then xcount k 124 ins.length
  else (XM.look fun s => (s.leak k v t, s.param k 92, s.param k 96, s.param k 84)).andThen fun p =>
    let x := ins.foldl (fun x a => add32 x (v32 (if a.kind == .inject then a.q else a.arg))) p.1
    let vth := p.2.1
    let vreset := p.2.2.1
    if !leFp vth x then xsave k i { v with x := fp32.of x, tx := t }
    else
      let hard := leFp (sub64 vth vreset) (sub64 x vth)
      (if hard then xcount k 120 1 else XM.val ()).andThen fun _ =>
        (xsave k i { v with x := fp32.of vreset, tx := t, tn := fp64.of (add64 (v64 t) p.2.2.2), aux := (v.aux + 1) % 2 ^ 32 }).andThen
          fun _ => xemit k t i .spike 0

/-- Writes the input slot of a delayed QCHANGE arrival, whose variable then wakes (R333); a slot that cannot be one stops the sender. -/
def xslot (k i : Nat) (e : Arrival) : XM Unit := fun s =>
  let a := dieGallery (s.system k).die + e.arg
  if !slotPlaced e.arg then
    if e.src / 2 ^ 36 = s.sysId k / 2 ^ 36 then .error (.err 1) else .ok ((), s.blame e.src)
  else if s.inLocket a 4 || s.isHeld a 4 then .error (.err 4)
  else
    let s := s.store (.unit_ (s.system k).die) a (leBytes e.q 4)
    .ok ((), s.modSystem k fun y => { y with wake := if y.wake.contains i then y.wake else i :: y.wake })

/-- An arrival at a variable of kind 0, 2 or 3 (R333, R345). -/
def xarrive (k t i : Nat) (v : XVar) (a : Arrival) : XM XVar :=
  match v.kind, a.kind with
  | 0, .inject =>
    let v := { v with x := a.q, q := a.q, tx := t }
    let v := { v with tn := v.slopetime t }
    (xemit k t i .qchange v.q).andThen fun _ => XM.val v
  | 0, _ =>
    (xslot k i a).andThen fun _ => XM.val v
  | 2, _ =>
    let x := v.at_ t
    let full := leFp oneFp (v32 x)
    XM.val { v with x := x, tx := t, d := a.q, tn := if full then t else emission a.q t }
  | _, _ =>
    let x := add32 (v32 v.x) oneFp
    XM.val { v with x := fp32.of (if ltFp (.fin false (2 ^ 24) 0) x then .fin false (2 ^ 24) 0 else x) }

/-- The arrivals of a variable in their order; one that its kind forbids stops its sender (R333). -/
def xarrivals (k t i : Nat) (v : XVar) : List Arrival → XM XVar
  | [] => XM.val v
  | a :: r =>
    if admits v.kind a.kind then (xarrive k t i v a).andThen fun v => xarrivals k t i v r
    else (XM.look fun s => s.sysId k).andThen fun me =>
      if a.src / 2 ^ 36 = me / 2 ^ 36 then XM.fail 1
      else (XM.change (·.blame a.src)).andThen fun _ => xarrivals k t i v r

/-- The storm check of a crossing (R337): the variable after it, and a storm record if the limit is passed. -/
def xstorm (k t i : Nat) (qold : Nat) (up : Bool) (v0 : XVar) : XM XVar :=
  (XM.look fun s => (v64 (s.blockField k 64 0 64), s.blockField k 72 0 32, s.blockField k 76 0 32)).andThen fun p =>
    let fresh := ltFp p.1 (sub64 (v64 t) (v64 v0.tw))
    let v := if fresh then { v0 with tw := t, c := 0, lv := false } else v0
    let c := min (v.c + 1) 0xFFFF
    let alt := v.lv && v.ldir != up
    let v := { v with c := c, lv := true, ldir := up }
    if c ≤ p.2.1 then XM.val v
    else
      let dmax := v32 p.2.2
      let stop := eqFp (v32 v.delta) dmax && !alt
      let q := if alt then fp32.of (div64 (add64 (v32 qold) (v32 v.q)) (.fin false 2 0)) else v.q
      let twice := to32 (mul64 (.fin false 2 0) (v32 v.delta))
      let v := { v with q := q, x := if alt then q else v.x, delta := if ltFp twice dmax then fp32.of twice else p.2.2, c := 0, lv := false }
      (XM.look fun s =>
        (word (s.blockField k 48 0 64), s.blockField k 112 0 32 % 2 ^ s.blockField k 56 12 5)).andThen fun g =>
        (xwriteOut k (g.1 + word (16 * g.2)) (leBytes t 8 ++
          leBytes (i + (if alt then 2 ^ 20 else 0) + (if stop then 2 ^ 21 else 0)) 4 ++ leBytes q 4)).andThen fun _ =>
          (xcount k 112 1).andThen fun _ =>
            (XM.change fun s => s.modSystem k fun y =>
              { y with stopVar := if stop && y.stopVar.isNone then some i else y.stopVar }).andThen fun _ => XM.val v

/-- A variable's scheduled event (R331). -/
def xscheduled (k t i : Nat) (v : XVar) : XM Unit :=
  match v.kind with
  | 0 =>
    let d := v32 v.d
    let up := ltFp (.fin false 0 0) d
    let q := fp32.of (add32 (v32 v.q) (if up then v32 v.delta else (v32 v.delta).negate))
    (xstorm k t i v.q up { v with q := q, x := q, tx := t, aux := (v.aux + 1) % 2 ^ 32 }).andThen fun v =>
      let v := { v with tn := if d.isZero then inf64 else fp64.of (add64 (v64 t) (div64 (v32 v.delta) d.abs)) }
      (xsave k i v).andThen fun _ => xemit k t i .qchange v.q
  | 2 =>
    (xsave k i { v with x := 0, tx := t, aux := (v.aux + 1) % 2 ^ 32, tn := emission v.d t }).andThen fun _ => xemit k t i .spike 0
  | _ =>
    let v := { v with
      q := fp32.of (div64 (v32 v.x) (v32 v.delta)), x := 0, tx := t, tn := fp64.of (add64 (v64 t) (v32 v.delta)) }
    (xsave k i v).andThen fun _ => xemit k t i .qchange v.q

/-- The order of a variable's arrivals (R331, R345): source system id, then dependence entry; injections last. -/
def Arrival.before (a b : Arrival) : Bool :=
  let r := fun x : Arrival => if x.kind == .inject then 2 ^ 64 else x.src / 2 ^ 36
  decide (r a < r b ∨ (r a = r b ∧ (a.entry < b.entry ∨ (a.entry = b.entry ∧ a.seq ≤ b.seq))))

/-- A variable's part of an instant (R331, R332). -/
def xvariable (k t i : Nat) (l : List Arrival) : XM Unit :=
  let ins := (l.filter fun a => a.var == i).mergeSort Arrival.before
  (xload k i).andThen fun v =>
    if v.kind = 1 then
      (XM.look fun s => s.sysId k).andThen fun me =>
        let bad := ins.filter fun a => !admits 1 a.kind
        (XM.need (bad.all fun a => a.src / 2 ^ 36 != me / 2 ^ 36) 1).andThen fun _ =>
          (XM.change fun s => bad.foldl (fun s a => s.blame a.src) s).andThen fun _ =>
            xneuron k t i v (ins.filter fun a => admits 1 a.kind)
    else
      (xarrivals k t i v ins).andThen fun v => if eqFp (v64 v.tn) (v64 t) then xscheduled k t i v else xsave k i v

/-- The variables of an instant in ascending order: an error leaves the instant applied up to the variable being processed (R325). -/
def xvariables (k t : Nat) (l : List Arrival) : List Nat → State → Except XStop (Option Nat × State)
  | [], s => .ok (none, s)
  | i :: r, s =>
    match xvariable k t i l s with
    | .ok (_, s) => xvariables k t l r s
    | .error (.err c) => .ok (some c, s)
    | .error e => .error e

/-- Sets or clears PEND of a variable (R334). -/
def xpend (k : Nat) (b : Bool) (i : Nat) : XM Unit := (xload k i).andThen fun v => xsave k i { v with pend := b }

/-- Sends the wakes of the open instant, in ascending order (R334). -/
def xwakes (k : Nat) : XM Unit :=
  (XM.look fun s => ((s.system k).wake.mergeSort fun a b => decide (a ≤ b), (s.system k).opened.getD 0)).andThen fun p =>
    XM.each (fun i => (xload k i).andThen fun v => XM.change fun s =>
      let y := s.system k
      s.sendWake k (s.blockField k 56 32 8 + i % s.blockField k 56 23 9) (s.blockField k 56 17 6) p.2
        (y.sysWord + i * 2 ^ 16 + s.blockField k 112 32 28 * 2 ^ 36) (v.at_ p.2) v.q v.d 0 1) p.1

/-- The pending arrivals of a die's systems fill its store (R344), whose size the manual does not give (log 42). -/
def State.storeFull (s : State) (die : Nat) : Bool :=
  decide (Config.arrivalStore < ((s.systems.filter fun p => p.2.die == die).map fun p => p.2.arrivals.length).sum)

/-- Whether an event that a system sent waits in the network for room (R344). -/
def State.eventsWait (s : State) (k : Nat) : Bool :=
  s.xnet.any fun p => p.frontier.isNone && p.src / 2 ^ 36 == s.sysId k / 2 ^ 36 && s.storeFull (p.dst / 2 ^ 14)

/-- An instant whose replies have come, and whose events do not wait (R344), closes (R336), and QSTOP mode 0 then stops the system (R347); after a storm stop it stays open
(R339). -/
def State.sysClose (s : State) (k : Nat) : State :=
  let y := s.system k
  if y.opened.isNone || !y.wake.isEmpty || s.sysState k == 4 || s.eventsWait k then s
  else
    let s := s.modSystem k fun y => { y with opened := none, applied := [], stopq := false }
    if y.stopq then s.setSysState k 3 else s

/-- After the variables of an instant (R334, R336, R339): PEND is set, then the wakes are sent, or a storm stop withholds them. -/
def xfinish (k : Nat) : XM Unit :=
  (XM.look fun s => ((s.system k).wake, (s.system k).stopVar)).andThen fun p =>
    (XM.each (xpend k true) p.1).andThen fun _ =>
      match p.2 with
      | some i => XM.change fun s =>
          let s := (s.setSysState k 4).modSystem k fun y => { y with stopVar := none }
          s.sendStatus k (s.sysNow k) i 1
      | none => (xwakes k).andThen fun _ => (XM.change (·.sysClose k)).andThen fun _ => xfront k false

/-- Whether the next instant of a running system may begin but for its hold time (R330): its time. -/
def xeligible (k : Nat) : XM (Option Nat) :=
  (XM.look fun s => (s.system k, s.sysState k)).andThen fun p =>
    let t := p.1.heapMin
    let withheld := match p.1.sample with
      | some u => ltFp (v64 u) (v64 t)
      | none => false
    if p.2 != 1 || p.1.opened.isSome || withheld || !ltFp (v64 t) (v64 inf64) then XM.val none
    else (xbound k).andThen fun b => XM.val (if ltFp (v64 t) (v64 b) then some t else none)

/-- Whether t < TL. -/
def CrossSys.below (y : CrossSys) (t : Nat) : Bool := match y.tl with
  | some l => ltFp (v64 t) (v64 l)
  | none => false

/-- A system held while its pending sample's time is not below TL waits with it for a QRUN that raises TL above that (R340). -/
def CrossSys.holdSample (y : CrossSys) : CrossSys := { y with sampleHeld := y.sample.any fun u => !y.below u }

/-- An instant (R330): its variables, and what follows. -/
def xinstant (k t : Nat) : XM Unit := fun s =>
  let y := s.system k
  let at_ := fun u : Nat => eqFp (v64 u) (v64 t)
  let l := y.arrivals.filter fun a => at_ a.time
  let vars := (((y.sched.filter fun p => at_ p.2).map (·.1)) ++ l.map (·.var)).eraseDups.mergeSort fun a b => decide (a ≤ b)
  let s := (s.putBlock k 104 t 8).putBlock k 116 ((s.readVal (y.block + 116) 4 + 1) % 2 ^ 32) 4
  let s := s.modSystem k fun y => { y with
    opened := some t, applied := vars, wake := [], stopVar := none, arrivals := y.arrivals.filter fun a => !at_ a.time }
  match xvariables k t l vars s with
  | .error e => .error e
  | .ok (some c, s) => .ok ((), (s.modSystem k fun y => { y with wake := [] }).sysError k c)
  | .ok (none, s) =>
    match xfinish k s with
    | .error (.err c) => .ok ((), (s.modSystem k fun y => { y with wake := [] }).sysError k c)
    | r => r

/-- A system's step meets a non-resident page and parks (R318). -/
def State.parkSystem (s : State) (k : Nat) (va : Word) (kind : Nat) : State :=
  let y := s.system k
  s.park { tid := 4 * (y.die * 256 + s.blockField k 56 48 8), eng := some y.id, engine := true, asid := y.asid, va := va, kind := kind }

/-- What a system's step leaves: an access error stops the system, a non-resident page parks its step (R318). -/
def State.xrun {α : Type} (s : State) (k : Nat) (m : XM (Option α)) : Option State :=
  match m s with
  | .ok (some _, s) => some s
  | .ok (none, _) => none
  | .error (.err c) => some (s.sysError k c)
  | .error (.park va kind) => some (s.parkSystem k va kind)

/-- A configured system whose step is not parked. -/
def State.sysFree (s : State) (k : Nat) : Bool := match afind s.systems k with
  | some y => !s.engParked y.id
  | none => false

/-- INSTANT_BEGIN (R330). -/
def State.instantBegin (s : State) (die sys : Nat) : Option State :=
  let k := sysPlace die sys
  if !s.sysFree k then none
  else s.xrun k ((xeligible k).andThen fun r => match r with
    | none => XM.val none
    | some t => (XM.look fun s => (s.system k).below t).andThen fun b =>
        if b then (xinstant k t).andThen fun _ => XM.val (some ()) else XM.val none)
def execInstantBegin (die sys : Nat) (s : State) : Res := event s (s.instantBegin die sys)

/-- SYSTEM_HOLD (R330): only t ≥ TL prevents the next instant. -/
def State.systemHold (s : State) (die sys : Nat) : Option State :=
  let k := sysPlace die sys
  if !s.sysFree k then none
  else s.xrun k ((xeligible k).andThen fun r => match r with
    | none => XM.val none
    | some t => fun s =>
        if (s.system k).below t then .ok (none, s)
        else
          let s := (s.setSysState k 2).modSystem k (·.holdSample)
          .ok (some (), s.sendStatus k (s.sysNow k) 0 4))
def execSystemHold (die sys : Nat) (s : State) : Res := event s (s.systemHold die sys)

/-- The value and Q of a variable at T (R340), as an 8-byte number. -/
def State.sampleOf (s : State) (k : Nat) (v : XVar) (t : Nat) : Nat :=
  let x := match v.kind with
    | 1 => fp32.of (s.leak k v t)
    | 3 => v.x
    | _ => v.at_ t
  x + v.q * 2 ^ 32

/-- Takes the pending sample (R340). -/
def xsample (k t : Nat) : XM Unit :=
  (XM.look fun s => (s.system k).nvar).andThen fun n =>
    (XM.each (fun i => (xload k i).andThen fun v =>
      (XM.look fun s => (s.sampleOf k v t, word (s.blockField k 40 0 64) + word (8 * i))).andThen fun p =>
        xwriteOut k p.2 (leBytes p.1 8)) (List.range n)).andThen fun _ =>
      XM.change fun s => (s.modSystem k fun y => { y with sample := none }).sendStatus k t 0 2

/-- SAMPLE_TAKE (R340). -/
def State.sampleTake (s : State) (die sys : Nat) : Option State :=
  let k := sysPlace die sys
  let y := s.system k
  let st := s.sysState k
  match y.sample with
  | none => none
  | some t =>
    if !s.sysFree k || st == 5 || st == 6 || y.opened.isSome || !ltFp (v64 t) (v64 y.heapMin) || y.sampleHeld then none
    else s.xrun k ((xbound k).andThen fun b =>
      if ltFp (v64 t) (v64 b) then (xsample k t).andThen fun _ => XM.val (some ()) else XM.val none)
def execSampleTake (die sys : Nat) (s : State) : Res := event s (s.sampleTake die sys)

/-- A KIND 7 packet that is next in its sender's order to its target (R343). -/
def State.crossNext (s : State) (id : Nat) : Option CrossPkt :=
  match s.xnet.find? fun p => p.id == id with
  | none => none
  | some p =>
    if (s.xnet.takeWhile fun q => q.id != id).any fun q => q.src / 2 ^ 36 == p.src / 2 ^ 36 && q.dst == p.dst then none else some p

/-- Takes a KIND 7 packet out of the network. -/
def State.dropCross (s : State) (id : Nat) : State := { s with xnet := s.xnet.filter fun p => p.id != id }

/-- An event of a system has been taken by its target, which leaves `s`: the system's instant may close now (R344), and its frontier then
rises (R342, R343).  While a page that this needs is not resident the arrival waits, and nothing of it has happened. -/
def State.sentOn (before : State) (src : Nat) (s : State) : Option State :=
  let k := src / 2 ^ 36 % 2 ^ 16
  let c := s.sysClose k
  if src / 2 ^ 52 ≠ s.chipno || (afind s.systems k).isNone || (c.system k).opened == (s.system k).opened then some s
  else if before.engParked (before.system k).id then none
  else match xfront k false c with
    | .ok (_, t) => some t
    | .error (.err e) => some (c.sysError k e)
    | .error (.park va kind) => some (before.parkSystem k va kind)

/-- What an event does to its target (R343): an arrival at or before NOW is ERR 3; the target's frontier may rise. -/
def State.eventAt (s : State) (p : CrossPkt) : Option State :=
  let k := p.dst
  let s' := s.dropCross p.id
  match afind s.systems k with
  | none => some s'
  | some y =>
    let st := s.sysState k
    if s.engParked y.id || s.storeFull (k / 2 ^ 14) then none
    else if st = 5 ∨ st = 6 then some s'
    else if y.nvar ≤ p.event.var then some (s'.blame p.event.src)
    else if !ltFp (v64 (s.sysNow k)) (v64 p.event.time) then some (s'.sysError k 3)
    else s.xrun k ((XM.change fun s => (s.dropCross p.id).modSystem k fun y => y.pend p.event).andThen fun _ =>
      (xfront k false).andThen fun _ => XM.val (some ()))

/-- CROSSING_EVENT_ARRIVAL (R343, R344). -/
def State.crossEvent (s : State) (id : Nat) : Option State :=
  match s.crossNext id with
  | none => none
  | some p => if p.frontier.isSome then none else (s.eventAt p).bind (s.sentOn p.src)
def execCrossingEventArrival (id : Nat) (s : State) : Res := event s (s.crossEvent id)

/-- CROSSING_FRONTIER_ARRIVAL (R343). -/
def State.crossFrontier (s : State) (id : Nat) : Option State :=
  match s.crossNext id with
  | none => none
  | some p =>
    match p.frontier with
    | none => none
    | some f =>
      let k := p.dst
      match afind s.systems k with
      | none => some (s.dropCross id)
      | some y =>
        if s.engParked y.id then none
        else s.xrun k ((XM.change fun s => (s.dropCross id).modSystem k fun y =>
          { y with peers := aput y.peers (p.src / 2 ^ 36 * 2 ^ 36) f }).andThen fun _ =>
          (xfront k false).andThen fun _ => XM.val (some ()))
def execCrossingFrontierArrival (id : Nat) (s : State) : Res := event s (s.crossFrontier id)

/-- What a crossing command gives: a value for rd, or an engine trap. -/
inductive XEnd where
  | val (w : Word)
  | trap (cause : BitVec 6) (v : Nat)
deriving DecidableEq, Repr

/-- Where a virtual page of a block, array or table leads at QCFG (R326): its local address, or the refusal. -/
def xcheck (asid : BitVec 16) (user : Bool) (core : Nat) (va : Word) (n : Nat) (w : Bool) : XM Nat := fun s =>
  if !isVa va then .error (.err 3)
  else match s.translate core asid va { r := true, w := w } user with
    | (_, .fault _) => .error (.err 3)
    | (_, .absent) => .error (.park va (if w then 1 else 0))
    | (s, .ok pa) =>
      match s.locate pa n with
      | .mem a => if w && (!inGallery a || s.isHeld a n || s.inLocket a n) then .error (.err 3) else .ok (a, s)
      | _ => .error (.err 3)

/-- The local ranges of a virtual range of a die (R326): an array in its gallery, or a table in its HBM or gallery. -/
def xranges (asid : BitVec 16) (user : Bool) (core die : Nat) (w : Bool) : Nat → Word → Nat → XM (List (Nat × Nat))
  | 0, _, _ => XM.val []
  | f + 1, va, len =>
    if len = 0 then XM.val []
    else
      let n := min len (0x10000 - va.toNat % 0x10000)
      (xcheck asid user core va n w).andThen fun a =>
        (XM.need (decide (a < windowBase) && dieOfAddr a == die) 3).andThen fun _ =>
          (xranges asid user core die w f (va + word n) (len - n)).andThen fun r => XM.val ((a, n) :: r)

/-- A finite FP32 parameter above zero, or FP64. -/
def positive (v : Fp) : Bool := v.finite && ltFp (.fin false 0 0) v

/-- Reserved and RO fields and parameters of a block (R318, R326). -/
def blockWrong (b : Nat) : Bool :=
  field b 58 6 != 0 || field b 41 3 != 0 || field b 0 20 != 0 || field b 504 8 != 0 || field b 488 2 != 0 || field b 448 12 != 0 ||
  field b 800 32 != 0 || field b 896 128 != 0 || field b 576 32 == 0 || decide (65535 < field b 576 32) ||
  !positive (v64 (field b 512 64)) || !positive (v32 (field b 608 32)) || !positive (v32 (field b 640 32)) ||
  !(v32 (field b 672 32)).finite || ltFp (v32 (field b 672 32)) (.fin false 0 0) || !ltFp (v32 (field b 768 32)) (v32 (field b 736 32)) ||
  field b 471 9 == 0 || decide (256 < field b 471 9) || decide (256 < field b 480 8 + field b 471 9) ||
  decide (field b 460 5 < 4 ∨ 20 < field b 460 5) || !(v64 (field b 832 64)).finite

/-- Every address of a block is a multiple of 64 (R318, R323). -/
def blockAligned (b : Nat) : Bool := [8, 16, 24, 32, 40, 48].all fun i => field b (8 * i) 64 % 64 == 0

/-- INIT (R326): a block that can be read names its system, so statuses 1 and 2 come before the checks of status 3. -/
def xinit (asid : BitVec 16) (user : Bool) (core : Nat) (va : Word) : XM XEnd :=
  let no := fun n : Nat => XM.val (α := XEnd) (.val (cfgStatus n))
  (xcheck asid user core va 128 false).andThen fun a => fun s =>
    let die := dieOfAddr a
    let b := s.readVal a 128
    let num := field b 44 14
    let n := field b 20 21
    let k := sysPlace die num
    let total := ((s.systems.filter fun p => p.2.die == die).map fun p => p.2.nvar).sum
    if (afind s.systems k).isSome then no 1 s
    else if n = 0 ∨ 2 ^ 20 < n ∨ 2 ^ 20 < total + n then no 2 s
    else
      let at_ := fun i : Nat => word (field b (8 * i) 64)
      let rng := fun (w : Bool) (va : Word) (len : Nat) => xranges asid user core die w (len / 0x10000 + 2) va len
      ((xcheck asid user core va 128 true).andThen fun _ => (XM.need (blockAligned b) 3).andThen fun _ =>
        (rng true (at_ 8) (32 * n)).andThen fun r => (rng true (at_ 16) (16 * n)).andThen fun c =>
          (rng false (at_ 24) (4 * (n + 1))).andThen fun t => (XM.look fun s => match t.getLast? with
              | some p => s.readVal (p.1 + p.2 - 4) 4
              | none => 0).andThen fun edges => (rng false (at_ 24) (16 * ((n + 4) / 4) + 16 * edges)).andThen fun _ =>
            (if at_ 32 = 0 then XM.val 0 else (rng false (at_ 32) 8).andThen fun l => XM.look fun s => match l with
              | p :: _ => s.readVal p.1 8
              | [] => 0).andThen fun h =>
              (if at_ 32 = 0 then XM.val [] else rng false (at_ 32) (16 + 16 * (field h 0 8 + field h 8 8))).andThen fun _ =>
                if blockWrong b then no 4
                else fun s =>
                  let holds := (a, 128) :: (r ++ c)
                  let y : CrossSys :=
                    { id := s.nextId, die := die, num := num, block := a, asid := asid, user := user, nvar := n, holds := holds }
                  let s := { s with nextId := s.nextId + 1, systems := aput s.systems k y }
                  let s := s.store (.unit_ die) a (leBytes (2 ^ 63 + num * 2 ^ 44 + n * 2 ^ 20 + asid.toNat) 8)
                  let blank := leBytes 0 24 ++ leBytes inf64 8
                  let s := r.foldl (fun s p => s.store (.unit_ die) p.1 ((List.replicate (p.2 / 32) blank).flatten)) s
                  let s := c.foldl (fun s p => s.store (.unit_ die) p.1 (List.replicate p.2 0)) s
                  .ok (.val 0, holds.foldl (fun s h => s.hold_ h.1 h.2) s)) s

/-- FREE (R326): the block's lines are released. -/
def State.sysFreed (s : State) (k : Nat) : State :=
  let y := s.system k
  let s := s.putBlock k 7 (s.blockField k 0 56 8 % 128) 1
  let s := y.holds.foldl (fun s h => s.unhold h.1 h.2) s
  { s with systems := adel s.systems k }

/-- QCFG (R326): an already configured block comes before every other refusal. -/
def xcfg (asid : BitVec 16) (user : Bool) (core : Nat) (free : Bool) (va : Word) : XM XEnd := fun s =>
  let at_ : Except XStop (Option Nat) := match s.translate core asid va { r := true } user with
    | (_, .absent) => .error (.park va 0)
    | (s, .ok pa) => match s.locate pa with
      | .mem a => .ok (some a)
      | _ => .ok none
    | _ => .ok none
  match at_ with
  | .error e => .error e
  | .ok a =>
    match a.bind fun a => s.systems.find? fun p => p.2.block == a with
    | some (k, y) =>
      if !free then .ok (.val (cfgStatus 6), s)
      else if y.asid ≠ asid then .ok (.trap 7 2, s)
      else if s.sysState k = 1 ∨ s.sysState k = 2 then .ok (.val (cfgStatus 5), s)
      else .ok (.val 0, s.sysFreed k)
    | none =>
      if free then .ok (.val (cfgStatus 6), s)
      else match xinit asid user core va s with
        | .error (.err _) => .ok (.val (cfgStatus 3), s)
        | r => r

/-- Commands that set a variable of a system not in RUN, ENDED or ERROR (R327, R328). -/
def xset (k var : Nat) (check : State → Nat) (v : Nat → XVar) : XM XEnd := fun s =>
  let st := s.sysState k
  if st = 1 ∨ st = 5 ∨ st = 6 then .ok (.val (cfgStatus 1), s)
  else if (s.system k).nvar ≤ var then .ok (.val (cfgStatus 2), s)
  else if check s ≠ 0 then .ok (.val (cfgStatus (check s)), s)
  else ((xsave k var (v (s.sysNow k))).andThen fun _ =>
    (XM.change fun s => (s.modSystem k fun y => { y with wake := y.wake.filter fun i => i != var }).sysClose k).andThen fun _ =>
      XM.val (.val 0)) s

/-- QVSET (R327). -/
def xvset (k var : Nat) (d : Nat) : XM XEnd :=
  let kind := field d 128 2
  let x := v32 (field d 0 32)
  let q := v32 (field d 32 32)
  let delta := v32 (field d 64 32)
  let sl := v32 (field d 96 32)
  xset k var (fun s =>
      if 2 ≤ kind ∨ field d 130 126 ≠ 0 then 4
      else if kind = 0 ∧ !(x.finite && q.finite && sl.finite && positive delta && !ltFp (s.param k 76) delta) then 3
      else if kind = 1 ∧ !(x.finite && q.isZero && delta.isZero && sl.isZero) then 3
      else 0) fun now =>
    let v : XVar :=
      { kind := kind, x := field d 0 32, q := field d 32 32, delta := field d 64 32, d := field d 96 32, tx := now, tn := now,
        pend := false, lv := false, ldir := false, c := 0, aux := 0, tw := now }
    if kind = 0 then { v with tn := v.slopetime now } else v

/-- QCONV (R328). -/
def xconv (k var : Nat) (p : Word) : XM XEnd :=
  let b := (p.extractLsb' 0 32).toNat
  let three := p.getLsbD 63
  xset k var (fun _ => if three then (if positive (v32 b) then 0 else 3) else if (v32 b).finite then 0 else 3) fun now =>
    { kind := if three then 3 else 2, x := 0, q := 0, delta := if three then b else 0x3F800000, d := if three then 0 else b, tx := now,
      tn := if three then fp64.of (add64 (v64 now) (v32 b)) else emission b now, pend := false, lv := false, ldir := false, c := 0,
      aux := 0, tw := now }

/-- QRUN (R329). -/
def xrunTo (k : Nat) (tl : Nat) : XM XEnd := fun s =>
  let st := s.sysState k
  if st = 5 ∨ st = 6 then .ok (.val (cfgStatus 2), s)
  else if !ltFp (v64 (s.sysNow k)) (v64 tl) then .ok (.val (cfgStatus 1), s)
  else
    let s := s.modSystem k fun y => { y with tl := some tl, sampleHeld := y.sampleHeld && y.sample.any fun u => !ltFp (v64 u) (v64 tl) }
    if st = 1 then .ok (.val 0, s)
    else ((XM.change (·.setSysState k 1)).andThen fun _ =>
      (if st = 4 then (xwakes k).andThen fun _ => XM.change (·.sysClose k) else XM.val ()).andThen fun _ =>
        (xfront k true).andThen fun _ => XM.val (.val 0)) s

/-- QSLOPE (R335); the second copy of a dual-run card, whose twin's reply has closed an instant that has begun, is stale (R349). -/
def xslope (k : Nat) (dual : Bool) (w g : Word) : XM XEnd := fun s =>
  let st := s.sysState k
  let y := s.system k
  let var := (w.extractLsb' 16 20).toNat
  let idle : Bool := st ≠ 1 && st ≠ 2 && st ≠ 4
  match y.opened with
  | none =>
    let begun := decide ((s.blockField k 112 32 28 + 2 ^ 28 - (w.extractLsb' 36 28).toNat) % 2 ^ 28 < 2 ^ 27)
    .ok (.val (if (!idle || st == 3) && dual && begun then 1 else 2), s)
  | some t =>
    if idle then .ok (.val 2, s)
    else if y.nvar ≤ var then .ok (.trap 7 3, s)
    else if (w.extractLsb' 36 28).toNat ≠ s.blockField k 112 32 28 ∨ !y.wake.contains var then .ok (.val 1, s)
    else
      let d := (g.extractLsb' 0 32).toNat
      if !(v32 d).finite then .ok (.val 3, s)
      else ((xload k var).andThen fun v =>
        let v := { v with x := v.at_ t, tx := t, d := d, pend := false }
        (xsave k var { v with tn := v.slopetime t }).andThen fun _ =>
          (XM.change fun s => (s.modSystem k fun y => { y with wake := y.wake.filter fun i => i != var }).sysClose k).andThen fun _ =>
            (xfront k false).andThen fun _ => XM.val (.val 0)) s

/-- QSAMPLE (R340). -/
def xsampleAsk (k t : Nat) : XM XEnd := fun s =>
  let y := s.system k
  let now := v64 (s.sysNow k)
  if s.sysState k = 5 ∨ s.sysState k = 6 then .ok (.val 3, s)
  else if ltFp (v64 t) now || (eqFp (v64 t) now && y.opened.isSome) then .ok (.val 1, s)
  else if y.sample.isSome then .ok (.val 2, s)
  else
    let ask (y : CrossSys) : CrossSys :=
      let y := { y with sample := some t, sampleHeld := false }
      if s.sysState k = 2 then y.holdSample else y
    .ok (.val 0, s.modSystem k ask)

/-- QINJ (R345). -/
def xinj (k var v t : Nat) : XM XEnd := fun s =>
  let y := s.system k
  let now := v64 (s.sysNow k)
  if s.sysState k = 5 ∨ s.sysState k = 6 then .ok (.trap 7 2, s)
  else if y.nvar ≤ var then .ok (.trap 7 3, s)
  else if ltFp (v64 t) now || (eqFp (v64 t) now && y.opened.isSome && y.applied.contains var) then .ok (.trap 7 6, s)
  else
    let a : Arrival := { time := t, src := 2 ^ 64 - 1, entry := 0, seq := s.nextId, var := var, kind := .inject, arg := 0, q := v }
    ((XM.change fun s => { (s.modSystem k fun y => y.pend a) with nextId := s.nextId + 1 }).andThen fun _ =>
      (xfront k false).andThen fun _ => XM.val (.val 0)) s

/-- QSTAT (R346). -/
def State.sysStat (s : State) (k n : Nat) : Word :=
  let y := s.system k
  word (match n with
    | 0 => s.blockField k 0 0 64
    | 1 => s.sysNow k
    | 2 => y.tl.getD inf64
    | 3 => s.blockField k 112 32 32
    | 4 => y.front.getD inf64
    | 5 => y.wake.length
    | 6 => y.heapMin
    | 7 => y.sample.getD inf64
    | 8 => s.blockField k 96 32 8
    | _ => 0)

/-- A part of a step whose access fault changes nothing and stops nothing. -/
def xtry (m : XM Unit) : XM Unit := fun s => match m s with
  | .error (.err _) => .ok ((), s)
  | r => r

/-- QSTOP (R347, R408): mode 1 discards replies owed and pending arrivals, and sends +∞ to every outbound peer it can read. -/
def xstop (k : Nat) (now : Bool) : XM XEnd := fun s =>
  let st := s.sysState k
  let y := s.system k
  if st = 5 ∨ (!now ∧ (st = 3 ∨ st = 6)) then .ok (.val 1, s)
  else
    let s := s.modSystem k fun y => { y with sample := none }
    if !now then
      let s := if y.opened.isSome then s.modSystem k fun y => { y with stopq := true } else s.setSysState k 3
      .ok (.val 0, s.sendStatus k (s.sysNow k) 0 3)
    else
      let links : XM (List (Nat × Nat) × List (Nat × Nat)) := fun s => match xlinks k s with
        | .error (.err _) => .ok (([], []), s)
        | r => r
      ((XM.each (fun i => xtry (xpend k false i)) y.wake).andThen fun _ => links.andThen fun l => XM.change fun s =>
        let s := l.2.foldl (fun s p => s.sendPeer k p.1 (some inf64) noArrival) s
        let s := s.modSystem k fun y => { y with
          opened := none, applied := [], wake := [], arrivals := [], stopq := false, front := some inf64 }
        (s.setSysState k 5).sendStatus k (s.sysNow k) 0 3).andThen (fun _ => XM.val (.val 0)) s

/-- The system a command names: none for QCFG. -/
def CrossCmd.place : CrossCmd → Option Nat
  | .cfg _ _ => none
  | .vset w _ => some (w.extractLsb' 0 16).toNat
  | .conv w _ => some (w.extractLsb' 0 16).toNat
  | .run w _ => some (w.extractLsb' 0 16).toNat
  | .slope w _ => some (w.extractLsb' 0 16).toNat
  | .sample w _ => some (w.extractLsb' 0 16).toNat
  | .inj w _ _ => some (w.extractLsb' 0 16).toNat
  | .stat w _ => some (w.extractLsb' 0 16).toNat
  | .stop w _ => some (w.extractLsb' 0 16).toNat

/-- The step of a command (R325 to R347): a system not configured, or of another ASID, is refused; QSTAT reads 0 of the former. -/
def xcommand (o : CrossOp) : XM XEnd := fun s =>
  let core := coreOf o.tid
  let var := fun w : Word => (w.extractLsb' 16 20).toNat
  match o.cmd, o.cmd.place with
  | .cfg free va, _ => xcfg o.asid o.user core free va s
  | _, none => .ok (.trap 7 2, s)
  | c, some k =>
    match afind s.systems k with
    | none => match c with
      | .stat _ _ => .ok (.val 0, s)
      | _ => .ok (.trap 7 2, s)
    | some y =>
      if y.asid ≠ o.asid then .ok (.trap 7 2, s)
      else match c with
        | .vset w off => xvset k (var w) (leNat (s.spadRead core off 32)) s
        | .conv w p => xconv k (var w) p s
        | .run _ tl => xrunTo k tl.toNat s
        | .slope w g => xslope k ((s.thread o.tid).card.any (·.copy.isSome)) w g s
        | .sample _ t => xsampleAsk k t.toNat s
        | .inj w v t => xinj k (var w) (v.extractLsb' 0 32).toNat t.toNat s
        | .stat _ n => .ok (.val (s.sysStat k n.toNat), s)
        | .stop _ m => xstop k (m == 1) s
        | .cfg _ _ => .ok (.trap 7 2, s)

/-- Whether the release of a command has been made (R325, R348, R357). -/
def State.crossReleased (s : State) (o : CrossOp) : Bool := match o.rel with
  | some sc => s.releasedBefore o.tid sc o.id && (sc != 3 || o.openAt.any (s.acknowledged o.tid))
  | none => true

/-- A command with a release at SYS whose earlier stores have drained notes the posted writes that are open then (R357). -/
def State.crossMark (s : State) (o : CrossOp) : State × CrossOp :=
  if o.rel == some 3 && o.openAt.isNone && s.releasedBefore o.tid 2 o.id then
    let o' : CrossOp := { o with openAt := some s.nextId }
    ({ s with xops := s.xops.map (fun q => if q.id = o.id then o' else q), nextId := s.nextId + 1 }, o')
  else (s, o)

/-- The system whose order a command takes (R325): QCFG's is named by its block, once its release has been made and the page is there; a block
that cannot be reached names none. -/
def State.crossPlace (s : State) (o : CrossOp) : Option Nat :=
  match o.cmd with
  | .cfg _ va =>
    if !s.crossReleased o then none
    else match (s.translate (coreOf o.tid) o.asid va { r := true } o.user).2 with
      | .absent => none
      | .fault _ => some (2 ^ 16)
      | .ok pa => match s.locate pa with
        | .mem a => some (sysPlace (dieOfAddr a) (field (s.readVal a 8) 44 14))
        | _ => some (2 ^ 16)
  | c => c.place

/-- Whether an earlier command of the same thread set to the same system is still to be performed (R325); one whose system cannot be told yet
counts as such. -/
def State.crossBlocked (s : State) (o : CrossOp) : Bool :=
  (s.xops.takeWhile fun q => q.id != o.id).any fun q => q.tid == o.tid && match s.crossPlace q, s.crossPlace o with
    | some a, some b => a == b
    | _, _ => true

/-- Ends a command with its result. -/
def State.endCross (s : State) (o : CrossOp) (r : XEnd) : State :=
  let s := State.sysDone { s with xops := s.xops.filter fun q => q.id != o.id } o.tid (o.rel.getD 0)
  match r with
  | .val w => s.giveOut o.tid o.id [w]
  | .trap c v => s.failOut o.tid o.id c (word v)

/-- Performs a crossing command whose release is made and that no earlier one of its thread set to its system precedes (R325); an
access fault of the system stops the system, and the command meets it in STATE ERROR (R408). -/
def State.crossTry (s : State) (id : Nat) : Option State :=
  match s.xops.find? fun o => o.id == id with
  | none => none
  | some o =>
    let out := (s.crossPlace o).any fun k => (s.die (k / 16384)).engineOut
    let m := s.crossMark o
    let marked := m.2.openAt != o.openAt
    let s := m.1
    let o := m.2
    if s.engParked id || !s.crossReleased o || s.crossBlocked o || out then (if marked then some s else none)
    else
      let key := 2 ^ 52 + (s.crossPlace o).getD 0
      let s := s.answerIn id key
      let released (s : State) : State := (s.releaseIn (.command o.tid id) o.rel key).cover o.tid id
      match xcommand o s with
      | .ok (r, s) => some ((released s).endCross o r)
      | .error (.park va kind) => some (s.parkAccess o.tid (some id) o.asid va kind)
      | .error (.err c) =>
        let s := s.sysError (o.cmd.place.getD 0) c
        match xcommand o s with
        | .ok (r, s) => some ((released s).endCross o r)
        | .error _ => some (s.endCross o (.val 0))

/-- Issues a crossing command (R324 to R326): it is performed at once when nothing holds it, and else before its return. -/
def State.crossIssue (s : State) (rd : Option (BitVec 5)) (acq rel : Option (BitVec 2)) (c : CrossCmd) : State :=
  if s.acquiring s.cur then s
  else
    let r := s.newId
    let s := (r.2.entrust s.cur r.1 rel).addOut s.cur { id := r.1, kind := .crossing, regs := rd.toList, vals := none, acq := acq }
    let o : CrossOp := { id := r.1, tid := s.cur, asid := s.th.asid, user := !s.th.steward, cmd := c, rel := rel }
    let s := State.retire { s with xops := s.xops ++ [o] }
    (s.crossTry r.1).getD s

/-- Reserved bits of a system word, a variable word and a reply word (R317). -/
def sysWordBad (w : Word) : Bool := w.extractLsb' 16 48 != 0
def varWordBad (w : Word) : Bool := w.extractLsb' 36 28 != 0

/-- QRUN (R329). -/
def execQrun (sem scope : BitVec 2) (rd rs1 rs2 : BitVec 5) (s : State) : Res :=
  plain s [rd, rs1, rs2] fun s =>
    s.checked [(sysWordBad (s.rx rs1), 7, 1), ((v64 (s.rx rs2).toNat).isNan, 7, 4)] fun s =>
      s.crossIssue (some rd) none (relOf sem scope) (.run (s.rx rs1) (s.rx rs2))
/-- QSLOPE (R335). -/
def execQslope (sem scope : BitVec 2) (rd rs1 rs2 : BitVec 5) (s : State) : Res :=
  plain s [rd, rs1, rs2] fun s => s.crossIssue (some rd) none (relOf sem scope) (.slope (s.rx rs1) (s.rx rs2))
/-- QSAMPLE (R340). -/
def execQsample (sem scope : BitVec 2) (rd rs1 rs2 : BitVec 5) (s : State) : Res :=
  plain s [rd, rs1, rs2] fun s =>
    s.checked [(sysWordBad (s.rx rs1), 7, 1), ((v64 (s.rx rs2).toNat).isNan, 7, 4)] fun s =>
      s.crossIssue (some rd) none (relOf sem scope) (.sample (s.rx rs1) (s.rx rs2))
/-- QINJ (R345): rd is a source. -/
def execQinj (sem scope : BitVec 2) (rd rs1 rs2 : BitVec 5) (s : State) : Res :=
  plain s [rd, rs1, rs2] fun s =>
    s.checked [(varWordBad (s.rx rs1), 7, 1),
        ((v64 (s.rx rs2).toNat).isNan || !(v32 ((s.rx rd).extractLsb' 0 32).toNat).finite, 7, 4)] fun s =>
      s.crossIssue none none (relOf sem scope) (.inj (s.rx rs1) (s.rx rd) (s.rx rs2))
/-- QCFG (R326): a release and an acquire at PKG scope, as those that follow. -/
def execQcfg (rd rs1 rs2 : BitVec 5) (s : State) : Res :=
  plain s [rd, rs1, rs2] fun s =>
    if (s.rx rs1).toNat % 128 ≠ 0 then s.trapHere 1 (s.rx rs1)
    else s.checked [(decide (1 < (s.rx rs2).toNat), 7, 1)] fun s =>
      s.crossIssue (some rd) (some 2) (some 2) (.cfg (s.rx rs2 == 1) (s.rx rs1))
/-- QVSET (R327). -/
def execQvset (rd rs1 rs2 : BitVec 5) (s : State) : Res :=
  plain s [rd, rs1, rs2] fun s =>
    let off := ((s.rx rs2).extractLsb' 0 20).toNat
    s.checked [(off % 8 != 0, 1, off), (varWordBad (s.rx rs1), 7, 1)] fun s =>
      s.crossIssue (some rd) (some 2) (some 2) (.vset (s.rx rs1) off)
/-- QSTAT (R346). -/
def execQstat (rd rs1 rs2 : BitVec 5) (s : State) : Res :=
  plain s [rd, rs1, rs2] fun s =>
    s.checked [(sysWordBad (s.rx rs1), 7, 1)] fun s => s.crossIssue (some rd) (some 2) (some 2) (.stat (s.rx rs1) (s.rx rs2))
/-- QSTOP (R347). -/
def execQstop (rd rs1 rs2 : BitVec 5) (s : State) : Res :=
  plain s [rd, rs1, rs2] fun s =>
    s.checked [(sysWordBad (s.rx rs1) || decide (1 < (s.rx rs2).toNat), 7, 1)] fun s =>
      s.crossIssue (some rd) (some 2) (some 2) (.stop (s.rx rs1) (s.rx rs2))
/-- QCONV (R328). -/
def execQconv (rd rs1 rs2 : BitVec 5) (s : State) : Res :=
  plain s [rd, rs1, rs2] fun s =>
    s.checked [(varWordBad (s.rx rs1) || (s.rx rs2).extractLsb' 32 31 != 0, 7, 1)] fun s =>
      s.crossIssue (some rd) (some 2) (some 2) (.conv (s.rx rs1) (s.rx rs2))

end Sys2Proof.Machine
end

