-- ==== Sys2Proof/Machine/Fabric.lean ====
section
/-! DEFINITION. The Tamgon fabric (R354 to R358, R375), the links of the package (R270, R271), and collectives with the newel (R359
to R374). -/

namespace Sys2Proof.Machine

/-- A free bit (log 2): whether something not decided by the manual holds. -/
def State.toss (s : State) : Bool × State := let r := s.freeWord; (r.1.getLsbD 0, r.2)

/-- PFLUSH (R358): counts the open posted writes of the thread set at its retirement. -/
def execPflush (rd : BitVec 5) (s : State) : Res :=
  plain s [rd] fun s =>
    if !s.niReady then s
    else
      let ids := (s.posted.filter fun p => p.tid == s.cur).map (·.id) ++
        ((s.bankPosts s.cur).map (·.id)).filter fun i => s.posted.all (·.id != i)
      let r := s.newId
      let s := r.2.addOut s.cur { id := r.1, kind := .fabric, regs := [rd], vals := none, acq := none }
      let f : Flush := { id := r.1, tid := s.cur, count := ids.length, left := ids, lost := s.th.lost }
      let s := s.modTh fun t => { t with lost := none }
      (State.retire { s with flushes := s.flushes ++ [f] }).settleFlushes

/-- Adds bytes to ARRIVED of a barrier object, and sets ERR if the command failed (R257, R261). -/
def State.arriveObj (s : State) (w : Writer) (a n : Nat) (err : Bool) : State :=
  let v := s.readVal (a + 8) 8
  let e := if err then 2 ^ 63 else v / 2 ^ 63 * 2 ^ 63
  if s.inLocket (a + 8) 8 then s else s.store w (a + 8) (leBytes ((v + n) % 2 ^ 63 + e) 8)

/-- The bytes that a posted write accesses. -/
def postedSize : PostedWrite → Nat
  | .bytes d _ => d.length
  | .atomic _ m _ _ => modeWidth m / 8
  | .count _ _ => 16
  | _ => 64

/-- Another package's write at a local address: bytes with their marks (R271), a count (R378), an atomic or a queue step (R283, R286). -/
def State.foreignWrite (s : State) (a src : Nat) (w : PostedWrite) : State :=
  let p : Party := .outside src
  match w with
  | .bytes d bad => s.storeMarked p a (d.zipIdx.map fun b => (b.1, bad.contains b.2))
  | .count n err => s.arriveObj (.engine p) a n err
  | .atomic op m v e => if inGallery a then (s.bankAtomicAt (.engine p) a op m v e).2 else s
  | .push v asid rel => if !inGallery a || queueBad (s.descriptor a) then s else (s.queueStep p a false (some (v, asid, rel))).1
  | .pop => if !inGallery a || queueBad (s.descriptor a) then s else (s.queueStep p a true none).1

/-- POSTED_WRITE_ARRIVAL (R283, R286, R355): another package's write is performed here; one that meets a locket or a held line is
refused, and a core's port that takes no packet holds it (R245).  What its sender has released at SYS it carries (R69, R377). -/
def State.postedArrival (s : State) (pa src : Nat) (covers : List Nat) (w : PostedWrite) : Option State :=
  match s.locate pa (postedSize w) with
  | .mem a =>
    if pa / 2 ^ 40 ≠ s.chipno || s.portShut Config.cores a then none
    else if s.inLocket a (postedSize w) || s.isHeld a (postedSize w) then some s
    else
      let s := (s.covering src covers).foreignWrite a src w
      some (if covers.isEmpty then s else s.releaseAt (.outside src) 3 pa (postedSize w))
  | _ => none
def execPostedWriteArrival (pa : Nat) (w : ForeignWrite) (s : State) : Res := event s (s.postedArrival pa w.src w.covers w.w)

/-- Whether a gallery command is a queue step (R286). -/
def BankKind.steps : BankKind → Bool
  | .atomic .. => false
  | _ => true

/-- What the word that comes back from another package gives a gallery command (R279, R287): an old value of the atomic's width, a push's
status, or a popped value. -/
def BankOp.answer (o : BankOp) (w : Word) : Word := match o.kind with
  | .atomic op m _ _ => atomicReturn op m (w.toNat % 2 ^ modeWidth m)
  | .push _ => word (w.toNat % 3)
  | .pop => w

/-- POSTED_WRITE_ACK (R355): the acknowledgement has returned to the issuing core; a gallery command of another package's word gives
a value the other package decides, or, of a queue there whose descriptor is malformed, cause 7 (R285, log 2). -/
def State.postedAck (s : State) (id : Nat) : Option State :=
  match s.posted.find? fun p => p.id == id with
  | none => none
  | some p =>
    let s := s.closePosted id none
    some (match p.cmd.bind fun c => s.bank.find? fun o => o.id == c with
      | some o =>
        let r := s.freeWord
        let q := r.2.toss
        if o.kind.steps && q.1 then (q.2.failOut o.tid o.id 7 2).leaveBank o.id
        else ((if o.kind.steps then q.2 else r.2).giveOut o.tid o.id [o.answer r.1]).leaveBank o.id
      | none => s)
def execPostedWriteAck (id : Nat) (s : State) : Res := event s (s.postedAck id)

/-- A value of `size` bytes as a load gives it. -/
def extend (signed : Bool) (size : Nat) (v : Nat) : Word :=
  match size, signed with
  | 1, true => sext (BitVec.ofNat 8 v)
  | 2, true => sext (BitVec.ofNat 16 v)
  | 4, true => sext (BitVec.ofNat 32 v)
  | _, _ => word (v % 2 ^ (8 * size))

/-- REMOTE_LOAD_REPLY (R283, R355): a load of another package's memory or a returning atomic there, which may be an acquire (R282), or a gallery command there, returns its value. -/
def State.remoteReply (s : State) (id : Nat) (val : Word) : Option State :=
  match s.threads.find? fun p => p.2.remote.any fun r => r.id == id with
  | some (tid, t) =>
    t.remote.map fun r =>
      s.setThread tid { (t.wx r.rd (extend r.signed r.size val.toNat)).retireTo (t.pc + 4) with remote := none, park := t.park || r.park }
  | none =>
    match s.bank.find? fun o => o.id == id && o.sent with
    | some o =>
      let s := (s.posted.filter fun p => p.cmd == some id).foldl (fun s p => s.closePosted p.id none) s
      some ((s.giveOut o.tid id [o.answer val]).leaveBank id)
    | none => none
def execRemoteLoadReply (id : Nat) (val : Word) (s : State) : Res := event s (s.remoteReply id val)

/-- A link's state. -/
def State.link (s : State) (l : Nat) : LinkState := aget {} s.links l
/-- Changes a link's state. -/
def State.modLink (s : State) (l : Nat) (f : LinkState → LinkState) : State := { s with links := aput s.links l (f (s.link l)) }
/-- A Tamgon link. -/
def State.tlink (s : State) (k : Nat) : TLink := aget {} s.tlinks k
/-- Changes a Tamgon link. -/
def State.modTlink (s : State) (k : Nat) (f : TLink → TLink) : State := { s with tlinks := aput s.tlinks k (f (s.tlink k)) }
/-- Link numbers (R270): 0 to 5 and 32 to 49. -/
def linkOk (l : Nat) : Bool := decide (l < 6 ∨ (32 ≤ l ∧ l < 50))

/-- A link retrains (R270). -/
def State.retrain (s : State) (l : Nat) : State :=
  let s := s.modLink l fun x => { x with retrain := true, since := s.time, crc := 0 }
  if 32 ≤ l then s.modTlink (l - 32) fun x => { x with state := 1 } else s

/-- FLIT_CRC_FAILURE (R271): the flit is replayed; sixteen successive failures of one flit make the link retrain.  Whether it is the flit that
failed last is a free choice (log 45). -/
def State.crcFailure (s : State) (l : Nat) : Option State :=
  if !linkOk l || (s.link l).down || (s.link l).retrain then none
  else
    let r := s.toss
    let n := if r.1 then (s.link l).crc + 1 else 1
    some (if 16 ≤ n then r.2.retrain l else r.2.modLink l fun x => { x with crc := n })
def execFlitCrcFailure (link : Nat) (s : State) : Res := event s (s.crcFailure link)

/-- LINK_LOSS (R270). -/
def State.linkLoss (s : State) (l : Nat) : Option State :=
  if !linkOk l || (s.link l).down || (s.link l).retrain then none else some (s.retrain l)
def execLinkLoss (link : Nat) (s : State) : Res := event s (s.linkLoss link)

/-- LINK_RETRAINED (R270): replays are in order and none is delivered twice. -/
def State.linkRetrained (s : State) (l : Nat) : Option State :=
  if !linkOk l || !(s.link l).retrain then none
  else
    let s := s.modLink l fun _ => {}
    some (if 32 ≤ l then s.modTlink (l - 32) fun x => { x with state := if x.same then 1 else 2 } else s)
def execLinkRetrained (link : Nat) (s : State) : Res := event s (s.linkRetrained link)

/-- LINK_TRAINED (R354): a link whose peer answers trains, and then is trained; and again after it was down. -/
def State.linkTrained (s : State) (k : Nat) : Option State :=
  if Config.tamgonLinks ≤ k || (s.tlink k).state == 2 || (s.tlink k).same || (s.link (32 + k)).retrain then none
  else some ((s.modLink (32 + k) fun _ => {}).modTlink k fun x => { x with state := if x.state = 0 then 1 else 2 })
def execLinkTrained (k : Nat) (s : State) : Res := event s (s.linkTrained k)

/-- PEER_EXCHANGE (R354): a peer with the same CHIP holds the link in STATE 1. -/
def State.peerExchange (s : State) (k : Nat) (peer : BitVec 12) (plink : BitVec 5) : Option State :=
  if Config.tamgonLinks ≤ k || (s.tlink k).state != 2 || s.podLast.isNone then none
  else some (s.modTlink k fun x =>
    { x with
      peer := peer, plink := plink, met := true, state := if peer.toNat = s.chipno then 1 else x.state, same := peer.toNat == s.chipno })
def execPeerExchange (k : Nat) (peer : BitVec 12) (plink : BitVec 5) (s : State) : Res := event s (s.peerExchange k peer plink)

/-- The dies that a die link joins (R270). -/
def linkDies : Nat → Nat × Nat
  | 0 => (0, 1)
  | 1 => (0, 2)
  | 2 => (0, 3)
  | 3 => (1, 2)
  | 4 => (1, 3)
  | _ => (2, 3)

/-- The link that joins two dies. -/
def linkOf (d e : Nat) : Nat := ((List.range 6).find? fun l => linkDies l == (min d e, max d e)).getD 6

/-- Whether traffic between two dies may use a die link (R268): their own; or, where that is down, one of a path through a third die. -/
def State.crosses (s : State) (l d e : Nat) : Bool :=
  let down (k : Nat) : Bool := k != l && (s.link k).down
  decide (l < 6) && d != e &&
  (if down (linkOf d e) then (List.range 4).any fun x =>
      x != d && x != e && !down (linkOf d x) && !down (linkOf x e) && (l == linkOf d x || l == linkOf x e)
    else l == linkOf d e)

/-- The die that an address of a command leads to, as far as it can be told. -/
def State.peekDie (s : State) (core : Nat) (asid : BitVec 16) (va : Word) : Option Nat :=
  match (s.reachAs core asid false va 1 { r := true }).2 with
  | .at_ (.mem a) _ _ => some (dieOfAddr a)
  | _ => none

/-- Whether a command of a thread set to an address crosses a link that is declared down: a die link between the two dies, or for a
Tamgon link any address of another package. -/
def State.onLink (s : State) (l tid : Nat) (asid : BitVec 16) (va : Word) : Bool :=
  if l < 6 then
    match s.peekDie (coreOf tid) asid va with
    | some d => s.crosses l (dieOf (coreOf tid)) d
    | none => false
  else match (s.reachAs (coreOf tid) asid false va 1 { r := true }).2 with
    | .at_ (.far _) _ _ => true
    | _ => false

/-- Acts on an element if it may be on the link and a free choice says that it is. -/
def State.ifOn (s : State) (may : Bool) (f : State → State) : State :=
  if may then let r := s.toss; if r.1 then f r.2 else r.2 else s

/-- Messages and RWRs committed to a link that is declared down (R270): cause 12, delivered in their order (R266) or not. -/
def State.loseSends (s : State) (l : Nat) : State :=
  s.net.foldl (fun s p => match p.tid with
    | none => s
    | some t =>
      let may := if l < 6 then p.pkg == s.chipno && s.crosses l (dieOf (coreOf t)) (dieOf p.core) else p.pkg != s.chipno
      s.ifOn may fun s =>
        let r := s.toss
        let s := if r.1 && p.pkg == s.chipno && r.2.maySend p then (r.2.arrive p.core p).getD r.2 else r.2
        (s.leaveNet p).sendFails p l) s

/-- Gallery, bead and crossing commands committed to a die link (R270): cause 12. -/
def State.loseBank (s : State) (l : Nat) : State :=
  let s := s.bank.foldl (fun s o => s.ifOn (decide (l < 6) && o.arr.isNone && !o.sent && !s.engParked o.id && s.onLink l o.tid o.asid o.addr)
    fun s => (s.failOut o.tid o.id 12 (word l)).leaveBank o.id) s
  let s := s.beadOps.foldl (fun s o => s.ifOn (!s.engParked o.id && s.onLink l o.tid o.asid o.va) fun s =>
    { s with beadOps := s.beadOps.filter fun q => q.id != o.id }.failOut o.tid o.id 12 (word l)) s
  s.xops.foldl (fun s o =>
    let may := !s.engParked o.id && (s.crossPlace o).any fun k => s.crosses l (dieOf (coreOf o.tid)) (k / 2 ^ 14)
    s.ifOn may fun s => { s with xops := s.xops.filter fun q => q.id != o.id }.failOut o.tid o.id 12 (word l)) s

/-- The addresses that the head command of a channel reads or, over a die link, writes next (R255, R263, R264); its posted writes are lost
each for itself. -/
def State.copyAddrs (s : State) (core l : Nat) (c : CopyCmd) : List Word :=
  match c.kind.index with
  | some (scatter, idx, z, desc) =>
    if scatter && !decide (l < 6) then []
    else (((List.range' (c.done / z) ((c.len - c.done) / z)).filter fun n => match afind c.ahead n with
      | none => true
      | some (.at_ va) => !s.engParkedAt c.id va
      | some _ => false).map fun n => s.elementAddr core c idx z n desc)
  | none => [c.src + word (c.done + c.part.length)] ++ (match c.kind with
    | .copy => if l < 6 then [c.dst + word c.done] else []
    | _ => [])

/-- The command of a channel with a packet on a link that is down ends with cause 12 (R270). -/
def State.cutCopy (s : State) (core id l : Nat) : State :=
  let cut (d : CopyCmd) : CopyCmd := if d.id = id then { d with fault := some (12, word l) } else d
  s.modCore core fun k => { k with copies := k.copies.map fun y => (y.1, { y.2 with q := y.2.q.map cut }) }

/-- Copies, gathers and scatters with a packet on the link (R270). -/
def State.loseCopies (s : State) (l : Nat) : State :=
  s.cores.foldl (fun s p => p.2.copies.foldl (fun s x => match x.2.q with
    | [] => s
    | c :: _ =>
      let may := decide (c.done < c.len) && !(c.kind.index.isNone && s.engParked c.id) && (s.copyAddrs p.1 l c).any fun va => s.onLink l (4 * p.1) c.asid va
      s.ifOn may fun s => s.cutCopy p.1 c.id l) s) s

/-- A gather into a register or a scatter from one ends with cause 12 (R270): its other lanes are not accessed. -/
def State.cutLanes (s : State) (tid id l : Nat) : State :=
  let cut (k : LaneJob) : LaneJob := if k.id = id then { k with lanes := [] } else k
  (s.report tid 12 (word l)).modThread tid fun t => { t with jobs := t.jobs.map cut }

/-- Gathers into registers and scatters from them with a lane on the link (R270). -/
def State.loseLanes (s : State) (l : Nat) : State :=
  s.threads.foldl (fun s p => p.2.jobs.foldl (fun s j =>
    s.ifOn (j.begun && (decide (l < 6) || !j.store) && j.lanes.any fun x => !s.engParkedAt j.id x.2.1 && s.onLink l p.1 p.2.asid x.2.1) fun s =>
      s.cutLanes p.1 j.id l) s) s

/-- Crossing systems whose packets the link carried (R325). -/
def State.loseSystems (s : State) (l : Nat) : State :=
  let s := s.xnet.foldl (fun s p =>
    let k := p.src / 2 ^ 36 % 2 ^ 16
    s.ifOn (s.crosses l (k / 16384) (p.dst / 16384) && (afind s.systems k).isSome && s.sysState k != 5 && s.sysState k != 6)
      fun s => s.sysError k 5) s
  if l < 6 then s
  else s.systems.foldl (fun s p =>
    let far := match xlinks p.1 s with
      | .ok (x, _) => (x.1 ++ x.2).any fun e => e.1 / 2 ^ 52 != s.chipno
      | .error _ => false
    s.ifOn (far && s.sysState p.1 == 1) fun s => s.sysError p.1 5) s

/-- A link that has not retrained within 1 ms, 700 000 ticks of time (R21), is down (R270): commands with a packet on it complete with cause 12. -/
def State.linkDown (s : State) (l : Nat) : Option State :=
  if !linkOk l || !(s.link l).retrain || decide (s.time < (s.link l).since + 700000) then none
  else
    let s := s.modLink l fun _ => { down := true }
    let s := if 32 ≤ l then s.modTlink (l - 32) fun x => { x with state := 0 } else s
    some (((((s.loseSends l).loseBank l).loseCopies l).loseLanes l).loseSystems l)

/-- The word `i` of a collective block (R360). -/
def CLive.w (c : CLive) (i : Nat) : Nat := (c.block.getD i 0).toNat
/-- Fields of a collective block (R360). -/
def CLive.op (c : CLive) : Nat := field (c.w 3) 0 4
def CLive.fmt (c : CLive) : Nat := field (c.w 3) 4 5
def CLive.count (c : CLive) : Nat := field (c.w 4) 0 32
def CLive.root (c : CLive) : Nat := field (c.w 4) 32 12
def CLive.base (c : CLive) : Nat := field (c.w 5) 0 12
def CLive.stride (c : CLive) : Nat := field (c.w 5) 12 12
def CLive.members (c : CLive) : Nat := field (c.w 5) 24 13
/-- The shared fields as a number (R365). -/
def CLive.shared (c : CLive) : Nat := c.w 3 + 2 ^ 64 * (c.w 4) + 2 ^ 128 * (c.w 5)
/-- The packages of a group by its shared fields, in rank order (R360). -/
def ranksOf (shared : Nat) : List Nat :=
  (List.range (field shared 152 13)).map fun i => field shared 128 12 + i * field shared 140 12
/-- The size of an element (R361). -/
def CLive.elem (c : CLive) : Nat := codeWidth c.fmt / 8
/-- The rank of a package in the group. -/
def CLive.rank (c : CLive) (pkg : Nat) : Nat := (pkg - c.base) / max c.stride 1
/-- Bytes of SRC and of DST at a rank (R361). -/
def CLive.srcLen (c : CLive) (i : Nat) : Nat :=
  match c.op with
  | 0 => 0
  | 1 => if i = c.root then c.count * c.elem else 0
  | 6 => c.members * c.count * c.elem
  | _ => c.count * c.elem
def CLive.dstLen (c : CLive) : Nat :=
  match c.op with
  | 0 => 0
  | 5 => c.members * c.count * c.elem
  | _ => c.count * c.elem

/-- The package's domain is enabled (R359). -/
def State.inDomain (s : State) : Bool := s.coldom.getLsbD 63
/-- The newel and the standby that COLDOM names; after a takeover the former standby is the newel (R374). -/
def State.standby (s : State) : Nat := (s.coldom.extractLsb' 12 12).toNat
def State.newel (s : State) : Nat := if s.ctaken then s.standby else (s.coldom.extractLsb' 0 12).toNat
/-- Whether this package is the newel now. -/
def State.amNewel (s : State) : Bool := s.inDomain && s.newel == s.chipno
/-- Whether the domain has no standby (R359, R374). -/
def State.noStandby (s : State) : Bool := s.ctaken || s.standby == (s.coldom.extractLsb' 0 12).toNat

/-- What only a newel's standby is told: where both are one package there is no standby and no replica (R359). -/
def CKind.toStandby : CKind → Bool
  | .replica _ => true
  | .heartbeat => true
  | .finished => true
  | .setup => true
  | _ => false

/-- Sends a message of the domain; one to another package leaves the model. -/
def State.tell (s : State) (pkg : Nat) (key : Word) (num : Nat) (kind : CKind) : State :=
  if pkg ≠ s.chipno || kind.toStandby then s
  else { s with cmsgs := s.cmsgs ++ [{ id := s.nextId, src := s.chipno, dom := s.coldom, key := key, num := num, kind := kind }], nextId := s.nextId + 1 }

/-- Takes the message of an event. -/
def State.message (s : State) (id : Nat) (ok : CKind → Bool) : Option CMsg := s.cmsgs.find? fun m => m.id == id && ok m.kind
/-- A message has arrived. -/
def State.heard (s : State) (id : Nat) : State := { s with cmsgs := s.cmsgs.filter fun m => m.id != id }

/-- Changes a live slot. -/
def State.modSlot (s : State) (i : Nat) (f : CLive → CLive) : State :=
  { s with cslots := s.cslots.map fun p => if p.1 = i then (p.1, f p.2) else p }
/-- The generation of a slot (R364). -/
def State.cgen (s : State) (i : Nat) : Nat := aget 0 s.cgens i
/-- The handle of a slot (R364). -/
def State.handleOf (s : State) (i : Nat) : Word := word (s.cgen i * 256 + i)
/-- The slot of a valid handle (R364, R368). -/
def State.slotOf (s : State) (h : Word) (asid : BitVec 16) : Option (Nat × CLive) :=
  let i := (h.extractLsb' 0 8).toNat
  match afind s.cslots i with
  | some c => if h = s.handleOf i ∧ c.asid = asid then some (i, c) else none
  | none => none

/-- A slot finishes with a status, and its KIND 6 packet is sent (R367). -/
def State.finishSlot (s : State) (i status : Nat) (trap : Option (BitVec 6 × Word)) : State :=
  match afind s.cslots i with
  | none => s
  | some c =>
    let s := s.modSlot i fun c => { c with state := 4, status := status, trap := trap, data := [] }
    let w := c.block.getD 6 0
    if w.getLsbD 35 then
      s.sendTagged 6 none (coreOf c.tid) (w.extractLsb' 36 6).toNat c.asid
        (leBytes c.key.toNat 8 ++ leBytes (s.handleOf i).toNat 8 ++ leBytes (c.num.getD 0) 4 ++ leBytes status 4 ++ leBytes 0 8) none (.unit_ (dieOf (coreOf c.tid)))
    else s

/-- The finished numbers that may still be compared (R373): those within 2^30 behind the latest. -/
def recent (num : Nat) (l : AMap Nat) : AMap Nat :=
  l.filter fun p => decide ((num + 2 ^ 32 - p.1) % 2 ^ 32 ≤ 2 ^ 30 ∨ 2 ^ 31 < (num + 2 ^ 32 - p.1) % 2 ^ 32)

/-- The trap that a status raises at the CWAIT (R368): a status 2 whose link another member met has a free link number. -/
def State.fate (s : State) (status : Nat) (trap : Option (BitVec 6 × Word)) : Option (BitVec 6 × Word) × State :=
  if status = 2 then let r := s.freeWord; (trap <|> some (12, r.1), r.2) else (trap, s)

/-- A number finishes at this package (R367): its slot, its report to the newel. -/
def State.finishNum (s : State) (num status : Nat) (trap : Option (BitVec 6 × Word)) : State :=
  let r := s.fate status trap
  let trap := r.1
  let s := r.2
  let key := match s.cnums.find? fun n => n.num == num with
    | some n => n.key
    | none => 0
  let n : CNum := { num := num, key := key, skip := some status }
  let s : State := { s with
    cnums := s.cnums.filter (fun n => n.num != num), cfin := recent num (aput s.cfin num status), creports := s.creports ++ [n] }
  let s := match s.cslots.find? fun p => p.2.num == some num && p.2.state != 4 with
    | some (i, _) => s.finishSlot i status trap
    | none => s
  s.tell s.newel key num .report

/-- A precedes b in serial-number arithmetic (R367). -/
def precedes (a b : Nat) : Bool :=
  let d := (b + 2 ^ 32 - a) % 2 ^ 32
  decide (1 ≤ d ∧ d < 2 ^ 31)

/-- The first of the numbers notified and not finished here (R367). -/
def State.firstNum (s : State) : Option CNum :=
  s.cnums.foldl (fun r n => match r with
    | none => some n
    | some m => if precedes n.num m.num then some n else some m) none

/-- Reserved bits of a collective block (R360). -/
def collReserved (b : List Word) : Bool :=
  let w := fun i : Nat => (b.getD i 0).toNat
  field (w 3) 9 55 != 0 || field (w 4) 44 20 != 0 || field (w 5) 37 27 != 0 || field (w 6) 0 35 != 0 || field (w 6) 42 22 != 0 || w 7 != 0

/-- Formats an operation accepts (R361). -/
def collFmts : Nat → List Nat
  | 0 => [0]
  | 1 => [0, 1, 2, 3, 5, 6, 7, 8, 9]
  | 5 => [0, 1, 2, 3, 5, 6, 7, 8, 9]
  | 2 => [0, 1, 8, 9]
  | 3 => [0, 1, 8, 9]
  | 4 => [0, 1, 8, 9]
  | 6 => [0, 1, 8, 9]
  | _ => []

/-- OP, FMT, COUNT, ROOT, the group and the ranges outside their limits (R361, R365). -/
def collWrong (c : CLive) (pkg : Nat) : Bool :=
  let n := c.srcLen (c.rank pkg)
  let m := c.dstLen
  !(collFmts c.op).contains c.fmt || (c.op == 0 && c.count != 0) || (if c.op = 1 then decide (c.members ≤ c.root) else c.root != 0) ||
  c.members == 0 || decide (4096 < c.members) || (decide (1 < c.members) && c.stride == 0) || decide (2 ^ 35 < n ∨ 2 ^ 35 < m) ||
  (decide (0 < n ∧ 0 < m) && meets (c.w 1) n (c.w 2) m)

/-- The lowest free slot (R364). -/
def State.freeSlot (s : State) : Option Nat := (List.range 256).find? fun i => (afind s.cslots i).isNone

/-- Takes a slot for a block and sends its registration (R365, R366): a kept notice numbers it at once. -/
def State.takeSlot (s : State) (i : Nat) (c : CLive) : State :=
  let kept := s.cnums.find? fun n => n.key == c.key
  let c := match kept with
    | some n => { c with state := 2, num := some n.num }
    | none => c
  let s := { s with cgens := aput s.cgens i ((s.cgen i + 1) % 2 ^ 24), cslots := aput s.cslots i c }
  s.tell s.newel c.key 0 (.register c.shared)

/-- The release of a CSTART as its slot keeps it (R371). -/
def CollOp.release (o : CollOp) : Option (Party × BitVec 2) := o.rel.map fun sc => (.command o.tid o.id, sc)

/-- The collective of a CSTART's block. -/
def CollOp.live (o : CollOp) : CLive :=
  { id := o.id, key := o.block.getD 0 0, asid := o.asid, user := o.user, block := o.block, state := 1, num := none, status := 0, joins := 1,
    tid := o.tid, trap := none, data := [], rels := o.release.toList }

/-- The step of a CSTART (R365): it joins the live slot of its key or takes a slot; its handle or a status comes back. -/
def State.collJoin (s : State) (o : CollOp) : State :=
  let c := o.live
  match s.cslots.find? fun p => p.2.key == c.key with
  | some (i, d) =>
    if d.asid = c.asid ∧ d.block = c.block then
      (s.modSlot i fun d => { d with joins := d.joins + 1, rels := d.rels ++ o.release.toList }).giveOut o.tid o.id [s.handleOf i]
    else s.giveOut o.tid o.id [cfgStatus 2]
  | none =>
    match s.freeSlot with
    | none => s.giveOut o.tid o.id [cfgStatus 1]
    | some i => let s := s.takeSlot i c; s.giveOut o.tid o.id [s.handleOf i]

/-- A CSTART whose release has been made makes its step (R365, R371). -/
def State.collTry (s : State) (id : Nat) : Option State :=
  match s.cops.find? fun o => o.id == id with
  | none => none
  | some o =>
    let s' : State := { s with cops := s.cops.filter fun q => q.id != id }
    match o.rel with
    | none => some (s'.collJoin o)
    | some sc => if s.releasedBefore o.tid sc id then some (((s'.releaseTo (.command o.tid id) sc id).collJoin o).sysDone o.tid sc) else none

/-- Whether the ranks of a group lie in the issuer's domain (R360, R365): the issuer, the newel and the standby do; of others their own COLDOM
says it, a free choice here (log 2). -/
def State.inDomainAll (s : State) (ranks : List Nat) : Bool × State :=
  if ranks.all fun r => r == s.chipno || r == (s.coldom.extractLsb' 0 12).toNat || r == s.standby then (true, s) else s.toss

/-- CSTART (R365): the block is read before it retires. -/
def execCstart (sem scope : BitVec 2) (rd rs1 : BitVec 5) (s : State) : Res :=
  plain s [rd, rs1] fun s =>
    let va := s.rx rs1
    if va.toNat % 64 ≠ 0 then s.trapHere 1 va
    else if !s.niReady then s
    else s.readBlock va 64 fun s b =>
      let r := s.newId
      let o : CollOp :=
        { id := r.1, tid := s.cur, asid := s.th.asid, user := !s.th.steward, block := cardWords b, rel := relOf sem scope }
      let c := o.live
      let z := max c.elem 1
      let ranks := ranksOf c.shared
      let d := r.2.inDomainAll ranks
      d.2.checked [(c.w 1 % z != 0, 1, c.w 1), (c.w 2 % z != 0, 1, c.w 2), (collReserved o.block, 7, 1), (collWrong c s.chipno, 7, 2),
          (!s.inDomain || !ranks.contains s.chipno || (ranks.any fun r => decide (4095 < r) || !s.inPod r) || !d.1, 7, 3)] fun s =>
        let s := ((s.entrust s.cur o.id o.rel).addOut s.cur { id := o.id, kind := .fabric, regs := [rd], vals := none, acq := none }).retire
        let s : State := { s with cops := s.cops ++ [o] }
        (s.collTry o.id).getD s

/-- The result word of CWAIT (R368). -/
def CLive.result (c : CLive) : Word := word (c.num.getD 0 * 2 ^ 32 + c.status)

/-- The acquire of a CWAIT that receives status 0 (R371): of what the releases of this package's CSTARTs cover, and then of the collective's own
writes (R68); what other packages' ones cover reaches it where their writes do. -/
def State.collAcquire (s : State) (tid : Nat) (scope : BitVec 2) (c : CLive) : State :=
  let l := (c.rels.filter fun p => synchronises p.1 p.2.toNat (.thread tid) scope.toNat).map (·.1)
  s.receive (.thread tid) fun p => l.contains p || (!l.isEmpty && p == .command c.tid c.id)

/-- CWAIT (R368). -/
def execCwait (sem scope : BitVec 2) (rd rs1 : BitVec 5) (s : State) : Res :=
  plain s [rd, rs1] fun s =>
    match s.slotOf (s.rx rs1) s.th.asid with
    | none => (s.wx rd 255).retire
    | some (i, c) =>
      if c.state ≠ 4 then s
      else
        let s := if c.joins ≤ 1 then { s with cslots := adel s.cslots i } else s.modSlot i fun c => { c with joins := c.joins - 1 }
        let s := if sem.getLsbD 0 && c.status == 0 then s.collAcquire s.cur scope c else s
        let s := (s.wx rd c.result).retire
        match c.trap with
        | some (k, v) => s.report s.cur k v
        | none => s

/-- CCANCEL (R369). -/
def execCcancel (rd rs1 : BitVec 5) (s : State) : Res :=
  plain s [rd, rs1] fun s =>
    match s.slotOf (s.rx rs1) s.th.asid with
    | none => (s.returnLater .fabric rd 255).retire
    | some (_, c) =>
      if c.state = 4 then (s.returnLater .fabric rd 1).retire
      else
        let s := match c.num with
          | none => s.tell s.newel c.key 0 .withdraw
          | some n => s.tell s.newel c.key n .cancel
        (s.returnLater .fabric rd 0).retire

/-- CSTAT (R370). -/
def State.collStat (s : State) (h : Word) (sel : Nat) : Word :=
  match sel with
  | 0 => match s.slotOf h s.th.asid with
    | none => 0
    | some (_, c) =>
      word (c.num.getD 0 * 2 ^ 32 + (if c.state = 4 then c.status * 2 ^ 16 else 0) + c.joins % 256 * 2 ^ 8 + c.state)
  | 1 =>
    if !s.inDomain then 0
    else
      let alone := s.noStandby
      word (s.newel + s.standby * 2 ^ 12) ||| bit s.amNewel 24 ||| bit (!alone && s.standby == s.chipno) 25 ||| bit s.ctaken 26 |||
        bit alone 27
  | 2 => match s.firstNum with
    | some n => word n.num
    | none => BitVec.allOnes 64
  | 3 => word (256 - s.cslots.length)
  | 4 => word (s.posted.filter (fun p => p.tid == s.cur)).length + word ((s.bankPosts s.cur).filter fun o => s.posted.all (·.id != o.id)).length
  | _ => 0
def execCstat (rd rs1 rs2 : BitVec 5) (s : State) : Res :=
  plain s [rd, rs1, rs2] fun s => (s.wx rd (s.collStat (s.rx rs1) (s.rx rs2).toNat)).retire

/-- Tells every member, and a registering package, a number or its fate (R366, R369). -/
def State.tellMembers (s : State) (shared : Nat) (also : List Nat) (key : Word) (num : Nat) (kind : CKind) : State :=
  ((ranksOf shared ++ also).eraseDups).foldl (fun s p => s.tell p key num kind) s

/-- Whether a new assignment must wait (R373). -/
def State.wrapWaits (s : State) : Bool := s.ckeys.any fun k => decide (2 ^ 30 < (s.cnext + 2 ^ 32 - k.num) % 2 ^ 32)

/-- COLLECTIVE_REGISTRATION (R366): the newel answers a registration, in arrival order; one whose sender's COLDOM differs waits (R359). -/
def State.registration (s : State) (id : Nat) : Option State :=
  match s.message id fun k => match k with
    | .register _ => true
    | _ => false with
  | some { src := src, key := key, dom := dom, kind := .register shared, .. } =>
    if !s.amNewel || dom != s.coldom then none
    else match s.ckeys.find? fun k => k.key == key with
      | some k =>
        if !k.acked then none
        else
          let s := s.heard id
          let s := if k.shared ≠ shared then
              State.tellMembers { s with ckeys := s.ckeys.map fun x => if x.key = key then { x with mismatched := true } else x }
                k.shared [src] key k.num (.skip 4)
            else s
          some (s.tell src key k.num .notice)
      | none =>
        if 65536 ≤ s.ckeys.length || s.wrapWaits || s.ckeys.any (fun k => !k.acked) then none
        else
          let n := s.cnext
          let k : CKey :=
            { key := key, shared := shared, num := n, mismatched := false, cancelled := false, acked := s.noStandby, reports := [] }
          let s := { s.heard id with ckeys := s.ckeys ++ [k], cnext := (n + 1) % 2 ^ 32 }
          some (if s.noStandby then s.tellMembers shared [src] key n .notice else s)
  | _ => none
def execCollectiveRegistration (id : Nat) (s : State) : Res := event s (s.registration id)

/-- REPLICATION_ACK (R366): the standby has the assignment; the newel answers and notifies.  One for no assignment that waits for it has no
effect. -/
def State.replicated (s : State) (id : Nat) : Option State :=
  match s.message id (· == .replicaAck) with
  | none => none
  | some m =>
    match s.ckeys.find? fun k => k.key == m.key && k.num == m.num && !k.acked with
    | none => some (s.heard id)
    | some k =>
      let s : State := { s.heard id with ckeys := s.ckeys.map fun x => if x.key = m.key then { x with acked := true } else x }
      some (s.tellMembers k.shared [] k.key k.num .notice)
def execReplicationAck (id : Nat) (s : State) : Res := event s (s.replicated id)

/-- ASSIGNMENT_NOTICE (R366): the slot of the key becomes NUMBERED; a notice for a key not registered is kept. -/
def State.noticed (s : State) (id : Nat) : Option State :=
  match s.message id (· == .notice) with
  | none => none
  | some m =>
    let s := s.heard id
    let slot := s.cslots.find? fun p => p.2.key == m.key && p.2.state == 1
    match afind s.cfin m.num with
    | some st => some (match slot with
      | some (i, _) =>
        let r := s.fate st none
        (r.2.modSlot i fun c => { c with num := some m.num }).finishSlot i st r.1
      | none => s)
    | none =>
      let s := match slot with
        | some (i, _) => s.modSlot i fun c => { c with state := 2, num := some m.num }
        | none => s
      some (if s.cnums.any fun n => n.num == m.num then s
        else { s with cnums := s.cnums ++ [{ num := m.num, key := m.key, skip := none }] })
def execAssignmentNotice (id : Nat) (s : State) : Res := event s (s.noticed id)

/-- The status of a number whose access failed (R367, R368): a link lost, or no route; else an access fault. -/
def failStatus (cause : BitVec 6) : Nat := if cause = 12 then 2 else 3

/-- One step of a reduction on element patterns (R362): BF16 sums are formed in FP32. -/
def reduceStep (op fmt a b : Nat) : Nat :=
  if op = 2 ∨ op = 6 then
    if fmt = 1 then (fp32.add 0 false (v32 a) (v32 b)).1 else (laneOp fmt .add 0 false 0 a b).1
  else (laneOp fmt (if op = 3 then .min else .max) 0 false 0 a b).1

/-- The reduction of the ranks' elements in ascending rank order (R362). -/
def reduceElems (op fmt : Nat) (l : List Nat) : Nat :=
  let wide := fmt == 1 && (op == 2 || op == 6)
  let l := if wide then l.map (· * 2 ^ 16) else l
  let acc := match l with
    | [] => 0
    | a :: r => r.foldl (reduceStep op fmt) a
  let f := if fmt = 0 then some fp32 else if fmt = 1 then some bf16 else none
  match f with
  | none => acc
  | some f =>
    let v := if wide then fp32.decode acc else f.decode acc
    if v.isNan then f.nanBits else if wide then f.of v else acc

/-- Element e of bytes, and whether it is marked. -/
def elemAt (z : Nat) (d : Marked) (e : Nat) : Nat × Bool :=
  let l := (d.drop (z * e)).take z
  (leNat (l.map (·.1)), l.any (·.2))

/-- The destination of a rank from every rank's source (R361); what comes of a marked element is marked (R271). -/
def collResult (c : CLive) (rank : Nat) (srcs : List Marked) : Marked :=
  match c.op with
  | 0 => []
  | 1 => srcs.getD c.root []
  | 5 => srcs.flatten
  | op =>
    let off := if op = 6 then rank * c.count else 0
    (List.range c.count).flatMap fun e =>
      let l := srcs.map fun d => elemAt c.elem d (off + e)
      (leBytes (reduceElems op c.fmt (l.map (·.1))) c.elem).map fun b => (b, l.any (·.2))

/-- The sources of all ranks: this package's as read, the others' free values (log 2). -/
def State.collSources (s : State) (c : CLive) (rank : Nat) : Nat → State × List Marked
  | 0 => (s, [])
  | n + 1 =>
    let r := s.collSources c rank n
    if n = rank then (r.1, r.2 ++ [c.data])
    else let f := r.1.freeMarked (c.srcLen n); (f.2, r.2 ++ [f.1])

/-- What a transfer of a member comes to: it is made; nothing is left to transfer; it waits; its access fails, or is to be parked. -/
inductive CMove where
  | made (s : State)
  | all
  | wait
  | fail (cause : BitVec 6) (va : Word)
  | park (s : State) (va : Word) (kind : Nat)

/-- What a member's own accesses are as a party's. -/
def CLive.party (c : CLive) : Party := .command c.tid c.id

/-- A transfer of a member's source: up to the next line (R274, R367). -/
def State.collGet (s : State) (i : Nat) (c : CLive) : CMove :=
  let k := c.data.length
  let va := c.block.getD 1 0 + word k
  let n := min (64 - va.toNat % 64) (c.srcLen (c.rank s.chipno) - k)
  let got (s : State) (d : Marked) : CMove := .made (s.modSlot i fun c => { c with data := c.data ++ d })
  match s.reachAs (coreOf c.tid) c.asid c.user va n { r := true } with
  | (s, .at_ (.mem a) _ pa) => if s.portShut (coreOf c.tid) a then .wait else got (s.seenBy c.party pa n) (s.marked a n)
  | (s, .at_ (.far pa) _ _) =>
    let w := s.route (pa / 2 ^ 40)
    if w.1 then let r := w.2.freeMarked n; got r.2 r.1 else .fail 12 0xFFFF
  | (_, .fault f) => .fail f va
  | (s, .absent) => .park s va 0
  | (_, .at_ _ _ _) => .fail 2 va

/-- A transfer of a member's destination: up to the next line (R274, R367), to another package as a posted write (R355). -/
def State.collPut (s : State) (i : Nat) (c : CLive) (d : Marked) : CMove :=
  let va := c.block.getD 2 0 + word c.put
  let d : Marked := (d.drop c.put).take (64 - va.toNat % 64)
  let gone (s : State) : CMove := .made (s.modSlot i fun c => { c with put := c.put + d.length })
  match s.reachAs (coreOf c.tid) c.asid c.user va d.length { w := true } with
  | (s, .at_ (.mem a) _ _) => if s.portShut (coreOf c.tid) a then .wait else gone (s.storeMarked c.party a d)
  | (s, .at_ (.far pa) _ _) =>
    let w := s.route (pa / 2 ^ 40)
    if !w.1 then .fail 12 0xFFFF
    else
      let r := w.2.newId
      match r.2.post r.1 c.tid pa (.bytes (d.map (·.1)) d.bad) (some c.id) with
      | some s => gone s
      | none => .wait
  | (_, .fault f) => .fail f va
  | (s, .absent) => .park s va 1
  | (_, .at_ _ _ _) => .fail 2 va

/-- The next transfer of the collective that executes in a slot (R367): the source, then, every member's data known, the destination. -/
def State.collNext (s : State) (i : Nat) (c : CLive) : CMove :=
  if s.engParked c.id then .wait
  else if c.data.length < c.srcLen (c.rank s.chipno) then s.collGet i c
  else match c.dest with
    | none =>
      let r := s.collSources c (c.rank s.chipno) c.members
      .made (r.1.modSlot i fun d => { d with dest := some (collResult c (c.rank s.chipno) r.2) })
    | some d => if c.put < d.length then s.collPut i c d else .all

/-- What is left of a member's transfers as far as it can be made: of its source alone, or of both; `true` once nothing is left. -/
def State.collRun (num : Nat) (source : Bool) : Nat → State → State × Bool
  | 0, s => (s, false)
  | f + 1, s => match s.cslots.find? fun p => p.2.num == some num && p.2.state == 3 with
    | none => (s, false)
    | some (i, c) =>
      if source && !decide (c.data.length < c.srcLen (c.rank s.chipno)) then (s, true)
      else match s.collNext i c with
        | .made s => State.collRun num source f s
        | .all => (s, true)
        | .wait => (s, false)
        | .fail k va => (s.finishNum num (failStatus k) (some (k, va)), false)
        | .park s va kind => (s.parkAccess c.tid (some c.id) c.asid va kind, false)

/-- As many transfers as a member can have to make. -/
def CLive.transfers (c : CLive) (rank : Nat) : Nat := c.srcLen rank / 64 + c.dstLen / 64 + 8

/-- The first number not finished here begins (R367, R371), or is skipped. -/
def State.collStart (s : State) : Option State :=
  match s.firstNum with
  | none => none
  | some n =>
    if s.cslots.any fun p => p.2.state == 3 then none
    else match n.skip with
      | some st => some (s.finishNum n.num st none)
      | none => (s.cslots.find? fun p => p.2.num == some n.num && p.2.state == 2).map fun p => s.modSlot p.1 fun c => { c with state := 3 }

/-- COLLECTIVE_BEGIN (R367, R371): the first number not finished here is skipped, or its member begins it and reads its source. -/
def State.collBegin (s : State) : Option State :=
  s.collStart.map fun t => match t.cslots.find? fun p => p.2.state == 3 with
    | some (_, c) => match c.num with
      | some n => (t.collRun n true (c.transfers (c.rank s.chipno))).1
      | none => t
    | none => t
def execCollectiveBegin (s : State) : Res := event s s.collBegin

/-- COLLECTIVE_COMPLETE (R367): every member has begun the number, and what is left of this member's transfers is made; the number completes
once every write has been performed, those to other packages acknowledged. -/
def State.collComplete (s : State) (num : Nat) : Option State :=
  match s.cslots.find? fun p => p.2.num == some num && p.2.state == 3 with
  | none => none
  | some (_, c) =>
    let r := s.collRun num false (c.transfers (c.rank s.chipno))
    some (if r.2 && r.1.posted.all (fun p => p.cmd != some c.id) then r.1.finishNum num 0 none else r.1)
def execCollectiveComplete (num : Nat) (s : State) : Res := event s (s.collComplete num)

/-- A transfer of the collective that executes, or the beginning of the next one. -/
def State.collMove (s : State) : Option State :=
  match s.cslots.find? fun p => p.2.state == 3 with
  | some (_, c) => c.num.map fun n => (s.collRun n false 1).1
  | none => s.collStart

/-- FINISH_REPORT (R367): a number that every member has reported is finished in the domain. -/
def State.finishReport (s : State) (id : Nat) : Option State :=
  match s.message id (· == .report) with
  | none => none
  | some m =>
    if !s.amNewel then none
    else
      let s := s.heard id
      let keys := s.ckeys.map fun k => if k.num = m.num ∧ !k.reports.contains m.src then { k with reports := m.src :: k.reports } else k
      let done := fun k : CKey => k.num == m.num && (ranksOf k.shared).all k.reports.contains
      let s := (keys.filter done).foldl (fun s k => s.tell s.standby k.key k.num .finished) s
      some (State.tell { s with ckeys := keys.filter fun k => !done k } m.src m.key m.num .reportAck)
def execFinishReport (id : Nat) (s : State) : Res := event s (s.finishReport id)

/-- FINISH_REPORT_ACK (R374). -/
def State.finishAck (s : State) (id : Nat) : Option State :=
  match s.message id (· == .reportAck) with
  | none => none
  | some m => some { s.heard id with creports := s.creports.filter fun n => n.num != m.num }
def execFinishReportAck (id : Nat) (s : State) : Res := event s (s.finishAck id)

/-- A registration of a package's key that it sent before another message. -/
def CMsg.registersBefore (x m : CMsg) : Bool := x.src == m.src && x.key == m.key && decide (x.id < m.id) && match x.kind with
  | .register _ => true
  | _ => false

/-- COLLECTIVE_WITHDRAWAL (R369): a key still not numbered is removed; a numbered one is cancelled once the standby has its assignment (R374);
of one finished in the domain nothing is left to cancel; one whose sender's COLDOM differs waits (R359). -/
def State.withdrawal (s : State) (id : Nat) : Option State :=
  match s.message id fun k => k == .withdraw || k == .cancel with
  | none => none
  | some m =>
    if !s.amNewel || m.dom != s.coldom then none
    else
      match s.ckeys.find? fun k => k.key == m.key && (m.kind == .withdraw || k.num == m.num) with
      | some k =>
        if !k.acked then none
        else
          let mark (x : CKey) : CKey := if x.key = m.key then { x with cancelled := true } else x
          let s : State := { s.heard id with ckeys := s.ckeys.map mark }
          some (s.tellMembers k.shared [] k.key k.num (.skip 1))
      | none =>
        let s := s.heard id
        if m.kind == .withdraw && s.cmsgs.any (·.registersBefore m) then
          some (State.tell { s with cmsgs := s.cmsgs.filter fun x => !x.registersBefore m } m.src m.key 0 .removed)
        else some s
def execCollectiveWithdrawal (id : Nat) (s : State) : Res := event s (s.withdrawal id)

/-- CANCEL_NOTICE (R368, R369): a number is to be skipped, or stops if it has begun; or a withdrawn key finishes with number 0. -/
def State.cancelNotice (s : State) (id : Nat) : Option State :=
  match s.message id fun k => match k with
    | .skip _ => true
    | .removed => true
    | _ => false with
  | none => none
  | some m =>
    let s := s.heard id
    match m.kind with
    | .skip st =>
      if (afind s.cfin m.num).isSome then some s
      else if s.cslots.any fun p => p.2.num == some m.num && p.2.state == 3 then some (s.finishNum m.num st none)
      else if s.cnums.any fun n => n.num == m.num then
        some { s with cnums := s.cnums.map fun n => if n.num = m.num then { n with skip := n.skip <|> some st } else n }
      else some { s with cnums := s.cnums ++ [{ num := m.num, key := m.key, skip := some st }] }
    | _ => some (match s.cslots.find? fun p => p.2.key == m.key && p.2.state == 1 with
      | some (i, _) => s.finishSlot i 1 none
      | none => s)
def execCancelNotice (id : Nat) (s : State) : Res := event s (s.cancelNotice id)

/-- NEWEL_HEARTBEAT (R374): the newel sends one every 10 µs, 7000 ticks of time (R21); the standby notes when one arrives. -/
def State.heartbeat (s : State) : Option State :=
  if !s.inDomain || s.noStandby then none
  else if s.amNewel then if s.time < s.cbeat + 7000 then none else some { s with cbeat := s.time }
  else if s.standby == s.chipno then some { s with cbeat := s.time }
  else none
def execNewelHeartbeat (s : State) : Res := event s s.heartbeat

/-- STANDBY_TAKEOVER (R374): after 100 µs, 70000 ticks of time, without a heartbeat the standby numbers on. -/
def State.takeover (s : State) : Option State :=
  if !s.inDomain || s.noStandby || s.standby != s.chipno || decide (s.time < s.cbeat + 70000) then none
  else
    let s : State := { s with ctaken := true, ckeys := s.ckeys.map fun k => { k with acked := true } }
    some (s.tell s.chipno 0 0 .takeover)
def execStandbyTakeover (s : State) : Res := event s s.takeover

/-- TAKEOVER_NOTICE (R374): registrations of REGISTERED slots and reports not acknowledged are sent again. -/
def State.takeoverNotice (s : State) (id : Nat) : Option State :=
  match s.message id (· == .takeover) with
  | none => none
  | some _ =>
    let s : State := { s.heard id with ctaken := true }
    let s := s.cslots.foldl (fun s p => if p.2.state = 1 then s.tell s.newel p.2.key 0 (.register p.2.shared) else s) s
    some (s.creports.foldl (fun s n => s.tell s.newel n.key n.num .report) s)
def execTakeoverNotice (id : Nat) (s : State) : Res := event s (s.takeoverNotice id)

/-- The domain's numbering and what this package knows of it are forgotten (R359). -/
def State.freshDomain (s : State) : State := { s with ckeys := [], cnext := 0, ctaken := false, cnums := [], cfin := [], creports := [] }

/-- A message of the domain arrives at this package's port: the standby's replica follows the newel's table at once (R359, R366, R374): the first
number that a cleared replica gets is its highest. -/
def State.hearColl (s : State) (m : CMsg) : State :=
  match m.kind with
  | .replica shared =>
    let k : CKey := { key := m.key, shared := shared, num := m.num, mismatched := false, cancelled := false, acked := true, reports := [] }
    let next := (m.num + 1) % 2 ^ 32
    let first := s.ckeys.isEmpty && s.cnext == 0
    { s with ckeys := s.ckeys.filter (fun x => x.key != m.key) ++ [k],
             cnext := if first || precedes s.cnext next then next else s.cnext }
  | .finished => { s with ckeys := s.ckeys.filter fun k => k.num != m.num }
  | .setup => if m.dom = s.coldom then s.freshDomain else s
  | .heartbeat => if s.inDomain && s.standby == s.chipno then { s with cbeat := s.time } else s
  | _ => { s with cmsgs := s.cmsgs ++ [{ m with id := s.nextId }], nextId := s.nextId + 1 }

/-- Messages of the collective domain that waited in the fabric for P0 arrive (R385). -/
def State.hearHeld (s : State) : State :=
  if s.pstate = 0 && !s.cheld.isEmpty then s.cheld.foldl (fun s m => s.hearColl m) { s with cheld := [] } else s

/-- The messages that wait at a newel until it can answer them (R359). -/
def CMsg.waits (m : CMsg) : Bool := match m.kind with
  | .register _ => true
  | .withdraw => true
  | .cancel => true
  | _ => false

/-- A message that waits, unanswered, for another COLDOM (R359). -/
def State.unanswered (s : State) (m : CMsg) : Bool :=
  (m.waits && (!s.amNewel || m.dom != s.coldom)) || (m.kind == .report && !s.amNewel)

/-- A write of COLDOM (R359): ignored while a slot is live.  A package that leaves its domain forgets what it knows of it; the newel sets the domain
up afresh and clears the standby's replica; the standby clears its own; any other package joins, and resets nothing. -/
def State.setColdom (s : State) (val : Word) : State :=
  if !s.cslots.isEmpty then s
  else
    let v := val &&& word (2 ^ 63 + 2 ^ 36 - 1)
    let leave (s : State) : State := State.freshDomain { s with cmsgs := s.cmsgs.filter (·.waits) }
    let t : State := { if v = s.coldom then s else leave s with coldom := v }
    if v.getLsbD 63 && (v.extractLsb' 0 12).toNat == t.chipno then
      State.tell { leave t with cbeat := t.time } (leave t).standby 0 0 .setup
    else if v.getLsbD 63 && t.standby == t.chipno then { t with ckeys := [], cnext := 0, cbeat := t.time }
    else t
/-- COLDOM_ENABLE (R359). -/
def execColdomEnable (val : Word) (s : State) : Res := event s (if val.getLsbD 63 then some (s.setColdom val) else none)
/-- COLDOM_DISABLE (R359). -/
def execColdomDisable (val : Word) (s : State) : Res := event s (if val.getLsbD 63 then none else some (s.setColdom val))

/-- A posted write of a command of a copy channel is lost (R270, R378): its bytes stay undelivered. -/
def CopyCmd.losing (c : CopyCmd) (id l : Nat) : CopyCmd :=
  let sent := c.ahead.any fun p => p.2 == .sent id
  if sent || c.waits.contains id then
    { c with
      fault := some (12, word l), waits := c.waits.filter (· != id)
      ahead := c.ahead.map fun p => if p.2 = .sent id then (p.1, .bad 12 (word l)) else p }
  else c

/-- A posted write of an engine's command is lost (R270, R375, R378). -/
def State.losePost (s : State) (p : Posted) (l : Nat) : State :=
  match p.cmd with
  | none => s.loseWrite p.tid p.id l
  | some c => match s.bank.find? fun o => o.id == c with
    | some o => s.loseCommand o l
    | none =>
      let s := s.closePosted p.id (some l)
      if (s.thread p.tid).jobs.any (·.id == c) then s.cutLanes p.tid c l
      else if let some n := (s.cslots.find? fun q => q.2.id == c && q.2.state == 3).bind (·.2.num) then s.finishNum n 2 (some (12, word l))
      else s.modCore (coreOf p.tid) fun k => { k with
        copies := k.copies.map fun y => (y.1, { y.2 with q := y.2.q.map fun d => if d.id = c then d.losing p.id l else d }) }

/-- Posted writes of another package's memory in flight on a Tamgon link (R375). -/
def State.losePosted (s : State) (l : Nat) : State := s.posted.foldl (fun s p => s.ifOn true fun s => s.losePost p l) s

/-- Loads and returning atomics of another package's memory in flight on the link (R375): cause 12 at the instruction. -/
def State.loseLoads (s : State) (l : Nat) : State :=
  s.threads.foldl (fun s p => s.ifOn p.2.remote.isSome fun s => s.trap p.1 12 (word l) p.2.pc) s

/-- Collective data in flight on the link (R375): the number fails with status 2. -/
def State.loseColl (s : State) (l : Nat) : State :=
  s.cslots.foldl (fun s p => s.ifOn (p.2.state == 3 && decide (1 < p.2.members)) fun s =>
    match p.2.num with
    | some n => s.finishNum n 2 (some (12, word l))
    | none => s) s

/-- TAMGON_LINK_DOWN (R375). -/
def State.tamgonDown (s : State) (k : Nat) : Option State :=
  if Config.tamgonLinks ≤ k then none
  else (s.linkDown (32 + k)).map fun s => (((s.losePosted (32 + k)).loseLoads (32 + k)).loseColl (32 + k))
def execTamgonLinkDown (k : Nat) (s : State) : Res := event s (s.tamgonDown k)
/-- LINK_DOWN_TIMEOUT (R270, R375). -/
def execLinkDownTimeout (link : Nat) (s : State) : Res :=
  event s (if 32 ≤ link then s.tamgonDown (link - 32) else s.linkDown link)

end Sys2Proof.Machine
end

