-- ==== Sys2Proof/Machine/Ckpt.lean ====
section
/-! DEFINITION. CKPT, eviction requests, deadlines, requested pre-emption and re-admission (R143 to R150, R233, R381). -/

namespace Sys2Proof.Machine

/-- A posted write that carries something of a command is still open. -/
def CopyCmd.opens (c : CopyCmd) (s : State) : Bool :=
  c.waits.any s.isOpen || c.ahead.any fun p => match p.2 with
    | .sent id => s.isOpen id
    | _ => false

/-- Whether a command of a copy channel is one that CKPT stops (R148): an asynchronous copy of which nothing is done beyond the bytes counted,
or a gather or scatter with a parked access, which is withdrawn; nothing of either is on its way to another package. -/
def State.stops (s : State) (tid : Nat) (c : CopyCmd) : Bool := c.tid == tid && !c.opens s && (match c.kind.index with
  | none => c.ahead.all fun p => match p.2 with
    | .at_ _ => true
    | _ => false
  | some _ => s.engParked c.id)

/-- A command as it is stopped: a copy keeps nothing of the chunk that it has begun (R148). -/
def CopyCmd.atRest (c : CopyCmd) : CopyCmd := { c with part := [], ahead := if c.kind.index.isNone then [] else c.ahead }

/-- The commands of a thread set that CKPT stops, with their channels. -/
def State.stopping (s : State) (tid : Nat) : List (Nat × CopyCmd) :=
  (s.core (coreOf tid)).copies.flatMap fun p => (p.2.q.filter (s.stops tid)).map fun c => (p.1, c.atRest)

/-- The vector instructions of a thread set that CKPT withdraws: those from a parked access on (R148). -/
def State.seqWithdrawn (s : State) (tid : Nat) : List SeqItem :=
  match s.seqOf tid with
  | [] => []
  | i :: r => if s.engParked i.id then i :: r else []

/-- Whether a command is parked and still wholly to be performed, so that CKPT withdraws it (R148, R312). -/
def State.withdrawable (s : State) (tid id : Nat) : Bool :=
  s.engParked id && (s.bank.any (fun o => o.id == id) || s.beadOps.any (fun o => o.id == id) || s.xops.any (fun o => o.id == id) ||
    (s.thread tid).jobs.any fun j => j.id == id)

/-- Whether an outstanding result does not hold CKPT (R147, R148): a copy that is stopped, or a parked command that is withdrawn. -/
def State.ckptFree (s : State) (tid id : Nat) : Bool :=
  (s.stopping tid).any (fun c => c.2.id == id) || s.withdrawable tid id

/-- The release of CKPT may be made: every store has been performed, and every sequencer access that it does not withdraw (R147, R148). -/
def State.releasedBut (s : State) (tid : Nat) : Bool :=
  s.released tid 2 || (!(s.seqWithdrawn tid).isEmpty && !(s.core (coreOf tid)).sb.any (fun e => e.tid == tid) &&
    !s.flights.any fun f => f.tid == tid)

/-- Whether a gather or scatter of registers does not hold CKPT: one with a parked access, or behind a withdrawn vector instruction (R148). -/
def State.jobFree (s : State) (tid : Nat) (j : LaneJob) : Bool :=
  s.withdrawable tid j.id || (!j.begun && (s.seqWithdrawn tid).any fun i => i.id == j.id)

/-- Whether CKPT still waits for the thread set's work (R147). -/
def State.ckptWaits (s : State) (tid : Nat) : Bool :=
  (!(s.seqOf tid).isEmpty && (s.seqWithdrawn tid).isEmpty) || !(s.thread tid).jobs.all (s.jobFree tid) ||
  !(s.thread tid).outs.all (fun o => s.ckptFree tid o.id) || !s.releasedBut tid

/-- Doublewords at a virtual address as the steward reads them; `none` where one cannot be read. -/
def State.readTable (s : State) (tid : Nat) : Nat → Word → State × Option (List Word)
  | 0, _ => (s, some [])
  | n + 1, va =>
    match s.reach tid false va 8 { r := true } with
    | (s, .at_ (.mem a) _ _) =>
      let r := s.readTable tid n (va + 8)
      (r.1, if s.isPoisoned a 8 then none else r.2.map fun l => word (s.readVal a 8) :: l)
    | (s, _) => (s, none)

/-- One range of a live-range table within an allocation (R146). -/
def rangeOf (a : Alloc) (w : Word) : Option (Nat × Nat) :=
  let off := (w.extractLsb' 0 20).toNat
  let len := (w.extractLsb' 20 21).toNat
  if w.extractLsb' 41 23 == 0 && off % 256 == 0 && len % 256 == 0 && decide (256 ≤ len ∧ a.base ≤ off ∧ off + len ≤ a.base + a.len)
  then some (off, len) else none

/-- All the values, if there are all. -/
def allSome : List (Option (Nat × Nat)) → Option (List (Nat × Nat))
  | [] => some []
  | none :: _ => none
  | some x :: r => (allSome r).map fun l => x :: l

/-- The ranges that a live-range table names (R146); `none` names the whole allocation. -/
def State.tableRanges (s : State) (tid : Nat) (a : Alloc) (va : Word) : State × Option (List (Nat × Nat)) :=
  if va.toNat % 8 ≠ 0 then (s, none)
  else match s.readTable tid 1 va with
    | (s, some [w]) =>
      if w.extractLsb' 6 58 != 0 then (s, none)
      else match s.readTable tid (w.extractLsb' 0 6).toNat (va + 8) with
        | (s, some l) => (s, allSome (l.map (rangeOf a)))
        | (s, none) => (s, none)
    | (s, _) => (s, none)

/-- The ranges that CKPT records (R147): of the table in x[rs1], else of CKPTAB's, else the whole allocation; the whole allocation
once the deadline's trap has been taken. -/
def State.recordedRanges (s : State) (rs1 : BitVec 5) (a : Alloc) : State × List (Nat × Nat) :=
  let t := s.th
  let all : List (Nat × Nat) := [(a.base, a.len)]
  if t.deadlineHit then (s, all)
  else if rs1 ≠ 0 ∨ t.ckptab.getLsbD 0 then
    let va : Word := if rs1 ≠ 0 then s.rx rs1 else (t.ckptab >>> 6) <<< 6
    let r := s.tableRanges s.cur a va
    (r.1, r.2.getD all)
  else (s, all)

/-- The local address of a byte of a context buffer, which lies in local HBM (R144). -/
def bufferAt (buffer off : Nat) : Nat := buffer % 2 ^ 40 + off
/-- Whether a context buffer lies in local HBM (R144). -/
def State.bufferOk (s : State) (buffer : Nat) : Bool :=
  decide (buffer / 2 ^ 40 = s.chipno ∧ buffer % 2 ^ 40 + 0x10000 ≤ 0xC000000000)

/-- Writes bytes of a context buffer (R144); a locket refuses them (R160), and outside local HBM there is no buffer. -/
def State.putBuffer (s : State) (buffer off : Nat) (d : List Byte) : State :=
  if s.bufferOk buffer && !s.inLocket (bufferAt buffer off) d.length then s.store (.unit_ (dieOf s.myCore)) (bufferAt buffer off) d else s

/-- The words of the snapshot (R144) for a resume address. -/
def Thread.snapshot (t : Thread) (pc : Word) : List Word :=
  (List.range 31).map (fun n => t.rx (BitVec.ofNat 5 (n + 1))) ++
  [pc, bit t.steward 0, t.tvec0, t.tvec1, t.bank0.tepc, t.bank1.tepc, t.bank0.tcause, t.bank1.tcause, t.bank0.tval, t.bank1.tval,
    t.bank0.tstat, t.bank1.tstat, t.tmsg, t.ckptab] ++ List.replicate 19 0

/-- The bytes of a packet as the inbox and the context buffer hold it (R144, R241). -/
def Packet.held (p : Packet) : List Byte := (p.entry).take (64 * p.entries)

/-- Writes the packets of a card's tag into its context buffer, from an entry of 64 bytes on, in arrival order, up to 64 entries (R144). -/
def State.spillHeld (s : State) (buffer : Nat) : Nat → List Packet → State
  | _, [] => s
  | i, p :: r =>
    if i + p.entries ≤ 64 then
      let a := 0xB000 + 64 * i
      let s := s.putBuffer buffer a p.held
      (if s.bufferOk buffer && !s.inLocket (bufferAt buffer a) p.held.length then s.markBad (bufferAt buffer a) p else s).spillHeld
        buffer (i + p.entries) r
    else s

/-- Writes the snapshot, the channels' entries and the held packets; how a copy's record is laid out is not given (log 2). -/
def State.spillBuffer (s : State) (v : Saved) (pc : Word) : State :=
  let s := s.putBuffer v.buffer 0x9000 ((s.thread v.tid).snapshot pc |>.flatMap fun (w : Word) => leBytes w.toNat 8)
  let mark (s : State) (a : Nat) (p : Packet) : State :=
    if s.bufferOk v.buffer && !s.inLocket (bufferAt v.buffer a) 128 then s.markBad (bufferAt v.buffer a) p else s
  let chan (s : State) (p : Nat × List Packet) : State :=
    p.2.zipIdx.foldl (fun s q => mark s (0xA000 + 512 * p.1 + 128 * q.2) q.1)
      (s.putBuffer v.buffer (0xA000 + 512 * p.1) (p.2.flatMap (·.entry)))
  let s := v.chans.foldl chan s
  let s := s.spillHeld v.buffer 0 v.unread
  if s.bufferOk v.buffer && !v.copies.isEmpty then s.blur (bufferAt v.buffer 0xC000) 0x2000 else s

/-- The held packets of a tag in an inbox (R147). -/
def Core.heldFor (c : Core) (tag : Nat) : List Packet := c.inbox.filter fun p => p.kind != 0 && p.tag == tag

/-- What CKPT saves of a card (R144, R147, R148). -/
def State.savedOf (s : State) (c : Card) (ranges : List (Nat × Nat)) : Saved :=
  let t := s.th
  let core := s.core s.myCore
  let held := match s.tagOf s.myCore c.id with
    | some tag => core.heldFor tag
    | none => []
  let w := s.withdrawable s.cur
  { card := s.th.image c c.pc, tid := s.cur, buffer := (t.savearea.extractLsb' 16 36).toNat * 2 ^ 16,
    chans := t.chans, unread := (t.landed.filter fun p => p.tag != noTag) ++ held, copies := s.stopping s.cur,
    outs := t.outs.filter (fun o => w o.id), jobs := t.jobs, bank := s.bank.filter (fun o => w o.id),
    beadOps := s.beadOps.filter (fun o => w o.id), xops := s.xops.filter (fun o => w o.id),
    gang := t.gang, mflags := t.mflags, ranges := ranges, evicted := false, seq := s.seqWithdrawn s.cur,
    reports := t.reports, preempts := t.preempts.filter fun p => p == 0 || p == 2, lost := t.lost }

/-- A channel without the copies that CKPT stopped: what they have not delivered counts as written, as of any command that ends
(R261). -/
def CopyChan.without (x : CopyChan) (out : CopyCmd → Bool) : CopyChan :=
  { x with q := x.q.filter fun c => !out c,
           wp := x.wp + word ((x.q.filter out).map fun c => c.len - c.done).sum }

/-- What CKPT takes away (R147, R148): the copies it stopped, the parked commands, the packets it spilled. -/
def State.withdraw (s : State) (v : Saved) : State :=
  let ids := v.outs.map (·.id) ++ v.jobs.map (·.id) ++ v.copies.map (·.2.id) ++ v.seq.map (·.id)
  let stopped := s.stops v.tid
  let s := { s with
    bank := s.bank.filter fun o => !ids.contains o.id
    beadOps := s.beadOps.filter fun o => !ids.contains o.id
    xops := s.xops.filter fun o => !ids.contains o.id
    parked := s.parked.filter fun p => match p.eng with
      | some i => !ids.contains i
      | none => true }
  let s := s.modCore (coreOf v.tid) fun c => { c with
    copies := c.copies.map fun p => (p.1, p.2.without stopped)
    seq := c.seq.filter fun i => !ids.contains i.id
    inbox := c.inbox.filter fun p => !v.unread.any fun q => q.id == p.id }
  s.modThread v.tid fun t => { t with chans := [], landed := [], pres := 0, outs := [], jobs := [], reports := [] }

/-- The card is pre-empted and the thread set is free (R147); a pending eviction of its allocation takes place with the last such
card. -/
def State.preempted (s : State) (v : Saved) : State :=
  let s := s.spillBuffer v (s.th.pc + 4)
  let s := (s.withdraw v).retire
  let s := s.modTh fun t => { t.release with preempts := t.preempts.filter (· == 3) }
  let s := s.modCore s.myCore fun k => { k with stopped := k.stopped ++ [v] }
  s.settleEvict s.myCore

/-- CKPT (R147): illegal outside a trap handler. -/
def execCkpt (rs1 : BitVec 5) (s : State) : Res :=
  stewardOnly s [rs1] fun s =>
    match s.th.bank0.act, s.th.card with
    | false, _ => s.illegal
    | true, none => s
    | true, some c =>
      if s.ckptWaits s.cur then s
      else
        let s := (s.publish s.cur 2).releaseCard (.thread s.cur) c.id
        match s.th.ckptab.getLsbD 1, (s.core s.myCore).allocOf c.group with
        | true, some a =>
          let r := s.recordedRanges rs1 a
          r.1.preempted (r.1.savedOf c r.2)
        | _, _ => s.preempted (s.savedOf c [])

/-- The space that the image of an allocation takes in the pool: its scratchpad, four slots and two landing slots. -/
def Alloc.imageSize (a : Alloc) : Nat := a.len + 0x50000
/-- Whether a die's pool has room for the image of an allocation (R381). -/
def State.poolRoom (s : State) (d : Nat) (a : Alloc) : Bool :=
  let used := ((s.evictions.filter fun e => dieOf e.core == d).map fun e => e.alloc.imageSize).sum
  let asked := (s.cores.filter fun p => dieOf p.1 == d).map fun p => ((p.2.allocs.filter (·.evicting)).map (·.imageSize)).sum
  (s.die d).pool.isSome && decide (used + asked.sum + a.imageSize ≤ 0x10000000)

/-- The cores whose allocations of a group are evicted with one core's (R233): the eight of its row while a card of it holds gang
mode. -/
def State.evictedWith (s : State) (core slot : Nat) : List Nat := if s.gangOn core slot then rowCores core else [core]

/-- EVICT (R145, R381): the allocation named is the core's first that no request holds yet; without pool, room or allocation the
write is ignored. -/
def State.evict (s : State) (d : Nat) (val : Word) : State :=
  let core := d * 256 + (val.extractLsb' 0 8).toNat
  match (s.core core).allocs.find? fun a => !a.evicting with
  | some a => if s.poolRoom d a then ((s.evictedWith core a.slot).foldl (fun s c => s.markEvict c a.slot) s).settleEvict core else s
  | none => s
def execEvict (die : Nat) (val : Word) (s : State) : Res := event s (if s.live && decide (die < 4) then some (s.evict die val) else none)

/-- CHECKPOINT_DEADLINE (R145): the counter of a thread set with PEND = 1 has reached 0. -/
def State.ckptDeadline (s : State) (tid : Nat) : Option State :=
  let t := s.thread tid
  if t.card.isSome && t.ckptab.getLsbD 1 && !t.deadlineHit && !t.preempts.contains 1 && decide (t.deadlineAt ≤ s.cycle (coreOf tid)) then
    some (s.setThread tid { t with preempts := t.preempts ++ [1] })
  else none
def execCheckpointDeadline (tid : Nat) (s : State) : Res := event s (s.ckptDeadline tid)

/-- PREEMPT (R381): thread sets of a core take cause 8 with TVAL 3 at their next boundary; one without a card has none. -/
def State.preempt (s : State) (core : Nat) (val : Word) : State :=
  (List.range 4).foldl (fun s i =>
    let tid := 4 * core + i
    if val.getLsbD i && (s.thread tid).card.isSome && !(s.thread tid).preempts.contains 3 then
      s.modThread tid fun t => { t with preempts := t.preempts ++ [3] }
    else s) s
def execPreempt (core : Nat) (val : Word) (s : State) : Res := event s (if decide (core < 1024) then some (s.preempt core val) else none)

/-- Whether a thread set is reserved by a live group (R89). -/
def State.reserved (s : State) (tid : Nat) : Bool := s.groups.any fun p => p.2.seats.any fun x => x.tid == tid
/-- Whether a thread set is free and in service. -/
def State.isFree (s : State) (tid : Nat) : Bool :=
  decide (tid < 4096) && (s.thread tid).card.isNone && !(s.core (coreOf tid)).dead

/-- The thread sets of a group on a core. -/
def State.seatsOn (s : State) (slot core : Nat) : List Nat :=
  match afind s.groups slot with
  | some g => (g.seats.map (·.tid)).filter fun tid => coreOf tid == core
  | none => []

/-- Where the thread sets of an allocation go (R149): to themselves on their own core, else to the lowest free unreserved ones. -/
def State.moveTids (s : State) (e : Eviction) (core : Nat) : Option (List (Nat × Nat)) :=
  let old := s.seatsOn e.alloc.slot e.core
  if core = e.core then some (old.map fun t => (t, t))
  else
    let free := (tidsOf core).filter fun t => s.isFree t && !s.reserved t
    if free.length < old.length then none else some (old.zip free)

/-- The new number of a thread set. -/
def movedTid (m : List (Nat × Nat)) (t : Nat) : Nat := ((m.find? fun p => p.1 == t).map (·.2)).getD t

/-- Whether some card of an evicted allocation holds a route tag (R150). -/
def State.evictedTag (s : State) (e : Eviction) : Bool :=
  (e.cards.map (·.card) ++ e.ready).any (fun c => (s.tagOf e.core c.id).isSome) ||
  (s.core e.core).asleep.any fun c => c.inGroup e.alloc.slot

/-- Whether a core can take an evicted allocation (R149, R150): its own core if a card holds a tag, else any of the die; its bytes
unallocated, the rings of the image unconfigured or empty and ownerless, its slots free. -/
def State.takesEviction (s : State) (e : Eviction) (core : Nat) : Bool :=
  let c := s.core core
  (core == e.core || (!s.evictedTag e && dieOf core == dieOf e.core)) && !c.dead &&
  c.allocs.all (fun a => !meets a.base a.len e.alloc.base e.alloc.len) &&
  e.rings.all (fun p => match afind c.rings p.1 with
    | none => true
    | some g => g.tail == g.head && g.claim == g.head && !c.allocs.any fun a => a.asid == g.owner) &&
  e.accs.all (fun p => match (aget {} c.accs p.1).owner with
    | none => true
    | some o => !c.allocs.any fun a => a.asid == o) &&
  e.lands.all (fun p => decide ((aget {} c.lands p.1).state = .free)) && decide (e.mq.length + c.mq.length ≤ 16) &&
  decide (c.deque.length + e.ready.length ≤ 256)

/-- A local address of a barrier object moved with its scratchpad (R150). -/
def movedObj (old new a : Nat) : Nat := if spadBase old ≤ a ∧ a < spadBase old + 0x100000 then a - spadBase old + spadBase new else a

/-- A stopped copy on its new core (R150). -/
def CopyCmd.moved (c : CopyCmd) (tid old new : Nat) : CopyCmd :=
  let home := c.home.map fun h => if h % 1024 = old then h - old + new else h
  { c with tid := tid, objs := c.objs.map (movedObj old new), home := home }

/-- A saved card on its new core (R149, R150). -/
def Saved.moved (v : Saved) (m : List (Nat × Nat)) (old new : Nat) : Saved :=
  let tid := movedTid m v.tid
  { v with
    tid := tid, evicted := true
    card := { v.card with home := new, seat := some tid }
    copies := v.copies.map fun (p : Nat × CopyCmd) => (p.1, p.2.moved tid old new)
    bank := v.bank.map fun (o : BankOp) => { o with tid := tid }
    beadOps := v.beadOps.map fun (o : BeadOp) => { o with tid := tid }
    xops := v.xops.map fun (o : CrossOp) => { o with tid := tid } }

/-- A group whose thread sets have moved. -/
def Group.moved (g : Group) (m : List (Nat × Nat)) : Group :=
  { g with seats := g.seats.map fun (x : Seat) => { x with tid := movedTid m x.tid } }

/-- A map with the entries of another put into it. -/
def putAll {α : Type} (a b : AMap α) : AMap α := b.foldl (fun c p => aput c p.1 p.2) a

/-- A core that takes an evicted allocation back (R149, R150). -/
def Core.takeBack (c : Core) (e : Eviction) (core : Nat) (m : List (Nat × Nat)) : Core :=
  let mq := e.mq.map fun (o : MatOp) => { o with tid := movedTid m o.tid }
  let cards := e.cards.map fun (v : Saved) => v.moved m e.core core
  let ready := e.ready.map fun (k : Card) => { k with home := core, seat := k.seat.map (movedTid m) }
  { c.withDeque (c.deque ++ ready) with
    allocs := c.allocs ++ [e.alloc], rings := putAll c.rings e.rings, accs := putAll c.accs e.accs, lands := putAll c.lands e.lands
    mq := c.mq ++ mq, stopped := c.stopped ++ cards }

/-- Re-admits one core's share of an evicted allocation (R149, R233). -/
def State.readmitOn (s : State) (e : Eviction) (core : Nat) (m : List (Nat × Nat)) : State :=
  let groups := s.groups.map fun (p : Nat × Group) => if p.1 = e.alloc.slot then (p.1, p.2.moved m) else p
  let s : State := { s with evictions := s.evictions.filter (fun x => x.id != e.id), groups := groups }
  let s := s.modCore core fun c => c.takeBack e core m
  e.bytes.foldl (fun s p => s.store (.unit_ (dieOf core)) (spadBase core + p.1) p.2) s

/-- The evictions re-admitted with one (R233), each with the core it goes to: with gang mode, the whole row's. -/
def State.readmitSet (s : State) (e : Eviction) (core : Nat) : List (Eviction × Nat) :=
  if e.gang then
    (s.evictions.filter fun x => x.gang && x.alloc.slot == e.alloc.slot && rowOf x.core == rowOf e.core).map fun x => (x, core / 8 * 8 + x.core % 8)
  else [(e, core)]

/-- EVICTION_READMIT (R149, R150). -/
def State.readmit (s : State) (id core : Nat) : Option State :=
  match s.evictions.find? fun e => e.id == id with
  | none => none
  | some e =>
    let l := s.readmitSet e core
    if !s.live || (e.gang && core % 8 != e.core % 8) then none
    else l.foldl (fun s p => s.bind fun s =>
      if s.takesEviction p.1 p.2 then (s.moveTids p.1 p.2).map fun m => s.readmitOn p.1 p.2 m else none) (some s)
def execEvictionReadmit (id core : Nat) (s : State) : Res := event s (s.readmit id core)

end Sys2Proof.Machine
end

