-- ==== Sys2Proof/Machine/Sched.lean ====
section
/-! DEFINITION. The scheduler: dispatch of host work queues, gang admission, pick-up, steals, ageing, slices and watchdogs
(R79 to R103, R149). -/

namespace Sys2Proof.Machine

/-- An idle thread set: free, in service and not reserved (R89, R93). -/
def State.isIdle (s : State) (tid : Nat) : Bool := s.isFree tid && !s.reserved tid
/-- The idle thread sets of a core. -/
def State.idleOn (s : State) (core : Nat) : List Nat := (tidsOf core).filter s.isIdle

/-- The class that a card inherits (R95): of the cards of its group that wait at a barrier which it has not yet reached. -/
def State.inherited (s : State) (c : Card) : Nat :=
  match c.seat, afind s.groups c.group with
  | some tid, some g =>
    match g.seatOf tid with
    | none => 0
    | some x => s.threads.foldl (fun m p =>
        match p.2.bar, p.2.card with
        | some w, some d =>
          if w.slot = c.group ∧ g.sub w.level x = w.sub ∧ (s.thread tid).bar ≠ some w then max m d.cls else m
        | _, _ => m) 0
  | _, _ => 0

/-- The effective class of a card (R95). -/
def State.effClass (s : State) (c : Card) : Nat := max c.agedClass (s.inherited c)

/-- The core of copy B of a dual-run card (R101): the same hall and column, row (r + 4) mod 8. -/
def twinCore (core : Nat) : Nat := core / 64 * 64 + (core / 8 % 8 + 4) % 8 * 8 + core % 8

/-- Idle thread sets of a core that no card of its own deque of at least a class is to take (R93, R96). -/
def State.spare (s : State) (core cls : Nat) : Nat :=
  (s.idleOn core).length - ((s.core core).deque.filter fun k => k.seat.isNone && decide (cls ≤ s.effClass k)).length

/-- Cards that run on a core (R93). -/
def State.running (s : State) (core : Nat) : Nat := ((tidsOf core).filter fun tid => (s.thread tid).card.isSome).length

/-- Whether a mask of dies admits a core (R86); 0 admits all. -/
def dieAdmits (dies : BitVec 4) (core : Nat) : Bool := dies == 0 || dies.getLsbD (dieOf core)

/-- The core on which a card of a host queue is placed (R93, R101). -/
def State.placeCard (s : State) (home aff : Nat) (dies : BitVec 4) (dual : Bool) (cls : Nat) : Option Nat :=
  let ok (core : Nat) : Bool := affAdmits aff home core && dieAdmits dies core && decide (0 < s.spare core cls) &&
    (!dual || decide (0 < s.spare (twinCore core) cls))
  ((List.range 1024).filter ok).foldl (fun m core =>
    match m with
    | none => some core
    | some b => if s.running core < s.running b then some core else some b) none

/-- A launch block (R86) of 64 bytes. -/
def launchOf (img : List Byte) (queue : Nat) : Launch :=
  let v := leNat img
  let f (lo n : Nat) : Nat := v / 2 ^ lo % 2 ^ n
  { entry := 0, queue := queue, pc := word (f 0 64), hdr := word (f 64 64), arg := word (f 128 64), cpc := f 192 2, cgr := f 194 3,
    rgd := f 197 5, dgp := f 202 2, level := f 204 3, pkgs := f 208 12, count := f 224 32, slice := f 256 32, wdog := f 288 32,
    spad := f 320 16, dies := BitVec.ofNat 4 (f 336 4), podkey := word (f 384 64), rank := 0, next := 0, since := 0 }

/-- Reserved bits of a launch block (R86). -/
def launchReserved (img : List Byte) : Bool :=
  let v := leNat img
  let f (lo n : Nat) : Nat := v / 2 ^ lo % 2 ^ n
  f 448 64 != 0 || f 340 44 != 0 || f 220 4 != 0 || f 207 1 != 0

/-- The first `n` values of a list, if there are as many. -/
def firstN {α : Type} (n : Nat) (l : List α) : Option (List α) := if l.length < n then none else some (l.take n)

/-- The cores of each row group of each die group of a group's lexicographically smallest placement on cores that can be used
(R85, R89). -/
def shapeOn (l : Launch) (ok : Nat → Bool) : Option (List (List (List Nat))) :=
  let row (d r : Nat) : Option (List Nat) := firstN (l.cgr + 1) (((List.range 8).map fun i => d * 256 + r * 8 + i).filter ok)
  let die (d : Nat) : Option (List (List Nat)) := firstN (l.rgd + 1) ((List.range 32).filterMap (row d))
  firstN (l.dgp + 1) (((List.range 4).filter fun d => dieAdmits l.dies (d * 256)).filterMap die)

/-- Where an allocation lies: the lowest place with room (the manual fixes none), else at the top. -/
def freeSpad (allocs : List Alloc) (len : Nat) : Nat :=
  let ok (b : Nat) : Bool := decide (b + len ≤ 0x100000) && allocs.all fun a => !meets a.base a.len b len
  (((0 :: allocs.map fun a => a.base + a.len).filter ok).foldl min 0x100000)

/-- A core suits a group (R89): idle thread sets for a number of core groups, and scratchpad. -/
def State.suits (s : State) (l : Launch) (core : Nat) (groups : Nat := 1) : Bool :=
  decide (groups * (l.cpc + 1) ≤ (s.idleOn core).length) &&
  decide (freeSpad (s.core core).allocs (1024 * l.spad) + 1024 * l.spad ≤ 0x100000)

/-- Whether a launch's cards are dual-run. -/
def Launch.dual (l : Launch) : Bool := l.hdr.getLsbD 5
/-- The lists of a number of values of a list, in its order, the lexicographically smaller first. -/
def choices : Nat → List Nat → List (List Nat)
  | 0, _ => [[]]
  | _ + 1, [] => []
  | n + 1, a :: r => (choices n r).map (a :: ·) ++ choices (n + 1) r

/-- The row of a die that copies B of a row's cards take (R101). -/
def twinRow (r : Nat) : Nat := r / 8 * 8 + (r + 4) % 8

/-- The places of a core group's cards of a dual-run group on a row of a die, the smaller first (R89, R101), `taken` being the rows taken before
with their cores: each core and its twin have room for one core group, or for two where both hold copies A. -/
def State.dualRow (s : State) (l : Launch) (die : Nat) (taken : List (Nat × List Nat)) (row : Nat) : List (List Nat) :=
  let ok (c : Nat) : Bool :=
    let n := if taken.any (fun p => p.1 == twinRow row && p.2.contains (twinCore c)) then 2 else 1
    s.suits l c n && s.suits l (twinCore c) n
  choices (l.cgr + 1) (((List.range 8).map fun i => die * 256 + row * 8 + i).filter ok)

/-- How many rows of a list of a die can be taken beside those taken before: a row and its twin depend on each other alone. -/
def State.dualMore (s : State) (l : Launch) (die : Nat) (taken : List (Nat × List Nat)) (rows : List Nat) : Nat :=
  (rows.map fun r =>
    let own := s.dualRow l die taken r
    if rows.contains (twinRow r) then
      if twinRow r < r then 0
      else if own.any fun c => !(s.dualRow l die ((r, c) :: taken) (twinRow r)).isEmpty then 2
      else if !own.isEmpty || !(s.dualRow l die taken (twinRow r)).isEmpty then 1 else 0
    else if own.isEmpty then 0 else 1).sum

/-- The smallest placement of a number of row groups of a dual-run group on the rows of a die. -/
def State.dualRows (s : State) (l : Launch) (die : Nat) : Nat → List (Nat × List Nat) → List Nat → Option (List (List Nat))
  | 0, _, _ => some []
  | _ + 1, _, [] => none
  | n + 1, taken, r :: rest =>
    match (s.dualRow l die taken r).find? fun c => decide (n ≤ s.dualMore l die ((r, c) :: taken) rest) with
    | some c => (s.dualRows l die n ((r, c) :: taken) rest).map (c :: ·)
    | none => s.dualRows l die (n + 1) taken rest

/-- The smallest placement of a dual-run group (R89, R101). -/
def State.dualShape (s : State) (l : Launch) : Option (List (List (List Nat))) :=
  firstN (l.dgp + 1) (((List.range 4).filter fun d => dieAdmits l.dies (d * 256)).filterMap fun d =>
    s.dualRows l d (l.rgd + 1) [] (List.range 32))

/-- The package with nothing placed on it: what no launch could ever use is left out. -/
def State.bare (s : State) : State :=
  { s with threads := [], groups := [], cores := s.cores.map fun p => (p.1, ({ dead := p.2.dead } : Core)) }

/-- Whether a launch could be placed at all (R87). -/
def State.placeable (s : State) (l : Launch) (home : Nat) : Bool :=
  if l.level = 0 then (List.range 1024).any fun c =>
    affAdmits (l.hdr.extractLsb' 2 2).toNat home c && dieAdmits l.dies c && !(s.core c).dead && !(l.dual && (s.core (twinCore c)).dead)
  else if l.dual then (s.bare.dualShape l).isSome
  else (shapeOn l fun c => !(s.core c).dead).isSome

/-- Whether a launch block is malformed (R87). -/
def State.launchBad (s : State) (img : List Byte) (l : Launch) (home : Nat) : Bool :=
  launchReserved img || decide (4 < l.level) || l.count == 0 || decide (1024 < l.spad) ||
  (decide (l.level < 1) && l.cpc != 0) || (decide (l.level < 2) && l.cgr != 0) || (decide (l.level < 3) && l.rgd != 0) ||
  (decide (l.level < 4) && (l.dgp != 0 || l.pkgs != 0)) || decide (4096 < (l.dgp + 1) * (l.pkgs + 1)) ||
  !s.placeable l home || !s.cardOk l.pc l.hdr || (decide (1 ≤ l.level) && l.hdr.extractLsb' 2 2 != 0) ||
  l.hdr.extractLsb' 16 16 != 0xFFFF

/-- Cards of one top-level group (R88). -/
def Launch.perGroup (l : Launch) : Nat := (l.cpc + 1) * (l.cgr + 1) * (l.rgd + 1) * (l.dgp + 1)
/-- Copies of each card: two of a dual-run card (R101). -/
def Launch.copies (l : Launch) : Nat := if l.dual then 2 else 1
/-- The entry of a launch in the books. -/
def Launch.books (l : Launch) : Entry :=
  { queue := l.queue, left := l.perGroup * l.count * l.copies, unpicked := l.perGroup * l.count, wdog := l.wdog, wdogAt := none,
    bad := false, sigs := [], dead := false }

/-- A card of a launch (R88): its number, its position word and its group slot. -/
def Launch.card (l : Launch) (id number slot time home : Nat) (x13 : Word) (seat : Option Nat) : Card :=
  let hdr := setBits l.hdr 32 16 slot
  { newCard id [l.pc, hdr, l.arg, word number, word (l.perGroup * l.count), x13, word l.queue, 0] hdr home l.slice time with
    entry := some l.entry, seat := seat }

/-- The home core of a queue (R90). -/
def State.queueHome (s : State) (q : Nat) : Nat := q / 32768 * 256 + (s.queue q).home.toNat

/-- Whether a card that has been ready or queued since then is aged (R95). -/
def State.agedSince (s : State) (t : Nat) : Bool := decide (t + 2 ^ 20 < s.time)

/-- HEAD goes on by one entry (R90, R93). -/
def State.advanceHead (s : State) (q : Nat) : State :=
  let x := s.queue q
  s.setQueue q { x with head := x.head + 1, stamps := x.stamps.drop 1 }

/-- The launch that a queue is dispatching. -/
def State.launchIn (s : State) (q : Nat) : Option Launch := (s.launches.find? fun p => p.2.queue == q).map (·.2)

/-- The bytes of the head entry of a queue (R90, R91), if it has one. -/
def State.headBytes (s : State) (q : Nat) : Option (List Byte) :=
  let x := s.queue q
  if x.en && x.head != x.tail then
    some (s.readBytes ((x.base.extractLsb' 0 40).toNat + 64 * (x.head.toNat % 2 ^ x.logcap.toNat)) 64)
  else none

/-- Whether the head of a queue has been queued for more than 2^20 cycles (R95). -/
def State.headAged (s : State) (q : Nat) : Bool :=
  match (s.queue q).stamps with
  | t :: _ => s.agedSince t
  | [] => false

/-- Whether the next entry of a queue may begin dispatch (R93): every card of earlier entries has been picked up, and with BARF every
earlier entry has finished. -/
def State.mayBegin (s : State) (q : Nat) (hdr : Word) : Bool :=
  s.entries.all fun p => p.2.queue != q || (p.2.unpicked == 0 && !hdr.getLsbD 4)

/-- What the dispatch of a queue's head does next (R93). -/
inductive Plan where
  | fail
  | card (core cls : Nat) (w : List Word)
  | first (core cls : Nat) (l : Launch)
  | more (core cls : Nat) (l : Launch)
  | groups (l : Launch)
deriving DecidableEq, Repr

/-- The state of R81 for a card, in user mode; the trap banks, the steward CSRs and instret stay (R135). -/
def Thread.start (t : Thread) (c : Card) (sliceAt : Nat) : Thread :=
  { t with
    pc := c.pc, steward := false
    x := (c.xs.zipIdx).foldl (fun m p => aput m (10 + p.2) p.1) []
    v := [], k := [], vfmt := 0, mfmt := 1, vflags := 0, pfx := false, pfxv := 0, chwin := false, pres := 0, dtbase := 0, dist := [], skew := []
    card := some c, park := false, outs := [], jobs := [], chans := [], landed := [], resv := none, gang := false, reports := []
    preempts := t.preempts.filter (· == 3), deadlineHit := false, sliceAt := sliceAt, mark := none, bar := none, remote := none
    lost := none, aborted := false, waits := false
    mflags := if t.mcard = some c.id then t.mflags else 0, mcard := some c.id }

/-- The entry of a card learns of its first pick-up (R93, R100). -/
def State.entryStarts (s : State) (c : Card) : State :=
  if c.ran then s
  else match c.entry.bind fun id => (afind s.entries id).map fun e => (id, e) with
    | some (id, e) =>
      let at_ := match e.wdogAt with
        | some t => some t
        | none => if e.wdog = 0 then none else some (s.time + 1024 * e.wdog)
      { s with entries := aput s.entries id { e with unpicked := e.unpicked - 1, wdogAt := at_ } }
    | none => s

/-- A thread set that takes up a card of an allocation to be evicted has PEND set and its deadline counter loaded (R145, log 55). -/
def State.askedLate (s : State) (tid : Nat) (c : Card) : State :=
  let core := coreOf tid
  if c.seat.isSome && (s.core core).allocs.any (fun a => a.slot == c.group && a.evicting) then
    s.modThread tid fun t => { t with ckptab := t.ckptab ||| 2, deadlineAt := s.cycle core + (t.ckptmax.extractLsb' 0 32).toNat }
  else s

/-- A card whose entry's watchdog has expired, which suspended before it took the trap of that, is asked again (R100, R139). -/
def State.askedDead (s : State) (tid : Nat) (c : Card) : State :=
  if c.entry.any fun id => (afind s.entries id).any (·.dead) then
    s.modThread tid fun t => if t.preempts.contains 2 then t else { t with preempts := t.preempts ++ [2] }
  else s

/-- The acquire of a pick-up (R111): of what its poster or suspender knew; at the first one also of the message that triggered a handler card
(R248) and of what the host wrote before it appended the entry (R92). -/
def State.acquirePick (s : State) (tid : Nat) (c : Card) : State :=
  let s := s.acquireCard tid c.id
  if c.ran then s
  else
    let s := match c.msg.bind fun m => m.rel.map fun sc => (sc, m.id) with
      | some m => s.acquireFrom (.thread tid) m.1 m.2
      | none => s
    match c.entry.bind fun id => afind s.entries id with
    | some e => s.acquireIn (.thread tid) 3 (appendOrder e.queue)
    | none => s

/-- A thread set takes a card up (R81, R99, R105, R113): the state of R81, what the suspending instruction delivers, the packets held
for its tag.  Whether a pick-up by another thread set of the core ends a scan of R97 the manual does not say: that any pick-up starts the core's scan
again is the model's choice (log 76). -/
def State.startCard (s : State) (tid : Nat) (c : Card) : State :=
  let core := coreOf tid
  let s := s.entryStarts c
  let c' := { c with home := core, ran := true, aged := false, hdr0 := c.hdr, deliver := none }
  let sliceAt := if c.slice = 0 then 0 else s.cycle core + c.slice
  let s := s.modThread tid fun t =>
    let t := t.start c' sliceAt
    match c.deliver with
    | some d => t.wx d.rd d.val
    | none => t
  let s := s.modCore core fun k => { k with scan := 0 }
  (((s.askedLate tid c').askedDead tid c).acquirePick tid c).pump tid

/-- The two copies of a dual-run card start (R101); each of a group's has its own place in it (log 69). -/
def State.startBoth (s : State) (tid b : Nat) (c : Card) : State :=
  let r := s.newId
  let one (i : Nat) (copy : Bool) : Card := { c with id := i, copy := some copy, twin := c.id, sig := 0, hdr := setBits c.hdr 2 2 0 }
  let s := r.2.startCard tid (one c.id false)
  (s.startCard b { one r.1 true with ran := true, seat := c.seat.map fun _ => b }).acquirePick b { c with ran := false }

/-- Takes a card up; at the first pick-up of a dual-run card both copies start (R101). -/
def State.startCopies (s : State) (tid : Nat) (c : Card) : Option State :=
  if c.dual && c.copy.isNone then (s.idleOn (twinCore (coreOf tid))).head?.map fun b => s.startBoth tid b c
  else some (s.startCard tid c)

/-- The placement of the next group of a launch (R89), if it can be admitted now. -/
def State.groupFits (s : State) (l : Launch) : Option (List (List (List Nat))) :=
  if (List.range 0xFFFF).all fun n => (afind s.groups n).isSome then none 
  else if l.dual then s.dualShape l else shapeOn l (s.suits l)

/-- The next step of a queue's dispatch; `none` where it waits (R93).  A launch that a queue has begun to place goes on after the queue is disabled
(log 64). -/
def State.plan (s : State) (q : Nat) : Option Plan :=
  let home := s.queueHome q
  match s.launchIn q with
  | some l =>
    if l.level ≠ 0 then none
    else
      let cls := if s.agedSince l.since then 3 else (l.hdr.extractLsb' 0 2).toNat
      (s.placeCard home (l.hdr.extractLsb' 2 2).toNat l.dies l.dual cls).map fun c => .more c cls l
  | none =>
    match s.headBytes q with
    | none => none
    | some img =>
      let w := cardWords img
      let hdr := w.getD 1 0
      let cls := if s.headAged q then 3 else (hdr.extractLsb' 0 2).toNat
      let aff := (hdr.extractLsb' 2 2).toNat
      if !s.mayBegin q hdr then none
      else if (s.queue q).kind then
        let l := launchOf img q
        if s.launchBad img l home then some .fail
        else if l.level = 0 then (s.placeCard home aff l.dies l.dual cls).map fun c => .first c cls l
        else (s.groupFits l).map fun _ => .groups l
      else if !s.cardOk (w.headD 0) hdr then some .fail
      else (s.placeCard home aff 0 (hdr.getLsbD 5) cls).map fun c => .card c cls w

/-- The core and class that a step of dispatch competes for (R96). -/
def Plan.claim : Plan → Option (Nat × Nat)
  | .card core cls _ => some (core, cls)
  | .first core cls _ => some (core, cls)
  | .more core cls _ => some (core, cls)
  | _ => none

/-- Whether another queue's head goes first to the same core (R96): a higher class, or the same and a lower queue number. -/
def State.outranked (s : State) (q : Nat) (p : Plan) : Bool :=
  match p.claim with
  | none => false
  | some (core, cls) => s.queues.any fun x => x.1 != q && (match (s.plan x.1).bind (·.claim) with
      | some (core', cls') => core' == core && (decide (cls < cls') || (cls' == cls && decide (x.1 < q)))
      | none => false)

/-- The next card or group of a launch is placed; with the last one the launch is admitted whole. -/
def State.launchNext (s : State) (l : Launch) : State :=
  if l.next + 1 = l.count then { s with launches := adel s.launches l.entry }
  else { s with launches := aput s.launches l.entry { l with next := l.next + 1 } }

/-- A thread set takes up the next card of a LEVEL 0 launch (R88, R89). -/
def State.placeNext (s : State) (l : Launch) (tid : Nat) : Option State :=
  let r := s.newId
  let c := l.card r.1 l.next 0xFFFF s.time (coreOf tid) (word l.next <<< 22) none
  ((r.2.launchNext l).startCopies tid c)

/-- The seats of a core of a placement: the lowest idle thread sets behind some, one for each card. -/
def State.coreSeats (s : State) (l : Launch) (slot dg rg cg core behind : Nat) : List Seat :=
  (((s.idleOn core).drop behind).take (l.cpc + 1)).map fun tid => { slot := slot, tid := tid, dg := dg, rg := rg, cg := cg, done := false }

/-- All seats of a placement, in the order of the cards' numbers (R88): of the cards or copies A, or, as `twin`, of copies B, on the twin cores
behind the copies A that these hold (R101). -/
def State.seatsOf (s : State) (l : Launch) (slot : Nat) (shape : List (List (List Nat))) (twin : Bool := false) : List Seat :=
  (shape.zipIdx).flatMap fun d => (d.1.zipIdx).flatMap fun r => (r.1.zipIdx).flatMap fun c =>
    if twin then s.coreSeats l slot d.2 r.2 c.2 (twinCore c.1) (if shape.flatten.flatten.contains (twinCore c.1) then l.cpc + 1 else 0)
    else s.coreSeats l slot d.2 r.2 c.2 c.1 0

/-- The reserved thread sets of a group take up its cards (R88, R89), or the two copies of each (R101). -/
def State.startSeats (s : State) (l : Launch) (top slot : Nat) : List (Seat × Option Seat) → Nat → State
  | [], _ => s
  | (x, b) :: rest, i =>
    let r := s.newId
    let dg := if l.level = 4 then l.rank * (l.dgp + 1) + x.dg else x.dg
    let x13 : Word := (word top <<< 22) ||| (word dg <<< 10) ||| (word x.rg <<< 5) ||| (word x.cg <<< 2) ||| word (i % (l.cpc + 1))
    let c := l.card r.1 (top * l.perGroup + i) slot s.time (coreOf x.tid) x13 (some x.tid)
    (match b with
      | some y => r.2.startBoth x.tid y.tid c
      | none => r.2.startCard x.tid c).startSeats l top slot rest (i + 1)

/-- Admits the next group of a launch at a placement, in one step (R88, R89). -/
def State.enterGroup (s : State) (l : Launch) (shape : List (List (List Nat))) : State :=
  let slot := ((List.range 0xFFFF).find? fun n => (afind s.groups n).isNone).getD 0
  let seats := s.seatsOf l slot shape
  let twins := if l.dual then s.seatsOf l slot shape true else []
  let g : Group := { level := l.level, cpc := l.cpc, cgr := l.cgr, rgd := l.rgd, dgp := l.dgp, pkgs := l.pkgs, podkey := l.podkey,
                     entry := l.entry, seats := seats ++ twins }
  let s := { s with groups := aput s.groups slot g }
  let asid := l.hdr.extractLsb' 48 16
  let alloc (s : State) (core : Nat) : State := s.modCore core fun c => { c with allocs := c.allocs ++
    [{ slot := slot, asid := asid, base := freeSpad c.allocs (1024 * l.spad), len := 1024 * l.spad, evicting := false }] }
  let cores := ((seats ++ twins).map fun x => coreOf x.tid).eraseDups
  let s := if l.spad = 0 then s else cores.foldl alloc s
  let pairs := if l.dual then (seats.zip twins).map fun p => (p.1, some p.2) else seats.map fun x => (x, none)
  (s.launchNext l).startSeats l l.next slot pairs 0

/-- The ranks that this package can have among the packages that join a pod group, ordered by CHIPNO (R88): the least and the greatest. -/
def State.rankRange (s : State) (pkgs : Nat) : Nat × Nat :=
  let above := (s.podLast.getD 4095) - s.chipno
  (pkgs - above, min s.chipno pkgs)

/-- The rank of this package in a pod group (R88): one for each PODKEY, within what its CHIPNO allows; which packages join the manual leaves to
the launches of the others (log 2). -/
def State.podRank (s : State) (l : Launch) : State × Nat :=
  let r := s.rankRange l.pkgs
  let known := afind s.podRanks l.podkey.toNat
  match known.bind fun n => if r.1 ≤ n ∧ n ≤ r.2 then some n else none with
  | some n => (s, n)
  | none =>
    if r.2 ≤ r.1 then (s, r.2)
    else
      let f := s.freeWord
      let n := r.1 + f.1.toNat % (r.2 - r.1 + 1)
      ({ f.2 with podRanks := aput s.podRanks l.podkey.toNat n }, n)

/-- A launch enters the books. -/
def State.bookLaunch (s : State) (l : Launch) : State × Launch :=
  let r := s.newId
  let k := r.2.podRank l
  let l := { l with entry := r.1, rank := k.2, since := (s.queue l.queue).stamps.headD s.time }
  ({ (k.1.advanceHead l.queue) with entries := aput k.1.entries r.1 l.books }, l)

/-- A card entry enters the books and a thread set takes its card up (R93).  The manual does not refuse an entry whose TAG is not 0xFFFF: that the
card starts with that field and no tag held is the model's choice (log 77). -/
def State.dispatchCard (s : State) (q tid : Nat) (w : List Word) : Option State :=
  let r := s.newId
  let e := r.2.newId
  let hdr := setBits (w.getD 1 0) 32 16 0xFFFF
  let c := { newCard r.1 w hdr (coreOf tid) 0 s.time with entry := some e.1 }
  let left := if c.dual then 2 else 1
  let b : Entry := { queue := q, left := left, unpicked := 1, wdog := 0, wdogAt := none, bad := false, sigs := [], dead := false }
  State.startCopies { (e.2.advanceHead q) with entries := aput e.2.entries e.1 b } tid c

/-- A thread set takes up what a queue offers its core (R93, R96). -/
def State.takeHead (s : State) (q tid : Nat) : Plan → Option State
  | .card _ _ w => s.dispatchCard q tid w
  | .first _ _ l => let r := s.bookLaunch l; r.1.placeNext r.2 tid
  | .more _ _ l => s.placeNext l tid
  | _ => none

/-- QUEUE_DISPATCH (R93): a failed entry; a card, or the next card of a LEVEL 0 launch, to the lowest idle thread set of its core; or a launch with
its first group. -/
def State.queueDispatch (s : State) (q : Nat) : Option State :=
  match s.plan q with
  | none => none
  | some p =>
    if !s.live || s.outranked q p then none
    else match p, p.claim with
      | .fail, _ => some ((s.advanceHead q).queueError q 4)
      | .groups l, _ =>
        let r := s.bookLaunch l
        (r.1.groupFits r.2).map fun shape => r.1.enterGroup r.2 shape
      | p, some (core, _) => (s.idleOn core).head?.bind fun tid => s.takeHead q tid p
      | _, none => none
def execQueueDispatch (q : Nat) (s : State) : Res := event s (s.queueDispatch q)

/-- GANG_ADMIT (R88, R89): the next top-level group of a launch. -/
def State.gangAdmit (s : State) (id : Nat) : Option State :=
  match afind s.launches id with
  | some l => if l.level = 0 ∨ !s.live then none else (s.groupFits l).map fun shape => s.enterGroup l shape
  | none => none
def execGangAdmit (id : Nat) (s : State) : Res := event s (s.gangAdmit id)

/-- Reads bytes of a context buffer (R144). -/
def State.getBuffer (s : State) (buffer off n : Nat) : State × List Byte :=
  if s.bufferOk buffer then (s, s.readBytes (bufferAt buffer off) n)
  else let r := s.freeBytes ((n + 7) / 8); (r.1, r.2.take n)

/-- The packets of a tag as the context buffer holds them, from an entry of 64 bytes on; those that lie beyond its 64 stay as they are (R144,
R149). -/
def State.rereadHeld (s : State) (buffer : Nat) : Nat → List Packet → List Packet
  | _, [] => []
  | i, p :: r =>
    (if s.bufferOk buffer && decide (i + p.entries ≤ 64) then
      s.unspill p (bufferAt buffer (0xB000 + 64 * i)) (64 * p.entries)
    else p) :: s.rereadHeld buffer (i + p.entries) r

/-- The entries of a channel as the context buffer holds them (R144, R149). -/
def State.refill (s : State) (buffer : Nat) (p : Nat × List Packet) : Nat × List Packet :=
  (p.1, (p.2.zipIdx).map fun q =>
    if s.bufferOk buffer then s.unspill q.1 (bufferAt buffer (0xA000 + 512 * p.1 + 128 * q.2)) 128 else q.1)

/-- A bank as TSTAT and the other words of a snapshot hold it (R134, R144). -/
def bankOf (tepc tcause tval stat : Word) : TrapBank :=
  { tepc := tepc &&& ~~~3, tcause := zext (tcause.extractLsb' 0 6), tval := tval, pfxv := stat.extractLsb' 8 5, ends := stat.getLsbD 6,
    abt := stat.getLsbD 5, act := stat.getLsbD 4, park := stat.getLsbD 2, pm := stat.getLsbD 1, pfx := stat.getLsbD 0 }

/-- The thread set with a snapshot restored (R144, R149); PEND is the thread set's own. -/
def Thread.restore (t : Thread) (w : List Word) : Thread :=
  let f (i : Nat) : Word := w.getD i 0
  { t with
    x := (List.range 31).foldl (fun m n => aput m (n + 1) (f n)) []
    pc := f 31, steward := (f 32).getLsbD 0, tvec0 := f 33, tvec1 := f 34
    bank0 := bankOf (f 35) (f 37) (f 39) (f 41), bank1 := bankOf (f 36) (f 38) (f 40) (f 42)
    tmsg := f 43, ckptab := (f 44 &&& ~~~0x3E) ||| (t.ckptab &&& 2) }

/-- A stopped copy joins the queue of the same-numbered channel (R150). -/
def State.rejoin (s : State) (core : Nat) (p : Nat × CopyCmd) : State :=
  let x := (s.core core).channel p.1
  s.setChannel core p.1 { x with ip := x.ip + word (p.2.len - p.2.done), q := x.q ++ [p.2] }

/-- The resumption of a pre-empted card (R149): refill, copies, withdrawn commands, snapshot; a register write that has come since CKPT
lands then (R116).  As a pick-up it starts the core's scan again (log 76). -/
def State.resume (s : State) (tid : Nat) (v : Saved) : State :=
  let core := coreOf tid
  let flags := (s.thread tid).mflags
  let mine := (s.thread tid).mcard == some v.card.id
  let s := s.modCore core fun k => { k with stopped := k.stopped.filter fun x => x.card.id != v.card.id }
  let sliceAt := if v.card.slice = 0 then 0 else s.cycle core + v.card.slice
  let chans := v.chans.map (s.refill v.buffer)
  let s := s.modThread tid fun t => { t.start { v.card with ran := true } sliceAt with landed := s.rereadHeld v.buffer 0 v.unread }
  let s := (s.giveBack tid).modThread tid fun t => { t with
    chans := chans, gang := v.gang, mflags := if v.evicted then v.mflags else if mine then flags else 0
    reports := v.reports, preempts := v.preempts ++ t.preempts, lost := v.lost
    jobs := v.jobs.map fun (j : LaneJob) => j
    outs := v.outs ++ v.copies.map fun (c : Nat × CopyCmd) => { id := c.2.id, kind := .ni, regs := [], vals := none, acq := none } }
  let copies := v.copies.map fun (c : Nat × CopyCmd) => (c.1, { c.2 with tid := tid })
  let s := copies.foldl (fun s c => s.rejoin core c) s
  let bank := v.bank.map fun (o : BankOp) => { o with tid := tid }
  let beads := v.beadOps.map fun (o : BeadOp) => { o with tid := tid }
  let xops := v.xops.map fun (o : CrossOp) => { o with tid := tid }
  let s : State := { s with bank := s.bank ++ bank, beadOps := s.beadOps ++ beads, xops := s.xops ++ xops }
  let s := (s.modCore core fun k => { k with seq := k.seq ++ v.seq.map fun (i : SeqItem) => { i with tid := tid } }).pump tid
  let r := s.getBuffer v.buffer 0x9000 512
  let words := (List.range 64).map fun i => word (leNat ((r.2.drop (8 * i)).take 8))
  let later := (s.thread tid).landed.filter fun p => !v.unread.any fun q => q.id == p.id
  let s := r.1.modThread tid fun t => later.foldl (fun t p => t.wx (BitVec.ofNat 5 (24 + p.reg)) p.value) (t.restore words)
  ((s.modCore core fun k => { k with scan := 0 }).askedDead tid v.card).acquireCard tid v.card.id

/-- Whether a pre-empted card may be taken up on a thread set of its core (R143, R149): a reserved card only on its own thread set, none
while its allocation is to be evicted, and not before what it had not read fits. -/
def State.mayResume (s : State) (tid : Nat) (v : Saved) : Bool :=
  let c := s.core (coreOf tid)
  (if v.card.seat.isSome then v.tid == tid else !s.reserved tid) && c.takesBack v.unread &&
  !(v.card.seat.isSome && c.allocs.any fun a => a.slot == v.card.group && a.evicting)

/-- Whether a thread set may take up a ready card (R89, R101): a reserved one only its own group's, and none whose
allocation is evicted. -/
def State.mayTake (s : State) (tid : Nat) (c : Card) : Bool :=
  (match c.seat with
    | some t => t == tid && !s.evictions.any fun e => e.alloc.slot == c.group && e.core == coreOf tid
    | none => !s.reserved tid) &&
  (!c.dual || c.copy.isSome || !(s.idleOn (twinCore (coreOf tid))).isEmpty)

/-- What a free thread set can take up on its core. -/
inductive Pick where
  | ready (c : Card)
  | head (q cls : Nat) (p : Plan)
  | stopped (v : Saved)
deriving DecidableEq, Repr

/-- The effective class of a choice. -/
def State.pickClass (s : State) : Pick → Nat
  | .ready c => s.effClass c
  | .head _ cls _ => cls
  | .stopped v => s.effClass v.card

/-- The heads of host queues that are to be placed on a core, from the lowest queue (R93, R96). -/
def State.headsFor (s : State) (core : Nat) : List Pick :=
  s.queues.filterMap fun q => match s.plan q.1 with
    | some p => match p.claim with
      | some (k, cls) => if k = core ∧ s.outranked q.1 p = false then some (.head q.1 cls p) else none
      | none => none
    | none => none

/-- The choices of a free thread set, the preferred first among equal classes (R96): its core's deque from the bottom, heads of host
queues from the lowest queue, then pre-empted cards of the core. -/
def State.picks (s : State) (tid : Nat) : List Pick :=
  let c := s.core (coreOf tid)
  (c.deque.reverse.filter (s.mayTake tid)).map .ready ++
  (if s.reserved tid then [] else s.headsFor (coreOf tid)) ++
  (c.stopped.filter (s.mayResume tid)).map .stopped

/-- The first choice of the highest class. -/
def State.bestPick (s : State) : List Pick → Option Pick
  | [] => none
  | p :: r => match s.bestPick r with
    | some q => if s.pickClass p < s.pickClass q then some q else some p
    | none => some p

/-- CARD_PICKUP (R81, R96, R149): a free thread set takes up a card; every pick-up acquires (R111). -/
def State.pickup (s : State) (tid : Nat) : Option State :=
  if !s.live || !s.isFree tid then none
  else match s.bestPick (s.picks tid) with
    | none => none
    | some (.ready c) => (s.takeFrom (coreOf tid) c.id).startCopies tid c
    | some (.head q _ p) => s.takeHead q tid p
    | some (.stopped v) => some (s.resume tid v)
def execCardPickup (tid : Nat) (s : State) : Res := event s (s.pickup tid)

/-- The victim of step `i` of a core's steal scan (R97). -/
def victimAt (core i : Nat) : Nat :=
  let j := i + 1
  (core / 256 + j / 256) % 4 * 256 + (core / 64 + j / 64) % 4 * 64 + (core / 8 + j / 8) % 8 * 8 + (core + j) % 8

/-- Whether an idle thread set of a core finds a card under candidates 1 and 2 of R96. -/
def State.findsCard (s : State) (core : Nat) : Bool := (s.idleOn core).any fun tid => !(s.picks tid).isEmpty

/-- Whether a thief reaches for an entry of a victim at this moment: its scan stands there (R97). -/
def State.reachesFor (s : State) (thief victim : Nat) : Bool :=
  let c := s.core thief
  c.pause.isNone && !(s.idleOn thief).isEmpty && victimAt thief c.scan == victim && !s.findsCard thief && (s.stealFrom victim thief).isSome

/-- Whether a thief's attempt at the last entry of a deque is lost: its owner has a free thread set whose choice it is, or a thief of a lower core
reaches for it (R98). -/
def State.beaten (s : State) (victim thief : Nat) (c : Card) : Bool :=
  (s.core victim).deque.length == 1 &&
  ((tidsOf victim).any (fun tid => s.isFree tid && (match s.bestPick (s.picks tid) with
      | some (.ready k) => k.id == c.id
      | _ => false)) ||
   s.cores.any fun p => decide (p.1 < thief) && s.reachesFor p.1 victim)

/-- What a thief takes from a victim, if its attempt succeeds (R97, R98). -/
def State.wins (s : State) (victim thief : Nat) : Option Card :=
  (s.stealFrom victim thief).bind fun c => if s.beaten victim thief c then none else some c

/-- CARD.STEAL (R120). -/
def execCardSteal (rd rs1 : BitVec 5) (s : State) : Res :=
  plain s [rd, rs1] fun s =>
    let v := s.myDie * 256 + (s.rx rs1).toNat
    let grouped := match s.th.card with
      | some c => c.seat.isSome
      | none => false
    if grouped then (s.returnLater .card rd 1).retire
    else if 255 < (s.rx rs1).toNat ∨ v = s.myCore then (s.returnLater .card rd 2).retire
    else match s.wins v s.myCore with
      | none => (s.returnLater .card rd 1).retire
      | some c =>
        match (s.takeFrom v c.id).pushAs s.myCore c with
        | some s' => (s'.returnLater .card rd 0).retire
        | none =>
          let s := (s.takeFrom v c.id).modCore v fun k => k.withDeque (c :: k.deque)
          (s.returnLater .card rd 3).retire

/-- STEAL_SCAN_STEP (R97, R98): one victim; the scan ends with a card found or stolen, which an idle thread set of the core takes up, and pauses
after 1023 victims. -/
def State.stealStep (s : State) (core : Nat) : Option State :=
  let c := s.core core
  if !s.live || decide (1024 ≤ core) || c.pause.isSome || (s.idleOn core).isEmpty then none
  else if s.findsCard core then some (s.setCore core { c with scan := 0 })
  else
    let v := victimAt core c.scan
    let stolen := (s.wins v core).bind fun k => (s.idleOn core).head?.bind fun tid =>
      (s.takeFrom v k.id).startCopies tid { k with home := core }
    match stolen with
    | some s => some s
    | none =>
      if c.scan = 1022 then some (s.setCore core { c with scan := 0, pause := some (s.cycle core + 64) })
      else some (s.setCore core { c with scan := c.scan + 1 })
def execStealScanStep (core : Nat) (s : State) : Res := event s (s.stealStep core)

/-- STEAL_PAUSE_END (R97). -/
def State.stealPauseEnd (s : State) (core : Nat) : Option State :=
  let c := s.core core
  match c.pause with
  | some t => if s.live && decide (t ≤ s.cycle core) then some (s.setCore core { c with pause := none, scan := 0 }) else none
  | none => none
def execStealPauseEnd (core : Nat) (s : State) : Res := event s (s.stealPauseEnd core)

/-- AGEING (R95): a card ready for more than 2^20 cycles. -/
def State.age (s : State) (id : Nat) : Option State :=
  match s.cores.find? fun p => p.2.deque.any fun c => c.id == id && !c.aged && s.agedSince c.since with
  | some (core, _) => some (s.modCore core fun k => { k with deque := k.deque.map fun c => if c.id = id then { c with aged := true } else c })
  | none => none
def execAgeing (id : Nat) (s : State) : Res := event s (s.age id)

/-- Whether the head of some queue could be picked up by a thread set, were it free, with at least a class (R99): a card or LEVEL 0 launch that may
begin and whose placement rule admits the core, or a group that would then be admitted with it.  Whether the head of a dual-run card whose twin core has no idle thread set counts the manual does not
say: that it does is the model's choice (log 78). -/
def State.queueWaits (s : State) (tid cls : Nat) : Bool :=
  let core := coreOf tid
  let freed := s.modThread tid fun t => { t with card := none }
  s.queues.any fun q =>
    let home := s.queueHome q.1
    let high (hdr : Word) (aged : Bool) : Bool := decide (cls ≤ if aged then 3 else (hdr.extractLsb' 0 2).toNat)
    let fits (hdr : Word) (dies : BitVec 4) : Bool := dieAdmits dies core && affAdmits (hdr.extractLsb' 2 2).toNat home core
    let joins (l : Launch) : Bool := match freed.groupFits l with
      | some shape => shape.flatten.flatten.contains core && (s.groupFits l).isNone
      | none => false
    let launch (l : Launch) (aged : Bool) : Bool := high l.hdr aged && if l.level = 0 then fits l.hdr l.dies else joins l
    match s.launchIn q.1, s.headBytes q.1 with
    | some l, _ => launch l (s.agedSince l.since)
    | none, some img =>
      let hdr := (cardWords img).getD 1 0
      let aged := s.headAged q.1
      s.mayBegin q.1 hdr &&
      if q.2.kind then !s.launchBad img (launchOf img q.1) home && launch (launchOf img q.1) aged
      else s.cardOk ((cardWords img).headD 0) hdr && high hdr aged && fits hdr 0
    | none, none => false

/-- SLICE_EXPIRY (R99): the slice counter has reached 0; a card that waits pre-empts, else the slice is loaded again. -/
def State.sliceExpiry (s : State) (tid : Nat) : Option State :=
  let t := s.thread tid
  let core := coreOf tid
  match t.card with
  | none => none
  | some c =>
    if c.slice = 0 ∨ t.sliceAt = 0 ∨ s.cycle core < t.sliceAt then none
    else
      let cls := s.effClass c
      let own := (s.core core).deque.any fun k => decide (cls ≤ s.effClass k) && s.mayTake tid k
      if own || (!s.reserved tid && s.queueWaits tid cls) then
        some (s.setThread tid { t with preempts := t.preempts ++ [0], sliceAt := 0 })
      else some (s.setThread tid { t with sliceAt := s.cycle core + c.slice })
def execSliceExpiry (tid : Nat) (s : State) : Res := event s (s.sliceExpiry tid)

/-- Whether a card belongs to an entry. -/
def Card.ofEntry (c : Card) (id : Nat) : Bool := c.entry == some id

/-- The cards of an entry on a core that do not run (R100). -/
def Core.waitingOf (k : Core) (id : Nat) : List Card :=
  (k.deque ++ k.asleep ++ k.stopped.map (·.card)).filter (·.ofEntry id)

/-- A core without the cards of an entry that do not run. -/
def Core.discard (k : Core) (id : Nat) : Core :=
  { k with deque := k.deque.filter (fun c => !c.ofEntry id), asleep := k.asleep.filter (fun c => !c.ofEntry id),
           stopped := k.stopped.filter (fun v => !v.card.ofEntry id) }

/-- Ends a card that does not run: its tag is released (R100, R113). -/
def State.discardCard (s : State) (core : Nat) (c : Card) : State := (s.releaseTag core c.id).endCard c false false

/-- The cards of an entry that do not run end, and its groups not yet admitted; with nothing left the entry ends (R100). -/
def State.discardEntry (s : State) (id : Nat) : State :=
  let here := s.cores.flatMap fun p => (p.2.waitingOf id).map fun c => (p.1, c)
  let away := s.evictions.flatMap fun e => ((e.cards.map (·.card) ++ e.ready).filter (·.ofEntry id)).map fun c => (e.core, c)
  let left := match afind s.launches id with
    | some l => (l.count - l.next) * l.perGroup * l.copies
    | none => 0
  let evictions := s.evictions.map fun (e : Eviction) =>
    { e with cards := e.cards.filter (fun v => !v.card.ofEntry id), ready := e.ready.filter (fun c => !c.ofEntry id) }
  let s : State := { s with
    launches := adel s.launches id, evictions := evictions
    cores := s.cores.map fun p => (p.1, p.2.discard id)
    entries := s.entries.map fun p => if p.1 = id then (p.1, { p.2 with left := p.2.left - left, unpicked := 0 }) else p }
  let s := (here ++ away).foldl (fun s p => s.discardCard p.1 p.2) s
  match afind s.entries id with
  | some e => if e.left = 0 then s.finishEntry id e else s
  | none => s

/-- WATCHDOG_EXPIRY (R100): what does not run is discarded, what runs takes cause 8 with TVAL 2, and the entry ends with its last
card. -/
def State.watchdog (s : State) (id : Nat) : Option State :=
  match afind s.entries id with
  | some e =>
    match e.wdogAt with
    | some t =>
      if e.dead || decide (s.time < t) || !s.ready then none
      else if s.pstate ≠ 0 then (if s.waking then none else some { s with waking := true })
      else
        let s : State := { s with
          entries := aput s.entries id { e with dead := true }
          threads := s.threads.map fun p => match p.2.card with
            | some c => if c.ofEntry id then (p.1, { p.2 with preempts := p.2.preempts ++ [2] }) else p
            | none => p }
        some (s.discardEntry id)
    | none => none
  | none => none
def execWatchdogExpiry (id : Nat) (s : State) : Res := event s (s.watchdog id)

end Sys2Proof.Machine
end

