-- ==== Sys2Proof/Machine/Root.lean ====
section
/-! DEFINITION. The Dravty root: errors and withdrawal, reset and the wipe, the life cycle, attestation; and the moves of gallery
columns (R275 to R277, R386 to R394). -/

namespace Sys2Proof.Machine

/-- An error log entry (R393), over the oldest when 4096 are held; HINT.ERR (R382, R392). -/
def State.logError (s : State) (kind loc count : Nat) : State :=
  let e : ErrEntry := { time := s.time, loc := loc, kind := kind, count := count }
  State.setHint { s with errlog := aput s.errlog (s.errNext % 4096) e, errNext := s.errNext + 1 } 2

/-- The number of the first SRAM macro among the location numbers of the model: below it a location is the local address of an HBM
row or a gallery line. -/
def firstMacro : Nat := 2 ^ 40
/-- The core of a scratchpad or core SRAM macro; the manual gives no macro numbers, the model counts 64 to each core. -/
def macroCore (loc : Nat) : Option Nat := if firstMacro ≤ loc ∧ loc < firstMacro + 65536 then some ((loc - firstMacro) / 64) else none
/-- The die of any other SRAM macro. -/
def macroDie (loc : Nat) : Option Nat := if firstMacro + 65536 ≤ loc then some ((loc - firstMacro - 65536) % 4) else none

/-- What an error log entry says of a location (R393): a physical address or a macro number. -/
def State.locWord (s : State) (loc : Nat) : Nat := if loc < firstMacro then s.chipno * 2 ^ 40 + loc else loc - firstMacro

/-- Ticks of 24 hours at 700 MHz (R21, R392). -/
def dayTicks : Nat := 24 * 3600 * 700000000

/-- CORRECTED_ERROR (R392, R393): the third correction of a location within 24 hours is lasting. -/
def State.corrected (s : State) (loc : Nat) : State :=
  let now := s.rootTime + s.time
  let c := aget { count := 0, times := [] } s.corrections loc
  let lasting := c.times.length == 2 && c.times.all fun t => decide (now ≤ t + dayTicks)
  let n : Corrections := { count := c.count + 1, times := (now :: c.times).take 2 }
  let s : State := { s with corrections := aput s.corrections loc n,
                            recorded := if lasting && !s.recorded.contains loc then s.recorded ++ [loc] else s.recorded }
  s.logError (if lasting then 2 else 1) (s.locWord loc) n.count
def execCorrectedError (loc : Nat) (s : State) : Res := .next (s.corrected loc)

/-- UNCORRECTABLE_ERROR (R271, R392, R393): the data carries its poisoned mark. -/
def State.uncorrectable (s : State) (pa len : Nat) : State :=
  let bytes := (List.range len).map fun i => pa % 2 ^ 40 + i
  State.logError { s with poison := s.poison.filter (fun p => !bytes.contains p) ++ bytes } 3 pa 0
def execUncorrectableError (pa len : Nat) (s : State) : Res := .next (s.uncorrectable pa len)

/-- ON_DIE_LINK_FAILURE (R393): every card of the package stops until the next reset. -/
def State.onDieFailure (s : State) (loc : Nat) : State := State.logError { s with halted := true } 4 loc 0
def execOnDieLinkFailure (loc : Nat) (s : State) : Res := .next (s.onDieFailure loc)

/-- The local range that leaves service with a location (R394): with a die's macro, the windows of its cores. -/
def goneRange (loc : Nat) : Option (Nat × Nat) :=
  if loc < 0xC000000000 then some (loc / 0x10000 * 0x10000, 0x10000)
  else if inGallery loc then some (loc / 64 * 64, 64)
  else match macroCore loc, macroDie loc with
    | some c, _ => some (spadBase c, 0x100000)
    | none, some d => some (windowBase + d * 0x10000000, 0x10000000)
    | none, none => none

/-- The cores that leave service with a location (R394). -/
def goneCores (loc : Nat) : List Nat :=
  match macroCore loc, macroDie loc with
  | some c, _ => [c]
  | none, some d => (List.range 256).map fun i => d * 256 + i
  | none, none => []

/-- A package reset (R386, R387): everything but what the root keeps: the life cycle, the corrections, the count of resets; recorded
locations leave service (R394).  WIPE_DONE follows.  The cores' cycle counters start here, before the wipe (log 73). -/
def State.packageReset (s : State) : State :=
  let gone := s.gone ++ s.recorded.filter fun l => !s.gone.contains l
  let dead := gone.flatMap goneCores
  let cores : AMap Core := dead.foldl (fun m c => aput m c { dead := true }) []
  let dies : AMap Die := (gone.filterMap macroDie).foldl (fun m d => aput m d { engineOut := true }) []
  { State.reset with
    lcNext := s.lcNext, agenda := s.agenda, cur := s.cur, fresh := s.fresh, nextId := s.nextId, traps := s.traps
    lc := s.lc, resets := s.resets + 1, rootTime := s.rootTime + s.time, corrections := s.corrections, gone := gone
    withdrawn := gone.filterMap goneRange, cores := cores, dieMap := dies, msix := s.msix, hostOut := s.hostOut }
/-- PACKAGE_RESET (R387). -/
def execPackageReset (s : State) : Res := .next s.packageReset

/-- RST (R381, R387). -/
def State.rst (s : State) (val : Word) : State := if val.getLsbD 0 then s.packageReset else s
def execRst (val : Word) (s : State) : Res := .next (s.rst val)

/-- WIPE_DONE (R386, R388): READY := 1, with the life-cycle state that was asked for and HINT.LC. -/
def State.wipeDone (s : State) : Option State :=
  if s.ready then none
  else some (match s.lcNext with
    | some t => State.setHint { s with ready := true, lc := t, lcNext := none } 4
    | none => { s with ready := true })
def execWipeDone (s : State) : Res := event s s.wipeDone

/-- A write of LCREQ that is accepted (R388), with its target. -/
def State.lcTarget (s : State) (val : Word) : Option (BitVec 2) :=
  let t := val.extractLsb' 0 2
  if val.extractLsb' 48 16 == 0x4C43 && s.ready && ((s.lc == 1 && (t == 2 || t == 3)) || (s.lc == 2 && t == 3)) then some t else none

/-- A write of LCREQ (R388): the wipe, after which the state changes; every other write is ignored. -/
def State.lcWrite (s : State) (val : Word) : State :=
  match s.lcTarget val with
  | some t => { s.packageReset with lcNext := some t }
  | none => s
/-- LC_DEPLOY (R388). -/
def execLcDeploy (val : Word) (s : State) : Res := event s (if s.lcTarget val = some 2 then some (s.lcWrite val) else none)
/-- LC_RETURN (R388). -/
def execLcReturn (val : Word) (s : State) : Res := event s (if s.lcTarget val = some 3 then some (s.lcWrite val) else none)
/-- PROVISION (R388): the provisioning port of the root. -/
def execProvision (s : State) : Res := event s (if s.lc = 0 then some { s with lc := 1, resets := 0 } else none)

/-- Every open path log at its index (R390), in the order of the thread sets. -/
def State.openLogs (s : State) : List HandedLog :=
  (s.threads.filter fun p => p.2.plogbase.getLsbD 63).map fun p => { base := p.2.plogbase, index := p.2.plogIndex, chain := p.2.plogChain }

/-- A write of ATTREQ (R390). -/
def State.attWrite (s : State) (val : Word) : State :=
  if !val.getLsbD 0 || s.attstat.getLsbD 0 then s
  else if s.lc == 0 || s.lc == 3 then { s with attstat := 4 }
  else
    let s : State := if val.getLsbD 2 then State.plogRetryAll { s with logs := s.logs.drop s.carried, carried := 0 } else s
    let r : Request := { nonce := (List.range 8).map fun i => aget 0 s.attnonce i, open_ := if val.getLsbD 1 then s.openLogs else [] }
    { s with attstat := 1, request := some r }
/-- ATTREQ (R390). -/
def execAttreq (val : Word) (s : State) : Res := event s (if s.ready then some (s.attWrite val) else none)

/-- The bytes of a path-log entry of a report (R391). -/
def HandedLog.bytes (l : HandedLog) : List Byte := leBytes l.base.toNat 8 ++ leBytes l.index 8 ++ l.chain
/-- The bytes of a locket entry of a report (R391). -/
def State.locketBytes (s : State) (p : Nat × Locket) : List Byte :=
  leBytes p.1 8 ++ leBytes (s.chipno * 2 ^ 40 + p.2.base) 8 ++ leBytes p.2.len 8 ++ p.2.digest

/-- A report (R391); the measurement and the signature are not the manual's to give (log 2). -/
def State.reportOf (s : State) (r : Request) : List Byte :=
  let logs := s.logs ++ r.open_
  let head := leBytes (1 + 2 ^ 8 * s.lc.toNat + 2 ^ 16 * s.lockets.length + 2 ^ 32 * logs.length) 8 ++ leBytes (s.chipno + 2 ^ 32 * s.resets) 8
  let b := head ++ r.nonce.flatMap (fun (w : Word) => leBytes w.toNat 8) ++ (List.range 64).map Config.firmwareDigestByte ++
    s.lockets.flatMap s.locketBytes ++ logs.flatMap (·.bytes)
  let d := leNat (sha512 b)
  b ++ (List.range 132).map fun i => Config.signatureByte i d

/-- ATTEST_REPORT_DONE (R390): the report is in its buffer; DONE and HINT.ATT. -/
def State.reportDone (s : State) : Option State :=
  s.request.map fun r =>
    let b := s.reportOf r
    State.setHint { s with attreport := b ++ s.attreport.drop b.length, attstat := 2, request := none, carried := s.logs.length } 5
def execAttestReportDone (s : State) : Res := event s s.reportDone

/-- The gallery line byte of a die that a kept byte is (R276): the inverse of `keep`. -/
def State.galleryOf_ (s : State) (d a : Nat) : Option Nat :=
  let on := s.columns d
  if inGallery a then if dieOfAddr a = d ∧ on.getLsbD (galleryOff a / 64 % 16) then some a else none
  else
    let off := (List.range 16).filter fun c => !on.getLsbD c
    let base := s.foldBase d
    if base ≤ a ∧ a < base + off.length * 0x400000 then
      let f := a - base
      let i := f % 0x400000 / 64
      some (galleryBase + d * 0x4000000 + i / 16 * 0x4000 + i % 16 * 1024 + off.getD (f / 0x400000) 0 * 64 + f % 64)
    else none

/-- The columns of a die that are powered become `now`, its lines moved with them (R276, R277): no access of the
gallery sees a difference. -/
def State.moveColumns (s : State) (d : Nat) (now : BitVec 16) : State :=
  let moved := s.mem.filterMap fun p => (s.galleryOf_ d p.1).map fun a => (a, p.2)
  let rest := s.mem.filter fun p => (s.galleryOf_ d p.1).isNone
  let s : State := { s with gcolNow := aput s.gcolNow d now }
  let rest := rest.filter fun p => (s.galleryOf_ d p.1).isNone
  { s with mem := moved.foldl (fun m p => mwrite m (s.keep p.1) p.2) rest }

/-- GFOLD.V of a die (R275). -/
def State.foldValid (s : State) (d : Nat) : Bool := (aget 0 s.gfold d).getLsbD 63

/-- A write of GCOL (R275, R277). -/
def State.gcolSet (s : State) (d : Nat) (val : Word) : State :=
  let on := val.extractLsb' 0 16
  if on == 0 || (s.die d).moving || (on != 0xFFFF && !s.foldValid d) then s
  else s.modDie d fun x => { x with on := on, moving := on != s.columns d }
/-- GCOL_WRITE (R275). -/
def execGcolWrite (die : Nat) (val : Word) (s : State) : Res :=
  event s (if s.ready && decide (die < 4) then some (s.gcolSet die val) else none)

/-- A write of GFOLD (R275); one with a reserved field that is not zero is ignored. -/
def State.gfoldSet (s : State) (d : Nat) (val : Word) : State :=
  if s.columns d != 0xFFFF || !zeroAt val 52 11 || !zeroAt val 0 26 then s else { s with gfold := aput s.gfold d val }
/-- GFOLD_WRITE (R275). -/
def execGfoldWrite (die : Nat) (val : Word) (s : State) : Res :=
  event s (if s.ready && decide (die < 4) then some (s.gfoldSet die val) else none)

/-- COLUMN_MOVE_DONE (R277): the last line of a column has moved. -/
def State.columnMoved (s : State) (d col : Nat) : Option State :=
  let x := s.die d
  let now := s.columns d
  if !x.moving || decide (16 ≤ col ∨ 4 ≤ d) || x.on.getLsbD col == now.getLsbD col then none
  else
    let next := now ^^^ ((1 : BitVec 16) <<< col)
    some ((s.moveColumns d next).setDie d { x with moving := next != x.on })
def execColumnMoveDone (die col : Nat) (s : State) : Res := event s (s.columnMoved die col)

end Sys2Proof.Machine
end

