-- ==== Sys2Proof/Machine/Control.lean ====
section
/-! DEFINITION. Control space (R90, R135, R381, R382): what its registers read and what a write does. -/

namespace Sys2Proof.Machine

/-- PKGSTAT (R382). -/
def State.pkgstat (s : State) : Word := (zext s.lc <<< 10) ||| (zext s.pstate <<< 8) ||| bit s.ready 0
/-- TLINKk (R354). -/
def TLink.reg (t : TLink) : Word := (zext t.state <<< 30) ||| (zext t.plink <<< 12) ||| zext t.peer
/-- GCOL (R275). -/
def State.gcol (s : State) (d : Nat) : Word :=
  bit (s.die d).moving 32 ||| (zext (s.columns d) <<< 16) ||| zext (s.die d).on

/-- A doubleword of a queue descriptor (R90). -/
def Queue.reg (x : Queue) : Nat → Word
  | 0 => x.base
  | 1 => zext x.logcap ||| bit x.en 5 ||| bit x.kind 6 ||| bit x.ie 7 ||| (zext x.vec <<< 8) ||| (zext x.home <<< 19)
  | 2 => zext x.tail ||| (zext x.head <<< 32)
  | _ => zext x.done ||| (zext x.err <<< 32) ||| (zext x.last <<< 48)

/-- The bytes of an error log entry as a number (R393). -/
def ErrEntry.bits (e : ErrEntry) : Nat :=
  e.time % 2 ^ 64 + 2 ^ 64 * (e.loc % 2 ^ 64) + 2 ^ 128 * (e.kind % 256) + 2 ^ 160 * (e.count % 2 ^ 32)

/-- The identity public key (R381, R388): there is one in PROVISIONED and DEPLOYED. -/
def idKey (i : Nat) : Byte := if i = 0 then 4 else if i < 133 then Config.idKeyByte i else 0

/-- The doublewords of a card entry (R79). -/
def Card.words (c : Card) : List Word := c.pc :: c.hdr :: c.xs

/-- A doubleword of a core's deque area (R79, R290): its ready cards from the first entry on, the oldest first, zero where no card has been since
the wipe, and a free value where one was taken (log 65). -/
def State.dequeRead (s : State) (core o : Nat) : State × Word :=
  let k := s.core core
  match k.deque[o / 64]? with
  | some c => (s, c.words.getD (o / 8 % 8) 0)
  | none => if k.dequed ≤ o / 64 then (s, 0) else let r := s.freeWord; (r.2, r.1)

/-- A doubleword of the scheduler window at gallery offset `g` of a die (R90, R156, R290, R140); the working state reads as free values
(log 2). -/
def State.schedRead (s : State) (d g : Nat) : State × Word :=
  if g < 0x3C00000 then s.dequeRead (d * 256 + (g - 0x3800000) / 0x4000) (g % 0x4000)
  else if 0x3C00000 ≤ g ∧ g < 0x3D00000 then
    let o := g - 0x3C00000
    (s, (s.queue (d * 32768 + o / 32)).reg (o / 8 % 4))
  else if 0x3FF7F00 ≤ g ∧ g < 0x3FF8000 then
    let o := g - 0x3FF7F00
    (s, word (faultBits (afind (s.die d).faults (o / 32)) / 2 ^ (64 * (o / 8 % 4))))
  else if 0x3FF8000 ≤ g then (s, word (s.readVal (galleryBase + d * 0x4000000 + g) 8))
  else let r := s.freeWord; (r.2, r.1)

/-- A register of a die's block (R381). -/
def State.dieReg (s : State) (d o : Nat) : State × Word :=
  if 0x800000 ≤ o ∧ o < 0x1000000 then s.schedRead d (o - 0x800000 + 0x3800000)
  else match o with
    | 0x00 => (s, s.gcol d)
    | 0x08 => (s, aget 0 s.gfold d)
    | 0x20 => (s, (s.die d).evpool)
    | 0x28 => (s, (s.die d).msgdrop)
    | _ => (s, 0)

/-- A register of a core's block (R381). -/
def State.coreReg (s : State) (n o : Nat) : Word :=
  if o = 0 then (s.core n).niovf
  else if 0x100 ≤ o ∧ o < 0x500 then (let w := (o - 0x100) % 0x100; s.windowRead (4 * n + (o - 0x100) / 0x100) w)
  else 0

/-- The registers of the package (R381, R382, R390, R391, R393, R394). -/
def State.pkgReg (s : State) (off : Nat) : State × Word :=
  if off = 0x00 then (s, s.pkgstat)
  else if off = 0x10 then (s, s.ltol)
  else if off = 0x18 then (s, zext s.hint)
  else if off = 0x20 then (s, s.hintv)
  else if off = 0x30 then (s, s.coldom)
  else if off = 0x38 then (s, s.podcfg)
  else if off = 0x48 then (s, zext s.attstat)
  else if 0x100 ≤ off ∧ off < 0x140 then (s, aget 0 s.attnonce ((off - 0x100) / 8))
  else if 0x200 ≤ off ∧ off < 0x288 then
    if s.lc = 1 ∨ s.lc = 2 then (s, word (leNat ((List.range 8).map fun i => idKey (off - 0x200 + i))))
    else let r := s.freeWord; (r.2, r.1)
  else if 0x400 ≤ off ∧ off < 0x400 + 8 * 18 then (s, (aget {} s.tlinks ((off - 0x400) / 8)).reg)
  else if 0x100000 ≤ off ∧ off < 0x200000 then (s, word (leNat ((s.attreport.drop (off - 0x100000)).take 8)))
  else if 0x200000 ≤ off ∧ off < 0x220000 then
    let o := off - 0x200000
    (s, word ((((afind s.errlog (o / 32)).map (·.bits)).getD 0) / 2 ^ (64 * (o / 8 % 4))))
  else if 0x220000 ≤ off ∧ off < 0x230000 then (s, Config.withdrawnWord s.gone (off - 0x220000))
  else (s, 0)

/-- A register of control space (R381); an offset that is not assigned reads zero. -/
def State.ctlReg (s : State) (off : Nat) : State × Word :=
  if off < 0x100000000 then s.pkgReg off
  else if off < 0x140000000 then s.dieReg ((off - 0x100000000) / 0x10000000) (off % 0x10000000)
  else if 0x600000000 ≤ off ∧ off < 0x600400000 then (s, s.coreReg ((off - 0x600000000) / 0x1000) (off % 0x1000))
  else (s, 0)

/-- A read of control space (R381): zeros for another width or alignment than a register's. -/
def State.ctlRead (s : State) (off size : Nat) : State × Word := if size = 8 ∧ off % 8 = 0 then s.ctlReg off else (s, 0)

/-- A write of a queue descriptor (R90): read-only fields keep their values; enabling clears the counters.  A LOGCAP
outside 1 to 20 and any BASE are taken as written (log 63). -/
def Queue.put (x : Queue) (idx : Nat) (v : Word) : Queue :=
  match idx with
  | 0 => if x.en then x else { x with base := v }
  | 1 =>
    let x1 : Queue := { x with en := v.getLsbD 5, ie := v.getLsbD 7, vec := v.extractLsb' 8 11 }
    let x2 : Queue := if x.en then x1 else { x1 with logcap := v.extractLsb' 0 5, kind := v.getLsbD 6, home := v.extractLsb' 19 8 }
    if !x.en && x2.en then { x2 with tail := 0, head := 0, done := 0, err := 0, last := 0, stamps := [] } else x2
  | _ => x

/-- QUEUE_DESCRIPTOR_WRITE (R90). -/
def State.putQueue (s : State) (q idx : Nat) (v : Word) : State := if q < 131072 then s.setQueue q ((s.queue q).put idx v) else s
def execQueueDescriptorWrite (q : Nat) (idx : BitVec 2) (val : Word) (s : State) : Res :=
  event s (if s.ready then some (s.putQueue q idx.toNat val) else none)

/-- A write of HINT (R382): a one clears its bit. -/
def State.clearHint (s : State) (v : Word) : State := { s with hint := s.hint &&& ~~~(v.extractLsb' 0 6) }
/-- HINT_WRITE (R382). -/
def execHintWrite (val : Word) (s : State) : Res := event s (if s.ready then some (s.clearHint val) else none)

/-- A write of PODCFG (R354): accepted once, with V = 1 and CHIP at most PODN. -/
def State.putPodcfg (s : State) (v : Word) : State :=
  if v.getLsbD 63 && !s.podcfg.getLsbD 63 && s.ready && zeroAt v 24 39 && decide ((v.extractLsb' 0 12).toNat ≤ (v.extractLsb' 12 12).toNat) then
    { s with podcfg := v }
  else s
/-- PODCFG_WRITE (R354). -/
def execPodcfgWrite (val : Word) (s : State) : Res := .next (s.putPodcfg val)

/-- A write of NIOVF (R245): ignored while the heap holds a packet, or with a reserved field or a capacity that is not given. -/
def State.putNiovf (s : State) (n : Nat) (v : Word) : State :=
  let c := s.core n
  let logn := (v.extractLsb' 56 5).toNat
  if !c.heap.isEmpty || !zeroAt v 61 2 || !zeroAt v 52 4 || !zeroAt v 0 16 || (v.getLsbD 63 && decide (logn < 8 ∨ 20 < logn)) then s
  else s.setCore n { c with niovf := v }
/-- NIOVF_WRITE (R245). -/
def execNiovfWrite (core : Nat) (val : Word) (s : State) : Res :=
  event s (if s.ready && decide (core < 1024) then some (s.putNiovf core val) else none)

/-- The replay of a die through control space (R158, R381). -/
def State.freplay (s : State) (d : Nat) (v : Word) : State := (s.freeFaults d (v.extractLsb' 0 8)).replayDie d
/-- FREPLAY (R158). -/
def execFreplay (die : Nat) (val : Word) (s : State) : Res := event s (if decide (die < 4) then some (s.freplay die val) else none)

/-- A write of EVPOOL (R381). -/
def State.putEvpool (s : State) (d : Nat) (v : Word) : State :=
  s.modDie d fun x => { x with evpool := v &&& (bit true 63 ||| word (2 ^ 52 - 2 ^ 26)) }

/-- A write of a register of a die's block (R381). -/
def State.putDieReg (s : State) (d o : Nat) (v : Word) : State :=
  if 0x800000 + 0x400000 ≤ o ∧ o < 0x800000 + 0x500000 then
    let g := o - 0xC00000
    s.putQueue (d * 32768 + g / 32) (g / 8 % 4) v
  else match o with
    | 0x00 => s.gcolSet d v
    | 0x08 => s.gfoldSet d v
    | 0x10 => s.freplay d v
    | 0x18 => s.evict d v
    | 0x20 => s.putEvpool d v
    | _ => s

/-- A write of a register of a core's block (R381). -/
def State.putCoreReg (s : State) (n o : Nat) (v : Word) : State :=
  if o = 0 then s.putNiovf n v
  else if o = 8 then s.preempt n v
  else if 0x100 ≤ o ∧ o < 0x500 then s.windowWrite (4 * n + (o - 0x100) / 0x100) ((o - 0x100) % 0x100) v
  else s

/-- A write of a register of the package (R381, R382). -/
def State.putPkgReg (s : State) (off : Nat) (v : Word) : State :=
  if off = 0x08 then s.rst v
  else if off = 0x10 then { s with ltol := v &&& 0xFFFFFFFF }
  else if off = 0x18 then s.clearHint v
  else if off = 0x20 then { s with hintv := v &&& (bit true 63 ||| 0x7FF) }
  else if off = 0x28 then s.lcWrite v
  else if off = 0x30 then s.setColdom v
  else if off = 0x38 then s.putPodcfg v
  else if off = 0x40 then s.attWrite v
  else if 0x100 ≤ off ∧ off < 0x140 then { s with attnonce := aput s.attnonce ((off - 0x100) / 8) v }
  else s

/-- A write of a register of control space (R381); an offset that is not assigned ignores it. -/
def State.putCtl (s : State) (off : Nat) (v : Word) : State :=
  if off < 0x100000000 then s.putPkgReg off v
  else if off < 0x140000000 then s.putDieReg ((off - 0x100000000) / 0x10000000) (off % 0x10000000) v
  else if 0x600000000 ≤ off ∧ off < 0x600400000 then s.putCoreReg ((off - 0x600000000) / 0x1000) (off % 0x1000) v
  else s

/-- A write of control space (R381): ignored in another width or alignment than a register's. -/
def State.ctlWrite (s : State) (off size : Nat) (v : Word) : State := if size = 8 ∧ off % 8 = 0 then s.putCtl off v else s

end Sys2Proof.Machine
end

