-- ==== Sys2Proof/Machine/HostPort.lean ====
section
/-! DEFINITION. The host's windows and the power states (R91, R92, R379, R380, R383 to R386). -/

namespace Sys2Proof.Machine

/-- An append (R91, R92): judged DISABLED, PARTIAL or QFULL, else stored; the write of a ring in a locket is dropped and reported (R160, R389), that of a
held line is refused (R298), and the entry is appended all the same (log 57); of a page out of service (R394) what the entry then reads is free
(log 2). -/
def State.append (s : State) (off : Nat) (data : List Byte) : State :=
  let q := off / 64
  let x := s.queue q
  if 131072 ≤ q then s
  else if !x.en then s.queueError q 3
  else if data.length ≠ 64 ∨ off % 64 ≠ 0 then s.queueError q 2
  else if (x.tail - x.head).toNat = 2 ^ x.logcap.toNat then s.queueError q 1
  else
    let a := (x.base.extractLsb' 0 40).toNat + 64 * (x.tail.toNat % 2 ^ x.logcap.toNat)
    let s := if s.outOfService a 64 then s.blur a 64 else if s.inLocket a 64 then (s.setHint 3).logError 5 (s.chipno * 2 ^ 40 + a) 0
      else if s.isHeld a 64 then s else s.store (.outside 4097) a data
    (s.releaseIn (.outside 4097) (some 3) (appendOrder q)).setQueue q { x with tail := x.tail + 1, stamps := x.stamps ++ [s.time] }

/-- A host write of HBM (R379, R389, R393, R394): one that meets a locket is dropped and reported. -/
def State.hostStore (s : State) (off : Nat) (data : List Byte) : State :=
  if 0xC000000000 < off + data.length ∨ s.withdrawn.any (fun r => meets r.1 r.2 off data.length) then s
  else if s.inLocket off data.length then (s.setHint 3).logError 5 (s.chipno * 2 ^ 40 + off) 0
  else s.store (.outside 4097) off data

/-- A host write, performed (R379). -/
def State.hostPerform (s : State) : HostWrite → State
  | .ctl off size val => s.ctlWrite off size val
  | .append off data => s.append off data
  | .mem off data => s.hostStore off data

/-- A host write, performed where the wipe lets it: while READY = 0 only RST acts, and every other one is dropped (R386, R387). -/
def State.hostAct (s : State) (w : HostWrite) : State :=
  if s.ready then s.hostPerform w
  else match w with
    | .ctl 0x08 8 val => s.rst val
    | _ => s

/-- Host accesses that do not bring the package back (R385). -/
def quiet (off : Nat) : Bool := off == 0x00 || off == 0x10 || off == 0x18

/-- A host write arrives (R385, R386): during the wipe only RST acts; outside P0 up to 256 wait and bring the package back. -/
def State.hostWrite (s : State) (w : HostWrite) : Option State :=
  let s : State := { s with idleFor := 0 }
  let calm : Bool := match w with
    | .ctl off _ _ => quiet off
    | _ => false
  if !s.ready then some (s.hostAct w)
  else if s.pstate == 0 || (calm && s.hostHeld.isEmpty) then some (s.hostPerform w)
  else if 256 ≤ s.hostHeld.length then none
  else some { s with hostHeld := s.hostHeld ++ [w], waking := s.waking || !calm }

/-- HOST_APPEND (R91, R380). -/
def execHostAppend (off : Nat) (data : List Byte) (s : State) : Res := event s (s.hostWrite (.append off data))
/-- HOST_WRITE (R379): a write through BAR4. -/
def execHostWrite (off : Nat) (data : List Byte) (s : State) : Res := event s (s.hostWrite (.mem off data))
/-- CONTROL_REGISTER_WRITE (R381): a write through BAR0. -/
def execControlRegisterWrite (off size : Nat) (val : Word) (s : State) : Res := event s (s.hostWrite (.ctl off size val))

/-- The bytes of a value, as many as were asked for. -/
def ones (n : Nat) : List Byte := List.replicate n 0xFF

/-- What a host read answers (R91, R379, R386, R392, R394). -/
def State.hostAnswer (s : State) (bar off size : Nat) : State × List Byte × Bool :=
  if bar = 0 then
    if s.ready || (size == 8 && (off == 0 || (decide (0x200 ≤ off ∧ off < 0x288) && off % 8 == 0))) then
      if size = 8 then (let r := s.ctlRead off size; (r.1, leBytes r.2.toNat 8, false)) else (s, List.replicate size 0, false)
    else let r := s.freeBytes ((size + 7) / 8); (r.1, r.2.take size, false)
  else if !s.ready then (s, ones size, false)
  else if bar = 2 then
    let x := s.queue (off / 64)
    let w := leBytes (x.tail.toNat + 2 ^ 32 * x.head.toNat) 8 ++ List.replicate 56 0
    (s, (w.drop (off % 64)).take size, false)
  else if 0xC000000000 < off + size ∨ s.withdrawn.any (fun r => meets r.1 r.2 off size) then (s, ones size, false)
  else (s, s.readBytes off size, s.isPoisoned off size)

/-- HOST_READ (R379, R380, R385): outside P0 it waits behind the writes that are held, and one of BAR4 or of a register of BAR0 other than PKGSTAT,
LTOL and HINT first brings the package back. -/
def State.hostRead (s : State) (bar off size : Nat) : Option State :=
  let s : State := { s with idleFor := 0 }
  if s.ready && s.pstate != 0 && !((bar == 2 || (bar == 0 && quiet off)) && s.hostHeld.isEmpty) then
    if s.waking then none else some { s with waking := true }
  else
    let r := s.hostAnswer bar off size
    some { r.1 with hostOut := r.1.hostOut ++ [{ bar := bar, off := off, data := r.2.1, poisoned := r.2.2 }] }
def execHostRead (bar off size : Nat) (s : State) : Res := event s (s.hostRead bar off size)

/-- A core at rest (R383). -/
def Core.calm (c : Core) : Bool :=
  c.sb.isEmpty && c.seq.isEmpty && c.deque.isEmpty && c.building.isEmpty && c.mq.isEmpty &&
  c.copies.all (fun p => p.2.q.isEmpty) && c.lands.all fun p => p.2.state != .filling && p.2.state != .moving

/-- A crossing system at rest (R383). -/
def State.systemCalm (s : State) (k : Nat) (y : CrossSys) : Bool :=
  !((s.sysState k == 1 || s.sysState k == 2) && y.opened.isSome) &&
  (s.instantBegin y.die y.num).isNone && (s.sampleTake y.die y.num).isNone

/-- The package is idle (R383). -/
def State.idle (s : State) : Bool :=
  s.threads.all (fun p => p.2.card.isNone) && s.cores.all (fun p => p.2.calm) &&
  s.queues.all (fun p => p.2.head == p.2.tail) && s.launches.isEmpty && s.pushes.isEmpty && s.flights.isEmpty &&
  s.posted.isEmpty && s.flushes.isEmpty && s.net.isEmpty && s.bank.isEmpty && s.beadOps.isEmpty && s.xops.isEmpty && s.xnet.isEmpty &&
  s.cslots.isEmpty && s.cmsgs.all s.unanswered && s.hostHeld.isEmpty && s.systems.all fun p => s.systemCalm p.1 p.2

/-- The deepest power state that an idle package may enter (R383, R384). -/
def State.deepest (s : State) : Nat :=
  let lat := s.ltol.toNat
  let p2 := s.cores.all (fun p => p.2.allocs.isEmpty) && s.systems.isEmpty && (List.range 4).all s.foldValid
  if p2 && decide (5000 ≤ lat) then 3 else if p2 && decide (200 ≤ lat) then 2 else if 5 ≤ lat then 1 else 0

/-- IDLE_TIMEOUT (R383, R384): the package has been idle for 1024 cycles; the columns 1 to 15 of each die go off in P2 and P3. -/
def State.goIdle (s : State) : Option State :=
  let p := s.deepest
  if !s.live || p == 0 || decide (s.idleFor < 1024) || !s.idle then none
  else
    let s : State := { s with pstate := BitVec.ofNat 2 p, waking := false }
    if p = 1 then some s
    else
      let s : State := { s with slept := (List.range 4).map fun d => (d, s.columns d) }
      some ((List.range 4).foldl (fun s d => s.moveColumns d 1) s)
def execIdleTimeout (s : State) : Res := event s s.goIdle

/-- What brings the package back beside the host's own accesses (R385): a packet of the fabric that waits, or a watchdog that has expired. -/
def State.wakeCause (s : State) : Bool :=
  !s.net.isEmpty || !s.xnet.isEmpty || !s.cmsgs.all s.unanswered ||
  s.entries.any fun p => !p.2.dead && (match p.2.wdogAt with
    | some t => decide (t ≤ s.time)
    | none => false)

/-- POWER_WAKE (R385): the exit begins. -/
def State.powerWake (s : State) : Option State :=
  if s.pstate = 0 ∨ s.waking ∨ !s.wakeCause then none else some { s with waking := true }
def execPowerWake (s : State) : Res := event s s.powerWake

/-- What leaving P2 or P3 leaves (R384): scratchpads zero, matrix state and trap banks as at core reset, the columns that were on. -/
def State.leaveGated (s : State) : State :=
  let inSpad (a : Nat) : Bool := decide (windowBase ≤ a ∧ a < windowBase + 0x40000000)
  let s : State := { s with
    mem := s.mem.filter (fun p => !inSpad p.1), poison := s.poison.filter (fun p => !inSpad p)
    cores := s.cores.map fun p => (p.1, { p.2 with rings := [], accs := [], lands := [], mq := [], ticket := 0 })
    threads := s.threads.map fun p => (p.1, { p.2 with bank0 := {}, bank1 := {}, tmsg := 0, gang := false, mflags := 0 }) }
  let s := s.slept.foldl (fun s p => s.moveColumns p.1 p.2) s
  { s with slept := [] }

/-- POWER_EXIT_DONE (R384, R385): the package is in P0; the held writes are performed in arrival order, and what waited in the fabric arrives. -/
def State.powerExit (s : State) : Option State :=
  if s.pstate = 0 ∨ !s.waking then none
  else
    let s := if s.pstate = 1 then s else s.leaveGated
    let held := s.hostHeld
    some (State.hearHeld (held.foldl (fun s w => s.hostAct w) { s with pstate := 0, waking := false, idleFor := 0, hostHeld := [] }))
def execPowerExitDone (s : State) : Res := event s s.powerExit

end Sys2Proof.Machine
end

