-- ==== Sys2Proof/Machine/LoadStore.lean ====
section
/-! DEFINITION. Scalar loads and stores and the store buffer (R15, R61, R64, R66, R71 to R77, R355, R356, R407). -/

namespace Sys2Proof.Machine

/-- A load of another package's memory (R74, R355, R356): forwarded from the buffer, held by a partly covering entry or an
unacknowledged write of its thread set to the line, else a request for which the thread set waits; without a route, cause 12. -/
def State.loadFar (s : State) (rd : BitVec 5) (size : Nat) (signed : Bool) (pa : Nat) : State :=
  let l := metBy (s.core s.myCore).sb .plain pa size
  if l.any fun e => !e.covers pa size then s
  else match l.getLast? with
  | some e => (s.wx rd (extend signed size (leNat (e.bytes pa size)))).retire
  | none =>
    let w := s.route (pa / 2 ^ 40)
    if s.lineOpen s.cur pa then s
    else if !w.1 then w.2.trapHere 12 0xFFFF
    else
      let r := w.2.newId
      r.2.modTh fun t => { t with remote := some { id := r.1, rd := rd, pa := pa, size := size, signed := signed } }

/-- What a load that has reached its place does (R15, R64, R74, R392). -/
def State.loadAt (s : State) (rd : BitVec 5) (size : Nat) (signed : Bool) (va : Word) (p : Place) (path : Path) (pa : Nat) : State :=
  match p with
  | .mem a =>
    if s.portShut s.myCore a then s
    else match s.loadBytes s.cur path pa a size with
    | .wait => s
    | .poisoned => s.trapHere 2 va
    | .val d => ((s.hasRead s.cur path pa size).wx rd (extend signed size (leNat d))).retire
  | .ctl off =>
    if s.settled s.cur then
      let r := s.ctlRead off size
      (r.1.wx rd (extend signed size r.2.toNat)).retire
    else s
  | .far pa => s.loadFar rd size signed pa
  | _ => s.trapHere 2 va

/-- A scalar load (R15, R155, R406): a thread set that waits for a reply goes on waiting, an acquire in flight holds it. -/
def loadForm (rd rs1 : BitVec 5) (imm : BitVec 12) (size : Nat) (signed : Bool) (s : State) : Res :=
  plain s [rd, rs1] fun s =>
    let va := s.effective rs1 imm
    if s.th.remote.isSome || s.acquiring s.cur || s.ctlLane s.cur then s
    else match s.scalar s.cur va size { r := true } with
      | (s, .fault c) => s.trapHere c va
      | (s, .absent) => s.parkAccess s.cur none s.th.asid va 0
      | (s, .at_ p path pa) => s.loadAt rd size signed va p path pa

/-- LB (R15). -/
def execLb (rd rs1 : BitVec 5) (imm : BitVec 12) (s : State) : Res := loadForm rd rs1 imm 1 true s
/-- LH (R15). -/
def execLh (rd rs1 : BitVec 5) (imm : BitVec 12) (s : State) : Res := loadForm rd rs1 imm 2 true s
/-- LW (R15). -/
def execLw (rd rs1 : BitVec 5) (imm : BitVec 12) (s : State) : Res := loadForm rd rs1 imm 4 true s
/-- LD (R15). -/
def execLd (rd rs1 : BitVec 5) (imm : BitVec 12) (s : State) : Res := loadForm rd rs1 imm 8 false s
/-- LBU (R15). -/
def execLbu (rd rs1 : BitVec 5) (imm : BitVec 12) (s : State) : Res := loadForm rd rs1 imm 1 false s
/-- LHU (R15). -/
def execLhu (rd rs1 : BitVec 5) (imm : BitVec 12) (s : State) : Res := loadForm rd rs1 imm 2 false s
/-- LWU (R15). -/
def execLwu (rd rs1 : BitVec 5) (imm : BitVec 12) (s : State) : Res := loadForm rd rs1 imm 4 false s

/-- A scalar store (R15, R64, R74, R160): it enters the store buffer; of control space it is performed when every earlier access has
been. -/
def storeForm (rs1 rs2 : BitVec 5) (imm : BitVec 12) (size : Nat) (s : State) : Res :=
  plain s [rs1, rs2] fun s =>
    let va := s.effective rs1 imm
    let v := s.rx rs2
    if s.acquiring s.cur || s.ctlLane s.cur then s
    else match s.scalar s.cur va size { w := true } with
      | (s, .fault c) => s.trapHere c va
      | (s, .absent) => s.parkAccess s.cur none s.th.asid va 1
      | (s, .at_ (.ctl off) _ _) => if s.settled s.cur then s.retire.ctlWrite off size v else s
      | (s, .at_ (.mem _) path pa) => (s.enterStore s.cur path va pa (leBytes v.toNat size)).retire
      | (s, .at_ (.far _) path pa) => (s.enterStore s.cur path va pa (leBytes v.toNat size)).retire
      | (s, .at_ _ _ _) => s.trapHere 2 va

/-- SB (R15). -/
def execSb (rs1 rs2 : BitVec 5) (imm : BitVec 12) (s : State) : Res := storeForm rs1 rs2 imm 1 s
/-- SH (R15). -/
def execSh (rs1 rs2 : BitVec 5) (imm : BitVec 12) (s : State) : Res := storeForm rs1 rs2 imm 2 s
/-- SW (R15). -/
def execSw (rs1 rs2 : BitVec 5) (imm : BitVec 12) (s : State) : Res := storeForm rs1 rs2 imm 4 s
/-- SD (R15). -/
def execSd (rs1 rs2 : BitVec 5) (imm : BitVec 12) (s : State) : Res := storeForm rs1 rs2 imm 8 s

/-- A store performed at its location (R72, R160, R298): a locket or a held line that has come to lie there since refuses it. -/
def State.performStore (s : State) (tid : Nat) (path : Path) (a : Nat) (va : Word) (d : List Byte) : State :=
  if s.inLocket a d.length then s.report tid 3 va
  else if s.isHeld a d.length then s.report tid 2 va
  else s.store (.thread tid path) a d

/-- Takes an entry out of a core's store buffer. -/
def State.dropEntry (s : State) (core id : Nat) : State := s.modCore core fun c => { c with sb := c.sb.filter fun e => e.id != id }

/-- An entry drains (R74, R355, R407): it is performed on its die, goes on its way to another die, or leaves as a posted write; one to which no
route leads counts as a lost one (R354, R375). -/
def State.drainEntry (s : State) (core : Nat) (e : SbEntry) : Option State :=
  let s' := s.dropEntry core e.id
  if !s.ready then none
  else match s.locate e.pa e.data.length with
    | .mem a =>
      if s.portShut core a && dieOfAddr a == dieOf core then none
      else if dieOfAddr a = dieOf core then some (s'.performStore e.tid e.path a e.va e.data)
      else some { s' with flights := s'.flights ++ [{ id := e.id, tid := e.tid, va := e.va, pa := e.pa, data := e.data }] }
    | .far pa =>
      let w := s'.route (pa / 2 ^ 40)
      if w.1 then w.2.post e.id e.tid pa (.bytes e.data []) none
      else some (w.2.loseWrite e.tid e.id 0xFFFF)
    | _ => some (s'.report e.tid 2 e.va)

/-- STORE_BUFFER_DRAIN (R74): the oldest entry drains. -/
def State.drain (s : State) (core : Nat) : Option State := (s.core core).sb.head?.bind (s.drainEntry core)

/-- A store through one path to the core's own scratchpad drains before older ones through the other, which nothing orders with it (R66). -/
def State.drainPast (s : State) (core : Nat) : Option State :=
  match (s.core core).sb with
  | [] => none
  | h :: rest => match rest.dropWhile fun e => e.path == h.path with
    | e :: _ => if h.path.opposite e.path then s.drainEntry core e else none
    | [] => none
def execStoreBufferDrain (core : Nat) (s : State) : Res := event s (s.drain core)

/-- A store on its way to another die is performed there (R77, R407), not before an older one of its core to the same bytes. -/
def State.deliverFlight (s : State) (id : Nat) : Option State :=
  match s.flights.find? fun f => f.id == id with
  | none => none
  | some f =>
    if (s.flights.takeWhile fun g => g.id != id).any fun g => coreOf g.tid == coreOf f.tid && meets g.pa g.data.length f.pa f.data.length
    then none
    else
      let s' : State := { s with flights := s.flights.filter fun g => g.id != id }
      match s.locate f.pa f.data.length with
      | .mem a => if s.portShut (coreOf f.tid) a then none else some (s'.performStore f.tid .plain a f.va f.data)
      | _ => some (s'.report f.tid 2 f.va)

/-- A later load of a thread set may return what its location holds now, though it is written meanwhile (R71): of another die's memory (R77); of
its own die's, where an engine or another die writes it (R77, R78); of its core's scratchpad through one path, where its core writes it through
the other (R66). -/
def State.readEarly (s : State) (tid : Nat) (path : Path) (pa n : Nat) : Option State :=
  match s.locate pa n with
  | .mem a =>
    let core := coreOf tid
    let own := decide (spadBase core ≤ a ∧ a + n ≤ spadBase core + 0x100000)
    if own == (path == .plain) || s.isPoisoned a n || s.behind tid path pa n then none
    else some (s.modThread tid fun t => { t with early := t.early ++ [{ path := path, pa := pa, data := s.readBytes a n, known := [] }] })
  | _ => none

end Sys2Proof.Machine
end

