-- ==== Sys2Proof/Machine/Sequencer.lean ====
section
/-! DEFINITION. The vector sequencer's steps, gathers and scatters of registers, and the return of results (R32, R168, R190 to R192,
R200, R201, R228). -/

namespace Sys2Proof.Machine

/-- MCOMMIT in the sequencer (R228): judged again, then it waits until the landing slot is FULL. -/
def State.commit (s : State) (tid : Nat) (o : VOp) : VRes :=
  let core := coreOf tid
  let n := (o.xa.extractLsb' 0 1).toNat
  let l := (s.core core).land n
  if l.state = .free then .fault s 7 6
  else if l.owner ≠ some (s.thread tid).asid then .fault s 7 5
  else if l.state ≠ .full then .wait
  else match o.instr with
    | .mcommitVector vd _ =>
      let part := (o.xa.extractLsb' 8 10).toNat
      let s := s.modThread tid fun t => t.wv vd (ofLanes 32 ((l.data.drop (32 * part)).take 32))
      .done (if o.xa.getLsbD 2 then s.setLand core n { l with state := .free, owner := none, tid := 0, out := 0 } else s)
    | _ =>
      let off := (o.xb.extractLsb' 0 20).toNat
      match (List.range 0x8000).find? fun i => s.inLocket (spadAt core (off + i)) 1 with
      | some i => .fault s 3 (ownAddr (word (off + i)))
      | none => .done ((s.spadWrite tid off (l.data.flatMap fun v => leBytes v 4)).setLand core n
        { l with state := .free, owner := none, tid := 0, out := 0 })

/-- The destination of a gather with its upper elements zeroed (R190). -/
def ngClear (v : VWord) (size : Nat) : VWord := BitVec.ofNat 1024 (v.toNat % 2 ^ (128 * size))

/-- A gather or scatter as the sequencer comes to it: a scatter's elements are read, a gather's upper elements zeroed (R190, R192, R203). -/
def Thread.begin (t : Thread) (id : Nat) (v : VWord) : Thread :=
  let jobs := t.jobs.map fun j =>
    if j.id = id then { j with begun := true, lanes := j.lanes.map fun l => (l.1, l.2.1, lane v (8 * j.size) l.1) } else j
  let clear (t : Thread) (j : LaneJob) : Thread := if j.id = id && !j.store then t.wv j.vreg (ngClear (t.rv j.vreg) j.size) else t
  { t.jobs.foldl clear t with jobs := jobs.filter fun j => !(j.id == id && j.lanes.isEmpty) }

/-- VLDG and VSTG in the sequencer (R192, R203): with the channels that they pop (R115), from then on their lanes may be accessed. -/
def State.ngBegin (s : State) (tid id : Nat) (o : VOp) : VRes :=
  let t := s.thread tid
  let l := vChannels o
  if !t.channelsReady l then .wait
  else .done ((s.setThread tid (t.begin id (t.vsource o.chw ((vSources o.instr).headD 0)))).popChannels tid l)

/-- One execution of an instruction in the sequencer. -/
def State.seqRun (s : State) (tid id : Nat) (o : VOp) (add : Word) : VRes :=
  match o.instr with
  | .mcommitVector _ _ => s.commit tid o
  | .mcommitScratchpad _ _ => s.commit tid o
  | .vldg .. => s.ngBegin tid id o
  | .vstg .. => s.ngBegin tid id o
  | _ => s.vrun tid o add

/-- An item leaves the sequencer with its entries. -/
def State.seqLeave (s : State) (core id : Nat) : State := s.modCore core fun c => { c with seq := c.seq.filter fun i => i.id != id }

/-- Changes an item. -/
def State.setItem (s : State) (core : Nat) (it : SeqItem) : State :=
  s.modCore core fun c => { c with seq := c.seq.map fun i => if i.id = it.id then it else i }

/-- An item has executed one instruction (R200): the next of its body, the next iteration, or the end. -/
def State.seqAdvance (s : State) (core : Nat) (it : SeqItem) : State :=
  if it.at_ + 1 < it.ops.length then s.setItem core { it with at_ := it.at_ + 1, part := 0, got := [] }
  else if it.j + 1 < it.iters then s.setItem core { it with at_ := 0, j := it.j + 1, part := 0, got := [] }
  else s.seqLeave core it.id

/-- Whether a sequencer access is held: a store of the thread set earlier than its item has not drained (R202), or a lane of an earlier gather
or scatter has still to access control space (R64). -/
def State.seqHeld (s : State) (it : SeqItem) : Bool :=
  (s.core (coreOf it.tid)).sb.any (fun e => e.tid == it.tid && decide (e.id < it.id)) ||
  s.ctlLane it.tid (some it.id)

/-- The access that a thread set's sequencer is at, with its item, if it can be performed now. -/
def State.seqAt (s : State) (tid : Nat) : Option (SeqItem × VOp) :=
  match s.seqOf tid with
  | [] => none
  | it :: _ => match it.ops.drop it.at_ with
    | [] => none
    | o :: _ =>
      if !s.ready || s.engParked it.id || decide (it.iters ≤ it.j) || (isSeqAccess o.instr && s.seqHeld it) then none
      else some (it, { o with part := it.part, got := it.got })

/-- The unit in which VPVDEC, GADDR and VDESC read the scratchpad. -/
def readUnit : Instr → Option Nat
  | .vpvdec .. => some 1
  | .gaddr .. => some 8
  | .vdesc .. => some 4
  | _ => none

/-- An access of VPVDEC, GADDR or VDESC reads a unit of the scratchpad at an offset, or, of VDESC, from 2^20 on a lane's node, before the rest
(R70). -/
def State.readPart (s : State) (tid : Nat) (it : SeqItem) (o : VOp) (u n : Nat) : Option State :=
  let core := coreOf tid
  if n < 2 ^ 20 then
    let at_ := n / u * u
    if (afind o.got (spadKey at_)).isSome || s.spadBehind tid at_ u || s.spadPoisoned core at_ u then none
    else some ((s.spadSeen tid u [at_]).setItem core { it with
      got := o.got ++ (List.range u).map fun i => (spadKey (at_ + i), ((s.spadSees tid (at_ + i) 1).headD 0).toNat) })
  else match o.instr with
    | .vdesc d _ k =>
      let t := s.thread tid
      let i := n - 2 ^ 20
      if !(nodeLanes (t.rk k) (t.rv d)).contains i || (afind o.got i).isSome then none
      else match s.readNode tid o.user (nodeAt o.dt (t.rv d) i) i with
        | .got s l => some (s.setItem core { it with got := o.got ++ l })
        | _ => none
    | _ => none

/-- The next lanes, at most n, of a scratchpad access are performed before the others, or a unit of one is read: it is single-copy atomic per
element only (R70).  What would refuse or hold the access stops them. -/
def State.seqPart (s : State) (tid n : Nat) : Option State :=
  (s.seqAt tid).bind fun p =>
    let core := coreOf tid
    let o := p.2
    let src := (s.thread tid).vsource o.chw
    let idx := match o.instr with
      | .vldx _ _ i _ => src i
      | .vstx _ _ i _ => src i
      | _ => 0
    let add := word p.1.j * p.1.step
    let k := (s.thread tid).rk (vPred o.instr)
    let lanes := vLanes o idx add
    let w := lanes.1
    let l := (o.lanesLeft k w).take n
    let at_ (i : Nat) : Nat := (lanes.2 i).toNat
    let load : Option State := match s.seqRun tid p.1.id o add with
      | .done _ => some ((s.spadSeen tid (w / 8) (l.map at_)).setItem core { p.1 with
          part := o.part + l.length, got := o.got ++ l.map fun i => (i, leNat (s.spadSees tid (at_ i) (w / 8))) })
      | _ => none
    let store (v : VWord) : Option State := match s.seqRun tid p.1.id o add with
      | .done _ => some ((l.foldl (fun s i => s.spadWrite tid (at_ i) (leBytes (lane v w i) (w / 8))) s).setItem core
          { p.1 with part := o.part + l.length })
      | _ => none
    match o.instr with
    | .vpvenc _ a _ =>
      let l := ((paveWrites (src a) o.xb).drop o.part).take n
      match s.seqRun tid p.1.id o add with
      | .done _ => some ((l.foldl (fun s q => s.spadWrite tid q.1 [q.2]) s).setItem core { p.1 with part := o.part + l.length })
      | _ => none
    | .vld .. | .vldb .. | .vlds .. | .vldc .. | .vldx .. => load
    | .vst v .. | .vsts v .. | .vstc v .. | .vstx v .. => store (src v)
    | i => (readUnit i).bind fun u => s.readPart tid p.1 o u n

/-- VECTOR_SEQUENCER_EXECUTE (R168, R200, R202): the next instruction of a thread set's oldest item. -/
def State.seqStep (s : State) (tid : Nat) : Option State :=
  match s.seqOf tid with
  | [] => none
  | it :: _ =>
    let core := coreOf tid
    if !s.ready || s.engParked it.id then none
    else if it.iters ≤ it.j then some (s.seqLeave core it.id)
    else match it.ops.drop it.at_ with
      | [] => some (s.seqLeave core it.id)
      | o :: _ =>
        if isSeqAccess o.instr && s.seqHeld it then none
        else match s.seqRun tid it.id { o with part := it.part, got := it.got } (word it.j * it.step) with
          | .done s => some (s.seqAdvance core it)
          | .fault s c v => some ((s.report tid c v).seqLeave core it.id)
          | .park s va => some (s.parkAccess tid (some it.id) (s.thread tid).asid va 0)
          | .wait => none
def execVectorSequencerExecute (tid : Nat) (s : State) : Res := event s (s.seqStep tid)

/-- Replaces a job of a thread set. -/
def State.setJob (s : State) (tid : Nat) (j : LaneJob) : State :=
  s.modThread tid fun t => { t with jobs := t.jobs.map fun k => if k.id = j.id then j else k }

/-- Whether every lane of a job has landed or been acknowledged (R190, R192). -/
def State.jobOver (s : State) (j : LaneJob) : Bool := j.begun && j.lanes.isEmpty && !s.posted.any fun p => p.cmd == some j.id

/-- A job ends: its thread set sees that it has (R203). -/
def State.endJob (s : State) (tid id : Nat) : State :=
  (s.modThread tid fun t => { t with jobs := t.jobs.filter fun k => k.id != id }).receive (.thread tid) (· == .command tid id)

/-- A lane of a job is dealt with; a job without lanes left ends. -/
def State.laneOver (s : State) (tid : Nat) (j : LaneJob) (lane : Nat) (hit : List (Nat × Word)) : State :=
  let j := { j with lanes := j.lanes.filter (fun l => l.1 != lane), hit := hit }
  if s.jobOver j then s.endJob tid j.id else s.setJob tid j

/-- A gathered element in its lane (R190). -/
def Thread.land (t : Thread) (r : BitVec 5) (size i v : Nat) : Thread :=
  let w := 8 * size
  t.wv r (ofLanes w ((List.range (1024 / w)).map fun k => if k = i then v else lane (t.rv r) w k))

/-- Every access of a thread set before a gather or scatter has been performed, as one of its lanes in control space asks (R64). -/
def State.settledFor (s : State) (tid : Nat) (j : LaneJob) : Bool :=
  !(s.core (coreOf tid)).sb.any (fun e => e.tid == tid) && !s.flights.any (fun f => f.tid == tid) &&
  s.posted.all (fun p => p.tid != tid || p.cmd == some j.id) && (s.thread tid).jobs.all fun k => decide (j.id ≤ k.id)

/-- A gather's lane (R190). -/
def State.gatherLane (s : State) (tid : Nat) (j : LaneJob) (i : Nat) (va : Word) : Option State :=
  let endLane (s : State) : State := s.laneOver tid j i j.hit
  if va = BitVec.allOnes 64 then some (endLane (s.report tid 2 va))
  else match s.reach tid j.user va j.size { r := true } with
    | (s, .fault c) => some (endLane (s.report tid c va))
    | (s, .absent) => some (s.parkAccess tid (some j.id) (s.thread tid).asid va 0)
    | (s, .at_ (.mem a) path pa) =>
      if s.portShut (coreOf tid) a || s.ctlLane tid (some j.id) || s.behind tid path pa j.size then none
      else match earlyOf (s.thread tid).early path pa j.size with
      | some d => some (endLane (s.modThread tid fun t =>
          { t.land j.vreg j.size i (leNat d) with early := afterEarly t.early path pa j.size }))
      | none => some (if s.isPoisoned a j.size then endLane (s.report tid 2 va)
        else endLane ((s.memRead tid path pa j.size).modThread tid (·.land j.vreg j.size i (s.readVal a j.size))))
    | (s, .at_ (.ctl off) _ _) =>
      if !s.settledFor tid j then none
      else
        let r := s.ctlRead off j.size
        some (endLane (r.1.modThread tid (·.land j.vreg j.size i (r.2.toNat % 2 ^ (8 * j.size)))))
    | (s, .at_ (.far pa) _ _) =>
      let w := s.route (pa / 2 ^ 40)
      if !w.1 then some (endLane (w.2.report tid 12 0xFFFF))
      else
        let r := w.2.freeWord
        some (endLane (r.2.modThread tid (·.land j.vreg j.size i (r.1.toNat % 2 ^ (8 * j.size)))))
    | (s, .at_ _ _ _) => some (endLane (s.report tid 2 va))

/-- A scatter's lane (R192): it is not written over a higher lane of the same address. -/
def State.scatterLane (s : State) (tid : Nat) (j : LaneJob) (i : Nat) (va : Word) (v : Nat) : Option State :=
  let endLane (s : State) : State := s.laneOver tid j i ((i, va) :: j.hit)
  let d := leBytes v j.size
  if va = BitVec.allOnes 64 then some (endLane (s.report tid 2 va))
  else if j.hit.any fun h => h.2 == va && decide (i < h.1) then some (endLane s)
  else match s.reach tid j.user va j.size { w := true } with
    | (s, .fault c) => some (endLane (s.report tid c va))
    | (s, .absent) => some (s.parkAccess tid (some j.id) (s.thread tid).asid va 1)
    | (s, .at_ (.mem a) path pa) =>
      if s.portShut (coreOf tid) a || s.ctlLane tid (some j.id) then none
      else some (endLane ((s.store (.command tid j.id) a d).modThread tid fun t =>
        { t with early := t.early.filter (·.afterStore path pa j.size) }))
    | (s, .at_ (.ctl off) _ _) => if s.settledFor tid j then some ((endLane s).ctlWrite off j.size (word v)) else none
    | (s, .at_ (.far pa) _ _) =>
      let w := s.route (pa / 2 ^ 40)
      if !w.1 then some (endLane (w.2.report tid 12 0xFFFF))
      else
        let r := w.2.newId
        (r.2.post r.1 tid pa (.bytes d []) (some j.id)).map endLane
    | (s, .at_ _ _ _) => some (endLane (s.report tid 2 va))

/-- LEASE_LANE_LAND (R190, R192): a lane of VLDG or VSTG. -/
def State.laneLand (s : State) (tid id lane : Nat) : Option State :=
  match (s.thread tid).jobs.find? fun j => j.id == id with
  | none => none
  | some j => match j.lanes.find? fun l => l.1 == lane with
    | none => none
    | some (i, va, v) =>
      if !s.ready || !j.begun || s.engParkedAt id va then none
      else if j.store then s.scatterLane tid j i va v
      else s.gatherLane tid j i va
def execLeaseLaneLand (tid id lane : Nat) (s : State) : Res := event s (s.laneLand tid id lane)

/-- RESULT_RETURN (R32, R192): a result that is back writes its registers; a crossing command or CSTART is performed first if it has not been;
a scatter ends with its last acknowledgement. -/
def State.resultBack (s : State) (tid id : Nat) : Option State :=
  match (s.thread tid).jobs.find? fun j => j.id == id with
  | some j => if s.jobOver j then some (s.endJob tid id) else none
  | none => match s.resultReturn tid id with
    | some s => some s
    | none => ((s.crossTry id).or (s.collTry id)).map fun s => (s.resultReturn tid id).getD s
def execResultReturn (tid id : Nat) (s : State) : Res := event s (s.resultBack tid id)

end Sys2Proof.Machine
end

