-- ==== Sys2Proof/Machine/Copies.lean ====
section
/-! DEFINITION. The steps of copies, gathers and scatters (R252 to R265).  A chunk or an element is first performed, in the order that its
command leaves it, and then counted in its turn; counts reach barrier objects as the command's release lets them. -/

namespace Sys2Proof.Machine

/-- What an engine's access of memory meets. -/
inductive Reached where
  | held
  | ok (d : Marked)
  | fault (cause : BitVec 6)
  | absent

/-- The party that a command of a copy channel is (R68, R78). -/
def CopyCmd.party (c : CopyCmd) : Party := .command c.tid c.id

/-- The scope of the acquire that a command's next read is (R265): its first one. -/
def CopyCmd.acquires (c : CopyCmd) : Option (BitVec 2) :=
  if c.done = 0 ∧ c.part = [] ∧ (c.ahead.all fun p => match p.2 with
    | .at_ _ => true
    | _ => false) then c.acq else none

/-- A command has read bytes of memory (R69, R71, R265). -/
def State.engHasRead (s : State) (c : CopyCmd) (pa n : Nat) : State :=
  let s := s.seenBy c.party pa n
  match c.acquires with
  | some sc => s.acquireAt c.party sc pa n
  | none => s

/-- Reads bytes within one line for a command (R154, R261): of control space a register (R381), of another package what it gives, marks
included (R271, log 2), where a route leads there (R354).  A core's port that takes nothing holds the request (R245). -/
def State.engRead (s : State) (c : CopyCmd) (va : Word) (n : Nat) : State × Reached :=
  match s.reachAs (coreOf c.tid) c.asid c.user va n { r := true } with
  | (s, .fault k) => (s, .fault k)
  | (s, .absent) => (s, .absent)
  | (s, .at_ (.mem a) _ pa) => if s.portShut (coreOf c.tid) a then (s, .held) else (s.engHasRead c pa n, .ok (s.marked a n))
  | (s, .at_ (.ctl off) _ _) => let r := s.ctlRead off n; (r.1, .ok ((leBytes r.2.toNat n).map fun b => (b, false)))
  | (s, .at_ (.far pa) _ _) =>
    let w := s.route (pa / 2 ^ 40)
    if !w.1 then (w.2, .fault 12)
    else let r := w.2.freeMarked n; (r.2, .ok r.1)
  | (s, .at_ _ _ _) => (s, .fault 2)

/-- The head command of a channel. -/
def State.copyHead (s : State) (core ch : Nat) : Option CopyCmd := ((s.core core).channel ch).q.head?

/-- Replaces the head command of a channel, its WP going on by some bytes. -/
def State.setHead (s : State) (core ch : Nat) (c : CopyCmd) (wp : Nat) : State :=
  let x := (s.core core).channel ch
  s.setChannel core ch { x with wp := x.wp + word wp, q := c :: x.q.drop 1 }

/-- Notes what has been done of a chunk or element of the head command. -/
def State.setAhead (s : State) (core ch : Nat) (c : CopyCmd) (n : Nat) (a : Ahead) : State :=
  s.setHead core ch { c with ahead := aput c.ahead n a } 0

/-- The barrier object of a command in another package's core (R253, R255). -/
def CopyCmd.farObj (c : CopyCmd) (chip : Nat) : Option Nat := match c.home with
  | some h => if h / 1024 = chip then none else some (h / 1024 * 2 ^ 40 + objAt (h % 1024) (boOff c.compl))
  | none => none

/-- Whether the next count or packet of a command may be made (R265): at SYS scope, with the writes before it acknowledged (R357). -/
def State.copyReleased (s : State) (c : CopyCmd) : Bool :=
  c.rel != some 3 || (s.acknowledged c.tid c.id && !c.waits.any s.isOpen)

/-- The release of a command whose write is a barrier object's count (R265). -/
def State.countRelease (s : State) (c : CopyCmd) (a : Nat) : State := match c.rel with
  | some sc => s.releaseAt c.party sc (s.chipno * 2 ^ 40 + a) 16
  | none => s

/-- Counts bytes in the barrier objects of a command (R257, R265), unless a core's port takes nothing (R245); in another package it is a posted
write (R378). -/
def State.copyCount (s : State) (c : CopyCmd) (n : Nat) (err : Bool) : Option (State × CopyCmd) :=
  match c.farObj s.chipno with
  | none =>
    if c.objs.any fun a => s.portShut (coreOf c.tid) a then none
    else some (c.objs.foldl (fun s a => (s.arriveObj (.engine c.party) a n err).countRelease c a) s, c)
  | some pa =>
    let w := s.route (pa / 2 ^ 40)
    if !w.1 then some (w.2, { c with fault := some (12, 0xFFFF) })
    else
      let r := w.2.newId
      (r.2.post r.1 c.tid pa (.count n err) (some c.id)).map fun s => (s, { c with waits := c.waits ++ [r.1] })

/-- A command ends (R253, R261, R263): the completion packet, and the trap of a fault. -/
def State.copyEnd (s : State) (core ch : Nat) (c : CopyCmd) : State :=
  let x := (s.core core).channel ch
  let s := s.setChannel core ch { x with q := x.q.drop 1 }
  let s : State := { s with parked := s.parked.filter fun p => p.eng != some c.id }
  let stat : Word := match c.fault with
    | some f => bit true 63 ||| zext f.1
    | none => 0
  let s := match noteOf c.compl with
    | some tag =>
      s.sendTagged 3 (some core) core tag c.asid
        ([c.dst, word c.deliv, stat, x.wp].flatMap fun (w : Word) => leBytes w.toNat 8) c.rel c.party
    | none => s
  let s := if c.rel.isSome then s.cover c.tid c.id else s
  let s := match c.fault with
    | some f => s.failOut c.tid c.id f.1 f.2
    | none => s.dropOut c.tid c.id
  s.sysDone c.tid (c.rel.getD 0)

/-- The next count that is due is made, or with none left the command ends, once nothing of it is open (R265, R378). -/
def State.copySettle (s : State) (core ch : Nat) : Option State :=
  match s.copyHead core ch with
  | none => none
  | some c =>
    if !s.copyReleased c then none
    else match c.due with
      | (n, e) :: r => (s.copyCount { c with due := r } n e).map fun p => p.1.setHead core ch p.2 0
      | [] => if c.done < c.len || c.opens s then none else some (s.copyEnd core ch c)

/-- The counts due, and the end, as far as they may be made now. -/
def State.copySettled (core ch : Nat) : Nat → State → State
  | 0, s => s
  | n + 1, s => match s.copySettle core ch with
    | some s => State.copySettled core ch n s
    | none => s

/-- The write pointer counts what a command has written to its own core's scratchpad (R260). -/
def State.pointed (s : State) (core ch : Nat) (c : CopyCmd) (n : Nat) : State :=
  let a := c.dst + word c.done
  let own : State := s.countWrite c.party core ch (s.chipno * 2 ^ 40 + spadBase core + a.toNat) n
  if s.threads.all fun p => p.2.early.isEmpty then s
  else match c.kind with
  | .gather .. => own
  | .multi m => if m.getLsbD (core % 64) then own else s
  | _ => match (s.reachAs core c.asid c.user a n { w := true }).2 with
    | .at_ (.mem m) _ pa => if (m - spadBase core) / 0x100000 = 0 ∧ spadBase core ≤ m then s.countWrite c.party core ch pa n else s
    | _ => s

/-- Bytes of a command have been delivered, or skipped (R255, R263): WP, and at the end of a 4 KiB run its count falls due. -/
def State.copyMore (s : State) (core ch : Nat) (c : CopyCmd) (key n good : Nat) : State :=
  let s := s.pointed core ch c n
  let c := { c with done := c.done + n, run := c.run + n, deliv := c.deliv + good, ahead := adel c.ahead key, part := [] }
  let ends := (c.dst.toNat + c.done) % 4096 == 0 || c.done == c.len
  let c := if ends then { c with due := c.due ++ [(c.run, c.done == c.len && c.fault.isSome)], run := 0 } else c
  State.copySettled core ch (c.due.length + 1) (s.setHead core ch c n)

/-- A command ends early (R261, R270): its undelivered bytes are counted, with ERR. -/
def State.copyCut (s : State) (core ch : Nat) (c : CopyCmd) (f : BitVec 6 × Word) : State :=
  let rest := c.len - c.done
  let c := { c with fault := some f, done := c.len, run := 0, due := c.due ++ [(c.run + rest, true)], part := [] }
  State.copySettled core ch (c.due.length + 1) (s.setHead core ch c rest)

/-- Whether a place lies in the scratchpad that the destination of a command was found in at issue (R255). -/
def inHome (home : Option Nat) (p : Place) (chip : Nat) : Bool :=
  let at_ (h pkg a : Nat) : Bool := pkg == h / 1024 && decide (spadBase (h % 1024) ≤ a ∧ a < spadBase (h % 1024) + 0x100000)
  match home, p with
  | none, _ => true
  | some h, .mem a => at_ h chip a
  | some h, .far pa => at_ h (pa / 2 ^ 40) (pa % 2 ^ 40)
  | _, _ => false

/-- A write of a chunk or element (R154, R160, R261), and what has become of it: performed; refused; parked; or on its way to another package as
a posted write (R355).  A core's port that takes no packet holds it (R245). -/
def State.engWrite (s : State) (c : CopyCmd) (va : Word) (d : Marked) : Option (State × Ahead) :=
  match s.reachAs (coreOf c.tid) c.asid c.user va d.length { w := true } with
  | (s, .fault k) => some (s, .bad k va)
  | (s, .absent) => some (s.parkAccess c.tid (some c.id) c.asid va 1, .at_ va)
  | (s, .at_ p _ _) =>
    if !inHome c.home p s.chipno then some (s, .bad 2 va)
    else match p with
      | .mem a => if s.portShut (coreOf c.tid) a then none else some (s.storeMarked c.party a d, .written)
      | .ctl off => some (s.ctlWrite off d.length (word (leNat (d.map (·.1)))), .written)
      | .far pa =>
        let w := s.route (pa / 2 ^ 40)
        if !w.1 then some (w.2, .bad 12 0xFFFF)
        else
          let r := w.2.newId
          (r.2.post r.1 c.tid pa (.bytes (d.map (·.1)) d.bad) (some c.id)).map fun s => (s, .sent r.1)
      | _ => some (s, .bad 2 va)

/-- Writes a chunk to the same offset of the cores of a mask within a hall (R256). -/
def State.multicast (s : State) (party : Party) (hall off : Nat) (mask : Word) (d : Marked) : State :=
  (List.range 64).foldl (fun s i => if mask.getLsbD i then s.storeMarked party (spadBase (hall + i) + off) d else s) s

/-- Whether something holds of a core of a mask within a hall. -/
def anyPeer (hall : Nat) (mask : Word) (f : Nat → Bool) : Bool := (List.range 64).any fun i => mask.getLsbD i && f (hall + i)

/-- The write of a chunk of a copy (R255, R256). -/
def State.chunkWrite (s : State) (c : CopyCmd) (o : Nat) (d : Marked) : Option (State × Ahead) :=
  let core := coreOf c.tid
  let at_ := c.dst.toNat + o
  match c.kind with
  | .multi m =>
    let hall := core / 64 * 64
    if anyPeer hall m fun k => s.inLocket (spadBase k + at_) d.length then some (s, .bad 3 (ownAddr (word at_)))
    else if anyPeer hall m fun k => s.portShut core (spadBase k) then none
    else some (s.multicast c.party hall at_ m d, .written)
  | _ =>
    let va := c.dst + word o
    if 2 ^ 64 ≤ at_ then some (s, .bad 2 va) else s.engWrite c va d

/-- The source bytes of a chunk up to the next line (R274): those read so far, or what stopped the read. -/
def State.chunkRead (s : State) (core ch : Nat) (c : CopyCmd) (o : Nat) : State × Except Ahead CopyCmd :=
  let k := o + c.part.length
  let n := min (64 - (c.src.toNat + k) % 64) (c.chunk o - c.part.length)
  let va := c.src + word k
  if 2 ^ 64 ≤ c.src.toNat + k then (s, .error (.bad 2 va))
  else match s.engRead c va n with
    | (s, .held) => (s, .error (.at_ va))
    | (s, .fault f) => (s, .error (.bad f (if f = 12 then 0xFFFF else va)))
    | (s, .absent) => (s.parkAccess c.tid (some c.id) c.asid va 0, .error (.at_ va))
    | (s, .ok d) => let c := { c with part := c.part ++ d }; (s.setHead core ch c 0, .ok c)

/-- Reads what is left of a chunk's source, line by line, and writes the chunk. -/
def State.chunkDo (core ch o : Nat) : Nat → State → CopyCmd → Option State
  | 0, _, _ => none
  | f + 1, s, c =>
    if c.part.length < c.chunk o then
      match s.chunkRead core ch c o with
      | (s, .ok c) => State.chunkDo core ch o f s c
      | (s, .error a) => some (s.setAhead core ch c o a)
    else (s.chunkWrite c o c.part).map fun p => p.1.setAhead core ch { c with part := [] } o p.2

/-- Where the next chunk of a copy begins: behind those on their way. -/
def CopyCmd.position (c : CopyCmd) : Nat := c.ahead.foldl (fun o p => max o (p.1 + c.chunk p.1)) c.done

/-- Whether the next chunk of a copy goes to another package. -/
def State.chunkFar (s : State) (c : CopyCmd) (o : Nat) : Bool := match c.kind with
  | .copy => match (s.reachAs (coreOf c.tid) c.asid c.user (c.dst + word o) (c.chunk o) { w := true }).2 with
    | .at_ (.far _) _ _ => true
    | _ => false
  | _ => false

/-- The part of a chunk done ahead (R274, R356): its source up to the next line, or a chunk sent to another package behind others. -/
def State.chunkAhead (s : State) (core ch : Nat) (c : CopyCmd) : Option State :=
  let o := c.position
  if c.len ≤ o || s.engParked c.id || (c.ahead.any fun p => match p.2 with
      | .sent _ => false
      | _ => true) then none
  else if c.part.length < c.chunk o then
    match s.chunkRead core ch c o with
    | (s, .ok _) => some s
    | (s, .error a) => some (s.setAhead core ch c o a)
  else if s.chunkFar c o then State.chunkDo core ch o 1 s c
  else none

/-- What element n's address is refused with before it is translated (R263). -/
def badElement (va : Word) (z : Nat) : Option (BitVec 6) :=
  if va = BitVec.allOnes 64 then some 2 else if va.toNat % z ≠ 0 then some 1 else none

/-- Element n of a gather is read (R263). -/
def State.gatherRead (s : State) (core ch : Nat) (c : CopyCmd) (z n : Nat) (va : Word) : State :=
  match badElement va z with
  | some k => s.setAhead core ch c n (.bad k va)
  | none => match s.engRead c va z with
    | (s, .held) => s
    | (s, .fault k) => s.setAhead core ch c n (.bad k (if k = 12 then 0xFFFF else va))
    | (s, .absent) => (s.parkAccess c.tid (some c.id) c.asid va 0).setAhead core ch c n (.at_ va)
    | (s, .ok d) => s.setAhead core ch c n (.read d)

/-- Element n of a scatter is written (R264). -/
def State.scatterWrite (s : State) (core ch : Nat) (c : CopyCmd) (z n : Nat) (va : Word) : Option State :=
  match badElement va z with
  | some k => some (s.setAhead core ch c n (.bad k va))
  | none =>
    let a := spadBase core + (c.dst.toNat + n * z)
    ((s.engHasRead c (s.chipno * 2 ^ 40 + a) z).engWrite c va (s.marked a z)).map fun p => p.1.setAhead core ch c n p.2

/-- What has been done of an element so far. -/
def CopyCmd.untouched (c : CopyCmd) (n : Nat) : Bool := match afind c.ahead n with
  | none => true
  | some (.at_ _) => true
  | some _ => false

/-- Element n of a gather or scatter is accessed, in any order but for writes of one address, which stay in index order (R263, R264); one that
is parked waits for its page. -/
def State.elementDo (s : State) (core ch : Nat) (c : CopyCmd) (n : Nat) : Option State :=
  match c.kind.index with
  | none => none
  | some (scatter, idx, z, desc) =>
    let va := s.elementAddr core c idx z n desc
    if n < c.done / z || c.len / z ≤ n || !c.untouched n || s.engParkedAt c.id va then none
    else if !scatter then some (s.gatherRead core ch c z n va)
    else if (List.range' (c.done / z) (n - c.done / z)).any fun m => c.untouched m && s.elementAddr core c idx z m desc == va then none
    else s.scatterWrite core ch c z n va

/-- The chunk or the element in whose turn a command stands is counted, if it has been done (R255, R263, R264, R378): a fault ends a copy, and
a lost link any command; else it is left out and the lowest is kept. -/
def State.copyTurn (s : State) (core ch : Nat) (c : CopyCmd) : Option State :=
  let z := match c.kind.index with
    | some (_, _, z, _) => z
    | none => c.chunk c.done
  let key := match c.kind.index with
    | some _ => c.done / z
    | none => c.done
  let skip (k : BitVec 6) (va : Word) : State := s.copyMore core ch { c with fault := c.fault <|> some (k, va) } key z 0
  match afind c.ahead key with
  | some .written => some (s.copyMore core ch c key z z)
  | some (.sent id) => if s.isOpen id then none else some (s.copyMore core ch c key z z)
  | some (.bad k va) =>
    some (if k = 12 then s.setHead core ch { c with fault := some (k, va) } 0
      else if c.kind.index.isNone then s.copyCut core ch c (k, va)
      else skip k va)
  | some (.read d) =>
    let off := c.dst.toNat + c.done
    some (if s.inLocket (spadBase core + off) z then skip 3 (ownAddr (word off))
      else (s.storeMarked c.party (spadBase core + off) d).copyMore core ch c key z z)
  | _ => none

/-- The bytes of a command cut off by its link that were delivered all the same: those acknowledged, or written (R270, R378). -/
def CopyCmd.arrived (c : CopyCmd) : Nat :=
  let z (n : Nat) : Nat := match c.kind.index with
    | some (_, _, z, _) => z
    | none => c.chunk n
  (c.ahead.map fun p => match p.2 with
    | .sent _ => z p.1
    | .written => z p.1
    | _ => 0).sum

/-- A step of the head command of a channel, if it is of a kind: what stands in its turn is done if it has not been, and counted; or counts
that are due. -/
def State.copyStep (s : State) (core ch : Nat) (kind : CopyKind → Bool) : Option State :=
  match s.copyHead core ch with
  | none => none
  | some c =>
    if !kind c.kind || !s.ready then none
    else if c.len ≤ c.done then s.copySettle core ch
    else if c.fault.any fun f => f.1 == 12 then
      if c.opens s then none
      else some (s.copyCut core ch { c with deliv := c.deliv + c.arrived, ahead := [] } (c.fault.getD (12, 0)))
    else match s.copyTurn core ch c with
      | some s => some s
      | none =>
        let did : Option State := match c.kind.index with
          | some (_, _, z, _) => s.elementDo core ch c (c.done / z)
          | none =>
            if s.engParked c.id || !(afind c.ahead c.done).all (fun a => match a with
              | .at_ _ => true
              | _ => false) then none
            else State.chunkDo core ch c.done 3 s c
        match did with
        | some s => some (((s.copyHead core ch).bind fun c => s.copyTurn core ch c).getD s)
        | none => s.copySettle core ch

/-- COPY_CHUNK_DONE (R255, R256, R261): the next chunk of the head copy of a channel. -/
def execCopyChunkDone (core ch : Nat) (s : State) : Res := event s (s.copyStep core ch fun k => k.index.isNone)
/-- GATHER_ELEMENT_LAND (R263): the next element of the head gather. -/
def execGatherElementLand (core ch : Nat) (s : State) : Res := event s (s.copyStep core ch fun k => k.index.any fun i => !i.1)
/-- SCATTER_ELEMENT_ACK (R264): the next element of the head scatter. -/
def execScatterElementAck (core ch : Nat) (s : State) : Res := event s (s.copyStep core ch fun k => k.index.any (·.1))

/-- The head command of a channel goes ahead of its turn. -/
def State.copyAhead (s : State) (core ch n : Nat) : Option State :=
  match s.copyHead core ch with
  | none => none
  | some c =>
    if !s.ready || c.len ≤ c.done || c.fault.any (·.1 == 12) then none
    else match c.kind.index with
      | some _ => s.elementDo core ch c n
      | none => s.chunkAhead core ch c

end Sys2Proof.Machine
end

