-- ==== Sys2Proof/Machine/Dispatch.lean ====
section
/-! DEFINITION. The meaning of every row of the opcode table, one arm per constructor. -/

namespace Sys2Proof.Machine

open Sys2Proof

def exec (i : Instr) (s : State) : Host.Outcome State Fault Refusal :=
  match i with
  | .lui rd imm => Sys2Proof.Machine.execLui rd imm s
  | .auipc rd imm => Sys2Proof.Machine.execAuipc rd imm s
  | .jal rd off => Sys2Proof.Machine.execJal rd off s
  | .jalr rd rs1 imm => Sys2Proof.Machine.execJalr rd rs1 imm s
  | .beq rs1 rs2 off => Sys2Proof.Machine.execBeq rs1 rs2 off s
  | .bne rs1 rs2 off => Sys2Proof.Machine.execBne rs1 rs2 off s
  | .blt rs1 rs2 off => Sys2Proof.Machine.execBlt rs1 rs2 off s
  | .bge rs1 rs2 off => Sys2Proof.Machine.execBge rs1 rs2 off s
  | .bltu rs1 rs2 off => Sys2Proof.Machine.execBltu rs1 rs2 off s
  | .bgeu rs1 rs2 off => Sys2Proof.Machine.execBgeu rs1 rs2 off s
  | .lb rd rs1 imm => Sys2Proof.Machine.execLb rd rs1 imm s
  | .lh rd rs1 imm => Sys2Proof.Machine.execLh rd rs1 imm s
  | .lw rd rs1 imm => Sys2Proof.Machine.execLw rd rs1 imm s
  | .ld rd rs1 imm => Sys2Proof.Machine.execLd rd rs1 imm s
  | .lbu rd rs1 imm => Sys2Proof.Machine.execLbu rd rs1 imm s
  | .lhu rd rs1 imm => Sys2Proof.Machine.execLhu rd rs1 imm s
  | .lwu rd rs1 imm => Sys2Proof.Machine.execLwu rd rs1 imm s
  | .sb rs1 rs2 imm => Sys2Proof.Machine.execSb rs1 rs2 imm s
  | .sh rs1 rs2 imm => Sys2Proof.Machine.execSh rs1 rs2 imm s
  | .sw rs1 rs2 imm => Sys2Proof.Machine.execSw rs1 rs2 imm s
  | .sd rs1 rs2 imm => Sys2Proof.Machine.execSd rs1 rs2 imm s
  | .addi rd rs1 imm => Sys2Proof.Machine.execAddi rd rs1 imm s
  | .slti rd rs1 imm => Sys2Proof.Machine.execSlti rd rs1 imm s
  | .sltiu rd rs1 imm => Sys2Proof.Machine.execSltiu rd rs1 imm s
  | .xori rd rs1 imm => Sys2Proof.Machine.execXori rd rs1 imm s
  | .ori rd rs1 imm => Sys2Proof.Machine.execOri rd rs1 imm s
  | .andi rd rs1 imm => Sys2Proof.Machine.execAndi rd rs1 imm s
  | .slli rd rs1 amt => Sys2Proof.Machine.execSlli rd rs1 amt s
  | .srli rd rs1 amt => Sys2Proof.Machine.execSrli rd rs1 amt s
  | .srai rd rs1 amt => Sys2Proof.Machine.execSrai rd rs1 amt s
  | .add rd rs1 rs2 => Sys2Proof.Machine.execAdd rd rs1 rs2 s
  | .sub rd rs1 rs2 => Sys2Proof.Machine.execSub rd rs1 rs2 s
  | .sll rd rs1 rs2 => Sys2Proof.Machine.execSll rd rs1 rs2 s
  | .slt rd rs1 rs2 => Sys2Proof.Machine.execSlt rd rs1 rs2 s
  | .sltu rd rs1 rs2 => Sys2Proof.Machine.execSltu rd rs1 rs2 s
  | .xor rd rs1 rs2 => Sys2Proof.Machine.execXor rd rs1 rs2 s
  | .srl rd rs1 rs2 => Sys2Proof.Machine.execSrl rd rs1 rs2 s
  | .sra rd rs1 rs2 => Sys2Proof.Machine.execSra rd rs1 rs2 s
  | .or rd rs1 rs2 => Sys2Proof.Machine.execOr rd rs1 rs2 s
  | .and rd rs1 rs2 => Sys2Proof.Machine.execAnd rd rs1 rs2 s
  | .addiw rd rs1 imm => Sys2Proof.Machine.execAddiw rd rs1 imm s
  | .slliw rd rs1 amt => Sys2Proof.Machine.execSlliw rd rs1 amt s
  | .srliw rd rs1 amt => Sys2Proof.Machine.execSrliw rd rs1 amt s
  | .sraiw rd rs1 amt => Sys2Proof.Machine.execSraiw rd rs1 amt s
  | .addw rd rs1 rs2 => Sys2Proof.Machine.execAddw rd rs1 rs2 s
  | .subw rd rs1 rs2 => Sys2Proof.Machine.execSubw rd rs1 rs2 s
  | .sllw rd rs1 rs2 => Sys2Proof.Machine.execSllw rd rs1 rs2 s
  | .srlw rd rs1 rs2 => Sys2Proof.Machine.execSrlw rd rs1 rs2 s
  | .sraw rd rs1 rs2 => Sys2Proof.Machine.execSraw rd rs1 rs2 s
  | .fence imm rs1 rd => Sys2Proof.Machine.execFence imm rs1 rd s
  | .fenceTso => Sys2Proof.Machine.execFenceTso s
  | .pause => Sys2Proof.Machine.execPause s
  | .fenceI imm rs1 rd => Sys2Proof.Machine.execFenceI imm rs1 rd s
  | .ecall => Sys2Proof.Machine.execEcall s
  | .ebreak => Sys2Proof.Machine.execEbreak s
  | .wfi => Sys2Proof.Machine.execWfi s
  | .mul rd rs1 rs2 => Sys2Proof.Machine.execMul rd rs1 rs2 s
  | .mulh rd rs1 rs2 => Sys2Proof.Machine.execMulh rd rs1 rs2 s
  | .mulhsu rd rs1 rs2 => Sys2Proof.Machine.execMulhsu rd rs1 rs2 s
  | .mulhu rd rs1 rs2 => Sys2Proof.Machine.execMulhu rd rs1 rs2 s
  | .div rd rs1 rs2 => Sys2Proof.Machine.execDiv rd rs1 rs2 s
  | .divu rd rs1 rs2 => Sys2Proof.Machine.execDivu rd rs1 rs2 s
  | .rem rd rs1 rs2 => Sys2Proof.Machine.execRem rd rs1 rs2 s
  | .remu rd rs1 rs2 => Sys2Proof.Machine.execRemu rd rs1 rs2 s
  | .mulw rd rs1 rs2 => Sys2Proof.Machine.execMulw rd rs1 rs2 s
  | .divw rd rs1 rs2 => Sys2Proof.Machine.execDivw rd rs1 rs2 s
  | .divuw rd rs1 rs2 => Sys2Proof.Machine.execDivuw rd rs1 rs2 s
  | .remw rd rs1 rs2 => Sys2Proof.Machine.execRemw rd rs1 rs2 s
  | .remuw rd rs1 rs2 => Sys2Proof.Machine.execRemuw rd rs1 rs2 s
  | .lrW aq rl rd rs1 => Sys2Proof.Machine.execLrW aq rl rd rs1 s
  | .lrD aq rl rd rs1 => Sys2Proof.Machine.execLrD aq rl rd rs1 s
  | .scW aq rl rd rs1 rs2 => Sys2Proof.Machine.execScW aq rl rd rs1 rs2 s
  | .scD aq rl rd rs1 rs2 => Sys2Proof.Machine.execScD aq rl rd rs1 rs2 s
  | .amoswapW aq rl rd rs1 rs2 => Sys2Proof.Machine.execAmoswapW aq rl rd rs1 rs2 s
  | .amoswapD aq rl rd rs1 rs2 => Sys2Proof.Machine.execAmoswapD aq rl rd rs1 rs2 s
  | .amoaddW aq rl rd rs1 rs2 => Sys2Proof.Machine.execAmoaddW aq rl rd rs1 rs2 s
  | .amoaddD aq rl rd rs1 rs2 => Sys2Proof.Machine.execAmoaddD aq rl rd rs1 rs2 s
  | .amoxorW aq rl rd rs1 rs2 => Sys2Proof.Machine.execAmoxorW aq rl rd rs1 rs2 s
  | .amoxorD aq rl rd rs1 rs2 => Sys2Proof.Machine.execAmoxorD aq rl rd rs1 rs2 s
  | .amoandW aq rl rd rs1 rs2 => Sys2Proof.Machine.execAmoandW aq rl rd rs1 rs2 s
  | .amoandD aq rl rd rs1 rs2 => Sys2Proof.Machine.execAmoandD aq rl rd rs1 rs2 s
  | .amoorW aq rl rd rs1 rs2 => Sys2Proof.Machine.execAmoorW aq rl rd rs1 rs2 s
  | .amoorD aq rl rd rs1 rs2 => Sys2Proof.Machine.execAmoorD aq rl rd rs1 rs2 s
  | .amominW aq rl rd rs1 rs2 => Sys2Proof.Machine.execAmominW aq rl rd rs1 rs2 s
  | .amominD aq rl rd rs1 rs2 => Sys2Proof.Machine.execAmominD aq rl rd rs1 rs2 s
  | .amomaxW aq rl rd rs1 rs2 => Sys2Proof.Machine.execAmomaxW aq rl rd rs1 rs2 s
  | .amomaxD aq rl rd rs1 rs2 => Sys2Proof.Machine.execAmomaxD aq rl rd rs1 rs2 s
  | .amominuW aq rl rd rs1 rs2 => Sys2Proof.Machine.execAmominuW aq rl rd rs1 rs2 s
  | .amominuD aq rl rd rs1 rs2 => Sys2Proof.Machine.execAmominuD aq rl rd rs1 rs2 s
  | .amomaxuW aq rl rd rs1 rs2 => Sys2Proof.Machine.execAmomaxuW aq rl rd rs1 rs2 s
  | .amomaxuD aq rl rd rs1 rs2 => Sys2Proof.Machine.execAmomaxuD aq rl rd rs1 rs2 s
  | .csrrw rd rs1 csr => Sys2Proof.Machine.execCsrrw rd rs1 csr s
  | .csrrs rd rs1 csr => Sys2Proof.Machine.execCsrrs rd rs1 csr s
  | .csrrc rd rs1 csr => Sys2Proof.Machine.execCsrrc rd rs1 csr s
  | .csrrwi rd zimm csr => Sys2Proof.Machine.execCsrrwi rd zimm csr s
  | .csrrsi rd zimm csr => Sys2Proof.Machine.execCsrrsi rd zimm csr s
  | .csrrci rd zimm csr => Sys2Proof.Machine.execCsrrci rd zimm csr s
  | .sh1add rd rs1 rs2 => Sys2Proof.Machine.execSh1add rd rs1 rs2 s
  | .sh2add rd rs1 rs2 => Sys2Proof.Machine.execSh2add rd rs1 rs2 s
  | .sh3add rd rs1 rs2 => Sys2Proof.Machine.execSh3add rd rs1 rs2 s
  | .addUw rd rs1 rs2 => Sys2Proof.Machine.execAddUw rd rs1 rs2 s
  | .sh1addUw rd rs1 rs2 => Sys2Proof.Machine.execSh1addUw rd rs1 rs2 s
  | .sh2addUw rd rs1 rs2 => Sys2Proof.Machine.execSh2addUw rd rs1 rs2 s
  | .sh3addUw rd rs1 rs2 => Sys2Proof.Machine.execSh3addUw rd rs1 rs2 s
  | .slliUw rd rs1 amt => Sys2Proof.Machine.execSlliUw rd rs1 amt s
  | .vadd vd vs1 vs2 kg => Sys2Proof.Machine.execVadd vd vs1 vs2 kg s
  | .vsub vd vs1 vs2 kg => Sys2Proof.Machine.execVsub vd vs1 vs2 kg s
  | .vmul vd vs1 vs2 kg => Sys2Proof.Machine.execVmul vd vs1 vs2 kg s
  | .vfma vd vs1 vs2 kg => Sys2Proof.Machine.execVfma vd vs1 vs2 kg s
  | .vmin vd vs1 vs2 kg => Sys2Proof.Machine.execVmin vd vs1 vs2 kg s
  | .vmax vd vs1 vs2 kg => Sys2Proof.Machine.execVmax vd vs1 vs2 kg s
  | .vabs vd vs1 kg => Sys2Proof.Machine.execVabs vd vs1 kg s
  | .vneg vd vs1 kg => Sys2Proof.Machine.execVneg vd vs1 kg s
  | .vadds vd vs1 vs2 kg => Sys2Proof.Machine.execVadds vd vs1 vs2 kg s
  | .vsubs vd vs1 vs2 kg => Sys2Proof.Machine.execVsubs vd vs1 vs2 kg s
  | .vmulh vd vs1 vs2 kg => Sys2Proof.Machine.execVmulh vd vs1 vs2 kg s
  | .vmulw vd vs1 vs2 kg => Sys2Proof.Machine.execVmulw vd vs1 vs2 kg s
  | .vand vd vs1 vs2 kg => Sys2Proof.Machine.execVand vd vs1 vs2 kg s
  | .vor vd vs1 vs2 kg => Sys2Proof.Machine.execVor vd vs1 vs2 kg s
  | .vxor vd vs1 vs2 kg => Sys2Proof.Machine.execVxor vd vs1 vs2 kg s
  | .vshl vd vs1 vs2 kg => Sys2Proof.Machine.execVshl vd vs1 vs2 kg s
  | .vshr vd vs1 vs2 kg => Sys2Proof.Machine.execVshr vd vs1 vs2 kg s
  | .vsra vd vs1 vs2 kg => Sys2Proof.Machine.execVsra vd vs1 vs2 kg s
  | .vaddi vd vs1 imm kg => Sys2Proof.Machine.execVaddi vd vs1 imm kg s
  | .vshli vd vs1 imm kg => Sys2Proof.Machine.execVshli vd vs1 imm kg s
  | .vshri vd vs1 imm kg => Sys2Proof.Machine.execVshri vd vs1 imm kg s
  | .vsrai vd vs1 imm kg => Sys2Proof.Machine.execVsrai vd vs1 imm kg s
  | .vdiv vd vs1 vs2 kg => Sys2Proof.Machine.execVdiv vd vs1 vs2 kg s
  | .vsqrt vd vs1 kg => Sys2Proof.Machine.execVsqrt vd vs1 kg s
  | .vexp vd vs1 kg => Sys2Proof.Machine.execVexp vd vs1 kg s
  | .vsel vd vs1 vs2 kg => Sys2Proof.Machine.execVsel vd vs1 vs2 kg s
  | .vcmpeq kd vs1 vs2 kg => Sys2Proof.Machine.execVcmpeq kd vs1 vs2 kg s
  | .vcmpne kd vs1 vs2 kg => Sys2Proof.Machine.execVcmpne kd vs1 vs2 kg s
  | .vcmplt kd vs1 vs2 kg => Sys2Proof.Machine.execVcmplt kd vs1 vs2 kg s
  | .vcmple kd vs1 vs2 kg => Sys2Proof.Machine.execVcmple kd vs1 vs2 kg s
  | .vcmpltu kd vs1 vs2 kg => Sys2Proof.Machine.execVcmpltu kd vs1 vs2 kg s
  | .vcmpleu kd vs1 vs2 kg => Sys2Proof.Machine.execVcmpleu kd vs1 vs2 kg s
  | .kand kd ks1 ks2 kg => Sys2Proof.Machine.execKand kd ks1 ks2 kg s
  | .kor kd ks1 ks2 kg => Sys2Proof.Machine.execKor kd ks1 ks2 kg s
  | .kxor kd ks1 ks2 kg => Sys2Proof.Machine.execKxor kd ks1 ks2 kg s
  | .kandn kd ks1 ks2 kg => Sys2Proof.Machine.execKandn kd ks1 ks2 kg s
  | .vwhile kd rs1 rs2 kg => Sys2Proof.Machine.execVwhile kd rs1 rs2 kg s
  | .kcount rd ks kg => Sys2Proof.Machine.execKcount rd ks kg s
  | .kfirst rd ks kg => Sys2Proof.Machine.execKfirst rd ks kg s
  | .vredadd vd vs1 kg => Sys2Proof.Machine.execVredadd vd vs1 kg s
  | .vredmin vd vs1 kg => Sys2Proof.Machine.execVredmin vd vs1 kg s
  | .vredmax vd vs1 kg => Sys2Proof.Machine.execVredmax vd vs1 kg s
  | .vbcast vd rs1 kg => Sys2Proof.Machine.execVbcast vd rs1 kg s
  | .vmvx rd vs1 rs2 => Sys2Proof.Machine.execVmvx rd vs1 rs2 s
  | .vperm vd vs1 vs2 kg => Sys2Proof.Machine.execVperm vd vs1 vs2 kg s
  | .viota vd kg => Sys2Proof.Machine.execViota vd kg s
  | .vmov vd vs1 kg => Sys2Proof.Machine.execVmov vd vs1 kg s
  | .smxstep vd vs1 kg => Sys2Proof.Machine.execSmxstep vd vs1 kg s
  | .smxnorm vd vs1 vs2 kg => Sys2Proof.Machine.execSmxnorm vd vs1 vs2 kg s
  | .vpopc vd vs1 kg => Sys2Proof.Machine.execVpopc vd vs1 kg s
  | .vclz vd vs1 kg => Sys2Proof.Machine.execVclz vd vs1 kg s
  | .gaddr vd vs1 tbl kg => Sys2Proof.Machine.execGaddr vd vs1 tbl kg s
  | .vld vd rs1 imm kg => Sys2Proof.Machine.execVld vd rs1 imm kg s
  | .vldc vd rs1 rs2 kg => Sys2Proof.Machine.execVldc vd rs1 rs2 kg s
  | .vst vd rs1 imm kg => Sys2Proof.Machine.execVst vd rs1 imm kg s
  | .vstc vd rs1 rs2 kg => Sys2Proof.Machine.execVstc vd rs1 rs2 kg s
  | .vlds vd rs1 rs2 kg => Sys2Proof.Machine.execVlds vd rs1 rs2 kg s
  | .vsts vd rs1 rs2 kg => Sys2Proof.Machine.execVsts vd rs1 rs2 kg s
  | .vldx vd rs1 vs2 kg => Sys2Proof.Machine.execVldx vd rs1 vs2 kg s
  | .vstx vd rs1 vs2 kg => Sys2Proof.Machine.execVstx vd rs1 vs2 kg s
  | .vldg vd vs1 sz kg => Sys2Proof.Machine.execVldg vd vs1 sz kg s
  | .vstg vd vs1 sz kg => Sys2Proof.Machine.execVstg vd vs1 sz kg s
  | .vcvt vd vs1 fmt kg => Sys2Proof.Machine.execVcvt vd vs1 fmt kg s
  | .vpvenc rd vs1 rs2 => Sys2Proof.Machine.execVpvenc rd vs1 rs2 s
  | .vpvdec vd rs1 rs2 => Sys2Proof.Machine.execVpvdec vd rs1 rs2 s
  | .vcompress vd vs1 m n16 => Sys2Proof.Machine.execVcompress vd vs1 m n16 s
  | .vdesc vd vs1 kg => Sys2Proof.Machine.execVdesc vd vs1 kg s
  | .vflight n rs1 rs2 => Sys2Proof.Machine.execVflight n rs1 rs2 s
  | .vwidth rd => Sys2Proof.Machine.execVwidth rd s
  | .lwait => Sys2Proof.Machine.execLwait s
  | .vldb vd rs1 sz kg => Sys2Proof.Machine.execVldb vd rs1 sz kg s
  | .msend sem scope rd rs1 rs2 => Sys2Proof.Machine.execMsend sem scope rd rs1 rs2 s
  | .rwr sem scope rs1 rs2 => Sys2Proof.Machine.execRwr sem scope rs1 rs2 s
  | .cpy sem scope rd rs1 => Sys2Proof.Machine.execCpy sem scope rd rs1 s
  | .cpym sem scope rd rs1 rs2 => Sys2Proof.Machine.execCpym sem scope rd rs1 rs2 s
  | .gath sem scope rd rs1 => Sys2Proof.Machine.execGath sem scope rd rs1 s
  | .scat sem scope rd rs1 => Sys2Proof.Machine.execScat sem scope rd rs1 s
  | .boinit rs1 rs2 => Sys2Proof.Machine.execBoinit rs1 rs2 s
  | .bowait sem scope rd rs1 => Sys2Proof.Machine.execBowait sem scope rd rs1 s
  | .gadd sem scope rd rs1 rs2 => Sys2Proof.Machine.execGadd sem scope rd rs1 rs2 s
  | .gfadd sem scope rd rs1 rs2 => Sys2Proof.Machine.execGfadd sem scope rd rs1 rs2 s
  | .gmin sem scope rd rs1 rs2 => Sys2Proof.Machine.execGmin sem scope rd rs1 rs2 s
  | .gmax sem scope rd rs1 rs2 => Sys2Proof.Machine.execGmax sem scope rd rs1 rs2 s
  | .gor sem scope rd rs1 rs2 => Sys2Proof.Machine.execGor sem scope rd rs1 rs2 s
  | .gand sem scope rd rs1 rs2 => Sys2Proof.Machine.execGand sem scope rd rs1 rs2 s
  | .gxor sem scope rd rs1 rs2 => Sys2Proof.Machine.execGxor sem scope rd rs1 rs2 s
  | .gcas sem scope rd rs1 rs2 => Sys2Proof.Machine.execGcas sem scope rd rs1 rs2 s
  | .gqpush sem scope rd rs1 rs2 => Sys2Proof.Machine.execGqpush sem scope rd rs1 rs2 s
  | .gqpop sem scope rd rs1 => Sys2Proof.Machine.execGqpop sem scope rd rs1 s
  | .bpush sem scope rd rs1 rs2 => Sys2Proof.Machine.execBpush sem scope rd rs1 rs2 s
  | .bpop sem scope rd rs1 => Sys2Proof.Machine.execBpop sem scope rd rs1 s
  | .bround sem scope rd rs1 rs2 => Sys2Proof.Machine.execBround sem scope rd rs1 rs2 s
  | .back sem scope rd rs1 rs2 => Sys2Proof.Machine.execBack sem scope rd rs1 rs2 s
  | .bidxget sem scope rd rs1 rs2 => Sys2Proof.Machine.execBidxget sem scope rd rs1 rs2 s
  | .bidxput sem scope rd rs1 rs2 => Sys2Proof.Machine.execBidxput sem scope rd rs1 rs2 s
  | .qrun sem scope rd rs1 rs2 => Sys2Proof.Machine.execQrun sem scope rd rs1 rs2 s
  | .qslope sem scope rd rs1 rs2 => Sys2Proof.Machine.execQslope sem scope rd rs1 rs2 s
  | .qsample sem scope rd rs1 rs2 => Sys2Proof.Machine.execQsample sem scope rd rs1 rs2 s
  | .qinj sem scope rd rs1 rs2 => Sys2Proof.Machine.execQinj sem scope rd rs1 rs2 s
  | .cstart sem scope rd rs1 => Sys2Proof.Machine.execCstart sem scope rd rs1 s
  | .cwait sem scope rd rs1 => Sys2Proof.Machine.execCwait sem scope rd rs1 s
  | .ccancel rd rs1 => Sys2Proof.Machine.execCcancel rd rs1 s
  | .pflush rd => Sys2Proof.Machine.execPflush rd s
  | .cardPost rd rs1 rs2 => Sys2Proof.Machine.execCardPost rd rs1 rs2 s
  | .cardSusp rs1 => Sys2Proof.Machine.execCardSusp rs1 s
  | .cardBind rd rs1 rs2 => Sys2Proof.Machine.execCardBind rd rs1 rs2 s
  | .cardExit => Sys2Proof.Machine.execCardExit s
  | .cardYield => Sys2Proof.Machine.execCardYield s
  | .cardPrio rd rs1 => Sys2Proof.Machine.execCardPrio rd rs1 s
  | .cardSteal rd rs1 => Sys2Proof.Machine.execCardSteal rd rs1 s
  | .cardSelf rd rs1 => Sys2Proof.Machine.execCardSelf rd rs1 s
  | .hdone => Sys2Proof.Machine.execHdone s
  | .dualsig rs1 => Sys2Proof.Machine.execDualsig rs1 s
  | .ptake rd n => Sys2Proof.Machine.execPtake rd n s
  | .barCore => Sys2Proof.Machine.execBarCore s
  | .barRow => Sys2Proof.Machine.execBarRow s
  | .barDie => Sys2Proof.Machine.execBarDie s
  | .barPod => Sys2Proof.Machine.execBarPod s
  | .scfence rs2 => Sys2Proof.Machine.execScfence rs2 s
  | .lbfence => Sys2Proof.Machine.execLbfence s
  | .fmtp fmt => Sys2Proof.Machine.execFmtp fmt s
  | .switch => Sys2Proof.Machine.execSwitch s
  | .tret => Sys2Proof.Machine.execTret s
  | .trap imm => Sys2Proof.Machine.execTrap imm s
  | .ckpt rs1 => Sys2Proof.Machine.execCkpt rs1 s
  | .seal rd rs1 rs2 => Sys2Proof.Machine.execSeal rd rs1 rs2 s
  | .plog rd rs1 rs2 => Sys2Proof.Machine.execPlog rd rs1 rs2 s
  | .tlbReplay rs1 => Sys2Proof.Machine.execTlbReplay rs1 s
  | .tlbInv rs1 rs2 => Sys2Proof.Machine.execTlbInv rs1 rs2 s
  | .mringCfg rd rs1 rs2 => Sys2Proof.Machine.execMringCfg rd rs1 rs2 s
  | .mringFree rd rs1 => Sys2Proof.Machine.execMringFree rd rs1 s
  | .mringDrop rd rs1 rs2 => Sys2Proof.Machine.execMringDrop rd rs1 rs2 s
  | .mgang rd rs1 => Sys2Proof.Machine.execMgang rd rs1 s
  | .mma rd rs1 => Sys2Proof.Machine.execMma rd rs1 s
  | .mmaSp rd rs1 vm => Sys2Proof.Machine.execMmaSp rd rs1 vm s
  | .mgroup rd rs1 rs2 => Sys2Proof.Machine.execMgroup rd rs1 rs2 s
  | .mread rd rs1 => Sys2Proof.Machine.execMread rd rs1 s
  | .mcommitVector vd rs1 => Sys2Proof.Machine.execMcommitVector vd rs1 s
  | .mcommitScratchpad rs1 rs2 => Sys2Proof.Machine.execMcommitScratchpad rs1 rs2 s
  | .mwait rs1 => Sys2Proof.Machine.execMwait rs1 s
  | .mzero rs1 => Sys2Proof.Machine.execMzero rs1 s
  | .mringPush rd rs1 => Sys2Proof.Machine.execMringPush rd rs1 s
  | .bqcfg rd rs1 rs2 => Sys2Proof.Machine.execBqcfg rd rs1 rs2 s
  | .bquiet rd rs1 rs2 => Sys2Proof.Machine.execBquiet rd rs1 rs2 s
  | .wptr rd rs1 => Sys2Proof.Machine.execWptr rd rs1 s
  | .qcfg rd rs1 rs2 => Sys2Proof.Machine.execQcfg rd rs1 rs2 s
  | .qvset rd rs1 rs2 => Sys2Proof.Machine.execQvset rd rs1 rs2 s
  | .qstat rd rs1 rs2 => Sys2Proof.Machine.execQstat rd rs1 rs2 s
  | .qstop rd rs1 rs2 => Sys2Proof.Machine.execQstop rd rs1 rs2 s
  | .qconv rd rs1 rs2 => Sys2Proof.Machine.execQconv rd rs1 rs2 s
  | .cstat rd rs1 rs2 => Sys2Proof.Machine.execCstat rd rs1 rs2 s
  | .vflagsAccess op rd src => Sys2Proof.Machine.execVflagsAccess op rd src s
  | .chwinWrite op rd src => Sys2Proof.Machine.execChwinWrite op rd src s
  | .skewWrite n op rd src => Sys2Proof.Machine.execSkewWrite n op rd src s
  | .ptbaseWrite op rd src => Sys2Proof.Machine.execPtbaseWrite op rd src s
  | .plogbaseWrite op rd src => Sys2Proof.Machine.execPlogbaseWrite op rd src s
  | .stwcsrWrite tid off val => Sys2Proof.Machine.execStwcsrWrite tid off val s
  | .hostAppend off data => Sys2Proof.Machine.execHostAppend off data s
  | .hostRead bar off size => Sys2Proof.Machine.execHostRead bar off size s
  | .hostWrite off data => Sys2Proof.Machine.execHostWrite off data s
  | .controlRegisterWrite off size val => Sys2Proof.Machine.execControlRegisterWrite off size val s
  | .queueDescriptorWrite q idx val => Sys2Proof.Machine.execQueueDescriptorWrite q idx val s
  | .hintWrite val => Sys2Proof.Machine.execHintWrite val s
  | .rst val => Sys2Proof.Machine.execRst val s
  | .podcfgWrite val => Sys2Proof.Machine.execPodcfgWrite val s
  | .coldomEnable val => Sys2Proof.Machine.execColdomEnable val s
  | .coldomDisable val => Sys2Proof.Machine.execColdomDisable val s
  | .lcDeploy val => Sys2Proof.Machine.execLcDeploy val s
  | .lcReturn val => Sys2Proof.Machine.execLcReturn val s
  | .provision => Sys2Proof.Machine.execProvision s
  | .attreq val => Sys2Proof.Machine.execAttreq val s
  | .attestReportDone => Sys2Proof.Machine.execAttestReportDone s
  | .gcolWrite die val => Sys2Proof.Machine.execGcolWrite die val s
  | .gfoldWrite die val => Sys2Proof.Machine.execGfoldWrite die val s
  | .columnMoveDone die col => Sys2Proof.Machine.execColumnMoveDone die col s
  | .freplay die val => Sys2Proof.Machine.execFreplay die val s
  | .evict die val => Sys2Proof.Machine.execEvict die val s
  | .preempt core val => Sys2Proof.Machine.execPreempt core val s
  | .niovfWrite core val => Sys2Proof.Machine.execNiovfWrite core val s
  | .packageReset => Sys2Proof.Machine.execPackageReset s
  | .wipeDone => Sys2Proof.Machine.execWipeDone s
  | .idleTimeout => Sys2Proof.Machine.execIdleTimeout s
  | .powerWake => Sys2Proof.Machine.execPowerWake s
  | .powerExitDone => Sys2Proof.Machine.execPowerExitDone s
  | .correctedError loc => Sys2Proof.Machine.execCorrectedError loc s
  | .uncorrectableError pa len => Sys2Proof.Machine.execUncorrectableError pa len s
  | .onDieLinkFailure loc => Sys2Proof.Machine.execOnDieLinkFailure loc s
  | .storeBufferDrain core => Sys2Proof.Machine.execStoreBufferDrain core s
  | .resultReturn tid id => Sys2Proof.Machine.execResultReturn tid id s
  | .engineTrapReport tid => Sys2Proof.Machine.execEngineTrapReport tid s
  | .vectorSequencerExecute tid => Sys2Proof.Machine.execVectorSequencerExecute tid s
  | .leaseLaneLand tid id lane => Sys2Proof.Machine.execLeaseLaneLand tid id lane s
  | .matrixQueueExecute core => Sys2Proof.Machine.execMatrixQueueExecute core s
  | .gangClaspClose row => Sys2Proof.Machine.execGangClaspClose row s
  | .landingTransferDone core slot => Sys2Proof.Machine.execLandingTransferDone core slot s
  | .rowClaspClose slot sub => Sys2Proof.Machine.execRowClaspClose slot sub s
  | .barrierComplete slot level sub => Sys2Proof.Machine.execBarrierComplete slot level sub s
  | .galleryBankOperation id => Sys2Proof.Machine.execGalleryBankOperation id s
  | .galleryQueueStep id => Sys2Proof.Machine.execGalleryQueueStep id s
  | .beadStep id => Sys2Proof.Machine.execBeadStep id s
  | .sendAccepted id => Sys2Proof.Machine.execSendAccepted id s
  | .activeMessageArrival id => Sys2Proof.Machine.execActiveMessageArrival id s
  | .taggedPacketArrival id => Sys2Proof.Machine.execTaggedPacketArrival id s
  | .rwrArrival id => Sys2Proof.Machine.execRwrArrival id s
  | .heapReplay core => Sys2Proof.Machine.execHeapReplay core s
  | .handlerTrigger core => Sys2Proof.Machine.execHandlerTrigger core s
  | .handlerPushRetry core => Sys2Proof.Machine.execHandlerPushRetry core s
  | .abortedHandlerPush tid => Sys2Proof.Machine.execAbortedHandlerPush tid s
  | .copyChunkDone core ch => Sys2Proof.Machine.execCopyChunkDone core ch s
  | .gatherElementLand core ch => Sys2Proof.Machine.execGatherElementLand core ch s
  | .scatterElementAck core ch => Sys2Proof.Machine.execScatterElementAck core ch s
  | .postedWriteArrival pa w => Sys2Proof.Machine.execPostedWriteArrival pa w s
  | .postedWriteAck id => Sys2Proof.Machine.execPostedWriteAck id s
  | .remoteLoadReply id val => Sys2Proof.Machine.execRemoteLoadReply id val s
  | .flitCrcFailure link => Sys2Proof.Machine.execFlitCrcFailure link s
  | .linkLoss link => Sys2Proof.Machine.execLinkLoss link s
  | .linkRetrained link => Sys2Proof.Machine.execLinkRetrained link s
  | .linkDownTimeout link => Sys2Proof.Machine.execLinkDownTimeout link s
  | .tamgonLinkDown k => Sys2Proof.Machine.execTamgonLinkDown k s
  | .linkTrained k => Sys2Proof.Machine.execLinkTrained k s
  | .peerExchange k peer plink => Sys2Proof.Machine.execPeerExchange k peer plink s
  | .queueDispatch q => Sys2Proof.Machine.execQueueDispatch q s
  | .gangAdmit id => Sys2Proof.Machine.execGangAdmit id s
  | .cardPickup tid => Sys2Proof.Machine.execCardPickup tid s
  | .stealScanStep core => Sys2Proof.Machine.execStealScanStep core s
  | .stealPauseEnd core => Sys2Proof.Machine.execStealPauseEnd core s
  | .dequePush id => Sys2Proof.Machine.execDequePush id s
  | .ageing id => Sys2Proof.Machine.execAgeing id s
  | .sliceExpiry tid => Sys2Proof.Machine.execSliceExpiry tid s
  | .watchdogExpiry id => Sys2Proof.Machine.execWatchdogExpiry id s
  | .checkpointDeadline tid => Sys2Proof.Machine.execCheckpointDeadline tid s
  | .evictionReadmit id core => Sys2Proof.Machine.execEvictionReadmit id core s
  | .instantBegin die sys => Sys2Proof.Machine.execInstantBegin die sys s
  | .systemHold die sys => Sys2Proof.Machine.execSystemHold die sys s
  | .sampleTake die sys => Sys2Proof.Machine.execSampleTake die sys s
  | .crossingEventArrival id => Sys2Proof.Machine.execCrossingEventArrival id s
  | .crossingFrontierArrival id => Sys2Proof.Machine.execCrossingFrontierArrival id s
  | .collectiveRegistration id => Sys2Proof.Machine.execCollectiveRegistration id s
  | .replicationAck id => Sys2Proof.Machine.execReplicationAck id s
  | .assignmentNotice id => Sys2Proof.Machine.execAssignmentNotice id s
  | .collectiveBegin => Sys2Proof.Machine.execCollectiveBegin s
  | .collectiveComplete num => Sys2Proof.Machine.execCollectiveComplete num s
  | .finishReport id => Sys2Proof.Machine.execFinishReport id s
  | .collectiveWithdrawal id => Sys2Proof.Machine.execCollectiveWithdrawal id s
  | .cancelNotice id => Sys2Proof.Machine.execCancelNotice id s
  | .newelHeartbeat => Sys2Proof.Machine.execNewelHeartbeat s
  | .standbyTakeover => Sys2Proof.Machine.execStandbyTakeover s
  | .takeoverNotice id => Sys2Proof.Machine.execTakeoverNotice id s
  | .illegalInstruction word => Sys2Proof.Machine.execIllegalInstruction word s
  | .fetchFault => Sys2Proof.Machine.execFetchFault s
  | .finishReportAck id => Sys2Proof.Machine.execFinishReportAck id s

end Sys2Proof.Machine
end

