-- ==== Sys2Proof/Machine/Turns.lean ====
section
/-! DEFINITION. What moves at one step: a thread set that issues, with its instruction boundary (R8, R33, R138, R139), a step of the
part, or the passage of time; and a state in which a given word is the next instruction. -/

namespace Sys2Proof.Machine

open Sys2Proof

/-- The rows that a thread set performs by issuing; an agenda does not name them. -/
def isThreadRow : Instr → Bool
  | .vflagsAccess _ _ _ => true
  | .chwinWrite _ _ _ => true
  | .skewWrite _ _ _ _ => true
  | .ptbaseWrite _ _ _ => true
  | .plogbaseWrite _ _ _ => true
  | .illegalInstruction _ => true
  | .fetchFault => true
  | _ => false

/-- Whether a thread set has a boundary at which a trap may be taken: it runs a card that is not on its way back to a deque,
and no atomic of its is with another package (R282). -/
def State.atBoundary (s : State) (tid : Nat) : Bool :=
  s.live && (s.thread tid).card.isSome && !(s.thread tid).aborted && !(s.thread tid).remote.any (·.atomic)

/-- Whether a thread set is ready (R33, R155): neither parked until its results return nor waiting for a page. -/
def State.canIssue (s : State) (tid : Nat) : Bool :=
  s.atBoundary tid && !((s.thread tid).park && s.outstanding tid) && !s.isParked tid

/-- The park of S = 1 once the instruction has retired (R33), which it does with its reply where it waits for another package's memory. -/
def State.parkAfter (before after : State) (tid : Nat) : State :=
  if (before.thread tid).instret ≠ (after.thread tid).instret ∧ (after.thread tid).card.isSome then
    after.modThread tid fun t => { t with park := true }
  else if (before.thread tid).remote ≠ (after.thread tid).remote then
    after.modThread tid fun t => { t with remote := t.remote.map fun (r : RemoteWait) => { r with park := true } }
  else after

/-- Executes the word fetched for the issuing thread set (R8, R31). -/
def State.runWord (s : State) (w : IWord) : Res :=
  match decode w with
  | .error _ => execIllegalInstruction w s
  | .ok d =>
    match exec d.instr { s with ir := w } with
    | .next t => .next (if d.sw then s.parkAfter t s.cur else t)
    | r => r

/-- The instruction at the pc of the issuing thread set: fetched and executed, or its fetch refused. -/
def State.runHere (s : State) : Res :=
  match s.fetch s.cur with
  | (s', .word w) => s'.runWord w
  | (_, _) => execFetchFault s

/-- A trap of the instruction at a boundary holds the engines' reports of that boundary until the handler returns (R138). -/
def State.holdReports (s : State) (tid : Nat) : State :=
  s.modThread tid fun t =>
    { t with reports := t.reports.map fun r => if r.hold = 0 then { r with hold := if t.bank1.act then 2 else 1 } else r }

/-- The oldest pre-emption request, once the first bank is free (R139). -/
def State.takePreempt (s : State) (tid : Nat) : Option State :=
  let t := s.thread tid
  match t.preempts with
  | [] => none
  | p :: rest =>
    if t.bank0.act || t.card.isNone then none
    else some ((s.setThread tid { t with preempts := rest }).trap tid 8 (zext p) t.pc)

/-- What falls at a boundary beside the instruction (R138): an engine's report first, then a pre-emption request. -/
def State.boundary (s : State) (tid : Nat) : Option Res :=
  if !s.atBoundary tid then none
  else if (s.takeReport tid).isSome then some (execEngineTrapReport tid s)
  else (s.takePreempt tid).map .next

/-- Time passes: one tick of TIME is one clock cycle of every core whose clock is not gated (R21, R384); cycles for which the package is idle are
counted (R383). -/
def State.passTime (s : State) (n : Nat) : State :=
  { s with time := s.time + n, gated := if s.pstate = 0 then s.gated else s.gated + n, idleFor := if s.idle then s.idleFor + n else 0 }

/-- Whether a state is more than another after some time. -/
def State.movedFrom (t s : State) : Bool := decide ({ t with time := s.time, gated := s.gated, idleFor := s.idleFor, cur := s.cur, ir := s.ir } ≠ s)

/-- Whether the issue of a thread set got on: its instruction retired or a trap was taken. -/
def State.gotOn (t s : State) (tid : Nat) : Bool :=
  (t.thread tid).instret != (s.thread tid).instret || t.traps != s.traps

/-- The effective class of the card that a thread set runs (R83, R95). -/
def State.classOf (s : State) (tid : Nat) : Nat := match (s.thread tid).card with
  | some c => s.effClass c
  | none => 0

/-- Whether a thread set comes before another one of its core in the issue choice (R83): a higher effective class, or the same and it has
issued less recently. -/
def State.outranks (s : State) (u tid : Nat) : Bool :=
  decide (s.classOf tid < s.classOf u) || (s.classOf u == s.classOf tid && decide ((s.thread u).issued < (s.thread tid).issued))

/-- Whether a thread set is ready (R83): it may issue, and its instruction does not wait. -/
def State.isReady (s : State) (tid : Nat) : Bool :=
  s.canIssue tid && match ({ s with cur := tid } : State).runHere with
    | .next t => t.movedFrom s
    | _ => false

/-- The issue choice of a core falls on a thread set (R83): no ready one comes before it. -/
def State.isChosen (s : State) (tid : Nat) : Bool :=
  (tidsOf (coreOf tid)).all fun u => u == tid || !(s.canIssue u && s.outranks u tid && s.isReady u)

/-- The time at which a thread set last issued is kept for the issue choice (R83). -/
def State.stamped (t s : State) (tid : Nat) : State :=
  if t.gotOn s tid then t.modThread tid fun u => { u with issued := s.time + 1 } else t

/-- The instructions whose wait for an event, once begun, its end completes before a trap or a request that falls there (R410); barriers complete
in the step that ends them. -/
def isWaiting : Instr → Bool
  | .ptake .. => true
  | .lwait => true
  | .mwait .. => true
  | .bowait .. => true
  | .cwait .. => true
  | _ => false

/-- Whether the instruction at the pc of a thread set is in a wait of R410: one of those, or an access that is parked (R155). -/
def State.inWait (s : State) (tid : Nat) : Bool :=
  s.isParked tid || match (s.fetch tid).2 with
    | .word w => match decode w with
      | .ok d => isWaiting d.instr
      | .error _ => false
    | _ => false

/-- A thread set whose instruction did not get on has begun its wait (R410). -/
def State.begunWait (t s : State) (tid : Nat) : State :=
  if !t.gotOn s tid && t.inWait tid then t.modThread tid fun u => { u with waits := true } else t

/-- A thread set issues (R83, R138): a trap of the instruction at its boundary is taken first; else a report or a request that falls
there, and the instruction is not issued, unless that ends a wait it has begun (R410); else the instruction executes.  Nothing issues while
another one of its core goes first. -/
def State.issueThread (s : State) (tid : Nat) : Res :=
  let s : State := { s with cur := tid }
  if !s.canIssue tid then (s.boundary tid).getD (.next s)
  else if !s.isChosen tid then .next s
  else
    match s.runHere with
    | .next t =>
      let t' := t.stamped s tid
      if t.traps ≠ s.traps then .next ((if (s.thread tid).reports = [] then t' else t'.holdReports tid).passTime 1)
      else if (s.thread tid).waits && t.gotOn s tid then .next (t'.passTime 1)
      else match s.boundary tid with
        | some (.next u) => .next (u.passTime 1)
        | some r => r
        | none => .next ((t'.begunWait s tid).passTime 1)
    | r => r

/-- A packet that another package can have sent to a core of this one (R241, R242). -/
def State.foreignPacket (s : State) (p : Packet) : Bool :=
  decide (p.kind < 7) && decide (p.core < 1024) && decide (p.payload.length ≤ (if p.kind = 0 then 48 else 112)) && decide (p.tag < 64) &&
  decide (p.cls < 4) && decide (p.reg < 8) && p.mid.toNat / 2 ^ 36 != s.chipno

/-- A packet of another package comes into the network; one with a release at SYS carries what that covers (R248, R377). -/
def State.inject (s : State) (p : Packet) (covers : List Nat) : State :=
  let rel : Option (BitVec 2) := if p.rel = some 3 then p.rel else none
  let src := p.mid.toNat / 2 ^ 36
  let q : Packet := { p with id := s.nextId, arr := 0, pkg := s.chipno, tid := none, out := 0, rel := rel, served := none }
  ({ (s.covering src covers) with net := s.net ++ [q], nextId := s.nextId + 1, waking := s.waking || s.pstate != 0 } : State).carry (.outside src)
    rel q.id

/-- The rows that act whatever the power state, and during the wipe (R379, R385 to R387): the host's windows, resets, the root's own steps, and
the steps that lead to P0. -/
def isAlwaysRow : Instr → Bool
  | .hostAppend .. => true
  | .hostWrite .. => true
  | .hostRead .. => true
  | .controlRegisterWrite .. => true
  | .packageReset => true
  | .rst .. => true
  | .wipeDone => true
  | .provision => true
  | .powerWake => true
  | .powerExitDone => true
  | .watchdogExpiry .. => true
  | .correctedError .. => true
  | .uncorrectableError .. => true
  | .attestReportDone => true
  | _ => false

/-- Whether a step of the part can happen now (R2, R384, R386): outside P0 every core, engine and network clock is gated, and during the wipe
nothing runs. -/
def State.clocked (s : State) (i : Instr) : Bool := isAlwaysRow i || (s.ready && s.pstate == 0)

/-- The register of control space that a row writes, and the value (R381). -/
def hostReg : Instr → Option (Nat × Word)
  | .queueDescriptorWrite q i v => some (0x100C00000 + q / 32768 * 0x10000000 + q % 32768 * 32 + i.toNat * 8, v)
  | .hintWrite v => some (0x18, v)
  | .podcfgWrite v => some (0x38, v)
  | .coldomEnable v => some (0x30, v)
  | .coldomDisable v => some (0x30, v)
  | .lcDeploy v => some (0x28, v)
  | .lcReturn v => some (0x28, v)
  | .attreq v => some (0x40, v)
  | .gcolWrite d v => some (0x100000000 + d * 0x10000000, v)
  | .gfoldWrite d v => some (0x100000008 + d * 0x10000000, v)
  | .freplay d v => some (0x100000010 + d * 0x10000000, v)
  | .evict d v => some (0x100000018 + d * 0x10000000, v)
  | .niovfWrite n v => some (0x600000000 + n * 0x1000, v)
  | .preempt n v => some (0x600000008 + n * 0x1000, v)
  | .stwcsrWrite t off v => if 0x100 ≤ off then none else some (0x600000100 + t / 4 * 0x1000 + t % 4 * 0x100 + off, v)
  | _ => none

/-- A packet of the fabric addressed to the package that comes outside P0 brings it back and waits (R385): another package's write, or a heartbeat of
the newel for its standby. -/
def State.fabricWake (s : State) : Instr → State
  | .postedWriteArrival .. => { s with waking := true }
  | .newelHeartbeat =>
    if s.inDomain && !s.noStandby && !s.amNewel && s.standby == s.chipno then
      { s with waking := true, cheld := s.cheld ++ [{ id := 0, src := s.newel, dom := s.coldom, key := 0, num := 0, kind := .heartbeat }] }
    else s
  | _ => s

/-- A step of the part: one whose clock is gated does not happen; a packet of the fabric brings the package back and waits, and outside P0 a write
of a register is the host's, held as such (R385). -/
def State.partStep (s : State) (i : Instr) : Res :=
  if s.clocked i then exec i s
  else .next (match hostReg i with
    | some w => (s.hostWrite (.ctl w.1 8 w.2)).getD s
    | none => if s.ready then s.fabricWake i else s)

/-- The agenda's entry is performed; one that names nothing possible changes nothing. -/
def State.turn (s : State) : Turn → Res
  | .issue tid => s.issueThread tid
  | .event i =>
    if !i.isStep || isThreadRow i then .fault .agendaNotEvent
    else match i with
      | .engineTrapReport tid => if (s.takeReport tid).isSome then s.issueThread tid else .next s
      | i => s.partStep i
  | .tick n => .next (s.passTime n)
  | .tlbDrop k => .next { s with tlb := s.tlb.eraseIdx k }
  | .ibufDrop core pa => .next (s.modCore core fun c => { c with ibuf := adel c.ibuf pa })
  | .deliver id => .next (if s.pstate = 0 then (s.deliverFlight id).getD s else s)
  | .inject p covers => .next (if s.foreignPacket p then s.inject p covers else s)
  | .injectCross p => .next { s with xnet := s.xnet ++ [{ p with id := s.nextId }], nextId := s.nextId + 1, waking := s.waking || s.pstate != 0 }
  | .readRequest => .next { s with waking := s.waking || s.pstate != 0 }
  | .injectColl m => .next (if s.pstate = 0 then s.hearColl m else { s with waking := true, cheld := s.cheld ++ [m] })
  | .earlyRead tid path pa n => .next (if s.pstate = 0 then (s.readEarly tid path pa n).getD s else s)
  | .seqPart tid n => .next (if s.pstate = 0 then (s.seqPart tid n).getD s else s)
  | .matPart core n => .next (if s.ready && s.pstate == 0 then (s.matPart core n).getD s else s)
  | .ahead core ch n => .next (if s.pstate = 0 then (s.copyAhead core ch n).getD s else s)
  | .collMove => .next (if s.ready && s.pstate == 0 then s.collMove.getD s else s)
  | .drainPast core => .next (if s.pstate = 0 then (s.drainPast core).getD s else s)

/-- The steps of a core and of one of its thread sets. -/
def State.localSteps (s : State) (tid : Nat) : List (State → Res) :=
  let core := coreOf tid
  let c := s.core core
  ((s.thread tid).outs.map fun o => execResultReturn tid o.id) ++
  [execVectorSequencerExecute tid, execMatrixQueueExecute core, execStoreBufferDrain core] ++
  (c.lands.map fun l => execLandingTransferDone core l.1) ++
  ((s.thread tid).jobs.flatMap fun j => (j.lanes.take 1).map fun l => execLeaseLaneLand tid j.id l.1) ++
  (c.copies.flatMap fun h => [execCopyChunkDone core h.1, execGatherElementLand core h.1, execScatterElementAck core h.1]) ++
  [execHeapReplay core, execHandlerTrigger core, execHandlerPushRetry core, execAbortedHandlerPush tid, execCardPickup tid]

/-- The steps of what is on its way in the package. -/
def State.transitSteps (s : State) : List (State → Res) :=
  (s.flights.map fun f => fun (s : State) => (.next ((s.deliverFlight f.id).getD s) : Res)) ++
  (s.bank.map fun b => execGalleryBankOperation b.id) ++ (s.bank.map fun b => execGalleryQueueStep b.id) ++
  (s.beadOps.map fun b => execBeadStep b.id) ++
  (s.net.flatMap fun p =>
    [execActiveMessageArrival p.id, execTaggedPacketArrival p.id, execRwrArrival p.id, execSendAccepted p.id]) ++
  (s.systems.flatMap fun y => [execSystemHold y.2.die y.2.num, execSampleTake y.2.die y.2.num, execInstantBegin y.2.die y.2.num]) ++
  (s.xnet.flatMap fun p => [execCrossingEventArrival p.id, execCrossingFrontierArrival p.id]) ++
  (s.pushes.map fun p => execDequePush p.id)

/-- The steps of the scheduler. -/
def State.scheduleSteps (s : State) : List (State → Res) :=
  (s.groups.flatMap fun g => g.2.seats.flatMap fun x =>
    [execRowClaspClose g.1 x.rg, execBarrierComplete g.1 1 x.cg, execBarrierComplete g.1 3 x.dg]) ++
  (s.queues.map fun q => execQueueDispatch q.1) ++ (s.launches.map fun l => execGangAdmit l.1) ++
  (s.threads.map fun t => execCardPickup t.1) ++
  (s.cores.flatMap fun c => [execCardPickup (4 * c.1), execCardPickup (4 * c.1 + 1), execCardPickup (4 * c.1 + 2), execCardPickup (4 * c.1 + 3)])

/-- The steps tried, in this order, when the agenda is empty and the current thread set does not get on: the wipe; then what the
current core, the package, the scheduler and the other thread sets wait for. -/
def State.candidates (s : State) : List (State → Res) :=
  if !s.ready then [execWipeDone]
  else if s.pstate != 0 then [execPowerWake, execPowerExitDone]
  else
    s.localSteps s.cur ++ s.transitSteps ++ s.scheduleSteps ++
    (s.threads.flatMap fun p => (fun (s : State) => s.issueThread p.1) :: s.localSteps p.1) ++ [execIdleTimeout]

/-- The first step that changes something; with none, time passes. -/
def State.firstOf (s : State) : List (State → Res) → State
  | [] => s.passTime 1
  | f :: l =>
    match f s with
    | .next t => if t.movedFrom s then t else s.firstOf l
    | _ => s.firstOf l

/-- With an empty agenda the current thread set goes on; where it waits, the part does, or time passes (log 1). -/
def State.goOn (s : State) : Res :=
  match s.issueThread s.cur with
  | .next t => if t.gotOn s s.cur then .next t else .next (t.firstOf t.candidates)
  | r => r

/-- One step. -/
def State.advance (s : State) : Res :=
  match s.agenda with
  | [] => s.goOn
  | t :: rest => State.turn { s with agenda := rest } t

/-- The pc at which a placed word is fetched: the thread set's own, or 0 where nothing can be fetched at it. -/
def placePc (pc : Word) : Word := if isVa pc && !isOwnWindow pc && pc.extractLsb' 0 2 == 0 then pc else 0

/-- A translation of the page of an address to the first page of HBM with every permission. -/
def placeEntry (core chip : Nat) (asid : BitVec 16) (pc : Word) : TlbEntry :=
  { shared := false, owner := core, asid := asid, vbase := (pc.toNat % 2 ^ 55) / 2 ^ 16, bits := 16,
    pte := word (chip * 2 ^ 40) ||| 0x19F, at_ := 0 }

/-- A card for a thread set that runs none. -/
def placeCard : Card := newCard 0 [] (setBits 0 16 32 0xFFFFFFFF) 0 0 0

/-- The thread set made ready to issue, before the others of its core, if any runs a card (R83). -/
def Thread.placed (t : Thread) (alone : Bool) : Thread :=
  let c := t.card.getD placeCard
  let c := if alone then c else { c with hdr := setBits c.hdr 0 2 3 }
  { t with pc := placePc t.pc, card := some c, park := false, aborted := false, reports := [], preempts := [], issued := 0 }

/-- The state in which the current thread set fetches these bytes next (log 8). -/
def State.placed (s : State) (b : List Byte) : State :=
  let core := coreOf s.cur
  let t := (s.thread s.cur).placed ((tidsOf core).all fun u => u == s.cur || (s.thread u).card.isNone)
  let a := t.pc.toNat % 0x10000
  let s : State := { s with
    agenda := [], ready := true, pstate := 0, halted := false
    parked := s.parked.filter fun p => p.tid != s.cur
    withdrawn := s.withdrawn.filter fun r => !decide (r.1 < 0x10000)
    tlb := placeEntry core s.chipno t.asid t.pc :: s.tlb }
  ((s.setThread s.cur t).modCore core fun c => { c with ibuf := adel c.ibuf a }).writeBytes a b

end Sys2Proof.Machine
end

