-- ==== Sys2Proof/Machine/Step.lean ====
section
/-! DEFINITION. One step of the part, and the state in which a given word is the next instruction. -/

namespace Sys2Proof.Machine

/-- One step: the head of the agenda, or with none the current thread set (log 1). -/
def step (s : State) : Host.Outcome State Fault Refusal := s.advance

/-- The state `s` with a word where the current thread set fetches next (log 8). -/
def State.withFetchWord (s : State) (nbits w : Nat) : State := s.placed (bytesOfWord (BitVec.ofNat 32 (w % 2 ^ nbits)))

end Sys2Proof.Machine
end

