-- ==== Sys2Proof/Safety.lean ====
section
/-! DEFINITION. The terms in which the statements speak: when an instruction acts, what it may change, what taking a trap leaves,
and tables of what instructions compute, written over the integers. -/

namespace Sys2Proof.Machine

open Sys2Proof

/-! Frames. -/

/-- No prefix is pending and none of these registers is: an instruction without a format acts (R34, R59). -/
def State.Clear (s : State) (regs : List (BitVec 5)) : Prop := s.th.pfx = false ∧ ∀ r ∈ regs, s.pending s.cur r = false

/-- Every byte of memory reads as before. -/
def SameMemory (s t : State) : Prop := ∀ a, t.readByte a = s.readByte a

/-- Every byte of memory outside `n` bytes from `a` reads as before. -/
def SameMemoryBut (s t : State) (a n : Nat) : Prop := ∀ b, b < a ∨ a + n ≤ b → t.readByte b = s.readByte b

/-- Every thread set but the issuing one is as before. -/
def OtherThreads (s t : State) : Prop := ∀ k, k ≠ s.cur → t.thread k = s.thread k

/-- Every thread set but the issuing one, and every part of the machine outside the thread sets, is as before; only the counter that
names new commands (the model's own) may have moved. -/
def OnlyThread (s t : State) : Prop :=
  OtherThreads s t ∧ ({ t with threads := s.threads, nextId := s.nextId } : State) = s

/-- Every thread set but the issuing one is as before but for the model's notes of what loads have seen (R71, R77). -/
def OthersButNotes (s t : State) : Prop :=
  ∀ k, k ≠ s.cur → ({ t.thread k with early := (s.thread k).early, seen := (s.thread k).seen } : Thread) = s.thread k

/-- As `OnlyThread`, but for the model's notes of what loads have seen. -/
def OnlyThreadButNotes (s t : State) : Prop :=
  OthersButNotes s t ∧ ({ t with threads := s.threads, nextId := s.nextId } : State) = s

/-- The issuing thread set has retired its instruction and goes on at `pc`; no prefix is pending, PFXV keeps its code (R59). -/
def Retired (s t : State) (pc : Word) : Prop :=
  t.th.pc = pc ∧ t.th.instret = s.th.instret + 1 ∧ t.th.pfx = false ∧ t.th.park = false ∧ t.th.mark = none

/-- Everything of a thread set but its x registers, its pc, what retirement writes and the model's notes of what loads have seen: vector
and predicate registers, flags, every CSR, both trap banks, its card, its outstanding results and its channels. -/
def SameRest (u v : Thread) : Prop :=
  ({ v with x := u.x, pc := u.pc, instret := u.instret, pfx := u.pfx, park := u.park, mark := u.mark, openAt := u.openAt,
            waits := u.waits, early := u.early, seen := u.seen } : Thread) = u

/-- No x register of the issuing thread set has changed. -/
def SameRegisters (s t : State) : Prop := ∀ r, t.rx r = s.rx r

/-- The whole effect of an instruction that writes `v` to rd and goes on at `pc`: x0 stays zero, nothing else changes. -/
def Writes (s t : State) (rd : BitVec 5) (v pc : Word) : Prop :=
  t.rx rd = (if rd = 0 then 0 else v) ∧ (∀ r, r ≠ rd → t.rx r = s.rx r) ∧ Retired s t pc ∧ SameRest s.th t.th ∧
  OnlyThread s t ∧ SameMemory s t

/-- The whole effect of a load that writes `v` to rd: as `Writes`, but for the model's notes of what loads have seen. -/
def Loads (s t : State) (rd : BitVec 5) (v pc : Word) : Prop :=
  t.rx rd = (if rd = 0 then 0 else v) ∧ (∀ r, r ≠ rd → t.rx r = s.rx r) ∧ Retired s t pc ∧ SameRest s.th t.th ∧
  OnlyThreadButNotes s t ∧ SameMemory s t

/-- The whole effect of a fence, which may change the model's notes of what loads have seen. -/
def Passes (s t : State) (pc : Word) : Prop :=
  SameRegisters s t ∧ Retired s t pc ∧ SameRest s.th t.th ∧ OnlyThreadButNotes s t ∧ SameMemory s t

/-- The whole effect of an instruction that only goes on at `pc`. -/
def GoesTo (s t : State) (pc : Word) : Prop :=
  SameRegisters s t ∧ Retired s t pc ∧ SameRest s.th t.th ∧ OnlyThread s t ∧ SameMemory s t

/-- The instruction completes: the thread set goes on at the next instruction in its mode with its card, no trap taken and no register but
these changed. -/
def GoesOn (s : State) (i : Instr) (regs : List (BitVec 5)) : Prop :=
  ∃ t, exec i s = .next t ∧ Retired s t (s.th.pc + 4) ∧ (∀ r, r ∉ regs → t.rx r = s.rx r) ∧ t.th.steward = s.th.steward ∧
    t.th.bank0 = s.th.bank0 ∧ t.th.bank1 = s.th.bank1 ∧ t.th.card.map (·.id) = s.th.card.map (·.id)

/-! Taking a trap. -/

/-- A trap of the issuing thread set is taken by a bank: one of the banks is free and no handler phase is aborted (R137, R141). -/
def State.CanTrap (s : State) : Prop := (s.th.bank0.act && s.th.bank1.act) = false ∧ s.th.inHandler = false

/-- What the bank that takes a trap of the instruction at the pc holds (R134, R137). -/
def State.savedBank (s : State) (cause : BitVec 6) (val : Word) : TrapBank :=
  { tepc := s.th.pc, tcause := cause.zeroExtend 64, tval := val, pfxv := s.th.pfxv, ends := cause == 8 && val == 2, abt := false,
    act := true, park := s.th.park && s.outstanding s.cur, pm := s.th.steward, pfx := s.th.pfx }

/-- The whole effect of a trap of the instruction at the pc (R31, R137): the free bank saves the state, bank 0 first; the steward goes
on at its vector; the reservation is lost (R16); no register, no other CSR and no byte of memory changes. -/
def TrapTaken (s t : State) (cause : BitVec 6) (val : Word) : Prop :=
  (t.th.bank0 = if s.th.bank0.act then s.th.bank0 else s.savedBank cause val) ∧
  (t.th.bank1 = if s.th.bank0.act then s.savedBank cause val else s.th.bank1) ∧
  (t.th.pc = if s.th.bank0.act then s.th.tvec1 else s.th.tvec0) ∧
  t.th.steward = true ∧ t.th.pfx = false ∧ t.th.pfxv = 0 ∧ t.th.park = false ∧ t.th.resv = none ∧ SameRegisters s t ∧
  ({ t.th with bank0 := s.th.bank0, bank1 := s.th.bank1, pc := s.th.pc, steward := s.th.steward, pfx := s.th.pfx, pfxv := s.th.pfxv,
               park := s.th.park, resv := s.th.resv, mark := s.th.mark, openAt := s.th.openAt, waits := s.th.waits,
               bar := s.th.bar, remote := s.th.remote, deadlineHit := s.th.deadlineHit } : Thread) = s.th ∧
  OtherThreads s t ∧ SameMemory s t ∧ (∀ c, ({ t.core c with seqWait := (s.core c).seqWait } : Core) = s.core c) ∧
  ({ t with threads := s.threads, cores := s.cores, parked := s.parked, traps := s.traps, nextId := s.nextId, ir := s.ir } : State) = s

/-- What a fault on a non-resident page leaves in the fault buffer of the issuing core's die (R155, R156): the entry of its granule and ASID
gains the kind (0 load, 1 store, 2 fetch) and counts, to at most 0xFFFF; where there is none, the lowest free one of the eight is taken and HINT
bit 1 set; where none is free DROP is set. -/
def FaultRecorded (s t : State) (asid : BitVec 16) (va : Word) (kind : Nat) (eng : Bool) : Prop :=
  let d := s.die (dieOf (coreOf s.cur))
  let e := t.die (dieOf (coreOf s.cur))
  let gran := word (va.toNat / 65536 * 65536)
  let found := d.faults.find? fun p => p.2.va == gran && p.2.asid == asid
  (∀ i f, found = some (i, f) → e.drop = d.drop ∧ t.hint = s.hint ∧ (∀ j, j ≠ i → afind e.faults j = afind d.faults j) ∧
    afind e.faults i = some { f with kind := f.kind ||| BitVec.ofNat 3 (2 ^ kind), eng := f.eng || eng, count := min 65535 (f.count + 1) }) ∧
  (∀ i, found = none → i < 8 → afind d.faults i = none → (∀ j, j < i → afind d.faults j ≠ none) →
    e.drop = d.drop ∧ t.hint = s.hint ||| 2 ∧ (∀ j, j ≠ i → afind e.faults j = afind d.faults j) ∧
    afind e.faults i = some { va := gran, asid := asid, kind := BitVec.ofNat 3 (2 ^ kind), eng := eng, count := 1,
                              first := coreOf s.cur % 256, time := s.time }) ∧
  (found = none → (∀ i, i < 8 → afind d.faults i ≠ none) → e.drop = true ∧ t.hint = s.hint ∧ e.faults = d.faults)

/-! What the base instructions compute, over the integers (R14, R22). -/

/-- The word of an integer. -/
def s64 (z : Int) : Word := BitVec.ofInt 64 z
/-- The low 32 bits of an integer, sign-extended. -/
def s32 (z : Int) : Word := (BitVec.ofInt 32 z).signExtend 64
/-- The low 32 bits as a signed number. -/
def i32 (a : Word) : Int := (a.extractLsb' 0 32).toInt
/-- The low 32 bits as an unsigned number. -/
def u32 (a : Word) : Nat := a.toNat % 2 ^ 32

/-- Standard division: by zero −1, else truncated; the overflow wraps to the dividend (R22). -/
def quot (a b : Int) : Int := if b = 0 then -1 else a.tdiv b
/-- Standard remainder: by zero the dividend; the overflow gives 0 (R22). -/
def rest (a b : Int) : Int := if b = 0 then a else a.tmod b

/-- The register-register instructions of RV64I on 64 bits and what each gives (R14). -/
def regRowsI : List ((BitVec 5 → BitVec 5 → BitVec 5 → Instr) × (Word → Word → Word)) :=
  [(.add, fun a b => s64 (a.toInt + b.toInt)), (.sub, fun a b => s64 (a.toInt - b.toInt)),
   (.sll, fun a b => word (a.toNat * 2 ^ (b.toNat % 64))), (.srl, fun a b => word (a.toNat / 2 ^ (b.toNat % 64))),
   (.sra, fun a b => s64 (a.toInt / 2 ^ (b.toNat % 64))),
   (.slt, fun a b => if a.toInt < b.toInt then 1 else 0), (.sltu, fun a b => if a.toNat < b.toNat then 1 else 0),
   (.xor, fun a b => a ^^^ b), (.or, fun a b => a ||| b), (.and, fun a b => a &&& b)]

/-- On 32 bits. -/
def regRowsW : List ((BitVec 5 → BitVec 5 → BitVec 5 → Instr) × (Word → Word → Word)) :=
  [(.addw, fun a b => s32 (i32 a + i32 b)), (.subw, fun a b => s32 (i32 a - i32 b)),
   (.sllw, fun a b => s32 (u32 a * 2 ^ (b.toNat % 32))), (.srlw, fun a b => s32 (u32 a / 2 ^ (b.toNat % 32))),
   (.sraw, fun a b => s32 (i32 a / 2 ^ (b.toNat % 32)))]

/-- Those of M (R22). -/
def regRowsM : List ((BitVec 5 → BitVec 5 → BitVec 5 → Instr) × (Word → Word → Word)) :=
  [(.mul, fun a b => s64 (a.toInt * b.toInt)), (.mulh, fun a b => s64 (a.toInt * b.toInt / 2 ^ 64)),
   (.mulhsu, fun a b => s64 (a.toInt * b.toNat / 2 ^ 64)), (.mulhu, fun a b => word (a.toNat * b.toNat / 2 ^ 64)),
   (.div, fun a b => s64 (quot a.toInt b.toInt)), (.divu, fun a b => s64 (quot a.toNat b.toNat)),
   (.rem, fun a b => s64 (rest a.toInt b.toInt)), (.remu, fun a b => s64 (rest a.toNat b.toNat)),
   (.mulw, fun a b => s32 (i32 a * i32 b)), (.divw, fun a b => s32 (quot (i32 a) (i32 b))),
   (.divuw, fun a b => s32 (quot (u32 a) (u32 b))), (.remw, fun a b => s32 (rest (i32 a) (i32 b))),
   (.remuw, fun a b => s32 (rest (u32 a) (u32 b)))]

/-- Those of Zba. -/
def regRowsA : List ((BitVec 5 → BitVec 5 → BitVec 5 → Instr) × (Word → Word → Word)) :=
  [(.sh1add, fun a b => word (a.toNat * 2 + b.toNat)), (.sh2add, fun a b => word (a.toNat * 4 + b.toNat)),
   (.sh3add, fun a b => word (a.toNat * 8 + b.toNat)), (.addUw, fun a b => word (u32 a + b.toNat)),
   (.sh1addUw, fun a b => word (u32 a * 2 + b.toNat)), (.sh2addUw, fun a b => word (u32 a * 4 + b.toNat)),
   (.sh3addUw, fun a b => word (u32 a * 8 + b.toNat))]

/-- The register-register instructions of the base subset and what each gives. -/
def regRows : List ((BitVec 5 → BitVec 5 → BitVec 5 → Instr) × (Word → Word → Word)) :=
  regRowsI ++ regRowsW ++ regRowsM ++ regRowsA

/-- The instructions with a signed 12-bit immediate and what each gives. -/
def immRows : List ((BitVec 5 → BitVec 5 → BitVec 12 → Instr) × (Word → Int → Word)) :=
  [(.addi, fun a z => s64 (a.toInt + z)), (.slti, fun a z => if a.toInt < z then 1 else 0),
   (.sltiu, fun a z => if a.toNat < (s64 z).toNat then 1 else 0), (.xori, fun a z => a ^^^ s64 z), (.ori, fun a z => a ||| s64 z),
   (.andi, fun a z => a &&& s64 z), (.addiw, fun a z => s32 (i32 a + z))]

/-- The instructions with a six-bit shift amount. -/
def shift6Rows : List ((BitVec 5 → BitVec 5 → BitVec 6 → Instr) × (Word → Nat → Word)) :=
  [(.slli, fun a n => word (a.toNat * 2 ^ n)), (.srli, fun a n => word (a.toNat / 2 ^ n)), (.srai, fun a n => s64 (a.toInt / 2 ^ n)),
   (.slliUw, fun a n => word (u32 a * 2 ^ n))]

/-- The instructions with a five-bit shift amount. -/
def shift5Rows : List ((BitVec 5 → BitVec 5 → BitVec 5 → Instr) × (Word → Nat → Word)) :=
  [(.slliw, fun a n => s32 (u32 a * 2 ^ n)), (.srliw, fun a n => s32 (u32 a / 2 ^ n)), (.sraiw, fun a n => s32 (i32 a / 2 ^ n))]

/-- The branches and their conditions. -/
def branchRows : List ((BitVec 5 → BitVec 5 → BitVec 12 → Instr) × (Word → Word → Prop)) :=
  [(.beq, fun a b => a = b), (.bne, fun a b => a ≠ b), (.blt, fun a b => a.toInt < b.toInt), (.bge, fun a b => b.toInt ≤ a.toInt),
   (.bltu, fun a b => a.toNat < b.toNat), (.bgeu, fun a b => b.toNat ≤ a.toNat)]

/-- A target that a jump may take (R9): a multiple of 4 and a sign-extended 55-bit address. -/
def GoodTarget (a : Word) : Prop := a.toNat % 4 = 0 ∧ -2 ^ 54 ≤ a.toInt ∧ a.toInt < 2 ^ 54

/-- What a jump to a target that it may not take raises (R9). -/
def targetCause (a : Word) : BitVec 6 := if a.toNat % 4 = 0 then 2 else 1

/-- The instructions that only the steward may execute (R26). -/
def isStewardOnly : Instr → Bool
  | .tret => true
  | .ckpt _ => true
  | .seal _ _ _ => true
  | .tlbReplay _ => true
  | .tlbInv _ _ => true
  | _ => false

/-- Whether an instruction takes a format, by the table of R57: every VA instruction but VAND, VOR, VXOR, VMOV, KAND, KOR, KXOR, KANDN and
GADDR, six of VX, and MMA, MMA.SP and MGROUP. -/
def takesFormat (i : Instr) : Bool :=
  let f := i.fields false
  match i with
  | .vand .. | .vor .. | .vxor .. | .vmov .. | .kand .. | .kor .. | .kxor .. | .kandn .. | .gaddr .. => false
  | .vldc .. | .vstc .. | .vcvt .. | .vpvenc .. | .vpvdec .. | .vcompress .. | .mma .. | .mmaSp .. | .mgroup .. => true
  | _ => f.op == 0x0B

/-- The x registers that an instruction of the base subset reads or writes (R14, R34). -/
def baseRegs (i : Instr) : Option (List (BitVec 5)) :=
  let f := i.fields false
  if i.isStep then none
  else if f.op == 0x37 || f.op == 0x17 || f.op == 0x6F then some [f.rd]
  else if f.op == 0x67 || f.op == 0x03 || f.op == 0x13 || f.op == 0x1B then some [f.rd, f.rs1]
  else if f.op == 0x63 || f.op == 0x23 then some [f.rs1, f.rs2]
  else if f.op == 0x33 || f.op == 0x3B then some [f.rd, f.rs1, f.rs2]
  else if f.op == 0x2F then some (if (f.f7.extractLsb' 2 5) == 2 then [f.rd, f.rs1] else [f.rd, f.rs1, f.rs2])
  else if f.op == 0x73 && f.f3 != 0 then some (if f.f3.getLsbD 2 then [f.rd] else [f.rd, f.rs1])
  else none

/-- The x registers that a custom instruction reads or writes (R34): its scalar operands and results, a pair's both halves. -/
def customRegs : Instr → List (BitVec 5)
  | .vwhile _ rs1 rs2 _ | .vldc _ rs1 rs2 _ | .vstc _ rs1 rs2 _ | .vlds _ rs1 rs2 _ | .vsts _ rs1 rs2 _ => [rs1, rs2]
  | .vbcast _ rs1 _ | .vld _ rs1 _ _ | .vldb _ rs1 _ _ | .vst _ rs1 _ _ | .vldx _ rs1 _ _ | .vstx _ rs1 _ _ => [rs1]
  | .kcount rd _ _ | .kfirst rd _ _ | .vwidth rd => [rd]
  | .vmvx rd _ rs2 | .vpvenc rd _ rs2 => [rd, rs2]
  | .vpvdec _ rs1 rs2 | .vflight _ rs1 rs2 | .rwr _ _ rs1 rs2 | .boinit rs1 rs2 | .tlbInv rs1 rs2 | .mcommitScratchpad rs1 rs2 => [rs1, rs2]
  | .msend _ _ rd rs1 rs2 | .cpym _ _ rd rs1 rs2 | .gadd _ _ rd rs1 rs2 | .gfadd _ _ rd rs1 rs2 | .gmin _ _ rd rs1 rs2 => [rd, rs1, rs2]
  | .gmax _ _ rd rs1 rs2 | .gor _ _ rd rs1 rs2 | .gand _ _ rd rs1 rs2 | .gxor _ _ rd rs1 rs2 | .gcas _ _ rd rs1 rs2 => [rd, rs1, rs2]
  | .gqpush _ _ rd rs1 rs2 | .bround _ _ rd rs1 rs2 | .back _ _ rd rs1 rs2 | .bidxget _ _ rd rs1 rs2 => [rd, rs1, rs2]
  | .qrun _ _ rd rs1 rs2 | .qslope _ _ rd rs1 rs2 | .qsample _ _ rd rs1 rs2 | .qinj _ _ rd rs1 rs2 => [rd, rs1, rs2]
  | .cardPost rd rs1 rs2 | .cardBind rd rs1 rs2 | .seal rd rs1 rs2 | .plog rd rs1 rs2 | .mringCfg rd rs1 rs2 => [rd, rs1, rs2]
  | .mringDrop rd rs1 rs2 | .mgroup rd rs1 rs2 | .bqcfg rd rs1 rs2 | .bquiet rd rs1 rs2 | .qcfg rd rs1 rs2 => [rd, rs1, rs2]
  | .qvset rd rs1 rs2 | .qstat rd rs1 rs2 | .qstop rd rs1 rs2 | .qconv rd rs1 rs2 | .cstat rd rs1 rs2 => [rd, rs1, rs2]
  | .bpush _ _ rd rs1 rs2 | .bidxput _ _ rd rs1 rs2 => [rd, rs1, rs2, rs2 + 1]
  | .bpop _ _ rd rs1 => [rd, rd + 1, rs1]
  | .cpy _ _ rd rs1 | .gath _ _ rd rs1 | .scat _ _ rd rs1 | .bowait _ _ rd rs1 | .gqpop _ _ rd rs1 => [rd, rs1]
  | .cstart _ _ rd rs1 | .cwait _ _ rd rs1 | .ccancel rd rs1 | .cardPrio rd rs1 | .cardSteal rd rs1 | .cardSelf rd rs1 => [rd, rs1]
  | .mringFree rd rs1 | .mgang rd rs1 | .mma rd rs1 | .mmaSp rd rs1 _ | .mread rd rs1 | .mringPush rd rs1 | .wptr rd rs1 => [rd, rs1]
  | .pflush rd => [rd]
  | .ptake rd n => [rd, (3#2) ++ n]
  | .cardSusp rs1 | .dualsig rs1 | .ckpt rs1 | .tlbReplay rs1 | .mcommitVector _ rs1 | .mwait rs1 | .mzero rs1 => [rs1]
  | .scfence rs2 => [rs2]
  | _ => []

/-- The formats under which MMA, MMA.SP and MGROUP are legal (R212, R219). -/
def matrixCodes : Instr → List Nat
  | .mma .. | .mgroup .. => [1, 2, 3, 4, 5, 6]
  | .mmaSp .. => [1, 2, 3, 5, 6]
  | _ => []

/-! Control and status registers (R21, R133 and the entries of each). -/

/-- The CSR instructions, and the steps that the table names for some CSRs: CSR number, operation, rd and source. -/
def csrForm : Instr → Option (Nat × CsrOp × BitVec 5 × CsrSrc)
  | .csrrw rd rs1 csr => some (csr.toNat, .write, rd, .reg rs1)
  | .csrrs rd rs1 csr => some (csr.toNat, .set, rd, .reg rs1)
  | .csrrc rd rs1 csr => some (csr.toNat, .clear, rd, .reg rs1)
  | .csrrwi rd z csr => some (csr.toNat, .write, rd, .imm z)
  | .csrrsi rd z csr => some (csr.toNat, .set, rd, .imm z)
  | .csrrci rd z csr => some (csr.toNat, .clear, rd, .imm z)
  | .vflagsAccess op rd src => some (0x802, op, rd, src)
  | .chwinWrite op rd src => some (0x804, op, rd, src)
  | .skewWrite n op rd src => some (0x80A + n.toNat, op, rd, src)
  | .ptbaseWrite op rd src => some (0x5CE, op, rd, src)
  | .plogbaseWrite op rd src => some (0x5D0, op, rd, src)
  | _ => none

/-- Whether a CSR instruction writes its CSR (R21). -/
def csrWriting : CsrOp → CsrSrc → Bool
  | .write, _ => true
  | _, .reg r => r != 0
  | _, .imm z => z != 0

/-- The numbers of the CSRs that exist (R21, R48, R49, R51, R56, R60, R114, R133, R167, R183, R188, R197, R352). -/
def csrNumbers : List Nat :=
  [0xC00, 0xC01, 0xC02, 0xCC0, 0xCC1, 0xCC2] ++ (List.range 14).map (0x800 + ·) ++ (List.range 17).map (0x5C0 + ·)

/-- Reserved fields that must be written as zero (R48, R49, R51, R114, R134, R144, R145, R151, R162). -/
def reservedMasks : List (Nat × Word) :=
  [(0x800, 0xFFFFFFFFFFFFFE00), (0x801, 0xFFFFFFFFFFFFFFE0), (0x802, 0xFFFFFFFFFFFFFFE0), (0x804, 0xFFFFFFFFFF0000FE),
   (0x5C4, 0xFFFFFFFFFFFFFFC0), (0x5C5, 0xFFFFFFFFFFFFFFC0), (0x5C8, 0xFFFFFFFFFFFFE088), (0x5C9, 0xFFFFFFFFFFFFE088),
   (0x5CB, 0xFFF000000000FFFF), (0x5CC, 0x3C), (0x5CD, 0xFFFFFFFF00000000), (0x5CE, 0x7FF0000000000000)]

/-- What a CSR reads right after a write of `v`, if it read `old` before, on a thread set whose card has this ASID: its read-only fields
keep their values (R56, R114, R134, R145, R151, R156). -/
def csrAfter (asid : BitVec 16) (n : Nat) (old v : Word) : Word :=
  if n = 0x803 ∨ n = 0x5CA ∨ n = 0x5CF then old
  else if n = 0x804 then (old &&& ~~~1) ||| (v &&& 1)
  else if n = 0x5C2 ∨ n = 0x5C3 then v &&& ~~~3
  else if n = 0x5C8 ∨ n = 0x5C9 then (old &&& 0x70) ||| (v &&& 0x1F07)
  else if n = 0x5CC then (old &&& 2) ||| (v &&& ~~~2)
  else if n = 0x5CE then (if v.extractLsb' 0 16 = asid then (if v.getLsbD 63 then v else 0) else old)
  else v

/-- The value that a CSR instruction writes (R14). -/
def csrNew (op : CsrOp) (old v : Word) : Word :=
  match op with
  | .write => v
  | .set => old ||| v
  | .clear => old &&& ~~~v

/-! Scalar memory accesses (R15, R61, R65, R74). -/

/-- The loads: size and whether the value is sign-extended. -/
def loadRows : List ((BitVec 5 → BitVec 5 → BitVec 12 → Instr) × Nat × Bool) :=
  [(.lb, 1, true), (.lh, 2, true), (.lw, 4, true), (.ld, 8, true), (.lbu, 1, false), (.lhu, 2, false), (.lwu, 4, false)]

/-- The stores and their sizes. -/
def storeRows : List ((BitVec 5 → BitVec 5 → BitVec 12 → Instr) × Nat) := [(.sb, 1), (.sh, 2), (.sw, 4), (.sd, 8)]

/-- A number of `size` bytes as a signed one. -/
def asSigned (size n : Nat) : Int := if n < 2 ^ (8 * size - 1) then n else (n : Int) - 2 ^ (8 * size)

/-- What a load gives of a number of `size` bytes. -/
def loadValue (size : Nat) (signed : Bool) (n : Nat) : Word := if signed then s64 (asSigned size n) else word n

/-- The read-modify-writes of the A extension on 4 bytes: size, and the new number from the old one and the low bytes of rs2 (R16). -/
def amoRowsW : List ((Bool → Bool → BitVec 5 → BitVec 5 → BitVec 5 → Instr) × Nat × (Nat → Nat → Nat)) :=
  [(.amoswapW, 4, fun _ b => b), (.amoaddW, 4, fun a b => (a + b) % 2 ^ 32), (.amoxorW, 4, fun a b => a ^^^ b),
   (.amoandW, 4, fun a b => a &&& b), (.amoorW, 4, fun a b => a ||| b),
   (.amominW, 4, fun a b => if asSigned 4 a < asSigned 4 b then a else b), (.amomaxW, 4, fun a b => if asSigned 4 a < asSigned 4 b then b else a),
   (.amominuW, 4, fun a b => min a b), (.amomaxuW, 4, fun a b => max a b)]

/-- On 8 bytes. -/
def amoRowsD : List ((Bool → Bool → BitVec 5 → BitVec 5 → BitVec 5 → Instr) × Nat × (Nat → Nat → Nat)) :=
  [(.amoswapD, 8, fun _ b => b), (.amoaddD, 8, fun a b => (a + b) % 2 ^ 64), (.amoxorD, 8, fun a b => a ^^^ b),
   (.amoandD, 8, fun a b => a &&& b), (.amoorD, 8, fun a b => a ||| b),
   (.amominD, 8, fun a b => if asSigned 8 a < asSigned 8 b then a else b), (.amomaxD, 8, fun a b => if asSigned 8 a < asSigned 8 b then b else a),
   (.amominuD, 8, fun a b => min a b), (.amomaxuD, 8, fun a b => max a b)]

/-- The read-modify-writes of the A extension. -/
def amoRows : List ((Bool → Bool → BitVec 5 → BitVec 5 → BitVec 5 → Instr) × Nat × (Nat → Nat → Nat)) := amoRowsW ++ amoRowsD

/-- LR and SC by size. -/
def lrRows : List ((Bool → Bool → BitVec 5 → BitVec 5 → Instr) × Nat) := [(.lrW, 4), (.lrD, 8)]
def scRows : List ((Bool → Bool → BitVec 5 → BitVec 5 → BitVec 5 → Instr) × Nat) := [(.scW, 4), (.scD, 8)]

/-- The address of the leaf entry through which an access is translated (R152, R157): that of the kept translation which answers for the core, its
own before its die's; where there is none, that of the leaf which the walk meets. -/
def State.leafOf (s : State) (core : Nat) (asid : BitVec 16) (va : Word) : Option Nat :=
  match (s.tlb.filter fun e => !e.shared).find? (tlbFor core asid va) <|> s.tlb.find? (tlbFor core asid va) with
  | some e => some e.at_
  | none => match s.walk asid va with
    | .leaf _ at_ _ => some at_
    | _ => none

/-- A byte is kept elsewhere than `n` bytes from `a`; with every gallery column powered that is every other address (R276). -/
def Apart (s : State) (b a n : Nat) : Prop := ∀ i, i < n → s.keep b ≠ s.keep (a + i)

/-- `n` bytes from `a` have been stored: they hold `d`, and every byte kept elsewhere reads as before. -/
def Stored (s t : State) (a : Nat) (d : List Byte) : Prop :=
  t.readBytes a d.length = d ∧ ∀ b, Apart s b a d.length → t.readByte b = s.readByte b

/-- No access of the issuing thread set is still to be performed and its core's store buffer is empty: a fence passes at once (R75). -/
def State.Quiet (s : State) : Prop :=
  (s.core (coreOf s.cur)).sb = [] ∧ s.flights.all (fun f => f.tid != s.cur) = true ∧ s.seqAccesses s.cur = false ∧
  s.acquiring s.cur = false

/-- The state in which an instruction of the A extension makes its access once its fence has passed: it has released and acquired at DIE
scope (R76). -/
def State.fencedNow (s : State) : State := (s.setMark.publish s.cur 1 true).acquire s.cur 1

/-- Every other thread set is as before but for its reservation and the model's notes of what loads have seen. -/
def OthersButReservations (s t : State) : Prop :=
  ∀ k, k ≠ s.cur → ({ t.thread k with resv := (s.thread k).resv, early := (s.thread k).early, seen := (s.thread k).seen } : Thread) =
    s.thread k

/-- Nothing outside the thread sets and memory has changed; only the counter that names new commands may have moved. -/
def SameMachine (s t : State) : Prop :=
  ({ t with threads := s.threads, mem := s.mem, poison := s.poison, vague := s.vague, nextId := s.nextId } : State) = s

/-- The predicate register that an instruction writes (R11, R170). -/
def predDest : Instr → Option (BitVec 3)
  | .vcmpeq kd _ _ _ | .vcmpne kd _ _ _ | .vcmplt kd _ _ _ | .vcmple kd _ _ _ | .vcmpltu kd _ _ _ | .vcmpleu kd _ _ _ => some kd
  | .kand kd _ _ _ | .kor kd _ _ _ | .kxor kd _ _ _ | .kandn kd _ _ _ | .vwhile kd _ _ _ => some kd
  | _ => none

/-- The local address of a core's slot in its die's crash area (R140). -/
def crashSlot (core : Nat) : Nat := galleryBase + dieOf core * 0x4000000 + 0x3FF8000 + core % 256 * 128

/-- The crash record of the issuing thread set for a third trap (R140), eight bytes a line of its table. -/
def State.crashBytes (s : State) (cause : BitVec 6) (val : Word) : List Byte :=
  let t := s.th
  let card : Word × Word := match t.card with
    | some k => (k.pc, k.hdr0)
    | none => (0, 0)
  leBytes (coreOf s.cur % 2 ^ 16 + 2 ^ 16 * (s.cur % 4) + 2 ^ 24) 8 ++ leBytes (s.cycle (coreOf s.cur) % 2 ^ 64) 8 ++
  leBytes t.pc.toNat 8 ++ leBytes cause.toNat 8 ++ leBytes val.toNat 8 ++
  leBytes t.bank1.tepc.toNat 8 ++ leBytes t.bank1.tcause.toNat 8 ++ leBytes t.bank1.tval.toNat 8 ++ leBytes t.bank1.tstat.toNat 8 ++
  leBytes t.bank0.tepc.toNat 8 ++ leBytes t.bank0.tcause.toNat 8 ++ leBytes t.bank0.tval.toNat 8 ++ leBytes t.bank0.tstat.toNat 8 ++
  leBytes card.1.toNat 8 ++ leBytes card.2.toNat 8 ++ leBytes 0 8

/-- The 32 bytes of a path-log record (R163). -/
def State.logRecord (s : State) (rid path : Word) : List Byte :=
  leBytes (s.th.plogIndex % 2 ^ 64) 8 ++ leBytes rid.toNat 8 ++ leBytes path.toNat 8 ++
  leBytes (s.cycle (coreOf s.cur) % 2 ^ 40 * 2 ^ 24 + s.cur % 4 * 2 ^ 10 + coreOf s.cur) 8

/-! The vector unit (R165 to R201). -/

/-- The vector instructions that the sequencer takes as they stand (R168): VA and VX but VLDG, VSTG, VFLIGHT and LWAIT. -/
def isSequenced (i : Instr) : Bool :=
  let f := i.fields false
  !i.isStep && (f.op == 0x0B || f.op == 0x2B) &&
  match i with
  | .vldg .. | .vstg .. | .vflight .. | .lwait => false
  | _ => true

/-- The issuing core's sequencer has `n` entries free and nobody waits for one (R168). -/
def State.SequencerFree (s : State) (n : Nat) : Prop :=
  (s.core (coreOf s.cur)).seqWait = [] ∧ ((s.core (coreOf s.cur)).seq.map (·.entries)).sum + n ≤ 16

/-- The issuing core's sequencer holds one item more, its youngest; of the machine nothing else but the issuing thread set's pc and
instret has changed. -/
def Sequenced (s t : State) (ops : List VOp) (iters : Nat) (step : Word) (entries : Nat) (pc : Word) : Prop :=
  t.core (coreOf s.cur) = { s.core (coreOf s.cur) with seq := (s.core (coreOf s.cur)).seq ++
    [{ id := s.nextId, tid := s.cur, ops := ops, iters := iters, j := 0, at_ := 0, step := step, entries := entries }] } ∧
  SameRegisters s t ∧ Retired s t pc ∧ SameRest s.th t.th ∧ OtherThreads s t ∧ SameMemory s t ∧
  (∀ c, c ≠ coreOf s.cur → t.core c = s.core c) ∧
  ({ t with threads := s.threads, cores := s.cores, nextId := s.nextId } : State) = s

/-- The oldest item of a thread set in the sequencer holds this one operation alone and can go on. -/
def State.OldestIs (s : State) (tid : Nat) (it : SeqItem) (o : VOp) : Prop :=
  s.ready = true ∧ (s.seqOf tid).head? = some it ∧ it.tid = tid ∧ s.engParked it.id = false ∧ it.ops = [o] ∧ it.iters = 1 ∧ it.j = 0 ∧ it.at_ = 0 ∧
  it.part = 0 ∧ it.got = [] ∧ s.seqHeld it = false ∧ o.chw = false

/-- The item has left the sequencer of its core. -/
def LeftSequencer (s t : State) (it : SeqItem) : Prop :=
  (t.core (coreOf it.tid)).seq = (s.core (coreOf it.tid)).seq.filter fun i => i.id != it.id

/-- The element `z` of a width, wrapped (R43). -/
def wrapTo (w : Nat) (z : Int) : Nat := (z % 2 ^ w).toNat

/-- The number that an element of an integer code stands for (R39): two's complement, but UINT8. -/
def elemOf (code a : Nat) : Int :=
  if code = 6 then a else if a < 2 ^ (codeWidth code - 1) then a else (a : Int) - 2 ^ codeWidth code

/-- Clamped to the range of an integer code (R173). -/
def clampTo (code : Nat) (z : Int) : Int :=
  let w := codeWidth code
  if code = 6 then (if z < 0 then 0 else if 255 < z then 255 else z)
  else if z < -2 ^ (w - 1) then -2 ^ (w - 1) else if 2 ^ (w - 1) ≤ z then 2 ^ (w - 1) - 1 else z

/-- The two-operand integer lane operations: what each gives of two elements under a code (R171, R173). -/
def laneRows : List ((BitVec 5 → BitVec 5 → BitVec 5 → BitVec 3 → Instr) × (Nat → Nat → Nat → Int)) :=
  [(.vadd, fun c a b => elemOf c a + elemOf c b), (.vsub, fun c a b => elemOf c a - elemOf c b),
   (.vmul, fun c a b => elemOf c a * elemOf c b), (.vmin, fun c a b => min (elemOf c a) (elemOf c b)),
   (.vmax, fun c a b => max (elemOf c a) (elemOf c b)), (.vadds, fun c a b => clampTo c (elemOf c a + elemOf c b)),
   (.vsubs, fun c a b => clampTo c (elemOf c a - elemOf c b)),
   (.vmulh, fun c a b => elemOf c a * elemOf c b / 2 ^ codeWidth c), (.vshl, fun c a b => a * 2 ^ (b % codeWidth c)),
   (.vshr, fun c a b => a / 2 ^ (b % codeWidth c)), (.vsra, fun c a b => elemOf c a / 2 ^ (b % codeWidth c))]

/-- The comparisons of integer elements (R173, R178). -/
def compareRows : List ((BitVec 3 → BitVec 5 → BitVec 5 → BitVec 3 → Instr) × (Nat → Nat → Nat → Prop)) :=
  [(.vcmpeq, fun _ a b => a = b), (.vcmpne, fun _ a b => a ≠ b), (.vcmplt, fun c a b => elemOf c a < elemOf c b),
   (.vcmple, fun c a b => elemOf c a ≤ elemOf c b), (.vcmpltu, fun _ a b => a < b), (.vcmpleu, fun _ a b => a ≤ b)]

/-- What a step of an engine for a thread set may not touch: every x register, the pc, the mode and the trap banks of every thread set,
and every CSR but VFLAGS. -/
def SameControl (s t : State) : Prop :=
  ∀ k, (t.thread k).x = (s.thread k).x ∧ (t.thread k).pc = (s.thread k).pc ∧ (t.thread k).steward = (s.thread k).steward ∧
    (t.thread k).bank0 = (s.thread k).bank0 ∧ (t.thread k).bank1 = (s.thread k).bank1 ∧ (t.thread k).vfmt = (s.thread k).vfmt ∧
    (t.thread k).mfmt = (s.thread k).mfmt ∧ (t.thread k).instret = (s.thread k).instret ∧ (t.thread k).card = (s.thread k).card

/-! Commands of an issuing thread set to the parts beside its core's registers. -/

/-- Outside the issuing thread set and its core nothing has changed; only the counter that names new commands may have moved. -/
def SameElsewhere (s t : State) : Prop :=
  OtherThreads s t ∧ (∀ c, c ≠ coreOf s.cur → t.core c = s.core c) ∧
  ({ t with threads := s.threads, cores := s.cores, nextId := s.nextId } : State) = s

/-- As `SameElsewhere`, but for the model's notes of what loads have seen. -/
def SameElsewhereButNotes (s t : State) : Prop :=
  OthersButNotes s t ∧ (∀ c, c ≠ coreOf s.cur → t.core c = s.core c) ∧
  ({ t with threads := s.threads, cores := s.cores, nextId := s.nextId } : State) = s

/-- The instruction has written `v` to rd and no other register, and retired to the next one. -/
def Acts (s t : State) (rd : BitVec 5) (v : Word) : Prop :=
  t.rx rd = (if rd = 0 then 0 else v) ∧ (∀ r, r ≠ rd → t.rx r = s.rx r) ∧ Retired s t (s.th.pc + 4) ∧ SameMemory s t

/-- Of a thread set only x registers, pc, what retirement writes, values seen early and outstanding results may have changed. -/
def SameButResults (u v : Thread) : Prop := SameRest u { v with outs := u.outs }

/-- The thread set has one outstanding result more, with the scope of an acquire still to come (R32, R282). -/
def Awaits (s t : State) (kind : OutKind) (regs : List (BitVec 5)) (acq : Option (BitVec 2)) : Prop :=
  ∃ o : Out, t.th.outs = s.th.outs ++ [o] ∧ o.kind = kind ∧ o.regs = regs ∧ o.vals = none ∧ o.acq = acq

/-- A command has been issued (R32, R34, R240): the thread set goes on with one outstanding result more; no register and no byte of memory
has changed, and of other thread sets only the model's notes of what loads have seen. -/
def Issued (s t : State) (kind : OutKind) (regs : List (BitVec 5)) (acq : Option (BitVec 2)) : Prop :=
  SameRegisters s t ∧ Retired s t (s.th.pc + 4) ∧ SameButResults s.th t.th ∧ Awaits s t kind regs acq ∧ OthersButNotes s t ∧
  SameMemory s t ∧ t.cores = s.cores

/-- The control of every thread set is as before: x registers, pc and mode. -/
def SamePcs (s t : State) : Prop :=
  ∀ k, (t.thread k).x = (s.thread k).x ∧ (t.thread k).pc = (s.thread k).pc ∧ (t.thread k).steward = (s.thread k).steward

/-- A command's result is on its way to its registers (R32). -/
def Answered (s t : State) (tid id : Nat) (vals : List Word) : Prop :=
  (t.thread tid).outs = (s.thread tid).outs.map fun o => if o.id = id then { o with vals := some vals } else o

/-- Every thread set but one is as before. -/
def OthersOf (s t : State) (tid : Nat) : Prop := ∀ k, k ≠ tid → t.thread k = s.thread k

/-- As `OthersOf`, but for the model's notes of what loads have seen. -/
def OthersOfButNotes (s t : State) (tid : Nat) : Prop :=
  ∀ k, k ≠ tid → ({ t.thread k with early := (s.thread k).early, seen := (s.thread k).seen } : Thread) = s.thread k

/-- An access of the issuing thread set's own command leads to no other package. -/
def State.StaysHere (s : State) (va : Word) (n : Nat) : Prop :=
  ∀ pa path p, (s.reachAs (coreOf s.cur) s.th.asid (!s.th.steward) va n { r := true, w := true }).2 ≠ .at_ (.far pa) path p

/-- Every PFLUSH that still waits does so for another write than this one: its end completes none (R358). -/
def State.FlushesWait (s : State) (id : Nat) : Prop := ∀ f ∈ s.flushes, ∃ i ∈ f.left, i ≠ id

/-- The gallery atomics. -/
def galleryRows : List ((BitVec 2 → BitVec 2 → BitVec 5 → BitVec 5 → BitVec 5 → Instr) × GalleryOp) :=
  [(.gadd, .add), (.gfadd, .fadd), (.gmin, .min), (.gmax, .max), (.gor, .or), (.gand, .and), (.gxor, .xor), (.gcas, .cas)]

/-- What a gallery atomic of `n` bytes writes, from the old value, its operand and its compare value (R278 to R280): `signed` is the order of
modes 0 and 2. -/
def galleryNew (op : GalleryOp) (n : Nat) (signed : Bool) (p v e : Nat) : Nat :=
  let less (a b : Nat) : Bool := if signed then decide (asSigned n a < asSigned n b) else decide (a < b)
  match op with
  | .add => (p + v) % 2 ^ (8 * n)
  | .fadd => if n = 8 then (fp64.add 0 false (fp64.decode p) (fp64.decode v)).1 else (fp32.add 0 false (fp32.decode p) (fp32.decode v)).1
  | .min => if less v p then v else p
  | .max => if less p v then v else p
  | .or => p ||| v
  | .and => p &&& v
  | .xor => p ^^^ v
  | .cas => if p = e then v else p

/-- The bead commands with address and operands as they issue: rd's registers, the zero bits of the address, and the command (R295, R296). -/
def BeadSent (s t : State) (addr : Word) (kind : BeadKind) (rel : Option (BitVec 2)) : Prop :=
  (∃ o : BeadOp, t.beadOps = s.beadOps ++ [o] ∧ o.tid = s.cur ∧ o.asid = s.th.asid ∧ o.user = !s.th.steward ∧ o.addr = addr ∧
    o.kind = kind ∧ o.rel = rel) ∧
  ({ t with threads := s.threads, nextId := s.nextId, beadOps := s.beadOps } : State) = s

/-- The values of some variables of a system at a time have been written to its sample buffer, one after the other (R340). -/
def SampleWritten (k T : Nat) : List Nat → State → State → Prop
  | [], s, z => z = s
  | i :: r, s, z => ∃ v u w, xload k i s = .ok (v, u) ∧
    xwriteOut k (word (u.blockField k 40 0 64) + word (8 * i)) (leBytes (u.sampleOf k v T) 8) u = .ok ((), w) ∧ SampleWritten k T r w z

/-- The frontier of a running system from its inbound links (R342): the least of its heap minimum, the time of an open instant and the peers'
bounds, never less than before. -/
def frontierOf (y : CrossSys) (inb : List (Nat × Nat)) : Nat :=
  maxTime (y.front.getD minusInf64) (inb.foldl (fun m p => minTime m (y.bound p)) (minTime y.heapMin (y.opened.getD inf64)))

/-- The frontier of a running system has become what its links ask (R342); if it has risen, a packet with it has joined the network for every
outbound peer of this package (R343). -/
def FrontierSent (s t : State) (k : Nat) (l : List (Nat × Nat) × List (Nat × Nat)) : Prop :=
  let y := s.system k
  let f := frontierOf y l.1
  let rises := y.front.isNone || ltFp (v64 (y.front.getD minusInf64)) (v64 f)
  (t.system k).front = some f ∧ ∃ q, t.xnet = s.xnet ++ q ∧ q.map (fun p => (p.src, p.dst, p.frontier)) =
    if rises then (l.2.filter fun p => p.1 / 2 ^ 52 == s.chipno).map fun p => (s.sysId k, p.1 / 2 ^ 36 % 2 ^ 16, some f) else []

/-! The matrix engine (R205 to R229). -/

/-- One operation more stands in the issuing core's matrix queue, with the next ticket if it takes one (R206), and the rings' claims have
gone on by `claims` (R207); of the core nothing else has changed but perhaps its landing slots. -/
def MatQueued (s t : State) (kind : MatKind) (ticketed : Bool) (gang : Option (Nat × Nat)) (claims : Nat → Nat) : Prop :=
  let c := s.core (coreOf s.cur)
  let d := t.core (coreOf s.cur)
  (∃ o, d.mq = c.mq ++ [o] ∧ o.tid = s.cur ∧ o.card = s.th.card.map (·.id) ∧ o.asid = s.th.asid ∧ o.kind = kind ∧
    o.ticket = (if ticketed then some c.ticket else none) ∧ o.gang = gang ∧ o.arrived = false ∧ o.k = 0) ∧
  d.ticket = c.ticket + (if ticketed then 1 else 0) ∧
  (∀ r, afind d.rings r = (afind c.rings r).map fun g => { g with claim := g.claim + BitVec.ofNat 32 (claims r) }) ∧
  ({ d with mq := c.mq, ticket := c.ticket, rings := c.rings, lands := c.lands } : Core) = c

/-- The rings that a reader names may be read (R207, R208, R209, R211): each is numbered 0 to 7 and owned by the card's ASID, holds the tiles
that are needed (TAIL − CLAIM of a B ring that is only looked at, R237), a B ring read in column direction has 32 KiB slots, and A and B lie in
different halves. -/
def ReaderOk (s : State) (ar an : Nat) (need : List (Nat × Bool × Nat)) (looks : Bool) : Prop :=
  let c := s.core (coreOf s.cur)
  (∀ r ∈ ar :: need.map (·.1), r ≤ 7 ∧ ∃ g, afind c.rings r = some g ∧ g.owner = s.th.asid) ∧ an ≤ c.available ar ∧
  ∀ p ∈ need, p.2.2 ≤ (if looks then c.unclaimed p.1 else c.available p.1) ∧ p.1 ≠ ar ∧ ∃ g h, afind c.rings p.1 = some g ∧ afind c.rings ar = some h ∧
    (p.2.1 = true → g.wide = true) ∧ s.half (coreOf s.cur) g.base ≠ s.half (coreOf s.cur) h.base

/-- The kind of slot that a format accumulates into (R212). -/
def kindOf (code : Nat) : AccKind := if code ∈ [5, 6] then .int else .fp

/-- A reader may accumulate under a format into a slot (R212). -/
def SlotOk (s : State) (slot code : Nat) : Prop :=
  let k := (s.core (coreOf s.cur)).slotState slot
  k.2 = some s.th.asid ∧ (k.1 = .empty ∨ k.1 = kindOf code)

/-- MGROUP may accumulate into the slots of its table (R212, R222): a slot that a group of tiles zeroes may be zeroed by the ASID; one that a
group names without CLR before it is zeroed is its own; its kind fits, unless nothing is added before it is zeroed. -/
def GroupSlotsOk (s : State) (rows : List GroupRow) (code : Nat) : Prop :=
  ∀ n, n < 4 →
    let l := rows.filter fun q => q.slot == n
    let before := l.takeWhile fun q => !(q.clr && decide (0 < q.count))
    ((∃ q ∈ before, q.clr = false) → ((s.core (coreOf s.cur)).slotState n).2 = some s.th.asid) ∧
    ((∃ q ∈ l, q.clr = true ∧ 0 < q.count) → (s.core (coreOf s.cur)).mayZero n s.th.asid = true) ∧
    (((s.core (coreOf s.cur)).slotState n).1 = .empty ∨ ((s.core (coreOf s.cur)).slotState n).1 = kindOf code ∨
      ∀ q ∈ before, q.count = 0)

/-- Element (i, k) of the A tile of an operation (R209). -/
def State.aElem (s : State) (core : Nat) (a : Ring) (m : MmaOp) (i k : Nat) : Nat :=
  let es := codeWidth m.fmt / 8
  leNat (s.spadRead core (a.slotAt m.atile + 256 * (if m.adir then k else i) + es * (if m.adir then i else k)) es)

/-- Element (k, j) of the B tile of an operation (R209). -/
def State.bElem (s : State) (core : Nat) (b : Ring) (m : MmaOp) (k j : Nat) : Nat :=
  let es := codeWidth m.fmt / 8
  leNat (s.spadRead core (b.slotAt m.btile + 256 * (if m.bdir then j else k) + es * (if m.bdir then k else j)) es)

/-- The operands of cell (i, j), in the order in which their products are added (R54, R220, R221): all 64 k, or for MMA.SP the kept ones
of row i. -/
def mmaPairs (m : MmaOp) (ae be : Nat → Nat → Nat) (i j : Nat) : List (Nat × Nat) :=
  if m.sparse then (List.range m.keep).map fun k => (ae i k, be (32 * m.bhalf + (m.idx.getD i []).getD k 0) j)
  else (List.range 64).map fun k => (ae i k, be k j)

/-- Kept index q of row r in the metadata group of MMA.SP (R196, R221): `h` lanes of eight indices for each row. -/
def metaIdx (u : Thread) (vm : BitVec 5) (h r q : Nat) : Nat :=
  lane (u.rv (vm + BitVec.ofNat 5 ((r * h + q / 8) / 16))) 64 ((r * h + q / 8) % 16) / 32 ^ (q % 8) % 32

/-- The metadata is well formed (R221): each row's indices rise, and bits [63:40] of each lane are zero. -/
def MetaOk (u : Thread) (vm : BitVec 5) (h : Nat) : Prop :=
  ∀ r, r < 64 → (∀ q, q + 1 < 8 * h → metaIdx u vm h r q < metaIdx u vm h r (q + 1)) ∧
    ∀ p, p < h → lane (u.rv (vm + BitVec.ofNat 5 ((r * h + p) / 16))) 64 ((r * h + p) % 16) < 2 ^ 40

/-- A cell after products have been added (R54, R55): 48-bit wrapping integers, or the compensated FP chain. -/
def newCell (code : Nat) (old : Word) (ps : List (Nat × Nat)) : Word :=
  match codeFmt code with
  | some f => (cellFp old (ps.map fun p => (f.decode p.1, f.decode p.2))).1
  | none => word (wrapTo 48 (old.toNat + (ps.map fun p => elemOf code p.1 * elemOf code p.2).sum))

/-- The metadata of an MMA.SP names `keep` B rows of its half for each row (R221). -/
def SparseOk (m : MmaOp) : Prop :=
  m.sparse = true → m.keep ≤ 64 ∧ ∀ i, i < 64 → (m.idx.getD i []).length = m.keep ∧ ∀ k ∈ m.idx.getD i [], 32 * m.bhalf + k < 64

/-- The product of the tiles has been added to every cell of the operation's slot, from what the slot held before in `c` (R220, R221). -/
def Multiplied (c d : Core) (m : MmaOp) (ae be : Nat → Nat → Nat) : Prop :=
  (d.acc m.slot).kind = kindOf m.fmt ∧ (d.acc m.slot).owner = (c.acc m.slot).owner ∧
  (∀ i j, i < 64 → j < 128 → (d.acc m.slot).all.getD (128 * i + j) 0 =
    newCell m.fmt ((c.acc m.slot).all.getD (128 * i + j) 0) (mmaPairs m ae be i j)) ∧
  ∀ n, n ≠ m.slot → d.acc n = c.acc n

/-- Tiles have been popped of a core's rings (R207). -/
def Popped (c d : Core) (n : Nat → Nat) : Prop :=
  ∀ r, afind d.rings r = (afind c.rings r).map fun g => { g with head := g.head + BitVec.ofNat 32 (n r) }

/-- What a step of the matrix engine of some cores leaves as it was: outside those engines only MFLAGS of thread sets, and of cards that are to
resume there, and the model's notes of what loads have seen may have changed, and the outstanding results of the thread sets named. -/
def EngineStep (s t : State) (cores outs : Nat → Prop) : Prop :=
  SameMemory s t ∧
  (∀ k, ({ t.thread k with mflags := (s.thread k).mflags, early := (s.thread k).early, outs := (s.thread k).outs } : Thread) = s.thread k) ∧
  (∀ k, ¬ outs k → (t.thread k).outs = (s.thread k).outs) ∧ (∀ c, ¬ cores c → t.core c = s.core c) ∧
  (∀ c, ({ t.core c with mq := (s.core c).mq, rings := (s.core c).rings, accs := (s.core c).accs, lands := (s.core c).lands,
                         stopped := (s.core c).stopped } : Core) = s.core c ∧
    (t.core c).stopped.map (fun v => { v with mflags := 0 }) = (s.core c).stopped.map (fun v => { v with mflags := 0 })) ∧
  ({ t with threads := s.threads, cores := s.cores } : State) = s

/-- A step of one core's matrix engine that answers no outstanding result. -/
def MatrixStep (s t : State) (core : Nat) : Prop := EngineStep s t (· = core) fun _ => False

end Sys2Proof.Machine
end

