-- ==== Sys2Proof/Certificates/Slice0/Obligations.lean ====
section
/-! DEFINITION. The statements for the provers. -/

open Sys2Proof Sys2Proof.Machine

/-- Words written out bit by bit decode to the instructions they stand for (R31, R19, R35, R58, R142, R163). -/
def Obligations.DecodedWords : Prop :=
  decode 0x0020A18B = .ok ⟨.vadd 3 1 2 2, false⟩ ∧ decode 0x8020A18B = .ok ⟨.vadd 3 1 2 2, true⟩ ∧
  decode 0x487322DB = .ok ⟨.gadd 2 1 5 6 7, false⟩ ∧ decode 0x00000073 = .ok ⟨.ecall, false⟩ ∧
  decode 0x10500073 = .ok ⟨.wfi, false⟩ ∧ decode 0x8E00107B = .ok ⟨.switch, true⟩ ∧
  decode 0x0C01107B = .ok ⟨.fmtp 2, false⟩ ∧ decode 0x0220207B = .ok ⟨.trap 0x40, false⟩ ∧
  decode 0x087322FB = .ok ⟨.plog 5 6 7, false⟩ ∧ decode 0x00A30293 = .ok ⟨.addi 5 6 10, false⟩ ∧
  ∀ w ∈ ([0x3400040B, 0x6800000B, 0x0800205B, 0x0000407B, 0x00000053, 0x30200073, 0x00000001, 0x0E00107B] : List IWord),
    ∃ r, decode w = .error r

/-- Decoding the encoding of every well-formed instruction word gives it back (R13, R14, R23, R24, R25, R27, R28, R29, R30, R33,
R35). -/
def Obligations.EncodeThenDecode : Prop :=
  ∀ (i : Instr) (sw : Bool), i.isStep = false → i.wellFormed = true →
    ∃ d, decode (encode sw i) = .ok d ∧ d.instr = i ∧
      d.sw = (if i = .switch then true else sw && customOp (i.fields sw).op)

/-- Every word that decodes is the encoding of the well-formed instruction it decodes to (R13, R14, R17, R18, R23, R24, R25,
R31). -/
def Obligations.DecodeThenEncode : Prop :=
  ∀ (w : IWord) (d : Decoded), decode w = .ok d →
    d.instr.isStep = false ∧ d.instr.wellFormed = true ∧ encode d.sw d.instr = w

/-- No word decodes to a predicate destination k0; k0 reads all true (R11). -/
def Obligations.K0IsNeverADestination : Prop :=
  (∀ (i : Instr) (sw : Bool), predDest i = some 0 → ∃ r, decode (encode sw i) = .error r) ∧
  (∀ (s : State) (i : Instr) (sw : Bool), predDest i = some 0 → s.CanTrap →
    ∃ t, s.runWord (encode sw i) = .next t ∧ TrapTaken s t 0 ((encode sw i).zeroExtend 64)) ∧
  (∀ (w : IWord) (d : Decoded), decode w = .ok d → predDest d.instr ≠ some 0) ∧
  ∀ (t : Thread) (v : KWord), t.wk 0 v = t ∧ t.rk 0 = BitVec.allOnes 128

/-- A step that issues runs the instruction its thread set has fetched (R8, R31, R33, R83, R138, R410). -/
def Obligations.StepRunsTheDecodedInstruction : Prop :=
  (∀ (s u t : State) (tid : Nat) (rest : List Turn) (w : IWord) (d : Decoded), s.agenda = .issue tid :: rest →
    (let s0 : State := { s with agenda := rest, cur := tid }
     s0.canIssue tid = true → s0.isChosen tid = true → s0.fetch tid = (u, .word w) → decode w = .ok d → exec d.instr { u with ir := w } = .next t →
      (let r := if d.sw then u.parkAfter t u.cur else t
       let t' := r.stamped s0 tid
       (t'.traps = s.traps → s0.boundary tid = none → step s = .next ((t'.begunWait s0 tid).passTime 1)) ∧
       (t'.traps = s.traps → (s0.thread tid).waits = true → t'.gotOn s0 tid = true → step s = .next (t'.passTime 1)) ∧
       (t'.traps ≠ s.traps →
         step s = .next ((if (s0.thread tid).reports = [] then t' else t'.holdReports tid).passTime 1))))) ∧
  (∀ (s : State) (tid v : Nat) (rest : List Turn), s.agenda = .issue tid :: rest →
    (let s0 : State := { s with agenda := rest, cur := tid }
     s0.canIssue tid = true → v ∈ tidsOf (coreOf tid) → v ≠ tid → s0.outranks v tid = true → s0.isReady v = true → step s = .next s0)) ∧
  ∀ s t : State, s.agenda = [] → step { s with agenda := [.issue s.cur] } = .next t →
    ((t.thread s.cur).instret ≠ (s.thread s.cur).instret ∨ t.traps ≠ s.traps) → step s = .next t

/-- A fetch gives the four little-endian bytes at the translated pc, or what the instruction buffer holds (R8, R9, R18, R65). -/
def Obligations.FetchReadsTheBytes : Prop :=
  (∀ (s u : State) (tid pa a : Nat), isOwnWindow (s.thread tid).pc = false → isVa (s.thread tid).pc = true →
    s.translate (coreOf tid) (s.thread tid).asid (s.thread tid).pc { x := true } (!(s.thread tid).steward) = (u, .ok pa) →
    u.locate pa 4 = .mem a → u.isPoisoned a 4 = false →
    ((afind (u.core (coreOf tid)).ibuf a = none ∧ u.portShut (coreOf tid) a = true) ↔ s.fetch tid = (u, .wait)) ∧
    (∀ w, afind (u.core (coreOf tid)).ibuf a = some w → s.fetch tid = (u, .word w)) ∧
    (afind (u.core (coreOf tid)).ibuf a = none → u.portShut (coreOf tid) a = false →
      ∃ t, s.fetch tid = (t, .word (BitVec.ofNat 32 ((u.readByte a).toNat + 256 * (u.readByte (a + 1)).toNat +
          65536 * (u.readByte (a + 2)).toNat + 16777216 * (u.readByte (a + 3)).toNat))) ∧
        afind (t.core (coreOf tid)).ibuf a = some (BitVec.ofNat 32 (u.readVal a 4)) ∧ SameMemory u t ∧ t.threads = u.threads)) ∧
  ∀ (s : State) (tid : Nat), isOwnWindow (s.thread tid).pc = true ∨ isVa (s.thread tid).pc = false →
    s.fetch tid = (s, .fault 2)

/-- A refused word takes cause 0 and a refused fetch takes its cause, with no other effect (R8, R9, R31, R137, R155, R156). -/
def Obligations.IllegalWordsAndFetchFaults : Prop :=
  (∀ (s : State) (w : IWord), s.CanTrap →
    (∃ t, exec (.illegalInstruction w) s = .next t ∧ TrapTaken s t 0 (w.zeroExtend 64)) ∧
    ∀ r, decode w = .error r → ∃ t, s.runWord w = .next t ∧ TrapTaken s t 0 (w.zeroExtend 64)) ∧
  (∀ (s u : State) (c : BitVec 6), s.fetch s.cur = (u, .fault c) → u.CanTrap → u.cur = s.cur →
    ∃ t, exec .fetchFault s = .next t ∧ TrapTaken u t c u.th.pc) ∧
  ∀ s u : State, s.fetch s.cur = (u, .absent) → u.cur = s.cur →
    ∃ t, exec .fetchFault s = .next t ∧ t.th.pc = u.th.pc ∧ t.isParked s.cur = true ∧ SameMemory u t ∧ t.threads = u.threads ∧
      FaultRecorded u t u.th.asid u.th.pc 2 false ∧
      (∀ d, d ≠ dieOf (coreOf s.cur) → t.die d = u.die d) ∧
      ({ t with dieMap := u.dieMap, hint := u.hint, msix := u.msix, parked := u.parked } : State) = u

/-- What reset leaves, as the reset columns of the spec give it (R48, R49, R51, R56, R114, R134, R144, R145, R156, R162, R382;
PTBASE R151, DISTn R183, SKEWn R188, DTBASE R197). That State.reset stands right after the wipe of R386, so that every byte
reads zero, and its canonical form of memory are the model's choice (log 46). -/
def Obligations.ResetState : Prop :=
  (∀ tid n, n ∈ (List.range 14).map (0x800 + ·) ++ (List.range 17).map (0x5C0 + ·) →
    State.reset.csrRead tid n = some (if n = 0x801 then 1 else if n = 0x5CD then 0x100000 else 0)) ∧
  (∀ tid, (State.reset.thread tid).bank0.act = false ∧ (State.reset.thread tid).bank1.act = false ∧
    (State.reset.thread tid).gang = false ∧ (State.reset.thread tid).outs = []) ∧
  (∀ a, State.reset.readByte a = 0) ∧ (∀ d, State.reset.columns d = 0xFFFF) ∧
  (∀ q, State.reset.queue q = {}) ∧ State.reset.hint = 0 ∧ Memory.wf State.reset.mem = true

/-- Every step keeps the canonical form of memory (R61, R277, R386). -/
def Obligations.MemoryStaysCanonical : Prop :=
  ∀ s t : State, Memory.wf s.mem = true → step s = .next t → Memory.wf t.mem = true

/-- The register-register instructions write their standard result to rd and change nothing else (R8, R10, R14, R21, R34). -/
def Obligations.RegisterArithmetic : Prop :=
  ∀ row ∈ regRowsI ++ regRowsW ++ regRowsA, ∀ (rd rs1 rs2 : BitVec 5) (s : State), s.Clear [rd, rs1, rs2] →
    ∃ t, exec (row.1 rd rs1 rs2) s = .next t ∧ Writes s t rd (row.2 (s.rx rs1) (s.rx rs2)) (s.th.pc + 4)

/-- The M instructions give the standard results and never trap (R22). -/
def Obligations.MultiplyDivide : Prop :=
  (∀ row ∈ regRowsM, ∀ (rd rs1 rs2 : BitVec 5) (s : State), s.Clear [rd, rs1, rs2] →
    ∃ t, exec (row.1 rd rs1 rs2) s = .next t ∧ Writes s t rd (row.2 (s.rx rs1) (s.rx rs2)) (s.th.pc + 4)) ∧
  ∀ (rd rs1 rs2 : BitVec 5) (s : State), s.Clear [rd, rs1, rs2] → rd ≠ 0 →
    (s.rx rs2 = 0 →
      (∀ i ∈ [Instr.div rd rs1 rs2, .divu rd rs1 rs2, .divw rd rs1 rs2, .divuw rd rs1 rs2],
        ∃ t, exec i s = .next t ∧ t.rx rd = BitVec.allOnes 64) ∧
      (∀ i ∈ [Instr.rem rd rs1 rs2, .remu rd rs1 rs2], ∃ t, exec i s = .next t ∧ t.rx rd = s.rx rs1) ∧
      (∀ i ∈ [Instr.remw rd rs1 rs2, .remuw rd rs1 rs2], ∃ t, exec i s = .next t ∧ t.rx rd = s32 (i32 (s.rx rs1)))) ∧
    (s.rx rs1 = BitVec.intMin 64 → s.rx rs2 = BitVec.allOnes 64 →
      (∃ t, exec (.div rd rs1 rs2) s = .next t ∧ t.rx rd = s.rx rs1) ∧ (∃ t, exec (.rem rd rs1 rs2) s = .next t ∧ t.rx rd = 0)) ∧
    (i32 (s.rx rs1) = -2 ^ 31 → i32 (s.rx rs2) = -1 →
      (∃ t, exec (.divw rd rs1 rs2) s = .next t ∧ t.rx rd = s32 (i32 (s.rx rs1))) ∧
      (∃ t, exec (.remw rd rs1 rs2) s = .next t ∧ t.rx rd = 0))

/-- The immediate instructions, LUI and AUIPC write their standard result to rd and change nothing else (R8, R10, R14, R34). -/
def Obligations.ImmediateArithmetic : Prop :=
  (∀ row ∈ immRows, ∀ (rd rs1 : BitVec 5) (imm : BitVec 12) (s : State), s.Clear [rd, rs1] →
    ∃ t, exec (row.1 rd rs1 imm) s = .next t ∧ Writes s t rd (row.2 (s.rx rs1) imm.toInt) (s.th.pc + 4)) ∧
  (∀ row ∈ shift6Rows, ∀ (rd rs1 : BitVec 5) (n : BitVec 6) (s : State), s.Clear [rd, rs1] →
    ∃ t, exec (row.1 rd rs1 n) s = .next t ∧ Writes s t rd (row.2 (s.rx rs1) n.toNat) (s.th.pc + 4)) ∧
  (∀ row ∈ shift5Rows, ∀ (rd rs1 n : BitVec 5) (s : State), s.Clear [rd, rs1] →
    ∃ t, exec (row.1 rd rs1 n) s = .next t ∧ Writes s t rd (row.2 (s.rx rs1) n.toNat) (s.th.pc + 4)) ∧
  ∀ (rd : BitVec 5) (imm : BitVec 20) (s : State), s.Clear [rd] →
    (∃ t, exec (.lui rd imm) s = .next t ∧ Writes s t rd (s64 (imm.toInt * 4096)) (s.th.pc + 4)) ∧
    ∃ t, exec (.auipc rd imm) s = .next t ∧ Writes s t rd (s.th.pc + s64 (imm.toInt * 4096)) (s.th.pc + 4)

/-- Branches go to their target exactly when their condition holds; jumps link and go; a refused target traps (R8, R9, R10, R14,
R31, R137). -/
def Obligations.BranchesAndJumps : Prop :=
  (∀ row ∈ branchRows, ∀ (rs1 rs2 : BitVec 5) (off : BitVec 12) (s : State), s.Clear [rs1, rs2] →
    (¬ row.2 (s.rx rs1) (s.rx rs2) → ∃ t, exec (row.1 rs1 rs2 off) s = .next t ∧ GoesTo s t (s.th.pc + 4)) ∧
    (row.2 (s.rx rs1) (s.rx rs2) → GoodTarget (s.th.pc + s64 (2 * off.toInt)) →
      ∃ t, exec (row.1 rs1 rs2 off) s = .next t ∧ GoesTo s t (s.th.pc + s64 (2 * off.toInt)))) ∧
  (∀ (rd : BitVec 5) (off : BitVec 20) (s : State), s.Clear [rd] → GoodTarget (s.th.pc + s64 (2 * off.toInt)) →
    ∃ t, exec (.jal rd off) s = .next t ∧ Writes s t rd (s.th.pc + 4) (s.th.pc + s64 (2 * off.toInt))) ∧
  (∀ (rd rs1 : BitVec 5) (imm : BitVec 12) (s : State), s.Clear [rd, rs1] →
    GoodTarget ((s.rx rs1 + s64 imm.toInt) &&& ~~~1) →
    ∃ t, exec (.jalr rd rs1 imm) s = .next t ∧ Writes s t rd (s.th.pc + 4) ((s.rx rs1 + s64 imm.toInt) &&& ~~~1)) ∧
  (∀ row ∈ branchRows, ∀ (rs1 rs2 : BitVec 5) (off : BitVec 12) (s : State), s.Clear [rs1, rs2] → s.CanTrap →
    row.2 (s.rx rs1) (s.rx rs2) → ¬ GoodTarget (s.th.pc + s64 (2 * off.toInt)) →
    ∃ t, exec (row.1 rs1 rs2 off) s = .next t ∧
      TrapTaken s t (targetCause (s.th.pc + s64 (2 * off.toInt))) (s.th.pc + s64 (2 * off.toInt))) ∧
  (∀ (rd : BitVec 5) (off : BitVec 20) (s : State), s.Clear [rd] → s.CanTrap → ¬ GoodTarget (s.th.pc + s64 (2 * off.toInt)) →
    ∃ t, exec (.jal rd off) s = .next t ∧
      TrapTaken s t (targetCause (s.th.pc + s64 (2 * off.toInt))) (s.th.pc + s64 (2 * off.toInt))) ∧
  ∀ (rd rs1 : BitVec 5) (imm : BitVec 12) (s : State), s.Clear [rd, rs1] → s.CanTrap →
    ¬ GoodTarget ((s.rx rs1 + s64 imm.toInt) &&& ~~~1) →
    ∃ t, exec (.jalr rd rs1 imm) s = .next t ∧
      TrapTaken s t (targetCause ((s.rx rs1 + s64 imm.toInt) &&& ~~~1)) ((s.rx rs1 + s64 imm.toInt) &&& ~~~1)

/-- ECALL, EBREAK and TRAP take cause 9 with their subcode (R19, R137, R142). -/
def Obligations.CallsTrap : Prop :=
  ∀ s : State, s.Clear [] → s.CanTrap →
    (∃ t, exec .ecall s = .next t ∧ TrapTaken s t 9 0) ∧ (∃ t, exec .ebreak s = .next t ∧ TrapTaken s t 9 1) ∧
    ∀ imm : BitVec 10, ∃ t, exec (.trap imm) s = .next t ∧ TrapTaken s t 9 (imm.zeroExtend 64)

/-- A trap while both banks are in use resets the core (R140, R137, R382). -/
def Obligations.ThirdTrapResetsTheCore : Prop :=
  ∀ s : State, s.Clear [] → s.th.bank0.act = true → s.th.bank1.act = true →
    (∀ v ∈ s.vague, ∀ o, o < 0x100000 → v.has (spadBase (coreOf s.cur) + o) = false) →
    (∀ v ∈ s.vague, ∀ o, o < 128 → v.has (crashSlot (coreOf s.cur) + o) = false) → coreOf s.cur < 1024 → s.columns (dieOf (coreOf s.cur)) = 0xFFFF →
    ∃ t, exec .ecall s = .next t ∧ (∀ k ∈ tidsOf (coreOf s.cur), t.thread k = {}) ∧
      (t.core (coreOf s.cur)).seq = [] ∧ (t.core (coreOf s.cur)).allocs = [] ∧ (t.core (coreOf s.cur)).mq = [] ∧
      (t.core (coreOf s.cur)).rings = [] ∧ (t.core (coreOf s.cur)).accs = [] ∧ (t.core (coreOf s.cur)).copies = [] ∧
      (t.core (coreOf s.cur)).deque = (s.core (coreOf s.cur)).deque ∧ t.hint.getLsbD 0 = true ∧
      t.readBytes (spadBase (coreOf s.cur) + 0xFFF80) 128 = s.crashBytes 9 0 ∧
      t.readBytes (crashSlot (coreOf s.cur)) 128 = s.crashBytes 9 0 ∧
      ∀ o, o < 0xFFF80 → t.readByte (spadBase (coreOf s.cur) + o) = 0

/-- TRET restores what the innermost trap saved (R142, R138). -/
def Obligations.TrapReturn : Prop :=
  ∀ s : State, s.Clear [] → s.th.steward = true →
    (∀ b, s.th.inner = some b → b.2.ends = false → b.2.abt = false →
      ∃ t, exec .tret s = .next t ∧ t.th.pc = b.2.tepc ∧ t.th.steward = b.2.pm ∧ t.th.pfx = b.2.pfx ∧ t.th.pfxv = b.2.pfxv ∧
        t.th.park = b.2.park ∧ t.th.bank1 = (if b.1 then { s.th.bank1 with act := false } else s.th.bank1) ∧
        t.th.bank0 = (if b.1 then s.th.bank0 else { s.th.bank0 with act := false }) ∧ SameRegisters s t ∧
        ({ t.th with pc := s.th.pc, steward := s.th.steward, pfx := s.th.pfx, pfxv := s.th.pfxv, park := s.th.park,
                     bank0 := s.th.bank0, bank1 := s.th.bank1, instret := s.th.instret, mark := s.th.mark,
                     openAt := s.th.openAt, waits := s.th.waits, reports := s.th.reports } : Thread) = s.th ∧
        t.th.reports = s.th.reports.map (fun r => if r.hold = (if b.1 then 2 else 1) then { r with hold := 0 } else r) ∧
        OnlyThread s t ∧ SameMemory s t) ∧
    (s.th.bank1.act = true → s.th.inner = some (true, s.th.bank1)) ∧
    (s.th.bank1.act = false → s.th.bank0.act = true → s.th.inner = some (false, s.th.bank0)) ∧
    (s.th.bank1.act = false → s.th.bank0.act = false → s.th.inHandler = false →
      ∃ t, exec .tret s = .next t ∧ TrapTaken s t 0 (s.ir.zeroExtend 64)) ∧
    (∀ b, s.th.inner = some b → b.2.ends = true → s.CanTrap → ∃ t, exec .tret s = .next t ∧ TrapTaken s t 0 (s.ir.zeroExtend 64)) ∧
    ∀ b c, s.th.inner = some b → b.2.ends = false → b.2.abt = true → s.th.card = some c → (s.core c.home).deque.length < 256 →
      ∃ t, exec .tret s = .next t ∧ t.th.card = none ∧
        (t.core c.home).deque = (s.core c.home).deque ++ [{ c with hdr := c.hdr0, since := s.time, aged := false }] ∧ SameMemory s t

/-- FMTP makes its prefix pending; with one pending every instruction that takes no format is illegal, and the steward-only
instructions are illegal in user mode (R26, R56, R57, R58, R59, R31, R137). -/
def Obligations.IllegalByPrefixOrMode : Prop :=
  (∀ (i : Instr) (s : State), i.isStep = false → takesFormat i = false → s.th.pfx = true → s.CanTrap →
    ∃ t, exec i s = .next t ∧ TrapTaken s t 0 (s.ir.zeroExtend 64)) ∧
  (∀ (i : Instr) (s : State), isStewardOnly i = true → s.th.steward = false → s.CanTrap →
    ∃ t, exec i s = .next t ∧ TrapTaken s t 0 (s.ir.zeroExtend 64)) ∧
  (∀ (fmt : BitVec 5) (s : State), s.Clear [] →
    ∃ t, exec (.fmtp fmt) s = .next t ∧ t.th.pfx = true ∧ t.th.pfxv = fmt ∧ t.th.pc = s.th.pc + 4 ∧ t.th.instret = s.th.instret + 1 ∧
      SameRegisters s t ∧ SameRest s.th { t.th with pfxv := s.th.pfxv } ∧ OnlyThread s t ∧ SameMemory s t ∧ t.csrRead s.cur 0x803 = some (1 + 256 * fmt.zeroExtend 64)) ∧
  ∀ (fmt : BitVec 5) (sw : Bool), 10 ≤ fmt.toNat → decode (encode sw (.fmtp fmt)) = .error .operand

/-- An instruction that names a pending register waits at issue (R34). -/
def Obligations.PendingRegisterHolds : Prop :=
  (∀ (i : Instr) (l : List (BitVec 5)) (r : BitVec 5) (s : State), baseRegs i = some l → r ∈ l → s.pending s.cur r = true →
    s.th.pfx = false → exec i s = .next s) ∧
  (∀ (i : Instr) (r : BitVec 5) (s : State), r ∈ customRegs i → s.pending s.cur r = true →
    (takesFormat i = false → isSequenced i = false → s.th.pfx = false → (isStewardOnly i = true → s.th.steward = true) →
      exec i s = .next s) ∧
    (isSequenced i = true → s.th.vIllegal i = false → s.th.leased i = none → exec i s = .next s) ∧
    ((if s.th.pfx then s.th.pfxv.toNat else s.th.mfmt.toNat % 32) ∈ matrixCodes i → exec i s = .next s)) ∧
  ∀ (s : State) (tid : Nat), s.pending tid 0 = false

/-- CSR instructions read the CSR into rd and write what the entry lets them write (R14, R21, R49, R51, R56, R114, R133, R134,
R145, R151, R162). -/
def Obligations.CsrReadsAndWrites : Prop :=
  ∀ (i : Instr) (n : Nat) (op : CsrOp) (rd : BitVec 5) (src : CsrSrc) (s : State) (old : Word), csrForm i = some (n, op, rd, src) →
    s.Clear (csrRegs rd src) → s.csrRead s.cur n = some old → (0x5C0 ≤ n → n ≤ 0x5D0 → s.th.steward = true) →
    s.csrWaits s.cur n (csrWriting op src) = false →
    (csrWriting op src = false → ∃ t, exec i s = .next t ∧ Writes s t rd old (s.th.pc + 4)) ∧
    (csrWriting op src = true → n < 0xC00 → s.csrOk n (csrNew op old (s.csrSrc src)) = true →
      ∃ t, exec i s = .next t ∧ t.rx rd = (if rd = 0 then 0 else old) ∧ (∀ r, r ≠ rd → t.rx r = s.rx r) ∧
        Retired s t (s.th.pc + 4) ∧
        t.csrRead s.cur n = some (csrAfter s.th.asid n old (csrNew op old (s.csrSrc src))) ∧
        (∀ m, m ≠ n → m ≠ 0xC02 → t.csrRead s.cur m = s.csrRead s.cur m) ∧ SameMemory s t ∧ OtherThreads s t)

/-- A CSR instruction is illegal where the CSR does not exist, is read-only, belongs to the steward or refuses the value (R21,
R48, R49, R51, R114, R133, R134, R144, R145, R151). That a non-zero VFLAGS[63:5] is refused is the model's choice (log 56); R51
names no consequence. -/
def Obligations.CsrRefusals : Prop :=
  (∀ (s : State) (tid n : Nat), (s.csrRead tid n).isSome = true ↔ n ∈ csrNumbers) ∧
  ∀ (i : Instr) (n : Nat) (op : CsrOp) (rd : BitVec 5) (src : CsrSrc) (s : State), csrForm i = some (n, op, rd, src) →
    s.Clear (csrRegs rd src) → s.CanTrap →
    (n ∉ csrNumbers ∨ (csrWriting op src = true ∧ 0xC00 ≤ n ∧ n < 0xD00) ∨ (0x5C0 ≤ n ∧ n ≤ 0x5D0 ∧ s.th.steward = false) ∨
      (∃ old m, s.csrRead s.cur n = some old ∧ csrWriting op src = true ∧ s.csrWaits s.cur n true = false ∧
        (((n, m) ∈ reservedMasks ∧ csrNew op old (s.csrSrc src) &&& m ≠ 0) ∨
         ((n = 0x800 ∨ n = 0x801) ∧ 10 ≤ (csrNew op old (s.csrSrc src)).toNat % 32) ∨
         (n = 0x800 ∧ 4 ≤ (csrNew op old (s.csrSrc src)).toNat / 32 % 8)))) →
    ∃ t, exec i s = .next t ∧ TrapTaken s t 0 (s.ir.zeroExtend 64)

/-- Translating an access changes only the buffers and the accessed and dirty bits of the leaf (R65, R154, R157, R406). -/
def Obligations.TranslationFrame : Prop :=
  (∀ (s u : State) (tid : Nat) (user : Bool) (va : Word) (size : Nat) (n : Need) (p : Place) (path : Path) (pa : Nat),
    s.reach tid user va size n = (u, .at_ p path pa) →
    (∀ k, ({ u.thread k with resv := (s.thread k).resv, early := (s.thread k).early } : Thread) = s.thread k) ∧
    ({ u with threads := s.threads, mem := s.mem, poison := s.poison, vague := s.vague, tlb := s.tlb, fresh := s.fresh } : State) = s ∧
    (isOwnWindow va = true → u = s) ∧
    (isOwnWindow va = false → ∃ leaf, s.leafOf (coreOf tid) (s.thread tid).asid va = some leaf ∧
      (∀ b, Apart s b leaf 8 → u.readByte b = s.readByte b) ∧
      (leaf % 8 = 0 → u.readVal leaf 8 = s.readVal leaf 8 ∨
        u.readVal leaf 8 = (word (s.readVal leaf 8) ||| 0x80 ||| (if n.w then 0x100 else 0)).toNat))) ∧
  (∀ (s : State) (tid : Nat) (user : Bool) (va : Word) (size : Nat) (n : Need), 0xFFFFFFFFFFF00000 ≤ va.toNat →
    (n.w && s.inLocket (spadBase (coreOf tid) + va.toNat % 0x100000) size) = false →
    s.reach tid user va size n =
      (s, .at_ (.mem (spadBase (coreOf tid) + va.toNat % 0x100000)) .own (s.chipno * 2 ^ 40 + (spadBase (coreOf tid) + va.toNat % 0x100000)))) ∧
  ∀ (s : State) (tid : Nat) (user : Bool) (va : Word) (size : Nat) (n : Need), va.toNat < 0xFFFFFFFFFFF00000 →
    ¬ (-2 ^ 54 ≤ va.toInt ∧ va.toInt < 2 ^ 54) → s.reach tid user va size n = (s, .fault 2)

/-- A load gives the youngest covering store of its path, else memory, extended as its mnemonic says (R15, R40, R61, R74, R75,
R65, R71, R77, R245, R392). -/
def Obligations.LoadsComplete : Prop :=
  ∀ row ∈ loadRows, ∀ (rd rs1 : BitVec 5) (imm : BitVec 12) (s u : State) (a pa : Nat) (path : Path), s.Clear [rd, rs1] →
    s.th.remote = none → s.acquiring s.cur = false → s.ctlLane s.cur = false → (s.rx rs1 + s64 imm.toInt).toNat % row.2.1 = 0 →
    s.reach s.cur (!s.th.steward) (s.rx rs1 + s64 imm.toInt) row.2.1 { r := true } = (u, .at_ (.mem a) path pa) →
    (u.portShut (coreOf s.cur) a = true → exec (row.1 rd rs1 imm) s = .next u) ∧ (u.portShut (coreOf s.cur) a = false →
    (∀ e, (metBy (u.core (coreOf s.cur)).sb path pa row.2.1).getLast? = some e →
      (∀ q ∈ metBy (u.core (coreOf s.cur)).sb path pa row.2.1, q.pa ≤ pa ∧ pa + row.2.1 ≤ q.pa + q.data.length) →
      ∃ t, exec (row.1 rd rs1 imm) s = .next t ∧
        Loads u t rd (loadValue row.2.1 row.2.2 (leNat ((e.data.drop (pa - e.pa)).take row.2.1))) (u.th.pc + 4)) ∧
    ((∃ q ∈ metBy (u.core (coreOf s.cur)).sb path pa row.2.1, ¬ (q.pa ≤ pa ∧ pa + row.2.1 ≤ q.pa + q.data.length)) →
      exec (row.1 rd rs1 imm) s = .next u) ∧
    (metBy (u.core (coreOf s.cur)).sb path pa row.2.1 = [] →
      u.flights.all (fun f => coreOf f.tid != coreOf s.cur || !meets f.pa f.data.length pa row.2.1) = true →
      (∀ d, earlyOf (u.thread s.cur).early path pa row.2.1 = some d →
        ∃ t, exec (row.1 rd rs1 imm) s = .next t ∧ Loads u t rd (loadValue row.2.1 row.2.2 (leNat d)) (u.th.pc + 4)) ∧
      (earlyOf (u.thread s.cur).early path pa row.2.1 = none → u.isPoisoned a row.2.1 = false →
        ∃ t, exec (row.1 rd rs1 imm) s = .next t ∧
          Loads u t rd (loadValue row.2.1 row.2.2 (leNat (u.readBytes a row.2.1))) (u.th.pc + 4)) ∧
      (earlyOf (u.thread s.cur).early path pa row.2.1 = none → u.isPoisoned a row.2.1 = true → u.CanTrap →
        ∃ t, exec (row.1 rd rs1 imm) s = .next t ∧ TrapTaken u t 2 (s.rx rs1 + s64 imm.toInt))))

/-- A store retires into its core's store buffer and leaves memory as it was (R15, R40, R74, R75). -/
def Obligations.StoresEnterTheBuffer : Prop :=
  ∀ row ∈ storeRows, ∀ (rs1 rs2 : BitVec 5) (imm : BitVec 12) (s u : State) (a pa : Nat) (path : Path), s.Clear [rs1, rs2] →
    s.acquiring s.cur = false → s.ctlLane s.cur = false → (s.rx rs1 + s64 imm.toInt).toNat % row.2 = 0 →
    s.reach s.cur (!s.th.steward) (s.rx rs1 + s64 imm.toInt) row.2 { w := true } = (u, .at_ (.mem a) path pa) →
    ∃ t e, exec (row.1 rs1 rs2 imm) s = .next t ∧
      t.core (coreOf s.cur) = { u.core (coreOf s.cur) with sb := (u.core (coreOf s.cur)).sb ++ [e] } ∧
      e.tid = s.cur ∧ e.path = path ∧ e.va = s.rx rs1 + s64 imm.toInt ∧ e.pa = pa ∧ e.data.length = row.2 ∧
      leNat e.data = (s.rx rs2).toNat % 2 ^ (8 * row.2) ∧
      SameRegisters u t ∧ Retired u t (u.th.pc + 4) ∧ SameRest u.th t.th ∧ OthersButNotes u t ∧ SameMemory u t ∧
      (∀ c, c ≠ coreOf s.cur → t.core c = u.core c) ∧
      ({ t with threads := u.threads, cores := u.cores, nextId := u.nextId } : State) = u

/-- The oldest store is performed at its location, refused by a locket, or goes on its way to another die (R74, R75, R77, R160,
R298, R407). -/
def Obligations.StoreBufferDrains : Prop :=
  ∀ (s : State) (core a : Nat) (e : SbEntry) (rest : List SbEntry), s.ready = true → (s.core core).sb = e :: rest →
    s.locate e.pa e.data.length = .mem a → a % 64 + e.data.length ≤ 64 → (∀ q ∈ rest, q.id ≠ e.id) →
    (dieOfAddr a = dieOf core → s.portShut core a = false) →
    ∃ t, exec (.storeBufferDrain core) s = .next t ∧ (t.core core).sb = rest ∧
      (∀ k, (t.thread k).x = (s.thread k).x ∧ (t.thread k).pc = (s.thread k).pc ∧ (t.thread k).vflags = (s.thread k).vflags) ∧
      (dieOfAddr a = dieOf core → s.inLocket a e.data.length = false → s.isHeld a e.data.length = false → Stored s t a e.data) ∧
      (dieOfAddr a = dieOf core → s.inLocket a e.data.length = true →
        SameMemory s t ∧ (t.thread e.tid).reports = (s.thread e.tid).reports ++ [{ cause := 3, val := e.va, hold := 0 }]) ∧
      (dieOfAddr a = dieOf core → s.inLocket a e.data.length = false → s.isHeld a e.data.length = true →
        SameMemory s t ∧ (t.thread e.tid).reports = (s.thread e.tid).reports ++ [{ cause := 2, val := e.va, hold := 0 }]) ∧
      (dieOfAddr a ≠ dieOf core → SameMemory s t ∧
        t.flights = s.flights ++ [{ id := e.id, tid := e.tid, va := e.va, pa := e.pa, data := e.data }])

/-- Misaligned and refused scalar accesses trap with their address and do nothing (R15, R31, R137, R154, R160, R406). -/
def Obligations.MisalignedAndRefusedAccesses : Prop :=
  (∀ row ∈ loadRows, ∀ (rd rs1 : BitVec 5) (imm : BitVec 12) (s : State), s.Clear [rd, rs1] → s.th.remote = none →
    s.acquiring s.cur = false → s.ctlLane s.cur = false →
    ((s.rx rs1 + s64 imm.toInt).toNat % row.2.1 ≠ 0 → s.CanTrap →
      ∃ t, exec (row.1 rd rs1 imm) s = .next t ∧ TrapTaken s t 1 (s.rx rs1 + s64 imm.toInt)) ∧
    ∀ u c, (s.rx rs1 + s64 imm.toInt).toNat % row.2.1 = 0 → u.CanTrap → u.cur = s.cur →
      s.reach s.cur (!s.th.steward) (s.rx rs1 + s64 imm.toInt) row.2.1 { r := true } = (u, .fault c) →
      ∃ t, exec (row.1 rd rs1 imm) s = .next t ∧ TrapTaken u t c (s.rx rs1 + s64 imm.toInt)) ∧
  (∀ row ∈ storeRows, ∀ (rs1 rs2 : BitVec 5) (imm : BitVec 12) (s : State), s.Clear [rs1, rs2] → s.acquiring s.cur = false →
    s.ctlLane s.cur = false →
    ((s.rx rs1 + s64 imm.toInt).toNat % row.2 ≠ 0 → s.CanTrap →
      ∃ t, exec (row.1 rs1 rs2 imm) s = .next t ∧ TrapTaken s t 1 (s.rx rs1 + s64 imm.toInt)) ∧
    ∀ u c, (s.rx rs1 + s64 imm.toInt).toNat % row.2 = 0 → u.CanTrap → u.cur = s.cur →
      s.reach s.cur (!s.th.steward) (s.rx rs1 + s64 imm.toInt) row.2 { w := true } = (u, .fault c) →
      ∃ t, exec (row.1 rs1 rs2 imm) s = .next t ∧ TrapTaken u t c (s.rx rs1 + s64 imm.toInt)) ∧
  (∀ (aq rl : Bool) (rd rs1 rs2 : BitVec 5) (s u : State) (c : BitVec 6), s.Clear [rd, rs1, rs2] → s.Quiet →
    s.fencedNow.ctlLane s.cur = false → u.CanTrap → u.cur = s.cur →
    (∀ row ∈ amoRows, (s.rx rs1).toNat % row.2.1 = 0 →
      s.fencedNow.reach s.cur (!s.th.steward) (s.rx rs1) row.2.1 { r := true, w := true } = (u, .fault c) →
      ∃ t, exec (row.1 aq rl rd rs1 rs2) s = .next t ∧ TrapTaken u t c (s.rx rs1)) ∧
    (∀ row ∈ scRows, (s.rx rs1).toNat % row.2 = 0 →
      s.fencedNow.reach s.cur (!s.th.steward) (s.rx rs1) row.2 { r := true, w := true } = (u, .fault c) →
      ∃ t, exec (row.1 aq rl rd rs1 rs2) s = .next t ∧ TrapTaken u t c (s.rx rs1)) ∧
    ∀ row ∈ lrRows, (s.rx rs1).toNat % row.2 = 0 →
      s.fencedNow.reach s.cur (!s.th.steward) (s.rx rs1) row.2 { r := true } = (u, .fault c) →
      ∃ t, exec (row.1 aq rl rd rs1) s = .next t ∧ TrapTaken u t c (s.rx rs1)) ∧
  ∀ (aq rl : Bool) (rd rs1 rs2 : BitVec 5) (s : State), s.Clear [rd, rs1, rs2] → s.Quiet →
    s.fencedNow.ctlLane s.cur = false → s.CanTrap →
    (∀ row ∈ amoRows, (s.rx rs1).toNat % row.2.1 ≠ 0 → ∃ t, exec (row.1 aq rl rd rs1 rs2) s = .next t ∧ TrapTaken s.fencedNow t 1 (s.rx rs1)) ∧
    (∀ row ∈ scRows, (s.rx rs1).toNat % row.2 ≠ 0 → ∃ t, exec (row.1 aq rl rd rs1 rs2) s = .next t ∧ TrapTaken s.fencedNow t 1 (s.rx rs1)) ∧
    ∀ row ∈ lrRows, (s.rx rs1).toNat % row.2 ≠ 0 → ∃ t, exec (row.1 aq rl rd rs1) s = .next t ∧ TrapTaken s.fencedNow t 1 (s.rx rs1)

/-- An AMO gives the old value and writes the new one in one step (R14, R16, R40, R72, R76). -/
def Obligations.AtomicsReadModifyWrite : Prop :=
  ∀ row ∈ amoRows, ∀ (aq rl : Bool) (rd rs1 rs2 : BitVec 5) (s u : State) (a pa : Nat) (path : Path), s.Clear [rd, rs1, rs2] → s.Quiet →
    s.fencedNow.ctlLane s.cur = false →
    (s.rx rs1).toNat % row.2.1 = 0 →
    s.fencedNow.reach s.cur (!s.th.steward) (s.rx rs1) row.2.1 { r := true, w := true } = (u, .at_ (.mem a) path pa) →
    u.flights.all (fun f => coreOf f.tid != coreOf s.cur || !meets f.pa f.data.length pa row.2.1) = true →
    u.portShut (coreOf s.cur) a = false → u.isPoisoned a row.2.1 = false → a % 64 + row.2.1 ≤ 64 →
    ∃ t, exec (row.1 aq rl rd rs1 rs2) s = .next t ∧
      t.rx rd = (if rd = 0 then 0 else loadValue row.2.1 true (leNat (u.readBytes a row.2.1))) ∧ (∀ r, r ≠ rd → t.rx r = s.rx r) ∧
      t.th.pc = s.th.pc + 4 ∧ t.th.instret = s.th.instret + 1 ∧
      Stored u t a (leBytes (row.2.2 (leNat (u.readBytes a row.2.1)) ((s.rx rs2).toNat % 2 ^ (8 * row.2.1))) row.2.1) ∧
      SameRest u.th t.th ∧ OthersButReservations u t ∧ SameMachine u t

/-- LR reserves its granule; SC writes and gives 0 exactly while it is reserved (R16, R72, R76). -/
def Obligations.LoadReservedStoreConditional : Prop :=
  (∀ row ∈ lrRows, ∀ (aq rl : Bool) (rd rs1 : BitVec 5) (s u : State) (a pa : Nat) (path : Path), s.Clear [rd, rs1] → s.Quiet →
    s.fencedNow.ctlLane s.cur = false →
    (s.rx rs1).toNat % row.2 = 0 →
    s.fencedNow.reach s.cur (!s.th.steward) (s.rx rs1) row.2 { r := true } = (u, .at_ (.mem a) path pa) →
    u.flights.all (fun f => coreOf f.tid != coreOf s.cur || !meets f.pa f.data.length pa row.2) = true →
    u.portShut (coreOf s.cur) a = false → u.isPoisoned a row.2 = false →
    ∃ t, exec (row.1 aq rl rd rs1) s = .next t ∧
      t.rx rd = (if rd = 0 then 0 else loadValue row.2 true (leNat (u.readBytes a row.2))) ∧ (∀ r, r ≠ rd → t.rx r = s.rx r) ∧
      t.th.pc = s.th.pc + 4 ∧ t.th.resv = some (a / 8 * 8) ∧ SameMemory u t ∧
      SameRest u.th { t.th with resv := u.th.resv } ∧ OthersButNotes u t ∧ SameMachine u t) ∧
  (∀ row ∈ scRows, ∀ (aq rl : Bool) (rd rs1 rs2 : BitVec 5) (s u : State) (a pa : Nat) (path : Path), s.Clear [rd, rs1, rs2] → s.Quiet →
    s.fencedNow.ctlLane s.cur = false →
    (s.rx rs1).toNat % row.2 = 0 →
    s.fencedNow.reach s.cur (!s.th.steward) (s.rx rs1) row.2 { r := true, w := true } = (u, .at_ (.mem a) path pa) →
    u.flights.all (fun f => coreOf f.tid != coreOf s.cur || !meets f.pa f.data.length pa row.2) = true →
    u.portShut (coreOf s.cur) a = false → u.isPoisoned a row.2 = false → a % 64 + row.2 ≤ 64 →
    ∃ t, exec (row.1 aq rl rd rs1 rs2) s = .next t ∧ t.th.pc = s.th.pc + 4 ∧ t.th.resv = none ∧ (∀ r, r ≠ rd → t.rx r = s.rx r) ∧
      SameRest u.th { t.th with resv := u.th.resv } ∧ OthersButReservations u t ∧ SameMachine u t ∧
      (u.th.resv = some (a / 8 * 8) → t.rx rd = 0 ∧ Stored u t a (leBytes ((s.rx rs2).toNat % 2 ^ (8 * row.2)) row.2)) ∧
      (u.th.resv ≠ some (a / 8 * 8) → t.rx rd = (if rd = 0 then 0 else 1) ∧ SameMemory u t)) ∧
  ∀ (s : State) (k : Nat) (by_ : Writer) (a g : Nat) (d : List Byte), by_.scalarOf k = false → (s.thread k).resv = some g → g < a + d.length →
    a < g + 8 → ((s.store by_ a d).thread k).resv = none

/-- Fences wait until what they order has been performed, then only advance the pc (R17, R18, R75, R128, R129). -/
def Obligations.Fences : Prop :=
  (∀ (i : Instr) (s : State), (i = .fenceTso ∨ i = .pause ∨ ∃ imm rs1 rd, i = .fence imm rs1 rd) → s.Clear [] →
    (s.Quiet → ∃ t, exec i s = .next t ∧ Passes s t (s.th.pc + 4)) ∧
    ((s.core (coreOf s.cur)).sb.any (fun e => decide (e.id < s.setMark.mark)) = true → exec i s = .next s.setMark ∧ s.setMark.th.pc = s.th.pc)) ∧
  (∀ (imm : BitVec 12) (rs1 rd : BitVec 5) (s : State), s.Clear [] →
    (s.performed s.cur = false → exec (.fenceI imm rs1 rd) s = .next s) ∧
    (s.performed s.cur = true → ∃ t, exec (.fenceI imm rs1 rd) s = .next t ∧ (t.core (coreOf s.cur)).ibuf = [] ∧ SameRegisters s t ∧
      Retired s t (s.th.pc + 4) ∧ SameRest s.th t.th ∧ OtherThreads s t ∧ SameMemory s t ∧
      (∀ c, ({ t.core c with ibuf := (s.core c).ibuf } : Core) = s.core c) ∧
      ({ t with threads := s.threads, cores := s.cores } : State) = s)) ∧
  (∀ (rs2 : BitVec 5) (s : State), s.Clear [rs2] →
    ((s.rx rs2).toNat % 4 = 0 → ∃ t, exec (.scfence rs2) s = .next t ∧ GoesTo s t (s.th.pc + 4)) ∧
    ((s.rx rs2).getLsbD 1 = true → s.setMark.released s.cur ((s.rx rs2).extractLsb' 2 2) = false →
      exec (.scfence rs2) s = .next s.setMark ∧ s.setMark.th.pc = s.th.pc) ∧
    ((s.rx rs2).getLsbD 1 = true → s.readsPerformed s.cur = false →
      exec (.scfence rs2) s = .next s.setMark ∧ s.setMark.th.pc = s.th.pc) ∧
    (s.Quiet → s.readsPerformed s.cur = true → s.posted = [] → s.bank.all (fun o => o.tid != s.cur) = true → s.th.lost = none →
      ∃ t, exec (.scfence rs2) s = .next t ∧ Passes s t (s.th.pc + 4))) ∧
  ∀ s : State, s.Clear [] → s.seqAccesses s.cur = false → s.loopLane s.cur = false →
    ((∀ e ∈ (s.core (coreOf s.cur)).sb, e.tid = s.cur → e.path = .plain) → ∃ t, exec .lbfence s = .next t ∧ GoesTo s t (s.th.pc + 4)) ∧
    ((∃ e ∈ (s.core (coreOf s.cur)).sb, e.tid = s.cur ∧ e.path ≠ .plain) → exec .lbfence s = .next s)

/-- SWITCH changes no register, memory or CSR; its only effect is the park (R35). -/
def Obligations.SwitchParks : Prop :=
  decode 0x8E00107B = .ok ⟨.switch, true⟩ ∧ (∃ r, decode 0x0E00107B = .error r) ∧
  (∀ s : State, s.Clear [] → ∃ t, exec .switch s = .next t ∧ t.th.park = true ∧ t.th.pc = s.th.pc + 4 ∧ SameRegisters s t ∧
    SameRest s.th t.th ∧ t.th.pfx = false ∧ OnlyThread s t ∧ SameMemory s t ∧
    (s.atBoundary s.cur = true → s.isParked s.cur = false → (t.canIssue s.cur = true ↔ s.outstanding s.cur = false))) ∧
  ∀ s : State, s.th.pfx = true → s.CanTrap → ∃ t, exec .switch s = .next t ∧ TrapTaken s t 0 (s.ir.zeroExtend 64)

/-- SEAL, PLOG, TLB.REPLAY and TLB.INV do what their entries say (R142, R158, R159, R160, R161, R163). -/
def Obligations.StewardServices : Prop :=
  (∀ (rd rs1 rs2 : BitVec 5) (s : State), s.Clear [rd, rs1, rs2] → s.th.steward = true → s.outstanding s.cur = false →
    s.released s.cur 2 = true →
    ((s.rx rs1).toNat % 0x10000 ≠ 0 ∨ (s.rx rs2).toNat % 0x10000 ≠ 0 ∨ s.rx rs2 = 0 ∨ 0x800000000 < (s.rx rs2).toNat →
      ∃ t, exec (.seal rd rs1 rs2) s = .next t ∧ Loads s t rd (word (2 ^ 63 + 1)) (s.th.pc + 4)) ∧
    ((s.rx rs1).toNat % 0x10000 = 0 → (s.rx rs2).toNat % 0x10000 = 0 → s.rx rs2 ≠ 0 → (s.rx rs2).toNat ≤ 0x800000000 →
      (s.sealLeaves s.th.asid (s.rx rs1) ((s.rx rs2).toNat / 0x10000) none [] = none →
        ∃ t, exec (.seal rd rs1 rs2) s = .next t ∧ Loads s t rd (word (2 ^ 63 + 2)) (s.th.pc + 4)) ∧
      ∀ a leaves, s.sealLeaves s.th.asid (s.rx rs1) ((s.rx rs2).toNat / 0x10000) none [] = some (a, leaves) →
        (inHbmOrGallery a (s.rx rs2).toNat = false →
          ∃ t, exec (.seal rd rs1 rs2) s = .next t ∧ Loads s t rd (word (2 ^ 63 + 2)) (s.th.pc + 4)) ∧
        (inHbmOrGallery a (s.rx rs2).toNat = true →
          (s.inLocket a (s.rx rs2).toNat || s.isHeld a (s.rx rs2).toNat || s.meetsLog a (s.rx rs2).toNat) = true →
          ∃ t, exec (.seal rd rs1 rs2) s = .next t ∧ Loads s t rd (word (2 ^ 63 + 3)) (s.th.pc + 4)) ∧
        (inHbmOrGallery a (s.rx rs2).toNat = true →
          (s.inLocket a (s.rx rs2).toNat || s.isHeld a (s.rx rs2).toNat || s.meetsLog a (s.rx rs2).toNat) = false →
          (64 ≤ s.lockets.length →
            ∃ t, exec (.seal rd rs1 rs2) s = .next t ∧ Loads s t rd (word (2 ^ 63 + 4)) (s.th.pc + 4)) ∧
          (s.lockets.length < 64 →
            ∃ t, exec (.seal rd rs1 rs2) s = .next t ∧ t.rx rd = (if rd = 0 then 0 else word s.lockets.length) ∧
              (∀ r, r ≠ rd → t.rx r = s.rx r) ∧ Retired s t (s.th.pc + 4) ∧ t.inLocket a (s.rx rs2).toNat = true ∧
              afind t.lockets s.lockets.length =
                some { base := a, len := (s.rx rs2).toNat, digest := sha512 (t.readBytes a (s.rx rs2).toNat) } ∧
              (∀ i, i ≠ s.lockets.length → afind t.lockets i = afind s.lockets i) ∧
              (∀ p ∈ leaves, t.readVal p 8 = (word (s.readVal p 8) ||| 0x40).toNat) ∧
              (∀ b, (∀ p ∈ leaves, Apart s b p 8) → t.readByte b = s.readByte b) ∧
              (∀ e, e ∈ t.tlb ↔ e ∈ s.tlb ∧ e.at_ ∉ leaves) ∧
              SameRest s.th { t.th with resv := s.th.resv } ∧ OthersButReservations s t ∧
              ({ t with threads := s.threads, mem := s.mem, poison := s.poison, vague := s.vague, tlb := s.tlb, lockets := s.lockets } : State) =
                s)))) ∧
  (∀ (rd rs1 rs2 : BitVec 5) (s : State), s.Clear [rd, rs1, rs2] →
    (s.th.plogbase.getLsbD 63 = false ∨ s.th.plogIndex = 2 ^ (s.th.plogbase.extractLsb' 56 5).toNat →
      ∃ t, exec (.plog rd rs1 rs2) s = .next t ∧ Writes s t rd (BitVec.allOnes 64) (s.th.pc + 4)) ∧
    (coreOf s.cur < 1024 → s.th.plogbase.getLsbD 63 = true → s.th.plogIndex ≠ 2 ^ (s.th.plogbase.extractLsb' 56 5).toNat → s.released s.cur 1 = true →
      ∃ t, exec (.plog rd rs1 rs2) s = .next t ∧ t.rx rd = (if rd = 0 then 0 else word s.th.plogIndex) ∧ (∀ r, r ≠ rd → t.rx r = s.rx r) ∧
        Retired s t (s.th.pc + 4) ∧ t.th.plogIndex = s.th.plogIndex + 1 ∧
        t.th.plogChain = sha512 (s.th.plogChain ++ s.logRecord (s.rx rs1) (s.rx rs2)) ∧
        Stored s t ((logRegion s.th.plogbase).1 + 32 * s.th.plogIndex) (s.logRecord (s.rx rs1) (s.rx rs2)) ∧
        SameRest s.th { t.th with plogIndex := s.th.plogIndex, plogChain := s.th.plogChain } ∧ OthersButReservations s t ∧ SameMachine s t)) ∧
  (∀ (rs1 : BitVec 5) (s : State), s.Clear [rs1] → s.th.steward = true → s.released s.cur 2 = true →
    ∃ t, exec (.tlbReplay rs1) s = .next t ∧ Retired s t (s.th.pc + 4) ∧ SameRegisters s t ∧ SameMemory s t ∧ SameRest s.th t.th ∧
      OthersButNotes s t ∧ (∀ p ∈ t.parked, dieOf (coreOf p.tid) = dieOf (coreOf s.cur) → s.walk p.asid p.va = .absent) ∧
      (∀ p ∈ s.parked, dieOf (coreOf p.tid) ≠ dieOf (coreOf s.cur) ∨ s.walk p.asid p.va = .absent → p ∈ t.parked) ∧
      (∀ p ∈ t.parked, p ∈ s.parked) ∧
      (s.parked = [] → (t.die (dieOf (coreOf s.cur))).drop = false ∧ ∀ i, i < 8 → (s.rx rs1).getLsbD i = true →
        afind (t.die (dieOf (coreOf s.cur))).faults i = none)) ∧
  ∀ (rs1 rs2 : BitVec 5) (s : State), s.Clear [rs1, rs2] → s.th.steward = true → s.th.mark = none → s.released s.cur 2 = true →
    s.cores.all (fun p => p.2.sb.isEmpty) = true → s.flights = [] → s.posted = [] →
    s.threads.all (fun p => p.2.remote.isNone) = true → s.bank = [] →
    ∃ t, exec (.tlbInv rs1 rs2) s = .next t ∧ Retired s t (s.th.pc + 4) ∧ SameRegisters s t ∧ SameMemory s t ∧ SameRest s.th t.th ∧
      OthersButNotes s t ∧ (∀ e, e ∈ t.tlb ↔ e ∈ s.tlb ∧ invDrops (s.rx rs1) (s.rx rs2) e = false) ∧
      ({ t with threads := s.threads, tlb := s.tlb, nextId := s.nextId } : State) = s

/-- A vector instruction that is legal enters its core's sequencer and retires (R52, R57, R114, R168, R169, R198). -/
def Obligations.VectorIssue : Prop :=
  ∀ (i : Instr) (s : State), isSequenced i = true → s.th.vIllegal i = false → s.th.leased i = none →
    (∀ r ∈ [(vScalars i).1, (vScalars i).2] ++ vopDest i, s.pending s.cur r = false) →
    vMisaligned i (s.rx (vScalars i).1) (s.rx (vScalars i).2) = none → s.acquiring s.cur = false → s.SequencerFree 1 →
    ∃ t, exec i s = .next t ∧
      Sequenced s t [{ instr := i, fmt := if s.th.pfx then s.th.pfxv else s.th.vfmt.extractLsb' 0 5, rm := s.th.vfmt.extractLsb' 5 3,
                       sat := s.th.vfmt.getLsbD 8, chw := s.th.chwin, xa := s.rx (vScalars i).1, xb := s.rx (vScalars i).2,
                       dt := s.th.dtbase, user := !s.th.steward }] 1 0 1 (s.th.pc + 4)

/-- A vector instruction that is illegal, names a leased register or forms a misaligned offset traps at issue (R12, R31, R57,
R59, R169, R185, R191). -/
def Obligations.VectorTrapsAtIssue : Prop :=
  ∀ (i : Instr) (s : State), isSequenced i = true → s.CanTrap →
    (((∃ l, vFormats i = some l ∧ (if s.th.pfx then s.th.pfxv.toNat else s.th.vfmt.toNat % 32) ∉ l) ∨
      (vFormats i = none ∧ s.th.pfx = true) ∨ (s.th.chwin = true ∧ ∃ d ∈ vDests i, 24 ≤ d.toNat) ∨
      (∃ vd vs n kg, i = .gaddr vd vs n kg ∧ (aget 0 s.th.dist n.toNat).getLsbD 63 = false)) →
      ∃ t, exec i s = .next t ∧ TrapTaken s t 0 (s.ir.zeroExtend 64)) ∧
    (s.th.vIllegal i = false → ∀ r, s.th.leased i = some r → ∃ t, exec i s = .next t ∧ TrapTaken s t 4 (r.zeroExtend 64)) ∧
    (s.th.vIllegal i = false → s.th.leased i = none → (∀ r ∈ [(vScalars i).1, (vScalars i).2] ++ vopDest i, s.pending s.cur r = false) →
      ∀ o, vMisaligned i (s.rx (vScalars i).1) (s.rx (vScalars i).2) = some o → ∃ t, exec i s = .next t ∧ TrapTaken s t 1 o)

/-- The sequencer computes integer lane operations lane by lane under the governing predicate (R39, R40, R43, R165, R166, R168,
R171, R173). -/
def Obligations.IntegerLanes : Prop :=
  ∀ row ∈ laneRows, ∀ (vd vs1 vs2 : BitVec 5) (kg : BitVec 3) (s : State) (tid : Nat) (it : SeqItem) (o : VOp), s.OldestIs tid it o →
    o.instr = row.1 vd vs1 vs2 kg → o.fmt.toNat ∈ [5, 6, 7, 8, 9] → (o.fmt.toNat = 6 → row.1 vd vs1 vs2 kg ≠ .vsra vd vs1 vs2 kg) →
    ∃ t, exec (.vectorSequencerExecute tid) s = .next t ∧ LeftSequencer s t it ∧ SameControl s t ∧ SameMemory s t ∧
      (t.thread tid).vflags = (s.thread tid).vflags ∧ (t.thread tid).k = (s.thread tid).k ∧
      (∀ r, r ≠ vd → (t.thread tid).rv r = (s.thread tid).rv r) ∧ (∀ k, k ≠ tid → t.thread k = s.thread k) ∧
      ∀ i, i < 1024 / codeWidth o.fmt.toNat →
        lane ((t.thread tid).rv vd) (codeWidth o.fmt.toNat) i =
          if ((s.thread tid).rk kg).getLsbD (i * (codeWidth o.fmt.toNat / 8)) then
            wrapTo (codeWidth o.fmt.toNat) (row.2 o.fmt.toNat (lane ((s.thread tid).rv vs1) (codeWidth o.fmt.toNat) i)
              (lane ((s.thread tid).rv vs2) (codeWidth o.fmt.toNat) i))
          else lane ((s.thread tid).rv vd) (codeWidth o.fmt.toNat) i

/-- Compares of integer lanes write the truth of active lanes, in all bits of the lane, and zero for the others (R40, R166,
R173, R178). -/
def Obligations.IntegerCompares : Prop :=
  ∀ row ∈ compareRows, ∀ (kd : BitVec 3) (vs1 vs2 : BitVec 5) (kg : BitVec 3) (s : State) (tid : Nat) (it : SeqItem) (o : VOp),
    s.OldestIs tid it o → o.instr = row.1 kd vs1 vs2 kg → o.fmt.toNat ∈ [5, 6, 7, 8, 9] → kd ≠ 0 →
    ∃ t, exec (.vectorSequencerExecute tid) s = .next t ∧ LeftSequencer s t it ∧ SameControl s t ∧ SameMemory s t ∧
      (t.thread tid).vflags = (s.thread tid).vflags ∧ (t.thread tid).v = (s.thread tid).v ∧
      (∀ q, q ≠ kd → (t.thread tid).rk q = (s.thread tid).rk q) ∧
      ∀ i b, i < 1024 / codeWidth o.fmt.toNat → b < codeWidth o.fmt.toNat / 8 →
        (((t.thread tid).rk kd).getLsbD (i * (codeWidth o.fmt.toNat / 8) + b) = true ↔
          ((s.thread tid).rk kg).getLsbD (i * (codeWidth o.fmt.toNat / 8)) = true ∧
          row.2 o.fmt.toNat (lane ((s.thread tid).rv vs1) (codeWidth o.fmt.toNat) i) (lane ((s.thread tid).rv vs2) (codeWidth o.fmt.toNat) i))

/-- KCOUNT, KFIRST and VWIDTH write their x register when they complete (R34, R167, R168, R180). -/
def Obligations.PredicateResultsInX : Prop :=
  ∀ (rd : BitVec 5) (ks kg : BitVec 3) (s : State) (tid : Nat) (it : SeqItem) (o : VOp), s.OldestIs tid it o → o.fmt.toNat < 10 →
    (o.instr = .kcount rd ks kg ∨ o.instr = .kfirst rd ks kg ∨ o.instr = .vwidth rd) →
    ∃ t, exec (.vectorSequencerExecute tid) s = .next t ∧ LeftSequencer s t it ∧ SameMemory s t ∧
      (t.thread tid).rx rd = (if rd = 0 then 0 else
        (let w := codeWidth o.fmt.toNat
         let l := (List.range (1024 / w)).filter fun i =>
           ((s.thread tid).rk kg).getLsbD (i * (w / 8)) && ((s.thread tid).rk ks).getLsbD (i * (w / 8))
         if o.instr = .kcount rd ks kg then word l.length else if o.instr = .kfirst rd ks kg then word (l.headD (1024 / w)) else 1024)) ∧
      (∀ r, r ≠ rd → (t.thread tid).rx r = (s.thread tid).rx r) ∧ (t.thread tid).v = (s.thread tid).v ∧ (t.thread tid).k = (s.thread tid).k ∧
      (t.thread tid).vflags = (s.thread tid).vflags ∧ (∀ k, k ≠ tid → t.thread k = s.thread k)

/-- VLD fills the active byte lanes from the scratchpad and VST writes them there (R65, R166, R169, R186). -/
def Obligations.VectorLoadsAndStores : Prop :=
  ∀ (vd rs1 imm : BitVec 5) (kg : BitVec 3) (s : State) (tid : Nat) (it : SeqItem) (o : VOp), s.OldestIs tid it o →
    (o.xa.toNat + (s64 (imm.toInt * 128)).toNat) % 4 = 0 → s.poison = [] → s.lockets = [] →
    let at_ := fun i : Nat => spadBase (coreOf tid) + (o.xa.toNat + (s64 (imm.toInt * 128)).toNat + i) % 0x100000
    (o.instr = .vld vd rs1 imm kg → (∀ e ∈ (s.core (coreOf tid)).sb, e.path ≠ .own) → (∀ e ∈ (s.thread tid).early, e.path ≠ .own) →
      ∃ t, exec (.vectorSequencerExecute tid) s = .next t ∧ LeftSequencer s t it ∧ SameControl s t ∧ SameMemory s t ∧
        (∀ r, r ≠ vd → (t.thread tid).rv r = (s.thread tid).rv r) ∧ (t.thread tid).k = (s.thread tid).k ∧
        ∀ i, i < 128 → lane ((t.thread tid).rv vd) 8 i =
          if ((s.thread tid).rk kg).getLsbD i then (s.readByte (at_ i)).toNat else lane ((s.thread tid).rv vd) 8 i) ∧
    (o.instr = .vst vd rs1 imm kg →
      ∃ t, exec (.vectorSequencerExecute tid) s = .next t ∧ LeftSequencer s t it ∧ SameControl s t ∧
        (t.thread tid).v = (s.thread tid).v ∧ (t.thread tid).k = (s.thread tid).k ∧ (t.thread tid).vflags = (s.thread tid).vflags ∧
        (∀ i, i < 128 → ((s.thread tid).rk kg).getLsbD i = true →
          (t.readByte (at_ i)).toNat = lane ((s.thread tid).rv vd) 8 i) ∧
        ∀ b, (∀ i, i < 128 → ((s.thread tid).rk kg).getLsbD i = true → s.keep b ≠ s.keep (at_ i)) → t.readByte b = s.readByte b)

/-- The worked conversions of R50 give their results and flags (R50, R193). -/
def Obligations.WorkedConversions : Prop :=
  convertLane 0 2 0 false 0x3E99999A = (0x2A, 1) ∧ convertLane 0 2 1 false 0x3E99999A = (0x29, 1) ∧
  (∀ rm ∈ [0, 1, 2, 3], convertLane 0 2 rm false 0x3B800000 = (0x02, 0) ∧ convertLane 0 2 rm false 0x447A0000 = (0x7E, 5)) ∧
  convertLane 0 3 0 false 0x4788B800 = (0x7C, 5) ∧ convertLane 0 3 0 true 0x4788B800 = (0x7B, 5) ∧
  convertLane 0 1 0 false 0x3F808000 = (0x3F80, 1) ∧ convertLane 0 1 0 false 0x3F818000 = (0x3F82, 1)

/-- VLDG leases its register and its lanes land; VSTG writes its lanes; LWAIT waits for leases (R190, R191, R192, R203, R168). -/
def Obligations.GathersAndScatters : Prop :=
  (∀ (store : Bool) (vd vs1 : BitVec 5) (sz : BitVec 2) (kg : BitVec 3) (s : State),
    let i := if store then Instr.vstg vd vs1 sz kg else .vldg vd vs1 sz kg
    let lanes := (List.range 16).filter fun n => (s.th.rk kg).getLsbD (8 * n)
    s.th.vIllegal i = false → s.th.leased i = none → (s.core (coreOf s.cur)).sb.all (fun e => e.tid != s.cur) = true →
    s.acquiring s.cur = false → s.th.chwin = false → s.SequencerFree 1 →
    (∀ it ∈ s.seqOf s.cur, ∀ o ∈ it.ops, vs1 ∉ vDests o.instr ∧ (kg ≠ 0 → vPredDest o.instr ≠ kg)) →
    (∀ n ∈ lanes, lane (s.th.rv vs1) 64 n % 2 ^ sz.toNat = 0 ∧ lane (s.th.rv vs1) 64 n < 2 ^ 64 - 1) →
    ∃ t j, exec i s = .next t ∧ t.th.jobs = s.th.jobs ++ [j] ∧ j.id = s.nextId ∧ j.store = store ∧ j.vreg = vd ∧ j.size = 2 ^ sz.toNat ∧
      j.begun = false ∧ j.lanes.map (fun l => (l.1, l.2.1)) = lanes.map (fun n => (n, word (lane (s.th.rv vs1) 64 n))) ∧
      t.core (coreOf s.cur) = { s.core (coreOf s.cur) with seq := (s.core (coreOf s.cur)).seq ++
        [{ id := s.nextId, tid := s.cur, ops := [s.capture i], iters := 1, j := 0, at_ := 0, step := 0, entries := 1 }] } ∧
      SameRegisters s t ∧ Retired s t (s.th.pc + 4) ∧ SameRest s.th { t.th with jobs := s.th.jobs } ∧ OtherThreads s t ∧ SameMemory s t) ∧
  (∀ (store : Bool) (vd vs1 : BitVec 5) (sz : BitVec 2) (kg : BitVec 3) (s : State) (tid : Nat) (it : SeqItem) (o : VOp) (j : LaneJob),
    s.OldestIs tid it o → o.instr = (if store then Instr.vstg vd vs1 sz kg else .vldg vd vs1 sz kg) →
    (s.thread tid).jobs.filter (fun k => k.id == it.id) = [j] → j.store = store → j.vreg = vd → j.lanes ≠ [] →
    ∃ t k, exec (.vectorSequencerExecute tid) s = .next t ∧ LeftSequencer s t it ∧ SameControl s t ∧ SameMemory s t ∧
      (t.thread tid).jobs.filter (fun k => k.id == it.id) = [k] ∧ k.begun = true ∧ k.lanes.map (fun l => (l.1, l.2.1)) =
        j.lanes.map (fun l => (l.1, l.2.1)) ∧
      (store = true → ∀ l ∈ k.lanes, l.2.2 = lane ((s.thread tid).rv vd) (8 * j.size) l.1) ∧
      (∀ r, r ≠ vd → (t.thread tid).rv r = (s.thread tid).rv r) ∧
      ((t.thread tid).rv vd).toNat =
        (if store then ((s.thread tid).rv vd).toNat else ((s.thread tid).rv vd).toNat % 2 ^ (128 * j.size))) ∧
  (∀ (s u : State) (tid n : Nat) (va : Word) (v a pa : Nat) (j : LaneJob) (path : Path), s.ready = true →
    (s.thread tid).jobs.find? (fun k => k.id == j.id) = some j → j.lanes.find? (fun l => l.1 == n) = some (n, va, v) →
    j.begun = true → s.engParkedAt j.id va = false → va ≠ BitVec.allOnes 64 → j.size ∈ [1, 2, 4, 8] → n < 16 →
    (j.store = false → s.reach tid j.user va j.size { r := true } = (u, .at_ (.mem a) path pa) → u.isPoisoned a j.size = false →
      u.portShut (coreOf tid) a = false → u.ctlLane tid (some j.id) = false → u.behind tid path pa j.size = false →
      earlyOf (u.thread tid).early path pa j.size = none →
      ∃ t, exec (.leaseLaneLand tid j.id n) s = .next t ∧ SameMemory u t ∧ (∀ r, r ≠ j.vreg → (t.thread tid).rv r = (s.thread tid).rv r) ∧
        (t.thread tid).x = (s.thread tid).x ∧
        (∀ i, i < 1024 / (8 * j.size) → lane ((t.thread tid).rv j.vreg) (8 * j.size) i =
          if i = n then leNat (u.readBytes a j.size) else lane ((s.thread tid).rv j.vreg) (8 * j.size) i) ∧
        ∀ k ∈ (t.thread tid).jobs, k.id = j.id → ∀ l ∈ k.lanes, l.1 ≠ n) ∧
    (j.store = true → j.hit = [] → s.reach tid j.user va j.size { w := true } = (u, .at_ (.mem a) path pa) → a % 64 + j.size ≤ 64 →
      u.portShut (coreOf tid) a = false → u.ctlLane tid (some j.id) = false →
      ∃ t, exec (.leaseLaneLand tid j.id n) s = .next t ∧ Stored u t a (leBytes v j.size) ∧
        (t.thread tid).v = (s.thread tid).v ∧ (t.thread tid).x = (s.thread tid).x)) ∧
  ∀ s : State, s.Clear [] → (s.th.jobs.all (fun j => j.store) = true → ∃ t, exec .lwait s = .next t ∧ GoesTo s t (s.th.pc + 4)) ∧
    (s.th.jobs.any (fun j => !j.store) = true → exec .lwait s = .next s)

/-- VFLIGHT captures its body and goes on behind it (R200, R168, R31). -/
def Obligations.FlightsEnterTheSequencer : Prop :=
  ∀ (n : BitVec 4) (rs1 rs2 : BitVec 5) (s u : State), s.Clear [rs1, rs2] → u.cur = s.cur →
    (∀ l, s.readBody (s.th.pc + 4) n.toNat = .got u l →
      ((s.rx rs2).toNat % 4 ≠ 0 → u.CanTrap → ∃ t, exec (.vflight n rs1 rs2) s = .next t ∧ TrapTaken u t 1 (s.rx rs2)) ∧
      ((s.rx rs2).toNat % 4 = 0 → (∀ i ∈ l, u.th.leased i = none ∧ vMisaligned i (u.rx (vScalars i).1) (u.rx (vScalars i).2) = none ∧
          ∀ r ∈ [(vScalars i).1, (vScalars i).2] ++ vopDest i, u.pending u.cur r = false) →
        u.acquiring u.cur = false → u.SequencerFree (l.length + 1) →
        ∃ t, exec (.vflight n rs1 rs2) s = .next t ∧
          Sequenced u t (l.map u.capture) ((s.rx rs1).toNat % 2 ^ 32) (s.rx rs2) (l.length + 1) (u.th.pc + word (4 * (l.length + 1))))) ∧
    (s.readBody (s.th.pc + 4) n.toNat = .illegal u → u.CanTrap →
      ∃ t, exec (.vflight n rs1 rs2) s = .next t ∧ TrapTaken u t 0 (u.ir.zeroExtend 64))

/-- The matrix instructions act at issue or enter the matrix queue with their claims and tickets (R205, R206, R207, R208, R212,
R215, R216, R217, R218, R221, R222, R228). The hypotheses groupNeeds and GroupSlotsOk of MGROUP (what a group of no tiles needs)
are the model's choice (log 60); that no tile of a ring is available while an MRING.FREE of it is queued, in MRING.DROP's count
and the readers' hypotheses, is its reading of R218 (log 61). -/
def Obligations.MatrixCommandsIssue : Prop :=
  (∀ (rd rs1 rs2 : BitVec 5) (s : State), s.Clear [rd, rs1, rs2] →
    let c := s.core (coreOf s.cur)
    let r := (s.rx rs1).toNat
    let w := s.rx rs2
    let g : Ring := { base := (w.extractLsb' 8 12).toNat * 256, wide := w.getLsbD 20, slots := (w.extractLsb' 24 4).toNat + 1,
                      owner := s.th.asid, head := 0, claim := 0, tail := 0 }
    (r ≤ 7 → w.extractLsb' 28 36 = 0 → w.extractLsb' 21 3 = 0 → w.extractLsb' 0 8 = 0 → g.base + g.size * g.slots ≤ 0x100000 →
      (∀ q, afind c.rings r = some q → q.tail = q.head ∧ q.claim = q.head ∧ (q.owner = g.owner ∨ c.holdsAlloc q.owner = false)) →
      ∃ t, exec (.mringCfg rd rs1 rs2) s = .next t ∧ Acts s t rd (word g.base) ∧ SameRest s.th t.th ∧ SameElsewhere s t ∧
        afind (t.core (coreOf s.cur)).rings r = some g ∧ (∀ q, q ≠ r → afind (t.core (coreOf s.cur)).rings q = afind c.rings q) ∧
        ({ t.core (coreOf s.cur) with rings := c.rings } : Core) = c) ∧
    (r ≤ 7 → c.mq.length < 16 → (∃ q, afind c.rings r = some q ∧ q.owner = s.th.asid) → min w.toNat (2 ^ 32 - 1) ≤ c.available r →
      ∃ t, exec (.mringDrop rd rs1 rs2) s = .next t ∧ Acts s t rd (word (c.available r - min w.toNat (2 ^ 32 - 1))) ∧
        SameRest s.th t.th ∧ SameElsewhere s t ∧ (t.core (coreOf s.cur)).lands = c.lands ∧
        MatQueued s t (.drop r (min w.toNat (2 ^ 32 - 1))) false none fun q => if q = r then min w.toNat (2 ^ 32 - 1) else 0)) ∧
  (∀ (rd rs1 : BitVec 5) (s : State), s.Clear [rd, rs1] →
    let c := s.core (coreOf s.cur)
    let w := s.rx rs1
    let r := w.toNat
    (∀ g, r ≤ 7 → afind c.rings r = some g → g.owner = s.th.asid → s.released s.cur 0 = true → s.acquiring s.cur = false →
      ∃ t, exec (.mringPush rd rs1) s = .next t ∧ SameRest s.th t.th ∧ SameElsewhereButNotes s t ∧
        Acts s t rd (if g.occupied = g.slots then BitVec.ofNat 64 (2 ^ 63) ||| word (g.slotAt g.tail) else word (g.slotAt (g.tail + 1))) ∧
        (∀ q, afind (t.core (coreOf s.cur)).rings q =
          if q = r ∧ g.occupied ≠ g.slots then some { g with tail := g.tail + 1 } else afind c.rings q) ∧
        ({ t.core (coreOf s.cur) with rings := c.rings } : Core) = c) ∧
    (r ≤ 7 → c.mq.length < 16 → (∃ q, afind c.rings r = some q ∧ q.owner = s.th.asid) →
      ∃ t, exec (.mringFree rd rs1) s = .next t ∧ SameRegisters s t ∧ Retired s t (s.th.pc + 4) ∧ SameMemory s t ∧
        SameButResults s.th t.th ∧ Awaits s t .ringFree [rd] none ∧ SameElsewhere s t ∧ (t.core (coreOf s.cur)).lands = c.lands ∧
        MatQueued s t (.free r s.nextId) false none fun _ => 0) ∧
    (w.extractLsb' 2 2 = 0 → w.extractLsb' 5 3 = 0 → w.extractLsb' 9 55 = 0 → c.mq.length < 16 →
      (c.land (w.extractLsb' 4 1).toNat).state = .free → (c.slotState (w.extractLsb' 0 2).toNat).2 = some s.th.asid →
      ∃ t, exec (.mread rd rs1) s = .next t ∧ Acts s t rd (c.ticket.zeroExtend 64) ∧ SameButResults s.th t.th ∧
        Awaits s t .landing [] none ∧ SameElsewhere s t ∧
        MatQueued s t (.read (w.extractLsb' 0 2).toNat (w.extractLsb' 4 1).toNat (w.getLsbD 8)) true none (fun _ => 0) ∧
        ((t.core (coreOf s.cur)).land (w.extractLsb' 4 1).toNat).state = .filling ∧
        ((t.core (coreOf s.cur)).land (w.extractLsb' 4 1).toNat).owner = some s.th.asid ∧
        ∀ n, n ≠ (w.extractLsb' 4 1).toNat → (t.core (coreOf s.cur)).land n = c.land n) ∧
    (∀ k g, s.th.card = some k → k.seat.isSome = true → afind s.groups k.group = some g → 2 ≤ g.level → 7 ≤ g.cgr →
      (w.getLsbD 0 = true → ∀ i, i < 4 → 4 * coreOf s.cur + i ≠ s.cur → (s.thread (4 * coreOf s.cur + i)).gang = false) →
      ∃ t, exec (.mgang rd rs1) s = .next t ∧ Acts s t rd (if s.th.gang then 1 else 0) ∧ t.th.gang = w.getLsbD 0 ∧
        SameRest s.th { t.th with gang := s.th.gang } ∧ OnlyThread s t)) ∧
  (∀ (rs1 : BitVec 5) (s : State), s.Clear [rs1] →
    let c := s.core (coreOf s.cur)
    let w := s.rx rs1
    (w.extractLsb' 4 60 = 0 → c.mq.length < 16 → (∀ n, n < 4 → w.getLsbD n = true → c.mayZero n s.th.asid = true) →
      ∃ t, exec (.mzero rs1) s = .next t ∧ GoesTo { s with cores := t.cores } t (s.th.pc + 4) ∧ SameElsewhere s t ∧
        (t.core (coreOf s.cur)).lands = c.lands ∧ MatQueued s t (.zero (w.extractLsb' 0 4)) false none fun _ => 0) ∧
    (c.mq = [] ∨ ((∀ o ∈ c.mq, o.ticket ≠ some (w.extractLsb' 0 32)) ∧ (c.ticket - 1 - w.extractLsb' 0 32).toNat < 2 ^ 31) →
      ∃ t, exec (.mwait rs1) s = .next t ∧ SameRegisters s t ∧ Retired s t (s.th.pc + 4) ∧ t.th.vflags = s.th.vflags ||| s.th.mflags ∧
        t.th.mflags = 0 ∧ SameRest s.th { t.th with vflags := s.th.vflags, mflags := s.th.mflags } ∧ OnlyThreadButNotes s t ∧ SameMemory s t) ∧
    ((∃ o ∈ c.mq, o.ticket = some (w.extractLsb' 0 32)) → exec (.mwait rs1) s = .next s.setMark ∧ s.setMark.th.pc = s.th.pc) ∧
    (16 ≤ c.mq.length → exec (.mzero rs1) s = .next s)) ∧
  (∀ (rd rs1 : BitVec 5) (s : State), s.pending s.cur rd = false → s.pending s.cur rs1 = false →
    let c := s.core (coreOf s.cur)
    let w := s.rx rs1
    let code := if s.th.pfx then s.th.pfxv.toNat else s.th.mfmt.toNat % 32
    let ar := (w.extractLsb' 0 4).toNat
    let br := (w.extractLsb' 4 4).toNat
    let slot := (w.extractLsb' 8 2).toNat
    let an := if s.gangOf.2 then 1 else 0
    let op : MmaOp := { fmt := code, aring := ar, bring := br, slot := slot, adir := w.getLsbD 12, bdir := w.getLsbD 13,
                        atile := c.claimed ar, btile := c.claimed br, sparse := false, keep := 64, bhalf := 0, popb := true, idx := [] }
    1 ≤ code → code ≤ 6 → c.mq.length < 16 → w.extractLsb' 16 48 = 0 → SlotOk s slot code →
    (ReaderOk s ar an [(br, w.getLsbD 13, 1)] false → w.extractLsb' 14 2 = 0 → w.extractLsb' 10 2 = 0 →
      ∃ t, exec (.mma rd rs1) s = .next t ∧ Acts s t rd (c.ticket.zeroExtend 64) ∧ SameRest s.th t.th ∧ SameElsewhere s t ∧
        (t.core (coreOf s.cur)).lands = c.lands ∧
        MatQueued s t (.mma op) true s.gangOf.1 fun r => if r = ar then an else if r = br then 1 else 0) ∧
    ∀ (vm : BitVec 5), ReaderOk s ar an [(br, w.getLsbD 13, 1)] (!w.getLsbD 11) → code ≠ 4 → (w.extractLsb' 14 2).toNat ≤ 1 → s.seqOf s.cur = [] →
      let h := if (w.extractLsb' 14 2).toNat = 1 then 2 else 1
      let n := if w.getLsbD 11 then 1 else 0
      vm.toNat % (4 * h) = 0 → (s.th.chwin = true → vm.toNat + 4 * h ≤ 24) →
      (∀ i, i < 4 * h → ∀ j ∈ s.th.jobs, j.store = true ∨ j.vreg ≠ vm + BitVec.ofNat 5 i) → (s.gangOf.2 = true → MetaOk s.th vm h) →
      ∃ t idx, exec (.mmaSp rd rs1 vm) s = .next t ∧ Acts s t rd (c.ticket.zeroExtend 64) ∧ SameRest s.th t.th ∧ SameElsewhere s t ∧
        (s.gangOf.2 = true → idx = (List.range 64).map fun r => (List.range (8 * h)).map (metaIdx s.th vm h r)) ∧
        MatQueued s t (.mma { op with sparse := true, keep := 8 * h, bhalf := if w.getLsbD 10 then 1 else 0, popb := w.getLsbD 11, idx := idx })
          true s.gangOf.1 fun r => if r = ar then an else if r = br then n else 0) ∧
  (∀ (rd rs1 rs2 : BitVec 5) (s : State) (ws : List Word), [rd, rs1, rs2].any (s.pending s.cur) = false →
    let c := s.core (coreOf s.cur)
    let w := s.rx rs1
    let code := if s.th.pfx then s.th.pfxv.toNat else s.th.mfmt.toNat % 32
    let ar := (w.extractLsb' 0 4).toNat
    let off := (s.rx rs2).toNat % 0x100000
    let rows := ws.map tableRow
    1 ≤ code → code ≤ 6 → c.mq.length < 16 → s.performed s.cur = true → s.acquiring s.cur = false → s.th.gang = false →
    w.extractLsb' 4 8 = 0 → w.extractLsb' 13 51 = 0 → off % 8 = 0 → 1 ≤ ws.length → ws.length ≤ 16 →
    leNat (s.spadRead (coreOf s.cur) off 8) = ws.length → (∀ x ∈ ws, tableRowBad x = false) →
    (∀ i, i < ws.length → leNat (s.spadRead (coreOf s.cur) (off + 8 * (i + 1)) 8) = (ws.getD i 0).toNat) →
    ReaderOk s ar (rows.map (·.count)).sum (groupNeeds rows) false → GroupSlotsOk s rows code →
    ∃ t, exec (.mgroup rd rs1 rs2) s = .next t ∧ Acts s t rd (c.ticket.zeroExtend 64) ∧ SameRest s.th t.th ∧ SameElsewhere s t ∧
      MatQueued s t (.group code ar (w.getLsbD 12) rows) true none
        fun r => if r = ar then (rows.map (·.count)).sum else ringNeed rows r) ∧
  (∀ (vd rs1 rs2 : BitVec 5) (s : State), s.Clear [rs1, rs2] →
    let w := s.rx rs1
    let l := (s.core (coreOf s.cur)).land (w.extractLsb' 0 1).toNat
    let op (i : Instr) (b : Word) : VOp := { instr := i, fmt := s.th.vfmt.extractLsb' 0 5, rm := s.th.vfmt.extractLsb' 5 3,
                                             sat := s.th.vfmt.getLsbD 8, chw := s.th.chwin, xa := w, xb := b, dt := s.th.dtbase, user := !s.th.steward }
    w.extractLsb' 3 5 = 0 → w.extractLsb' 18 46 = 0 → l.state ≠ .free → l.owner = some s.th.asid → s.acquiring s.cur = false →
    s.SequencerFree 1 →
    (w.getLsbD 1 = true → (w.extractLsb' 8 10).toNat < 256 → (s.th.chwin = true → vd.toNat < 24) →
      (∀ j ∈ s.th.jobs, j.store = true ∨ j.vreg ≠ vd) →
      ∃ t, exec (.mcommitVector vd rs1) s = .next t ∧ Sequenced s t [op (.mcommitVector vd rs1) 0] 1 0 1 (s.th.pc + 4)) ∧
    (w.getLsbD 1 = false → (s.rx rs2).toNat % 256 = 0 →
      ∃ t, exec (.mcommitScratchpad rs1 rs2) s = .next t ∧
        Sequenced s t [op (.mcommitScratchpad rs1 rs2) (s.rx rs2)] 1 0 1 (s.th.pc + 4)))

/-- The matrix engine multiplies tiles, pops them and transfers results as its operations say (R205, R206, R207, R209, R212,
R220, R221, R223, R225, R226, R227). -/
def Obligations.MatrixEngineSteps : Prop :=
  (∀ (s : State) (core : Nat) (o : MatOp) (q : List MatOp) (m : MmaOp) (a b : Ring), (s.core core).mq = o :: q → o.gang = none →
    o.kind = .mma m → (∀ p ∈ q, p.id ≠ o.id) → o.k = 0 → m.fmt ∈ [1, 2, 3, 5, 6] → afind (s.core core).rings m.aring = some a →
    afind (s.core core).rings m.bring = some b → m.aring ≠ m.bring → ((s.core core).acc m.slot).all.length = 8192 → SparseOk m →
    ∃ t, exec (.matrixQueueExecute core) s = .next t ∧ MatrixStep s t core ∧ (t.core core).mq = q ∧ (t.core core).lands = (s.core core).lands ∧
      Multiplied (s.core core) (t.core core) m (s.aElem core a m) (s.bElem core b m) ∧
      Popped (s.core core) (t.core core) fun r => if r = m.aring then 1 else if r = m.bring ∧ m.popb = true then 1 else 0) ∧
  (∀ (s : State) (core : Nat) (o : MatOp) (q : List MatOp) (code ar : Nat) (adir : Bool) (g : GroupRow) (rest : List GroupRow) (a b : Ring),
    (s.core core).mq = o :: q → o.gang = none → o.kind = .group code ar adir (g :: rest) → (∀ p ∈ q, p.id ≠ o.id) → o.k = 0 → 0 < g.count →
    code ∈ [1, 2, 3, 5, 6] → afind (s.core core).rings ar = some a → afind (s.core core).rings g.bring = some b → ar ≠ g.bring →
    ((s.core core).acc g.slot).all.length = 8192 →
    let m : MmaOp := { fmt := code, aring := ar, bring := g.bring, slot := g.slot, adir := adir, bdir := g.bdir, atile := a.head,
                       btile := b.head, sparse := false, keep := 64, bhalf := 0, popb := true, idx := [] }
    let zeroed : Core := if g.clr then { s.core core with accs := aput (s.core core).accs g.slot { kind := .empty, owner := some o.asid, cells := [] } }
      else s.core core
    ∃ t, exec (.matrixQueueExecute core) s = .next t ∧ MatrixStep s t core ∧
      Multiplied zeroed (t.core core) m (s.aElem core a m) (s.bElem core b m) ∧
      (Popped (s.core core) (t.core core) fun r => if r = ar then 1 else if r = g.bring then 1 else 0) ∧
      (g.count = 1 → rest = [] → (t.core core).mq = q) ∧
      (¬(g.count = 1 ∧ rest = []) → ∃ o', (t.core core).mq = o' :: q ∧ o'.id = o.id ∧ o'.tid = o.tid ∧ o'.ticket = o.ticket ∧
        o'.kind = .group code ar adir (if g.count = 1 then rest else { g with count := g.count - 1, clr := false } :: rest))) ∧
  (∀ (s : State) (core : Nat) (o : MatOp) (q : List MatOp), (s.core core).mq = o :: q → o.gang = none → (∀ p ∈ q, p.id ≠ o.id) →
    (∀ acc l clr, o.kind = .read acc l clr →
      ∃ t, exec (.matrixQueueExecute core) s = .next t ∧ MatrixStep s t core ∧ (t.core core).mq = q ∧ (t.core core).rings = (s.core core).rings ∧
        ((t.core core).land l).state = .moving ∧ ((t.core core).land l).owner = ((s.core core).land l).owner ∧
        ((t.core core).land l).data.length = ((s.core core).acc acc).all.length ∧
        (∀ n, n < ((s.core core).acc acc).all.length → ((t.core core).land l).data.getD n 0 =
          (let w := ((s.core core).acc acc).all.getD n 0
           if ((s.core core).acc acc).kind = .int then wrapTo 32 (clampTo 8 (w.extractLsb' 0 48).toInt)
           else (fp32.add 0 false (fp32.decode (w.toNat % 2 ^ 32)) (fp32.decode (w.toNat / 2 ^ 32))).1)) ∧
        (∀ n, n ≠ acc → (t.core core).acc n = (s.core core).acc n) ∧
        (t.core core).acc acc = if clr then { kind := .empty, owner := some o.asid, cells := [] } else (s.core core).acc acc) ∧
    (∀ mask, o.kind = .zero mask →
      ∃ t, exec (.matrixQueueExecute core) s = .next t ∧ MatrixStep s t core ∧ (t.core core).mq = q ∧ (t.core core).rings = (s.core core).rings ∧
        ∀ n, (t.core core).acc n =
          if n < 4 ∧ mask.getLsbD n = true then { kind := .empty, owner := some o.asid, cells := [] } else (s.core core).acc n) ∧
    (∀ r n, o.kind = .drop r n →
      ∃ t, exec (.matrixQueueExecute core) s = .next t ∧ MatrixStep s t core ∧ (t.core core).mq = q ∧ (t.core core).accs = (s.core core).accs ∧
        Popped (s.core core) (t.core core) fun x => if x = r then n else 0) ∧
    (∀ r out g, o.kind = .free r out → afind (s.core core).rings r = some g →
      ∃ t, exec (.matrixQueueExecute core) s = .next t ∧ EngineStep s t (· = core) (· = o.tid) ∧ (t.core core).mq = q ∧
        (t.core core).accs = (s.core core).accs ∧ (t.core core).lands = (s.core core).lands ∧ afind (t.core core).rings r = some { g with head := g.tail, claim := g.tail } ∧
        (∀ x, x ≠ r → afind (t.core core).rings x = afind (s.core core).rings x) ∧
        (t.thread o.tid).outs = (s.thread o.tid).outs.map (fun u => if u.id = out then { u with vals := some [word (g.tail - g.head).toNat] } else u))) ∧
  (∀ (s : State) (row : Nat) (hd : Nat → MatOp × MmaOp) (rg : Nat → Ring × Ring), (∀ i, i < 8 →
      let c := s.core (8 * row + i)
      (∃ q, c.mq = (hd i).1 :: q ∧ ∀ p ∈ q, p.id ≠ (hd i).1.id) ∧ (hd i).1.arrived = true ∧ (hd i).1.k = 0 ∧ (hd i).1.kind = .mma (hd i).2 ∧
      (hd i).1.gang = (hd 0).1.gang ∧ (hd i).2.fmt = (hd 0).2.fmt ∧ afind c.rings (hd i).2.bring = some (rg i).2 ∧
      (i = 0 → afind c.rings (hd i).2.aring = some (rg i).1 ∧ (hd 0).2.aring ≠ (hd 0).2.bring) ∧ (c.acc (hd i).2.slot).all.length = 8192) →
    (hd 0).2.fmt ∈ [1, 2, 3, 5, 6] → (hd 0).2.sparse = false →
    ∃ t, exec (.gangClaspClose row) s = .next t ∧ EngineStep s t (fun c => c / 8 = row) (fun _ => False) ∧
      ∀ i, i < 8 → (t.core (8 * row + i)).lands = (s.core (8 * row + i)).lands ∧ (t.core (8 * row + i)).mq = (s.core (8 * row + i)).mq.drop 1 ∧
        Multiplied (s.core (8 * row + i)) (t.core (8 * row + i)) { (hd i).2 with sparse := false } (s.aElem (8 * row) (rg 0).1 (hd 0).2)
          (s.bElem (8 * row + i) (rg i).2 (hd i).2) ∧
        Popped (s.core (8 * row + i)) (t.core (8 * row + i)) fun r =>
          (if i = 0 ∧ r = (hd 0).2.aring then 1 else 0) + if r = (hd i).2.bring ∧ (hd i).2.popb = true then 1 else 0) ∧
  (∀ (s : State) (core slot sub : Nat) (o : MatOp) (q : List MatOp), (s.core core).mq = o :: q → o.gang = some (slot, sub) → o.arrived = false →
    (∀ p ∈ q, p.id ≠ o.id) → s.waitsAt { slot := slot, level := 2, sub := sub } = false →
    ∃ t, exec (.matrixQueueExecute core) s = .next t ∧ MatrixStep s t core ∧ (t.core core).mq = { o with arrived := true } :: q ∧
      (t.core core).rings = (s.core core).rings ∧ (t.core core).accs = (s.core core).accs) ∧
  ∀ (s : State) (core slot : Nat), ((s.core core).land slot).state = .moving →
    ∃ t, exec (.landingTransferDone core slot) s = .next t ∧ EngineStep s t (· = core) (· = ((s.core core).land slot).tid) ∧
      (∀ k, (t.thread k).mflags = (s.thread k).mflags) ∧ (t.core core).mq = (s.core core).mq ∧ (t.core core).rings = (s.core core).rings ∧
      (t.core core).accs = (s.core core).accs ∧ (∀ n, n ≠ slot → (t.core core).land n = (s.core core).land n) ∧ ((t.core core).land slot).state = .full ∧
      ((t.core core).land slot).data = ((s.core core).land slot).data ∧ ((t.core core).land slot).owner = ((s.core core).land slot).owner ∧
      (t.thread ((s.core core).land slot).tid).outs =
        (s.thread ((s.core core).land slot).tid).outs.filter (fun u => u.id != ((s.core core).land slot).out)

/-- Messages, remote writes, copies, gathers, scatters and barrier objects do at issue what their entries say (R239, R240, R241,
R247, R251, R252, R253, R255, R256, R258, R259, R262). -/
def Obligations.NetworkCommands : Prop :=
  (∀ (sem scope : BitVec 2) (rd rs1 rs2 : BitVec 5) (s : State), s.Clear [rd, rs1, rs2] → s.niReady = true →
    (if s.inPhase then s.heldSends.length < 8 else s.staged (coreOf s.cur) < 8) →
    let rel := if sem.getLsbD 1 then some scope else none
    let staged (t : State) (p : Packet) : Prop :=
      SameRegisters s t ∧ Retired s t (s.th.pc + 4) ∧ SameMemory s t ∧ OthersButNotes s t ∧
      SameRest s.th { t.th with outs := s.th.outs, card := s.th.card } ∧
      ({ t with threads := s.threads, cores := s.cores, nextId := s.nextId, net := s.net } : State) = s ∧
      p.asid = s.th.asid ∧ p.rel = rel ∧ p.tid = some s.cur ∧
      if s.inPhase then t.net = s.net ∧ t.heldSends = s.heldSends ++ [p] ∧ t.th.outs = s.th.outs ∧ t.cores = s.cores
      else p.mid = BitVec.ofNat 12 s.chipno ++ BitVec.ofNat 10 (coreOf s.cur) ++ (s.core (coreOf s.cur)).sent ∧
        t.core (coreOf s.cur) = { s.core (coreOf s.cur) with sent := (s.core (coreOf s.cur)).sent + 1 } ∧
        (∀ c, c ≠ coreOf s.cur → t.core c = s.core c) ∧ t.net = s.net ++ [p] ∧ t.th.card = s.th.card ∧ Awaits s t .ni [] none
    (let w := s.rx rs2
     let len := (w.extractLsb' 53 7).toNat
     let off := (s.rx rs1).toNat % 0x100000
     off % 16 = 0 → w.getLsbD 60 = false → w.getLsbD 52 = false → w.extractLsb' 22 18 = 0 → w.extractLsb' 10 6 = 0 →
     s.inPod (w.extractLsb' 40 12).toNat = true →
     (w.getLsbD 63 = true → w.extractLsb' 61 2 = 0 → len ≤ 112 →
       ∃ t p, exec (.msend sem scope rd rs1 rs2) s = .next t ∧ staged t p ∧ p.kind = 1 ∧ p.pkg = (w.extractLsb' 40 12).toNat ∧
         p.core = (w.extractLsb' 0 10).toNat ∧ p.tag = (w.extractLsb' 16 6).toNat ∧ p.payload = s.spadRead (coreOf s.cur) off len) ∧
     (w.getLsbD 63 = false → w.extractLsb' 16 6 = 0 → len ≤ 48 → (s.rx rd).extractLsb' 0 2 = 0 → (s.rx rd).extractLsb' 48 16 = 0 →
       ∃ t p, exec (.msend sem scope rd rs1 rs2) s = .next t ∧ staged t p ∧ p.kind = 0 ∧ p.pkg = (w.extractLsb' 40 12).toNat ∧
         p.core = (w.extractLsb' 0 10).toNat ∧ p.hpc = s.rx rd ∧ p.cls = (w.extractLsb' 61 2).toNat ∧
         p.payload = s.spadRead (coreOf s.cur) off len)) ∧
    (let w := s.rx rs1
     w.extractLsb' 52 12 = 0 → w.extractLsb' 27 13 = 0 → w.extractLsb' 22 2 = 0 → w.extractLsb' 10 6 = 0 →
     s.inPod (w.extractLsb' 40 12).toNat = true →
     ∃ t p, exec (.rwr sem scope rs1 rs2) s = .next t ∧ staged t p ∧ p.kind = 2 ∧ p.pkg = (w.extractLsb' 40 12).toNat ∧
       p.core = (w.extractLsb' 0 10).toNat ∧ p.tag = (w.extractLsb' 16 6).toNat ∧ p.reg = (w.extractLsb' 24 3).toNat ∧ p.value = s.rx rs2)) ∧
  (∀ (sem scope : BitVec 2) (rd rs1 rs2 : BitVec 5) (s : State), s.Clear [rd, rs1, rs2] → s.niReady = true →
    let off := (s.rx rs1).toNat % 0x100000
    let w0 := s.blockWord off 0
    let w1 := s.blockWord off 1
    let w2 := s.blockWord off 2
    let cw := s.blockWord off 3
    let ch := (w2.extractLsb' 60 4).toNat
    let old := (s.core (coreOf s.cur)).channel ch
    let queued (v t : State) (c : CopyCmd) : Prop :=
      Acts v t rd old.ip ∧ SameButResults v.th t.th ∧ Awaits v t .ni [] none ∧ SameElsewhereButNotes v t ∧
      (t.core (coreOf v.cur)).channel ch = { ip := old.ip + word c.len, wp := old.wp, q := old.q ++ [c] } ∧
      (∀ n, n ≠ ch → (t.core (coreOf v.cur)).channel n = (v.core (coreOf v.cur)).channel n) ∧
      c.tid = s.cur ∧ c.asid = s.th.asid ∧ c.user = !s.th.steward ∧ c.compl = cw ∧ c.done = 0 ∧ c.run = 0 ∧ c.fault = none ∧
      c.part = [] ∧ c.ahead = [] ∧ c.due = [] ∧ c.waits = [] ∧
      c.rel = (if sem.getLsbD 1 then some scope else none) ∧ c.acq = (if sem.getLsbD 0 then some scope else none)
    off % 32 = 0 → old.q.length < 16 → cw.extractLsb' 42 22 = 0 → cw.extractLsb' 20 13 = 0 → cw.toNat % 16 = 0 →
    (let len := (w2.extractLsb' 0 40).toNat
     w2.extractLsb' 40 20 = 0 →
     ((len = 0 ∨ w1.toNat + len ≤ w0.toNat ∨ w0.toNat + len ≤ w1.toNat) →
       ((cw.getLsbD 33 && cw.getLsbD 34) = false →
         ∃ t c, exec (.cpy sem scope rd rs1) s = .next t ∧ queued s t c ∧ c.kind = .copy ∧ c.dst = w0 ∧ c.src = w1 ∧ c.len = len ∧
           c.objs = (if cw.getLsbD 33 then [spadBase (coreOf s.cur) + (cw.extractLsb' 0 20).toNat] else []) ∧ c.home = none) ∧
       ∀ u v p k, (cw.getLsbD 33 && cw.getLsbD 34) = true → s.destCore w0 = (u, .core p k) →
         u.destCore (w0 + word len - 1) = (v, .core p k) → v.cur = s.cur → v.threads = s.threads → v.cores = s.cores → v.podcfg = s.podcfg →
         ∃ t c, exec (.cpy sem scope rd rs1) s = .next t ∧ queued v t c ∧ c.kind = .copy ∧ c.dst = w0 ∧ c.src = w1 ∧ c.len = len ∧
           c.objs = (if p = s.chipno then [spadBase k + (cw.extractLsb' 0 20).toNat] else []) ∧ c.home = some (p * 1024 + k)) ∧
     (w0.toNat + len ≤ 0x100000 → w0.extractLsb' 20 44 = 0 → s.rx rs2 ≠ 0 → (cw.getLsbD 33 = true → cw.getLsbD 34 = true) →
       ∃ t c, exec (.cpym sem scope rd rs1 rs2) s = .next t ∧ queued s t c ∧ c.kind = .multi (s.rx rs2) ∧ c.dst = w0 ∧ c.src = w1 ∧
         c.len = len ∧ c.objs = (if cw.getLsbD 33 then ((List.range 64).filter fun i => (s.rx rs2).getLsbD i).map fun i =>
           spadBase (coreOf s.cur / 64 * 64 + i) + (cw.extractLsb' 0 20).toNat else []))) ∧
    (let count := (w2.extractLsb' 0 21).toNat
     let esz := (w1.extractLsb' 45 2).toNat
     let idx := (w1.extractLsb' 20 20).toNat
     let loc := (w1.extractLsb' 0 20).toNat
     let dist := aget 0 s.th.dist (w1.extractLsb' 42 2).toNat
     let desc := leNat (s.spadRead (coreOf s.cur) ((dist.extractLsb' 6 14).toNat * 64) 64)
     w2.extractLsb' 21 39 = 0 → w1.extractLsb' 47 17 = 0 → w1.extractLsb' 40 2 = 0 → cw.getLsbD 34 = false → count ≤ 0x100000 →
     (w1.getLsbD 44 = false → w1.extractLsb' 42 2 = 0 → idx % 4 = 0 → loc % 2 ^ esz = 0 → idx + 4 * count ≤ 0x100000 →
       loc + 2 ^ esz * count ≤ 0x100000 →
       (∃ t c, exec (.gath sem scope rd rs1) s = .next t ∧ queued s t c ∧ c.kind = .gather idx esz none ∧ c.dst = word loc ∧ c.src = w0 ∧
         c.len = count * 2 ^ esz) ∧
       ∃ t c, exec (.scat sem scope rd rs1) s = .next t ∧ queued s t c ∧ c.kind = .scatter idx esz none ∧ c.dst = word loc ∧ c.src = w0 ∧
         c.len = count * 2 ^ esz) ∧
     (w1.getLsbD 44 = true → dist.getLsbD 63 = true → w0 = 0 → w1.extractLsb' 45 2 = 0 → idx % 8 = 0 → loc % 2 ^ (desc / 2 ^ 20 % 4) = 0 →
       idx + 8 * count ≤ 0x100000 → loc + 2 ^ (desc / 2 ^ 20 % 4) * count ≤ 0x100000 →
       (∃ t c, exec (.gath sem scope rd rs1) s = .next t ∧ queued s t c ∧ c.kind = .gather idx (desc / 2 ^ 20 % 4) (some desc)) ∧
       ∃ t c, exec (.scat sem scope rd rs1) s = .next t ∧ queued s t c ∧ c.kind = .scatter idx (desc / 2 ^ 20 % 4) (some desc)))) ∧
  (∀ (sem scope : BitVec 2) (rd rs1 rs2 : BitVec 5) (s : State), s.Clear [rd, rs1, rs2] →
    let off := (s.rx rs1).toNat % 0x100000
    let a := spadBase (coreOf s.cur) + off
    (s.niReady = true → off % 16 = 0 → (s.rx rs2).getLsbD 63 = false → s.inLocket a 16 = false →
      ∃ t, exec (.boinit rs1 rs2) s = .next t ∧ SameRegisters s t ∧ Retired s t (s.th.pc + 4) ∧
        SameRest s.th { t.th with resv := s.th.resv } ∧ Stored s t a (leBytes (s.rx rs2).toNat 16) ∧ OthersButReservations s t ∧ SameMachine s t) ∧
    (off % 16 = 0 →
      let expected := s.readVal a 8 % 2 ^ 63
      let arrived := s.readVal (a + 8) 8
      (s.niReady = true → expected ≤ arrived % 2 ^ 63 →
        ∃ t, exec (.bowait sem scope rd rs1) s = .next t ∧ Loads s t rd (word arrived) (s.th.pc + 4)) ∧
      (arrived % 2 ^ 63 < expected → exec (.bowait sem scope rd rs1) s = .next s)) ∧
    ((s.rx rs1).toNat < 16 → ∃ t, exec (.wptr rd rs1) s = .next t ∧
      Loads s t rd ((s.core (coreOf s.cur)).channel (s.rx rs1).toNat).wp (s.th.pc + 4))) ∧
  (∀ (sem scope : BitVec 2) (rd rs1 rs2 : BitVec 5) (s : State), s.Clear [rd, rs1, rs2] → s.CanTrap →
    (let w := s.rx rs2
     let len := (w.extractLsb' 53 7).toNat
     let form := if w.getLsbD 63 then w.extractLsb' 61 2 = 0 else w.extractLsb' 16 6 = 0
     let word1 := w.getLsbD 60 = false ∧ w.getLsbD 52 = false ∧ w.extractLsb' 22 18 = 0 ∧ w.extractLsb' 10 6 = 0 ∧ form
     let fits := len ≤ if w.getLsbD 63 then 112 else 48
     let target := w.getLsbD 63 = true ∨ ((s.rx rd).extractLsb' 0 2 = 0 ∧ (s.rx rd).extractLsb' 48 16 = 0)
     (s.rx rs1).toNat % 16 = 0 →
     (¬ word1 → ∃ t, exec (.msend sem scope rd rs1 rs2) s = .next t ∧ TrapTaken s t 7 1) ∧
     (word1 → ¬ fits → ∃ t, exec (.msend sem scope rd rs1 rs2) s = .next t ∧ TrapTaken s t 7 2) ∧
     (word1 → fits → ¬ target → ∃ t, exec (.msend sem scope rd rs1 rs2) s = .next t ∧ TrapTaken s t 7 4) ∧
     (word1 → fits → target → s.inPod (w.extractLsb' 40 12).toNat = false →
       ∃ t, exec (.msend sem scope rd rs1 rs2) s = .next t ∧ TrapTaken s.freeWord.2 t 2 s.freeWord.1)) ∧
    (let w := s.rx rs1
     let word1 := w.extractLsb' 52 12 = 0 ∧ w.extractLsb' 27 13 = 0 ∧ w.extractLsb' 22 2 = 0 ∧ w.extractLsb' 10 6 = 0
     (¬ word1 → ∃ t, exec (.rwr sem scope rs1 rs2) s = .next t ∧ TrapTaken s t 7 1) ∧
     (word1 → s.inPod (w.extractLsb' 40 12).toNat = false →
       ∃ t, exec (.rwr sem scope rs1 rs2) s = .next t ∧ TrapTaken s.freeWord.2 t 2 s.freeWord.1))) ∧
  (∀ (sem scope : BitVec 2) (rd rs1 rs2 : BitVec 5) (s : State), s.Clear [rd, rs1, rs2] → s.CanTrap → s.niReady = true →
    let off := (s.rx rs1).toNat % 0x100000
    let w0 := s.blockWord off 0
    let w1 := s.blockWord off 1
    let w2 := s.blockWord off 2
    let cw := s.blockWord off 3
    let compl := cw.extractLsb' 42 22 = 0 ∧ cw.extractLsb' 20 13 = 0
    let traps (i : Instr) (c : BitVec 6) (v : Word) : Prop := ∃ t, exec i s = .next t ∧ TrapTaken s t c v
    off % 32 = 0 →
    (let cpy := Instr.cpy sem scope rd rs1
     let len := (w2.extractLsb' 0 40).toNat
     (¬ (compl ∧ w2.extractLsb' 40 20 = 0) → traps cpy 7 1) ∧
     (compl → w2.extractLsb' 40 20 = 0 → cw.toNat % 16 ≠ 0 → traps cpy 1 (cw &&& 0xFFFFF)) ∧
     (compl → w2.extractLsb' 40 20 = 0 → cw.toNat % 16 = 0 → 0 < len → w1.toNat < w0.toNat + len → w0.toNat < w1.toNat + len →
       traps cpy 7 5) ∧
     (∀ u v a b, compl → w2.extractLsb' 40 20 = 0 → cw.toNat % 16 = 0 → (len = 0 ∨ w1.toNat + len ≤ w0.toNat ∨ w0.toNat + len ≤ w1.toNat) →
       cw.getLsbD 33 = true → cw.getLsbD 34 = true → s.destCore w0 = (u, a) → u.destCore (w0 + word len - 1) = (v, b) →
       a ≠ .fault → a ≠ .absent → b ≠ .fault → b ≠ .absent → (∀ p k, ¬ (a = .core p k ∧ b = .core p k)) → v.CanTrap → v.cur = s.cur →
       ∃ t, exec cpy s = .next t ∧ TrapTaken v t 7 3)) ∧
    (let cpym := Instr.cpym sem scope rd rs1 rs2
     let word1 := compl ∧ w2.extractLsb' 40 20 = 0 ∧ w0.extractLsb' 20 44 = 0
     let fits := w0.toNat + (w2.extractLsb' 0 40).toNat ≤ 0x100000
     (¬ word1 → traps cpym 7 1) ∧ (word1 → cw.toNat % 16 ≠ 0 → traps cpym 1 (cw &&& 0xFFFFF)) ∧
     (word1 → cw.toNat % 16 = 0 → ¬ fits → traps cpym 7 2) ∧
     (word1 → cw.toNat % 16 = 0 → fits → (s.rx rs2 = 0 ∨ (cw.getLsbD 33 = true ∧ cw.getLsbD 34 = false)) → traps cpym 7 3)) ∧
    ∀ i ∈ [Instr.gath sem scope rd rs1, .scat sem scope rd rs1],
      let table := w1.getLsbD 44
      let dist := aget 0 s.th.dist (w1.extractLsb' 42 2).toNat
      let desc := leNat (s.spadRead (coreOf s.cur) ((dist.extractLsb' 6 14).toNat * 64) 64)
      let z := 2 ^ (if table then desc / 2 ^ 20 % 4 else (w1.extractLsb' 45 2).toNat)
      let n := if table then 8 else 4
      let idx := (w1.extractLsb' 20 20).toNat
      let loc := (w1.extractLsb' 0 20).toNat
      let count := (w2.extractLsb' 0 21).toNat
      let word1 := compl ∧ cw.getLsbD 34 = false ∧ w2.extractLsb' 21 39 = 0 ∧ w1.extractLsb' 47 17 = 0 ∧ w1.extractLsb' 40 2 = 0 ∧
        (table = false → w1.extractLsb' 42 2 = 0)
      let dist1 := table = true → dist.getLsbD 63 = true ∧ w0 = 0 ∧ w1.extractLsb' 45 2 = 0
      (¬ word1 → traps i 7 1) ∧ (word1 → ¬ dist1 → traps i 7 6) ∧ (word1 → dist1 → cw.toNat % 16 ≠ 0 → traps i 1 (cw &&& 0xFFFFF)) ∧
      (word1 → dist1 → cw.toNat % 16 = 0 → idx % n ≠ 0 → traps i 1 (word idx)) ∧
      (word1 → dist1 → cw.toNat % 16 = 0 → idx % n = 0 → loc % z ≠ 0 → traps i 1 (word loc)) ∧
      (word1 → dist1 → cw.toNat % 16 = 0 → idx % n = 0 → loc % z = 0 →
        0x100000 < count ∨ 0x100000 < idx + n * count ∨ 0x100000 < loc + z * count → traps i 7 2)) ∧
  ∀ (sem scope : BitVec 2) (rd rs1 rs2 : BitVec 5) (s : State), s.Clear [rd, rs1, rs2] → s.CanTrap →
    ((s.rx rs1).toNat % 16 ≠ 0 →
      (∃ t, exec (.msend sem scope rd rs1 rs2) s = .next t ∧ TrapTaken s t 1 (s.rx rs1)) ∧
      (∃ t, exec (.boinit rs1 rs2) s = .next t ∧ TrapTaken s t 1 ((s.rx rs1) &&& 0xFFFFF)) ∧
      ∃ t, exec (.bowait sem scope rd rs1) s = .next t ∧ TrapTaken s t 1 ((s.rx rs1) &&& 0xFFFFF)) ∧
    ((s.rx rs1).toNat % 32 ≠ 0 →
      (∃ t, exec (.cpy sem scope rd rs1) s = .next t ∧ TrapTaken s t 1 ((s.rx rs1) &&& 0xFFFFF)) ∧
      (∃ t, exec (.cpym sem scope rd rs1 rs2) s = .next t ∧ TrapTaken s t 1 ((s.rx rs1) &&& 0xFFFFF)) ∧
      (∃ t, exec (.gath sem scope rd rs1) s = .next t ∧ TrapTaken s t 1 ((s.rx rs1) &&& 0xFFFFF)) ∧
      ∃ t, exec (.scat sem scope rd rs1) s = .next t ∧ TrapTaken s t 1 ((s.rx rs1) &&& 0xFFFFF)) ∧
    (16 ≤ (s.rx rs1).toNat → ∃ t, exec (.wptr rd rs1) s = .next t ∧ TrapTaken s t 7 8) ∧
    ((s.rx rs1).toNat % 16 = 0 → (s.rx rs2).getLsbD 63 = true → ∃ t, exec (.boinit rs1 rs2) s = .next t ∧ TrapTaken s t 7 1)

/-- Packets reach channels, registers, the inbox and the heap, and handlers start, as the NI's rules say (R116, R142, R243,
R244, R245, R247, R248, R249, R354). -/
def Obligations.NetworkArrivals : Prop :=
  (∀ (s : State) (p : Packet), s.net.find? (fun q => q.id == p.id) = some p → p.pkg = s.chipno → s.maySend p = true → (s.core p.core).stuck = none →
    let gone (t : State) : Prop := t.net = s.net.filter (fun q => q.id != p.id) ∧ SameMemory s t
    let told (t : State) : Prop := ∀ k, p.tid = some k → p.rel ≠ some 3 → (t.thread k).outs =
      (s.thread k).outs.map fun o => if o.id = p.out then { o with vals := some [] } else o
    (∀ tid card, p.kind ∈ [1, 3, 4, 5, 6] → s.tagHolder p.core p.tag = some card → s.runs p.core card = some tid →
      (∀ q ∈ (s.core p.core).inbox, q.tag = p.tag → q.kind = 0 ∨ q.kind = 2) →
      (∀ q ∈ (s.core p.core).heap, q.tag = p.tag → q.kind = 0) → ∀ k, (s.thread tid).card = some k →
      (aget [] (s.thread tid).chans k.chan.toNat).length < 4 →
      ∃ t, exec (.taggedPacketArrival p.id) s = .next t ∧ gone t ∧ told t ∧
        aget [] (t.thread tid).chans k.chan.toNat = aget [] (s.thread tid).chans k.chan.toNat ++ [{ p with arr := s.nextId }] ∧
        (t.thread tid).x = (s.thread tid).x ∧ t.cores = s.cores) ∧
    (p.kind ∈ [1, 3, 4, 5, 6] → s.tagHolder p.core p.tag = none → (s.core p.core).heap = [] → p.entries ≤ (s.core p.core).free →
      ∃ t, exec (.taggedPacketArrival p.id) s = .next t ∧ gone t ∧ told t ∧
        (t.core p.core).inbox = (s.core p.core).inbox ++ [{ p with arr := s.nextId }]) ∧
    (p.kind = 0 → (s.core p.core).heap = [] → p.entries ≤ (s.core p.core).free →
      ∃ t, exec (.activeMessageArrival p.id) s = .next t ∧ gone t ∧ told t ∧
        (t.core p.core).inbox = (s.core p.core).inbox ++ [{ p with arr := s.nextId }]) ∧
    (∀ tid card, p.kind = 2 → s.tagHolder p.core p.tag = some card → s.runs p.core card = some tid → p.reg < 8 →
      (∀ q ∈ (s.core p.core).inbox, q.tag = p.tag → q.kind ≠ 2 ∨ q.reg ≠ p.reg) → (∀ q ∈ (s.core p.core).heap, q.tag = p.tag → q.kind = 0) → (s.thread tid).pres.getLsbD p.reg = false →
      ∃ t, exec (.rwrArrival p.id) s = .next t ∧ gone t ∧ told t ∧ (t.thread tid).rx (BitVec.ofNat 5 (24 + p.reg)) = p.value ∧
        (t.thread tid).pres.getLsbD p.reg = true ∧ (∀ n, n ≠ p.reg → (t.thread tid).pres.getLsbD n = (s.thread tid).pres.getLsbD n) ∧
        (∀ r, r ≠ BitVec.ofNat 5 (24 + p.reg) → (t.thread tid).rx r = (s.thread tid).rx r))) ∧
  (∀ (s : State) (p : Packet), s.net.find? (fun q => q.id == p.id) = some p → p.pkg ≠ s.chipno → s.maySend p = true →
    (s.core p.core).stuck ≠ some p.id →
    ∃ t, exec (.sendAccepted p.id) s = .next t ∧ t.net = s.net.filter (fun q => q.id != p.id) ∧ SameMemory s t ∧ t.cores = s.cores ∧
      ∀ k, p.tid = some k → p.rel ≠ some 3 → (s.thread k).outs.any (fun o => o.id == p.out) = true → p.free = false →
        (t.thread k).outs = (s.thread k).outs.filter (fun o => o.id != p.out) ∧
        (t.thread k).reports = if (s.route p.pkg).1 then (s.thread k).reports
          else (s.thread k).reports ++ [{ cause := 12, val := 0xFFFF, hold := 0 }]) ∧
  (∀ (s : State) (id k : Nat) (u : Thread), s.net.find? (fun q => q.id == id) = none →
    s.threads.find? (fun q => q.2.outs.any fun o => o.id == id && o.kind == .ni && o.vals.isSome) = some (k, u) →
    ∃ t, exec (.sendAccepted id) s = .next t ∧ (t.thread k).outs = (s.thread k).outs.filter (fun o => o.id != id) ∧
      (∀ r, (t.thread k).rx r = (s.thread k).rx r) ∧ OthersOf s t k ∧ ({ t with threads := s.threads } : State) = s) ∧
  (∀ (s : State) (core : Nat) (p : Packet) (r : List Packet), (s.core core).heap = p :: r → p.entries ≤ (s.core core).free →
    ((s.slotOut core p).kind = 0 ∨ s.tagHolder core (s.slotOut core p).tag = none) →
    ∃ t, exec (.heapReplay core) s = .next t ∧
      t.core core = { s.core core with heap := r, inbox := (s.core core).inbox ++ [s.slotOut core p] } ∧
      (∀ c, c ≠ core → t.core c = s.core c) ∧ ({ t with cores := s.cores } : State) = s) ∧
  (∀ (s : State) (core : Nat) (p : Packet), ((s.core core).inbox.filter fun q => q.served.isSome).length < 8 →
    (s.core core).inbox.find? (fun q => q.kind == 0 && q.served.isNone) = some p →
    ((afind s.roots p.asid.toNat) = none →
      ∃ t, exec (.handlerTrigger core) s = .next t ∧ (t.core core).inbox = (s.core core).inbox.filter (fun q => q.id != p.id) ∧
        (t.die (dieOf core)).msgdrop = (s.die (dieOf core)).msgdrop + 1 ∧ SameMemory s t ∧ t.threads = s.threads) ∧
    ((afind s.roots p.asid.toNat).isSome = true → p.cls < 4 → (s.core core).deque.length < 256 →
      ∃ t k, exec (.handlerTrigger core) s = .next t ∧ (t.core core).deque = (s.core core).deque ++ [k] ∧ k.pc = p.hpc ∧ k.asid = p.asid ∧
        k.handler = true ∧ k.cls = p.cls ∧ k.msg = some p ∧ k.home = core ∧
        k.xs = (List.range 6).map (fun i => word (leNat (((p.payload ++ List.replicate (48 - p.payload.length) 0).drop (8 * i)).take 8))) ∧
        (t.core core).inbox = (s.core core).inbox.map (fun q => if q.id = p.id then { q with served := some k.id } else q) ∧
        SameMemory s t ∧ t.threads = s.threads)) ∧
  (∀ (s : State) (core : Nat) (k : Card) (r : List Card), (s.core core).building = k :: r → (s.core core).deque.length < 256 →
    ∃ t, exec (.handlerPushRetry core) s = .next t ∧ (t.core core).building = r ∧
      (t.core core).deque = (s.core core).deque ++ [{ k with home := core, since := s.time, aged := false }] ∧
      ({ t with cores := s.cores } : State) = s) ∧
  ∀ (s : State) (tid : Nat) (k : Card), (s.thread tid).card = some k → (s.thread tid).aborted = true → (s.core k.home).deque.length < 256 →
    ∃ t, exec (.abortedHandlerPush tid) s = .next t ∧ (t.thread tid).card = none ∧ (t.thread tid).aborted = false ∧
      (t.core k.home).deque = (s.core k.home).deque ++ [{ k with hdr := k.hdr0, since := s.time, aged := false }] ∧ SameMemory s t

/-- What the steps of copies, gathers and scatters move and count (R254 to R257, R261 to R264, R274). That the TVAL of a copy
that faults is the first address of the part that faults is the model's choice (log 26; R261 says only the faulting address). -/
def Obligations.CopySteps : Prop :=
  ∀ (s u v : State) (core ch : Nat) (c : CopyCmd) (q : List CopyCmd) (a b pa pb : Nat) (pth pth' : Path),
    let x := (s.core core).channel ch
    x.q = c :: q → s.ready = true → s.engParked c.id = false → c.fault = none → c.rel = none → c.home = none →
    c.ahead = [] → c.due = [] → c.waits = [] →
    coreOf c.tid = core → c.done < c.len → noteOf c.compl = none → c.dst.toNat + c.len ≤ 2 ^ 64 → c.src.toNat + c.len ≤ 2 ^ 64 →
    let control (w t : State) : Prop := ∀ k, (t.thread k).x = (w.thread k).x ∧ (t.thread k).pc = (w.thread k).pc ∧ (t.thread k).steward = (w.thread k).steward
    let on (w t : State) (n : Nat) : Prop :=
      ((t.core core).channel ch).wp = x.wp + word n ∧ ((t.core core).channel ch).ip = x.ip ∧
      (if c.done + n = c.len then ((t.core core).channel ch).q = q ∧ (t.thread c.tid).outs = (w.thread c.tid).outs.filter (fun o => o.id != c.id)
       else ∃ d, ((t.core core).channel ch).q = d :: q ∧ d.id = c.id ∧ d.ahead = [] ∧ d.due = [] ∧ d.part = [] ∧ d.done = c.done + n ∧ d.deliv = c.deliv + n ∧
         d.run = (if (c.dst.toNat + c.done + n) % 4096 = 0 then 0 else c.run + n))
    let ends (n : Nat) : Prop := (c.dst.toNat + c.done + n) % 4096 = 0 ∨ c.done + n = c.len
    (∀ n p, n = min (64 - (c.dst.toNat + c.done) % 64) (c.len - c.done) → p = c.part.length → p < n →
      (c.src.toNat + c.done + p) % 64 + (n - p) ≤ 64 →
      s.reachAs core c.asid c.user (c.src + word (c.done + p)) (n - p) { r := true } = (u, .at_ (.mem a) pth pa) → u.cores = s.cores →
      u.portShut core a = false →
      let d := c.part.map (·.1) ++ u.readBytes a (n - p)
      let w := (u.engHasRead c pa (n - p)).setHead core ch { c with part := c.part ++ u.marked a (n - p) } 0
      (c.kind = .copy → w.reachAs core c.asid c.user (c.dst + word c.done) n { w := true } = (v, .at_ (.mem b) pth' pb) →
        b % 64 + n ≤ 64 → v.cores = w.cores → v.portShut core b = false →
        (c.objs = [] ∨ ¬ ends n →
          ∃ t, exec (.copyChunkDone core ch) s = .next t ∧ Stored v t b d ∧ on v t n ∧ control v t) ∧
        ∀ o, c.objs = [spadBase core + o] → ends n → o + 16 ≤ 0x100000 → o % 16 = 0 →
          (∀ i, i < 8 → Apart v (spadBase core + o + 8 + i) b n) → v.inLocket (spadBase core + o + 8) 8 = false →
          ∃ t, exec (.copyChunkDone core ch) s = .next t ∧ t.readBytes b n = d ∧ on v t n ∧ control v t ∧
            t.readVal (spadBase core + o + 8) 8 = (v.readVal (spadBase core + o + 8) 8 + c.run + n) % 2 ^ 63 +
              v.readVal (spadBase core + o + 8) 8 / 2 ^ 63 * 2 ^ 63) ∧
      (∀ m, c.kind = .multi m → c.objs = [] → c.dst.toNat + c.len ≤ 0x100000 → u.lockets = [] →
        (∀ i, i < 64 → m.getLsbD i = true → u.portShut core (spadBase (core / 64 * 64 + i)) = false) →
        ∃ t, exec (.copyChunkDone core ch) s = .next t ∧ on u t n ∧ control u t ∧
          (∀ i, i < 64 → m.getLsbD i = true →
            t.readBytes (spadBase (core / 64 * 64 + i) + c.dst.toNat + c.done) n = d) ∧
          ∀ y, (∀ i, i < 64 → m.getLsbD i = true → Apart u y (spadBase (core / 64 * 64 + i) + c.dst.toNat + c.done) n) →
            t.readByte y = u.readByte y)) ∧
    (∀ n p k, n = min (64 - (c.dst.toNat + c.done) % 64) (c.len - c.done) → p = c.part.length → p < n →
      (c.src.toNat + c.done + p) % 64 + (n - p) ≤ 64 → c.kind = .copy → c.objs = [] → k ≠ 12 →
      s.reachAs core c.asid c.user (c.src + word (c.done + p)) (n - p) { r := true } = (u, .fault k) → u.cores = s.cores →
      (u.thread c.tid).outs.any (fun o => o.id == c.id) = true →
      ∃ t, exec (.copyChunkDone core ch) s = .next t ∧ SameMemory u t ∧ ((t.core core).channel ch).wp = x.wp + word (c.len - c.done) ∧
        ((t.core core).channel ch).q = q ∧ (t.thread c.tid).reports = (u.thread c.tid).reports ++ [{ cause := k, val := c.src + word (c.done + p), hold := 0 }] ∧
        (t.thread c.tid).outs = (u.thread c.tid).outs.filter (fun o => o.id != c.id)) ∧
    (∀ idx esz, esz < 4 → c.objs = [] → c.done % 2 ^ esz = 0 → c.len % 2 ^ esz = 0 → c.dst.toNat + c.len ≤ 0x100000 → c.dst.toNat % 2 ^ esz = 0 →
      let z := 2 ^ esz
      let va := c.src + word (leNat (s.spadRead core (idx + 4 * (c.done / z)) 4) * z)
      let l := spadBase core + c.dst.toNat + c.done
      va ≠ BitVec.allOnes 64 →
      (c.kind = .gather idx esz none →
        (va.toNat % z = 0 → s.reachAs core c.asid c.user va z { r := true } = (u, .at_ (.mem a) pth pa) → u.lockets = [] →
          u.cores = s.cores → u.portShut core a = false →
          ∃ t, exec (.gatherElementLand core ch) s = .next t ∧ Stored u t l (u.readBytes a z) ∧ on u t z ∧ control u t) ∧
        (va.toNat % z ≠ 0 → c.done + z < c.len →
          ∃ t d, exec (.gatherElementLand core ch) s = .next t ∧ SameMemory s t ∧ ((t.core core).channel ch).wp = x.wp + word z ∧
            ((t.core core).channel ch).q = d :: q ∧ d.fault = some (1, va) ∧ d.done = c.done + z ∧ d.deliv = c.deliv)) ∧
      (c.kind = .scatter idx esz none → va.toNat % z = 0 →
        (s.engHasRead c (s.chipno * 2 ^ 40 + l) z).reachAs core c.asid c.user va z { w := true } = (u, .at_ (.mem b) pth pb) → b % 64 + z ≤ 64 → u.cores = s.cores → u.portShut core b = false →
        ∃ t, exec (.scatterElementAck core ch) s = .next t ∧ Stored u t b (s.readBytes l z) ∧ on u t z ∧ control u t))

/-- Gallery atomics and queue steps are performed whole at their bank and answer the issuer (R32, R278, R279, R280, R285, R286,
R287, R355). -/
def Obligations.GalleryAtomics : Prop :=
  (∀ (sem scope : BitVec 2) (rd rs1 rs2 : BitVec 5) (s : State), s.Clear [rd, rs1, rs2] →
    let x := s.rx rs1
    let sent (t : State) (addr : Word) (kind : BankKind) : Prop :=
      Issued s t .gallery [rd] (if sem.getLsbD 0 then some scope else none) ∧ (∃ o, t.bank = s.bank ++ [o] ∧ o.tid = s.cur ∧ o.asid = s.th.asid ∧ o.user = !s.th.steward ∧
        o.addr = addr ∧ o.kind = kind ∧ o.rel = (if sem.getLsbD 1 then some scope else none) ∧ o.arr = none ∧ o.sent = false) ∧
      ({ t with threads := s.threads, nextId := s.nextId, bank := s.bank } : State) = s
    (∀ row ∈ galleryRows,
      (s.niReady = true → s.th.remote = none →
        ((rd = 0 ∧ row.2 ≠ .cas) ∨ s.StaysHere (x - word (x.toNat % 4)) (if x.getLsbD 1 then 4 else 8)) → x.toNat % (if x.getLsbD 1 then 4 else 8) = x.toNat % 4 → (row.2 = .fadd → x.getLsbD 0 = false) →
        ∃ t, exec (row.1 sem scope rd rs1 rs2) s = .next t ∧ sent t (x - word (x.toNat % 4)) (.atomic row.2 (x.extractLsb' 0 2) (s.rx rs2) (s.rx rd))) ∧
      (∀ (u : State) (pa p : Nat) (path : Path), let n := if x.getLsbD 1 then 4 else 8
        s.reachAs (coreOf s.cur) s.th.asid (!s.th.steward) (x - word (x.toNat % 4)) n { r := true, w := true } = (u, .at_ (.far pa) path p) →
        s.niReady = true → s.th.remote = none → x.toNat % n = x.toNat % 4 → (row.2 = .fadd → x.getLsbD 0 = false) → (rd ≠ 0 ∨ row.2 = .cas) →
        inGallery (pa % 2 ^ 40) = true → sem.getLsbD 1 = false → (∀ q ∈ u.posted, q.tid ≠ s.cur) → (∀ q ∈ u.bank, q.tid ≠ s.cur) →
        (∃ l ∈ u.tlinks, l.2.state = 2 ∧ l.2.met = true ∧ l.2.peer.toNat = pa / 2 ^ 40) →
        ∃ t q, exec (row.1 sem scope rd rs1 rs2) s = .next t ∧ t.th.remote = some q ∧ q.atomic = true ∧ q.pa = pa ∧ q.rd = rd ∧ q.size = n ∧
          q.acq = (if sem.getLsbD 0 then some scope else none) ∧ t.th.pc = s.th.pc ∧ SameRegisters s t ∧ SameMemory u t ∧ t.bank = u.bank) ∧
      (s.CanTrap → x.toNat % (if x.getLsbD 1 then 4 else 8) ≠ x.toNat % 4 →
        ∃ t, exec (row.1 sem scope rd rs1 rs2) s = .next t ∧ TrapTaken s t 1 x) ∧
      (s.CanTrap → x.toNat % (if x.getLsbD 1 then 4 else 8) = x.toNat % 4 → row.2 = .fadd → x.getLsbD 0 = true →
        ∃ t, exec (row.1 sem scope rd rs1 rs2) s = .next t ∧ TrapTaken s t 7 1)) ∧
    (s.niReady = true → s.th.remote = none → x.toNat % 64 = 0 →
      (∃ t, exec (.gqpush sem scope rd rs1 rs2) s = .next t ∧ sent t x (.push (s.rx rs2))) ∧
      ∃ t, exec (.gqpop sem scope rd rs1) s = .next t ∧ sent t x .pop) ∧
    (s.CanTrap → x.toNat % 64 ≠ 0 →
      (∃ t, exec (.gqpush sem scope rd rs1 rs2) s = .next t ∧ TrapTaken s t 1 x) ∧
      ∃ t, exec (.gqpop sem scope rd rs1) s = .next t ∧ TrapTaken s t 1 x)) ∧
  (∀ (s u : State) (o : BankOp) (op : GalleryOp) (m : BitVec 2) (v e : Word) (a pa : Nat) (path : Path),
    s.bank.find? (fun q => q.id == o.id) = some o → o.arr = none → o.sent = false → s.engParked o.id = false → s.bankBlocked o = false →
    o.rel = none → o.kind = .atomic op m v e →
    let n := if m.getLsbD 1 then 4 else 8
    s.reachAs (coreOf o.tid) o.asid o.user o.addr n { r := true, w := true } = (u, .at_ (.mem a) path pa) → inGallery a = true → a % n = 0 →
    u.engParked o.id = false → u.FlushesWait o.id → u.behind o.tid .plain (u.chipno * 2 ^ 40 + a) n = false →
    ∃ t, exec (.galleryBankOperation o.id) s = .next t ∧ t.bank = u.bank.filter (fun q => q.id != o.id) ∧
      Stored u t a (leBytes (galleryNew op n (!m.getLsbD 0) (leNat (u.readBytes a n)) (v.toNat % 2 ^ (8 * n)) (e.toNat % 2 ^ (8 * n))) n) ∧
      Answered u t o.tid o.id [if m = 2 ∧ op ≠ .fadd then s64 (asSigned 4 (leNat (u.readBytes a n))) else word (leNat (u.readBytes a n))] ∧
      SamePcs u t) ∧
  (∀ (s : State) (o : BankOp) (k a : Nat) (rest : List BankOp), s.bank.find? (fun q => q.id == o.id) = some o → o.arr = some (k, a) →
    s.waiting a = o :: rest → (∀ q ∈ rest, otherKind o.kind q.kind = false) → inGallery a = true → a % 64 = 0 → s.FlushesWait o.id →
    let d := s.descriptor a
    let occ := qOcc (qHead d) (qTail d)
    let counts (t : State) (head tail empties fulls : Nat) : Prop :=
      t.readVal (a + 24) 4 = head ∧ t.readVal (a + 28) 4 = tail ∧ t.readVal (a + 32) 4 = empties ∧ t.readVal (a + 36) 4 = fulls
    let e := d / 2 ^ 256 % 2 ^ 32
    let f := d / 2 ^ 288 % 2 ^ 32
    let left (t : State) : Prop := t.bank = s.bank.filter (fun q => q.id != o.id) ∧ SamePcs s t
    let fails (c : BitVec 6) (v : Word) : Prop :=
      ∃ t, exec (.galleryQueueStep o.id) s = .next t ∧ left t ∧ SameMemory s t ∧
        (t.thread o.tid).reports = (s.thread o.tid).reports ++ [{ cause := c, val := v, hold := 0 }]
    ((s.thread o.tid).outs.any (fun x => x.id == o.id) = true →
      (s.inLocket a 64 = true → fails 3 o.addr) ∧
      (s.inLocket a 64 = false → s.isHeld a 64 = true → fails 2 o.addr) ∧
      (s.inLocket a 64 = false → s.isHeld a 64 = false → queueBad d = true → fails 7 2)) ∧
    (s.inLocket a 64 = false → s.isHeld a 64 = false → queueBad d = false → o.kind = .pop →
      ∃ t, exec (.galleryQueueStep o.id) s = .next t ∧ left t ∧
        (∀ b, Apart s b (a + 24) 16 → t.readByte b = s.readByte b) ∧
        (if occ = 0 then counts t (qHead d) (qTail d) ((e + 1) % 2 ^ 32) f ∧ Answered s t o.tid o.id [word (d % 2 ^ 64)]
         else counts t ((qHead d + 1) % 2 ^ 32) (qTail d) e f ∧ Answered s t o.tid o.id [word (s.readVal (queueEntry a d (qHead d)) 8)])) ∧
    ∀ x, s.inLocket a 64 = false → s.isHeld a 64 = false → queueBad d = false → o.kind = .push x →
      (x.toNat = d % 2 ^ 64 →
        ∃ t, exec (.galleryQueueStep o.id) s = .next t ∧ left t ∧ (∀ b, Apart s b (a + 24) 16 → t.readByte b = s.readByte b) ∧
          counts t (qHead d) (qTail d) e f ∧ Answered s t o.tid o.id [2]) ∧
      (x.toNat ≠ d % 2 ^ 64 → occ = qCap d →
        ∃ t, exec (.galleryQueueStep o.id) s = .next t ∧ left t ∧ (∀ b, Apart s b (a + 24) 16 → t.readByte b = s.readByte b) ∧
          counts t (qHead d) (qTail d) e ((f + 1) % 2 ^ 32) ∧ Answered s t o.tid o.id [1]) ∧
      (x.toNat ≠ d % 2 ^ 64 → occ ≠ qCap d → s.inLocket (queueEntry a d (qTail d)) 8 = false → s.isHeld (queueEntry a d (qTail d)) 8 = false →
        s.columns (dieOfAddr a) = 0xFFFF → (queueEntry a d (qTail d) + 8 ≤ a + 24 ∨ a + 40 ≤ queueEntry a d (qTail d)) →
        ∃ t, exec (.galleryQueueStep o.id) s = .next t ∧ left t ∧
          (∀ b, Apart s b (a + 24) 16 → Apart s b (queueEntry a d (qTail d)) 8 → t.readByte b = s.readByte b) ∧
          t.readVal (queueEntry a d (qTail d)) 8 = x.toNat ∧ counts t (qHead d) ((qTail d + 1) % 2 ^ 32) e f ∧
          Answered s t o.tid o.id [0] ∧
          (d / 2 ^ 127 % 2 = 0 ∨ occ ≠ 0 → t.net = s.net) ∧
          (d / 2 ^ 127 % 2 = 1 → occ = 0 → ∃ p, t.net = s.net ++ [p] ∧ p.kind = 4 ∧ p.core = d / 2 ^ 96 % 2 ^ 10 ∧ p.tag = d / 2 ^ 106 % 2 ^ 6 ∧
            p.rel = o.rel))) ∧
  ∀ (s : State) (tid : Nat) (o : Out) (v : Word), (s.thread tid).jobs.find? (fun j => j.id == o.id) = none →
    (s.thread tid).outs.find? (fun q => q.id == o.id && q.vals.isSome) = some o → o.vals = some [v] → ∀ rd, o.regs = [rd] →
    ∃ t, exec (.resultReturn tid o.id) s = .next t ∧ (t.thread tid).rx rd = (if rd = 0 then 0 else v) ∧
      (∀ r, r ≠ rd → (t.thread tid).rx r = (s.thread tid).rx r) ∧ (t.thread tid).outs = (s.thread tid).outs.filter (fun q => q.id != o.id) ∧
      (t.thread tid).pc = (s.thread tid).pc ∧ (∀ k, k ≠ tid → ({ t.thread k with early := (s.thread k).early } : Thread) = s.thread k) ∧
      ({ t with threads := s.threads, nextId := s.nextId } : State) = s

/-- Bead commands issue with their operands and their steps act on queues and indices as stated (R295, R296, R297, R301, R302,
R303, R304, R305, R307, R309). -/
def Obligations.BeadCommands : Prop :=
  (∀ (sem scope : BitVec 2) (rd rs1 rs2 : BitVec 5) (s : State), s.Clear [rd, rd + 1, rs1, rs2, rs2 + 1] →
    let x := s.rx rs1
    let acq := if sem.getLsbD 0 then some scope else none
    let rel := if sem.getLsbD 1 then some scope else none
    let key := (s.rx rs2).toNat % 2 ^ 32
    (s.niReady = true → s.inPhase = false → x.toNat / 16 % 8 = 0 →
      (∃ t, exec (.bpush sem scope rd rs1 rs2) s = .next t ∧ Issued s t .bead [rd] acq ∧
        BeadSent s t x (.push (x.toNat % 16) { key := key, val := (s.rx rs2).toNat / 2 ^ 32, round := (s.rx (rs2 + 1)).toNat / 2 ^ 32, mult := i32 (s.rx (rs2 + 1)) }) rel) ∧
      ∃ t, exec (.bround sem scope rd rs1 rs2) s = .next t ∧ Issued s t .bead [rd] acq ∧ BeadSent s t x (.round (x.toNat % 16) key) rel) ∧
    (s.niReady = true → s.inPhase = false → x.toNat % 128 = 0 →
      (∃ t, exec (.bpop sem scope rd rs1) s = .next t ∧ Issued s t .bead [rd, rd + 1] acq ∧ BeadSent s t x .pop rel) ∧
      ∃ t, exec (.back sem scope rd rs1 rs2) s = .next t ∧ Issued s t .bead [rd] acq ∧ BeadSent s t x (.ack key) rel) ∧
    (s.niReady = true → x.toNat % 64 = 0 →
      (∃ t, exec (.bidxget sem scope rd rs1 rs2) s = .next t ∧ Issued s t .bead [rd] acq ∧ BeadSent s t x (.get key) rel) ∧
      (∃ t, exec (.bidxput sem scope rd rs1 rs2) s = .next t ∧ Issued s t .bead [rd] acq ∧
        BeadSent s t x (.put key (s.rx (rs2 + 1))) rel) ∧
      (∃ t, exec (.bquiet rd rs1 rs2) s = .next t ∧ Issued s t .bead [rd] (some 2) ∧ BeadSent s t x (.quiet key) none)) ∧
    (s.niReady = true → cfgBad (s.rx rs2) = false →
      x.toNat % (if (s.rx rs2).toNat / 2 ^ 60 = 4 ∨ (s.rx rs2).toNat / 2 ^ 60 = 5 then 64 else 128) = 0 →
      ∃ t, exec (.bqcfg rd rs1 rs2) s = .next t ∧ Issued s t .bead [rd] (some 2) ∧ BeadSent s t x (.cfg (s.rx rs2)) (some 2)) ∧
    (s.CanTrap → 7 ≤ (s.rx rs2).toNat / 2 ^ 60 → ∃ t, exec (.bqcfg rd rs1 rs2) s = .next t ∧ TrapTaken s t 7 1) ∧
    (s.CanTrap → x.toNat % 64 ≠ 0 → ∃ t, exec (.bidxget sem scope rd rs1 rs2) s = .next t ∧ TrapTaken s t 1 x)) ∧
  ∀ (s u : State) (o : BeadOp) (a : Nat), s.beadOps.find? (fun q => q.id == o.id) = some o → s.engParked o.id = false → s.beadBlocked o = false →
    o.rel = none → s.beadReach o = (u, .at_ a false) → inGallery a = true → a % 64 = 0 → u.columns (dieOfAddr a) = 0xFFFF →
    u.beadRefused a false o.kind = none →
    let q := u.beadQ a
    let l := u.pendingBeads a
    let ok (t : State) (vals : List Word) : Prop :=
      Answered u t o.tid o.id vals ∧ t.beadOps = u.beadOps.filter (fun p => p.id != o.id) ∧ SamePcs u t
    let fails (t : State) (c : BitVec 6) (v : Word) : Prop := SameMemory u t ∧ SamePcs u t ∧ t.beads = u.beads ∧ t.indices = u.indices ∧
      (t.thread o.tid).reports = (u.thread o.tid).reports ++ [{ cause := c, val := v, hold := 0 }]
    let calm (t : State) : Prop := SameMemory u t ∧ t.beads = u.beads ∧ t.indices = u.indices
    (a % 128 = 0 → q.v = true →
      (∀ slot b, o.kind = .push slot b → slot < 16 →
        (b.mult = 0 ∨ q.pmask.getLsbD slot = false ∨ b.round < q.rounds.getD slot 0 ∨ b.round = 0xFFFFFFFF →
          ∃ t, exec (.beadStep o.id) s = .next t ∧ calm t ∧ ok t [if b.mult = 0 then 2 else if q.pmask.getLsbD slot = false then 3 else 4]) ∧
        (b.mult ≠ 0 → q.pmask.getLsbD slot = true → q.rounds.getD slot 0 ≤ b.round → b.round ≠ 0xFFFFFFFF →
          (l.find? (·.same b) = none → q.pending = 2 ^ q.logcap →
            ∃ t, exec (.beadStep o.id) s = .next t ∧ ok t [1] ∧ t.beads = u.beads ∧ (t.beadQ a).fulls = (q.fulls + 1) % 2 ^ 32) ∧
          (l.find? (·.same b) = none → q.pending ≠ 2 ^ q.logcap →
            ∃ t, exec (.beadStep o.id) s = .next t ∧ ok t [0] ∧ (∀ c, c ∈ t.pendingBeads a ↔ c = b ∨ c ∈ l) ∧
              (t.pendingBeads a).length = l.length + 1 ∧
              (l.Pairwise (fun x y => y.before x = false) → (t.pendingBeads a).Pairwise (fun x y => y.before x = false)) ∧
              (t.beadQ a).pending = (q.pending + 1) % 2 ^ 32 ∧ (t.beadQ a).pushes = (q.pushes + 1) % 2 ^ 32 ∧
              (t.beadQ a).frontier = q.frontier ∧ (t.beadQ a).inhand = q.inhand) ∧
          ∀ e, l.find? (·.same b) = some e →
            (e.mult + b.mult = 0 → ∃ t, exec (.beadStep o.id) s = .next t ∧ ok t [0] ∧ t.pendingBeads a = l.filter (fun c => !c.same b) ∧
              (t.beadQ a).pending = q.pending - 1 ∧ (t.beadQ a).cancels = (q.cancels + 1) % 2 ^ 32) ∧
            (e.mult + b.mult ≠ 0 → -2147483648 ≤ e.mult + b.mult → e.mult + b.mult ≤ 2147483647 →
              ∃ t, exec (.beadStep o.id) s = .next t ∧ ok t [0] ∧
                t.pendingBeads a = l.map fun c => if c.same b then { c with mult := e.mult + b.mult } else c) ∧
            ((u.thread o.tid).outs.any (fun x => x.id == o.id) = true → (e.mult + b.mult < -2147483648 ∨ 2147483647 < e.mult + b.mult) →
              ∃ t, exec (.beadStep o.id) s = .next t ∧ fails t 11 (word q.qid)))) ∧
      (o.kind = .pop →
        (∀ c r, l = c :: r → c.round < q.frontier → (q.inhand = 0 ∨ q.hround = c.round) →
          ∃ t, exec (.beadStep o.id) s = .next t ∧ ok t [word (c.key + 2 ^ 32 * c.val), word ((BitVec.ofInt 32 c.mult).toNat + 2 ^ 32 * c.round)] ∧
            t.pendingBeads a = r ∧ (t.beadQ a).pending = q.pending - 1 ∧ (t.beadQ a).inhand = (q.inhand + 1) % 2 ^ 32 ∧
            (t.beadQ a).hround = c.round) ∧
        (∀ reason, ((l = [] ∨ ∃ c r, l = c :: r ∧ q.frontier ≤ c.round) ∧ reason = 0) ∨
            ((∃ c r, l = c :: r ∧ c.round < q.frontier ∧ 0 < q.inhand ∧ q.hround ≠ c.round) ∧ reason = 1) →
          ∃ t, exec (.beadStep o.id) s = .next t ∧ calm t ∧ ok t [word (q.pending * 2 ^ 32 + q.frontier), word (reason * 2 ^ 32)])) ∧
      (∀ slot r, o.kind = .round slot r → slot < 16 → r < 2 ^ 32 →
        (q.pmask.getLsbD slot = false → ∃ t, exec (.beadStep o.id) s = .next t ∧ calm t ∧ ok t [0x200000000]) ∧
        (q.pmask.getLsbD slot = true → r < q.rounds.getD slot 0 →
          ∃ t, exec (.beadStep o.id) s = .next t ∧ calm t ∧ ok t [word (2 ^ 32 + q.rounds.getD slot 0)]) ∧
        (q.pmask.getLsbD slot = true → q.rounds.getD slot 0 ≤ r →
          ∃ t m, exec (.beadStep o.id) s = .next t ∧ ok t [word r] ∧ t.beads = u.beads ∧
            (∀ p, p < 16 → (t.beadQ a).rounds.getD p 0 = if p = slot then r else q.rounds.getD p 0) ∧
            (t.beadQ a).frontier = max q.frontier m ∧ (∀ p, p < 16 → q.pmask.getLsbD p = true → m ≤ (t.beadQ a).rounds.getD p 0) ∧
            ∃ p, p < 16 ∧ q.pmask.getLsbD p = true ∧ m = (t.beadQ a).rounds.getD p 0)) ∧
      (∀ n, o.kind = .ack n →
        (n ≤ q.inhand → ∃ t, exec (.beadStep o.id) s = .next t ∧ ok t [word (q.inhand - n)] ∧ (t.beadQ a).inhand = q.inhand - n ∧ t.beads = u.beads) ∧
        (q.inhand < n → (u.thread o.tid).outs.any (fun x => x.id == o.id) = true → ∃ t, exec (.beadStep o.id) s = .next t ∧ fails t 7 3))) ∧
    (a % 128 = 0 → ∀ w : Word, o.kind = .cfg w →
      (q.v = false → w.toNat / 2 ^ 60 ∈ [1, 2, 3, 6] → ∃ t, exec (.beadStep o.id) s = .next t ∧ calm t ∧ ok t [word (2 ^ 63 + 8)]) ∧
      (q.v = true → w.toNat / 2 ^ 60 = 0 → ∃ t, exec (.beadStep o.id) s = .next t ∧ calm t ∧ ok t [word (2 ^ 63 + 2)]) ∧
      (∀ p, q.v = true → w.toNat / 2 ^ 60 = 1 → p < 16 → q.pmask.getLsbD p = false → (∀ n, n < p → q.pmask.getLsbD n = true) →
        ∃ t, exec (.beadStep o.id) s = .next t ∧ ok t [word p] ∧ (t.beadQ a).pmask.getLsbD p = true ∧
          (t.beadQ a).rounds.getD p 0 = max (w.toNat % 2 ^ 32) q.frontier ∧ q.frontier ≤ (t.beadQ a).frontier) ∧
      (q.v = true → w.toNat / 2 ^ 60 = 6 → ∃ t, exec (.beadStep o.id) s = .next t ∧ ok t [word q.inhand] ∧ (t.beadQ a).inhand = 0)) ∧
    (∀ key, (u.beadIdx a).v = true →
      (o.kind = .get key → ∃ t, exec (.beadStep o.id) s = .next t ∧ calm t ∧ ok t [(afind (u.entriesOf a) key).getD (u.beadIdx a).dflt]) ∧
      ∀ v, o.kind = .put key v →
        (∃ t st, exec (.beadStep o.id) s = .next t ∧ ok t [st] ∧
          (st = if v = (u.beadIdx a).dflt then 2 else if (afind (u.entriesOf a) key).isSome then 1
            else if (u.beadIdx a).count < 2 ^ (u.beadIdx a).logcap then 0 else 3) ∧
          (st = 0 ∨ st = 1 → afind (t.entriesOf a) key = some v) ∧ (st = 2 → afind (t.entriesOf a) key = none) ∧
          (st = 3 → t.indices = u.indices) ∧ ∀ k, k ≠ key → afind (t.entriesOf a) k = afind (u.entriesOf a) k)) ∧
    ((u.thread o.tid).outs.any (fun x => x.id == o.id) = true →
      (q.v = false → (∃ p b, o.kind = .push p b) ∨ o.kind = .pop ∨ (∃ p r, o.kind = .round p r) ∨ (∃ n, o.kind = .ack n) →
        ∃ t, exec (.beadStep o.id) s = .next t ∧ fails t 7 2) ∧
      ((u.beadIdx a).v = false → (∃ key, o.kind = .get key) ∨ (∃ key v, o.kind = .put key v) →
        ∃ t, exec (.beadStep o.id) s = .next t ∧ fails t 7 2)) ∧
    (∀ r, o.kind = .quiet r → u.blockBad a = false →
      ∃ t w, exec (.beadStep o.id) s = .next t ∧ calm t ∧ ok t [w] ∧
        (∀ n, n < 8 → (w.getLsbD (8 + n) = true ↔ (u.blockEntry a n).1 = true ∧ u.quietIn (galleryOf a + (u.blockEntry a n).2) r = false)) ∧
        (w.getLsbD 0 = true ↔ ∀ n, n < 8 → w.getLsbD (8 + n) = false))

/-- Crossing commands issue with their operands and act on their system as stated (R318, R324, R325, R326, R327, R328, R329,
R335, R340, R345, R346, R347). -/
def Obligations.CrossingCommands : Prop :=
  (∀ (sem scope : BitVec 2) (rd rs1 rs2 : BitVec 5) (s : State), s.Clear [rd, rs1, rs2] → s.acquiring s.cur = false →
    let x := s.rx rs1
    let y := s.rx rs2
    let rel := if sem.getLsbD 1 then some scope else none
    let goes (i : Instr) (regs : List (BitVec 5)) (acq r : Option (BitVec 2)) (c : CrossCmd) (behind : Prop) : Prop :=
      ∃ t, exec i s = .next t ∧ SameRegisters s t ∧ Retired s t (s.th.pc + 4) ∧
        (behind → Issued s t .crossing regs acq ∧ (∃ o : CrossOp, t.xops = s.xops ++ [o] ∧ o.tid = s.cur ∧ o.asid = s.th.asid ∧
          o.user = !s.th.steward ∧ o.cmd = c ∧ o.rel = r) ∧ ({ t with threads := s.threads, nextId := s.nextId, xops := s.xops } : State) = s)
    (∀ q ∈ s.xops, q.id < s.nextId) →
    let again := s.xops.any (fun q => q.tid == s.cur && q.cmd.place == some (x.toNat % 65536)) = true
    (x.toNat < 65536 → (v64 y.toNat).isNan = false →
      goes (.qrun sem scope rd rs1 rs2) [rd] none rel (.run x y) again ∧
      goes (.qsample sem scope rd rs1 rs2) [rd] none rel (.sample x y) again) ∧
    goes (.qslope sem scope rd rs1 rs2) [rd] none rel (.slope x y) again ∧
    (x.toNat < 2 ^ 36 → (v64 y.toNat).isNan = false → (v32 ((s.rx rd).toNat % 2 ^ 32)).finite = true →
      goes (.qinj sem scope rd rs1 rs2) [] none rel (.inj x (s.rx rd) y) again) ∧
    (x.toNat < 2 ^ 36 → y.toNat % 8 = 0 → goes (.qvset rd rs1 rs2) [rd] (some 2) (some 2) (.vset x (y.toNat % 0x100000)) again) ∧
    (x.toNat < 2 ^ 36 → y.extractLsb' 32 31 = 0 → goes (.qconv rd rs1 rs2) [rd] (some 2) (some 2) (.conv x y) again) ∧
    (x.toNat < 65536 → goes (.qstat rd rs1 rs2) [rd] (some 2) (some 2) (.stat x y) again) ∧
    (x.toNat < 65536 → y.toNat ≤ 1 → goes (.qstop rd rs1 rs2) [rd] (some 2) (some 2) (.stop x y) again) ∧
    (x.toNat % 128 = 0 → y.toNat ≤ 1 → goes (.qcfg rd rs1 rs2) [rd] (some 2) (some 2) (.cfg (y == 1) x)
      (∃ q ∈ s.xops, q.tid = s.cur ∧ (∃ b, q.cmd = .cfg b x) ∧ q.rel = some 2 ∧ q.asid = s.th.asid ∧ q.user = !s.th.steward))) ∧
  (∀ (s : State) (o : CrossOp) (out : Out) (rd : BitVec 5), s.xops.find? (fun q => q.id == o.id) = some o →
    s.crossBlocked o = false → o.rel = none → (∀ k, s.crossPlace o = some k → (s.die (k / 16384)).engineOut = false) →
    s.engParked o.id = false → (s.thread o.tid).jobs.find? (fun j => j.id == o.id) = none →
    (s.thread o.tid).outs.filter (fun q => q.id == o.id) = [out] → out.vals = none → out.regs = [rd] →
    let gives (t : State) (w : Word) : Prop :=
      (t.thread o.tid).rx rd = (if rd = 0 then 0 else w) ∧ (∀ r, r ≠ rd → (t.thread o.tid).rx r = (s.thread o.tid).rx r) ∧
      (t.thread o.tid).outs = (s.thread o.tid).outs.filter (fun q => q.id != o.id) ∧ (t.thread o.tid).pc = (s.thread o.tid).pc ∧
      t.xops = s.xops.filter (fun q => q.id != o.id)
    let run := exec (.resultReturn o.tid o.id) s
    (∀ k y, o.cmd.place = some k → afind s.systems k = some y →
      let st := s.sysState k
      let same (t : State) : Prop := SameMemory s t ∧ t.systems = s.systems
      (y.asid ≠ o.asid → ∃ t, run = .next t ∧ same t ∧ (∀ r, (t.thread o.tid).rx r = (s.thread o.tid).rx r) ∧
        (t.thread o.tid).reports = (s.thread o.tid).reports ++ [{ cause := 7, val := 2, hold := 0 }]) ∧
      (y.asid = o.asid → y.block % 128 = 0 → inGallery y.block = true → s.columns (dieOfAddr y.block) = 0xFFFF → s.blockField k 32 0 64 = 0 →
        (∀ w n, o.cmd = .stat w n → ∃ t, run = .next t ∧ same t ∧ gives t (word
          (if n = 0 then s.blockField k 0 0 64 else if n = 1 then s.sysNow k else if n = 2 then y.tl.getD inf64
           else if n = 3 then s.blockField k 112 32 32 else if n = 4 then y.front.getD inf64 else if n = 5 then y.wake.length
           else if n = 6 then y.heapMin else if n = 7 then y.sample.getD inf64 else if n = 8 then s.blockField k 96 32 8 else 0))) ∧
        (∀ w tl, o.cmd = .run w tl →
          (st = 5 ∨ st = 6 → ∃ t, run = .next t ∧ same t ∧ gives t (word (2 ^ 63 + 2))) ∧
          (st ≠ 5 → st ≠ 6 → ltFp (v64 (s.sysNow k)) (v64 tl.toNat) = false → ∃ t, run = .next t ∧ same t ∧ gives t (word (2 ^ 63 + 1))) ∧
          (st ≠ 4 → st ≠ 5 → st ≠ 6 → ltFp (v64 (s.sysNow k)) (v64 tl.toNat) = true →
            ∃ t, run = .next t ∧ gives t 0 ∧ t.sysState k = 1 ∧ (t.system k).tl = some tl.toNat ∧
              ∀ b, Apart s b y.block 8 → t.readByte b = s.readByte b)) ∧
        (∀ w u, o.cmd = .sample w u → st ≠ 5 → st ≠ 6 → ltFp (v64 u.toNat) (v64 (s.sysNow k)) = false →
          (eqFp (v64 u.toNat) (v64 (s.sysNow k)) = false ∨ y.opened = none) →
          (y.sample.isSome = true → ∃ t, run = .next t ∧ same t ∧ gives t 2) ∧
          (y.sample = none → ∃ t, run = .next t ∧ SameMemory s t ∧ gives t 0 ∧ (t.system k).sample = some u.toNat)) ∧
        (∀ w m, o.cmd = .stop w m → m = 0 →
          (st = 3 ∨ st = 5 ∨ st = 6 → ∃ t, run = .next t ∧ same t ∧ gives t 1) ∧
          (st ≠ 3 → st ≠ 5 → st ≠ 6 → y.opened = none →
            ∃ t, run = .next t ∧ gives t 0 ∧ t.sysState k = 3 ∧ (t.system k).sample = none ∧ t.net.length = s.net.length + 1)) ∧
        (∀ w p i, o.cmd = .conv w p → i = (w.extractLsb' 16 20).toNat → i < y.nvar → y.opened = none →
          (st = 1 ∨ st = 5 ∨ st = 6 → ∃ t, run = .next t ∧ same t ∧ gives t (word (2 ^ 63 + 1))) ∧
          (∀ u : State, st ≠ 1 → st ≠ 5 → st ≠ 6 → p.getLsbD 63 = false → (v32 (p.toNat % 2 ^ 32)).finite = true →
            xsave k i { kind := 2, x := 0, q := 0, delta := 0x3F800000, d := p.toNat % 2 ^ 32, tx := s.sysNow k,
                        tn := emission (p.toNat % 2 ^ 32) (s.sysNow k), pend := false, lv := false, ldir := false, c := 0, aux := 0,
                        tw := s.sysNow k } s = .ok ((), u) →
            ∃ t, run = .next t ∧ gives t 0 ∧ SameMemory u t ∧ (t.system k).sched = (u.system k).sched)) ∧
        (∀ w off i d, o.cmd = .vset w off → i = (w.extractLsb' 16 20).toNat → i < y.nvar → y.opened = none →
          d = leNat (s.spadRead (coreOf o.tid) off 32) →
          (st = 1 ∨ st = 5 ∨ st = 6 → ∃ t, run = .next t ∧ same t ∧ gives t (word (2 ^ 63 + 1))) ∧
          (∀ u : State, st ≠ 1 → st ≠ 5 → st ≠ 6 → d / 2 ^ 128 = 1 → (v32 (d % 2 ^ 32)).finite = true → d / 2 ^ 32 % 2 ^ 96 = 0 →
            xsave k i { kind := 1, x := d % 2 ^ 32, q := 0, delta := 0, d := 0, tx := s.sysNow k, tn := s.sysNow k, pend := false,
                        lv := false, ldir := false, c := 0, aux := 0, tw := s.sysNow k } s = .ok ((), u) →
            ∃ t, run = .next t ∧ gives t 0 ∧ SameMemory u t ∧ (t.system k).sched = (u.system k).sched)) ∧
        (∀ w g i T, o.cmd = .slope w g → i = (w.extractLsb' 16 20).toNat → i < y.nvar →
          let copy := (s.thread o.tid).card.any (·.copy.isSome)
          (y.opened = none → copy = false → ∃ t, run = .next t ∧ same t ∧ gives t 2) ∧
          (y.opened = none → copy = true → st ∈ [1, 2, 3, 4] →
            (s.blockField k 112 32 28 + 2 ^ 28 - (w.extractLsb' 36 28).toNat) % 2 ^ 28 < 2 ^ 27 → ∃ t, run = .next t ∧ same t ∧ gives t 1) ∧
          (st ≠ 1 → st ≠ 2 → st ≠ 4 → y.opened.isSome = true ∨ copy = false ∨ st ≠ 3 → ∃ t, run = .next t ∧ same t ∧ gives t 2) ∧
          (∀ (v : XVar) (u z : State), y.opened = some T → st = 1 → (w.extractLsb' 36 28).toNat = s.blockField k 112 32 28 →
            y.wake.contains i = true → (y.wake.filter (fun j => j != i)) ≠ [] → (v32 (g.toNat % 2 ^ 32)).finite = true →
            xload k i s = .ok (v, u) → u.systems = s.systems →
            (let n : XVar := { v with x := v.at_ T, tx := T, d := g.toNat % 2 ^ 32, pend := false }
             xsave k i { n with tn := n.slopetime T } u = .ok ((), z)) →
            z.blockField k 32 0 64 = 0 → z.sysState k = 1 → (z.system k).opened = some T → (z.system k).wake = y.wake →
            (z.thread o.tid) = s.thread o.tid → z.xops = s.xops →
            ∃ t, run = .next t ∧ gives t 0 ∧ SameMemory z t ∧ (t.system k).wake = y.wake.filter (fun j => j != i))))) ∧
    (∀ k w n, o.cmd = .stat w n → o.cmd.place = some k → afind s.systems k = none →
      ∃ t, run = .next t ∧ SameMemory s t ∧ gives t 0) ∧
    (∀ va a k y u pa free, o.cmd = .cfg free va → s.translate (coreOf o.tid) o.asid va { r := true } o.user = (u, .ok pa) →
      u.locate pa = .mem a → s.systems.find? (fun p => p.2.block == a) = some (k, y) →
      (free = false → ∃ t, run = .next t ∧ SameMemory s t ∧ t.systems = s.systems ∧ gives t (word (2 ^ 63 + 6))) ∧
      (free = true → y.asid = o.asid → s.sysState k ≠ 1 → s.sysState k ≠ 2 → s.system k = y →
        ∃ t, run = .next t ∧ gives t 0 ∧ afind t.systems k = none ∧ (∀ j, j ≠ k → afind t.systems j = afind s.systems j) ∧
          ∀ h ∈ y.holds, h ∉ t.held) ∧
      (free = true → y.asid = o.asid → (s.sysState k = 1 ∨ s.sysState k = 2) →
        ∃ t, run = .next t ∧ SameMemory s t ∧ t.systems = s.systems ∧ gives t (word (2 ^ 63 + 5))))) ∧
  ∀ (s : State) (o : CrossOp) (out : Out) (k : Nat) (y : CrossSys) (w v u : Word), s.xops.find? (fun q => q.id == o.id) = some o →
    s.crossBlocked o = false → o.rel = none → (∀ k, s.crossPlace o = some k → (s.die (k / 16384)).engineOut = false) →
    s.engParked o.id = false → (s.thread o.tid).jobs.find? (fun j => j.id == o.id) = none →
    (s.thread o.tid).outs.filter (fun q => q.id == o.id) = [out] → out.vals = none → out.regs = [] →
    o.cmd = .inj w v u → o.cmd.place = some k → afind s.systems k = some y → y.asid = o.asid →
    s.sysState k ≠ 5 → s.sysState k ≠ 6 → s.sysState k ≠ 1 → (w.extractLsb' 16 20).toNat < y.nvar →
    ltFp (v64 u.toNat) (v64 (s.sysNow k)) = false → (eqFp (v64 u.toNat) (v64 (s.sysNow k)) = false ∨ y.opened = none) →
    ∃ t a, exec (.resultReturn o.tid o.id) s = .next t ∧ (t.system k).arrivals = (s.system k).arrivals ++ [a] ∧ a.time = u.toNat ∧
      a.var = (w.extractLsb' 16 20).toNat ∧ a.kind = .inject ∧ a.q = v.toNat % 2 ^ 32 ∧ SameMemory s t ∧
      (∀ r, (t.thread o.tid).rx r = (s.thread o.tid).rx r) ∧ (t.thread o.tid).outs = (s.thread o.tid).outs.filter (fun q => q.id != o.id)

/-- What the steps of crossing systems do (R318, R325, R330, R331, R336, R340, R342, R343). That a sample which waits when its
system becomes HELD with TL not above it (sampleHeld) is taken only after a QRUN that raises TL above it is the model's choice
(log 41; R340 does not say). -/
def Obligations.CrossingSteps : Prop :=
  (∀ (s : State) (die sys : Nat) (y : CrossSys), let k := sysPlace die sys
    s.sysFree k = true → afind s.systems k = some y → y.opened = none → s.sysState k = 1 → s.blockField k 32 0 64 = 0 →
    ltFp (v64 y.heapMin) (v64 inf64) = true → (∀ u, y.sample = some u → ltFp (v64 u) (v64 y.heapMin) = false) →
    inGallery y.block = true → y.block % 128 = 0 → s.columns (dieOfAddr y.block) = 0xFFFF →
    (y.below y.heapMin = false →
      ∃ t, exec (.systemHold die sys) s = .next t ∧ t.sysState k = 2 ∧ (∀ b, Apart s b y.block 8 → t.readByte b = s.readByte b) ∧
        t.net.length = s.net.length + 1 ∧ t.system k = { y with sampleHeld := y.sample.any fun u => !y.below u } ∧
        (∀ j, j ≠ k → afind t.systems j = afind s.systems j) ∧ SamePcs s t) ∧
    (y.below y.heapMin = true → exec (.systemHold die sys) s = .next s) ∧
    (y.below y.heapMin = false → exec (.instantBegin die sys) s = .next s) ∧
    ∀ (s1 u : State) (l : List Arrival) (vars : List Nat), y.below y.heapMin = true →
      l = y.arrivals.filter (fun a => eqFp (v64 a.time) (v64 y.heapMin)) →
      vars = (((y.sched.filter fun p => eqFp (v64 p.2) (v64 y.heapMin)).map (·.1)) ++ l.map (·.var)).eraseDups.mergeSort (fun a b => decide (a ≤ b)) →
      s1 = (((s.putBlock k 104 y.heapMin 8).putBlock k 116 ((s.readVal (y.block + 116) 4 + 1) % 2 ^ 32) 4).modSystem k fun q =>
        { q with opened := some y.heapMin, applied := vars, wake := [], stopVar := none,
                 arrivals := q.arrivals.filter fun a => !eqFp (v64 a.time) (v64 y.heapMin) }) →
      xvariables k y.heapMin l vars s1 = .ok (none, u) → (u.system k).wake = [] → (u.system k).stopVar = none → (u.system k).stopq = false →
      u.eventsWait k = false →
      (u.system k).opened = some y.heapMin → u.sysState k = 1 → u.blockField k 32 0 64 = 0 →
      s1.sysNow k = y.heapMin % 2 ^ 64 ∧
      ∃ t, exec (.instantBegin die sys) s = .next t ∧ SameMemory u t ∧ (t.system k).opened = none ∧ (t.system k).arrivals = (u.system k).arrivals ∧
        (t.system k).sched = (u.system k).sched) ∧
  (∀ (s u z : State) (die sys : Nat) (y : CrossSys) (T b : Nat), let k := sysPlace die sys
    s.sysFree k = true → afind s.systems k = some y → y.opened = none → s.sysState k ≠ 5 → s.sysState k ≠ 6 → y.sample = some T →
    y.sampleHeld = false → ltFp (v64 T) (v64 y.heapMin) = true → xbound k s = .ok (b, u) → ltFp (v64 T) (v64 b) = true →
    SampleWritten k T (List.range y.nvar) u z → y.nvar = (u.system k).nvar →
    ∃ t, exec (.sampleTake die sys) s = .next t ∧ SameMemory z t ∧ (t.system k).sample = none ∧ SamePcs z t ∧ t.net.length = z.net.length + 1) ∧
  ∀ (s : State) (p : CrossPkt), s.crossNext p.id = some p →
    ((s.system (p.src / 2 ^ 36 % 2 ^ 16)).opened = none ∨ (s.system (p.src / 2 ^ 36 % 2 ^ 16)).wake ≠ []) →
    let gone (t : State) : Prop := t.xnet = s.xnet.filter (fun q => q.id != p.id)
    (afind s.systems p.dst = none →
      (p.frontier = none → ∃ t, exec (.crossingEventArrival p.id) s = .next t ∧ gone t ∧ SameMemory s t ∧ t.systems = s.systems) ∧
      (p.frontier.isSome = true → ∃ t, exec (.crossingFrontierArrival p.id) s = .next t ∧ gone t ∧ SameMemory s t ∧ t.systems = s.systems)) ∧
    ∀ y, afind s.systems p.dst = some y → s.engParked y.id = false → s.storeFull (p.dst / 2 ^ 14) = false →
      (p.frontier = none → s.sysState p.dst ≠ 5 → s.sysState p.dst ≠ 6 → p.event.var < y.nvar →
        (ltFp (v64 (s.sysNow p.dst)) (v64 p.event.time) = false → inGallery y.block = true → y.block % 128 = 0 →
          s.columns (dieOfAddr y.block) = 0xFFFF →
          ∃ t, exec (.crossingEventArrival p.id) s = .next t ∧ gone t ∧ t.sysState p.dst = 6 ∧ t.blockField p.dst 96 32 8 = 3) ∧
        (ltFp (v64 (s.sysNow p.dst)) (v64 p.event.time) = true → s.sysState p.dst ≠ 1 →
          ∃ t, exec (.crossingEventArrival p.id) s = .next t ∧ gone t ∧ SameMemory s t ∧
            (t.system p.dst).arrivals = (s.system p.dst).arrivals ++ [p.event]) ∧
        ∀ (v u : State) (l : List (Nat × Nat) × List (Nat × Nat)), ltFp (v64 (s.sysNow p.dst)) (v64 p.event.time) = true →
          s.sysState p.dst = 1 → v = (s.dropCross p.id).modSystem p.dst (fun y => y.pend p.event) → xlinks p.dst v = .ok (l, u) →
          u.xnet = v.xnet → u.systems = v.systems → u.podcfg = v.podcfg →
          ∃ t, exec (.crossingEventArrival p.id) s = .next t ∧ SameMemory u t ∧ FrontierSent v t p.dst l ∧
            (t.system p.dst).arrivals = (s.system p.dst).arrivals ++ [p.event]) ∧
      ∀ f, p.frontier = some f →
        (s.sysState p.dst ≠ 1 → ∃ t, exec (.crossingFrontierArrival p.id) s = .next t ∧ gone t ∧ SameMemory s t ∧
          afind (t.system p.dst).peers (p.src / 2 ^ 36 * 2 ^ 36) = some f) ∧
        ∀ (v u : State) (l : List (Nat × Nat) × List (Nat × Nat)), s.sysState p.dst = 1 →
          v = (s.dropCross p.id).modSystem p.dst (fun y => { y with peers := aput y.peers (p.src / 2 ^ 36 * 2 ^ 36) f }) →
          xlinks p.dst v = .ok (l, u) → u.xnet = v.xnet → u.systems = v.systems → u.podcfg = v.podcfg →
          ∃ t, exec (.crossingFrontierArrival p.id) s = .next t ∧ SameMemory u t ∧ FrontierSent v t p.dst l ∧
            afind (t.system p.dst).peers (p.src / 2 ^ 36 * 2 ^ 36) = some f

/-- CSTART, CWAIT, CCANCEL, CSTAT and PFLUSH as R358, R360, R364, R365 and R368 to R370 have them. That CSTART and CCANCEL
answer as outstanding results while CWAIT and CSTAT write rd at issue, and that CSTAT 1 of a package in no domain gives 0, is
the model's choice (log 44); whether a further rank lies in the domain is a free value there. -/
def Obligations.CollectiveCommands : Prop :=
  (∀ (sem scope : BitVec 2) (rd rs1 : BitVec 5) (s u : State) (a pa : Nat) (path : Path), s.Clear [rd, rs1] → (s.rx rs1).toNat % 64 = 0 →
    s.niReady = true → s.scalar s.cur (s.rx rs1) 64 { r := true } = (u, .at_ (.mem a) path pa) → u.isPoisoned a 64 = false →
    u.behind s.cur path pa 64 = false → u.portShut (coreOf s.cur) a = false → u.cur = s.cur → u.threads = s.threads → (∀ o ∈ u.th.outs, o.id ≠ u.nextId) →
    (∀ o ∈ u.cops, o.id ≠ u.nextId) →
    ∀ c : CLive, c.block = cardWords (u.readBytes a 64) → c.key = c.block.getD 0 0 → c.asid = s.th.asid → c.user = !s.th.steward →
    c.state = 1 → c.num = none → c.status = 0 → c.joins = 1 → c.tid = s.cur → c.id = u.nextId → c.trap = none → c.data = [] →
    c.dest = none → c.put = 0 → c.rels = [] → c.w 1 % max c.elem 1 = 0 → c.w 2 % max c.elem 1 = 0 → collReserved c.block = false → collWrong c u.chipno = false → u.inDomain = true →
    u.chipno ∈ ranksOf c.shared → (∀ r ∈ ranksOf c.shared, r ≤ 4095 ∧ u.inPod r = true ∧
      (r = u.chipno ∨ r = (u.coldom.extractLsb' 0 12).toNat ∨ r = u.standby)) →
    let gives (t : State) (v : Word) : Prop := SameRegisters u t ∧ Retired u t (s.th.pc + 4) ∧ SameButResults u.th t.th ∧ SameMemory u t ∧
      OthersButNotes u t ∧ ∃ o : Out, t.th.outs = u.th.outs ++ [o] ∧ o.regs = [rd] ∧ o.vals = some [v]
    (∃ t, exec (.cstart sem scope rd rs1) s = .next t ∧ SameRegisters u t ∧ Retired u t (s.th.pc + 4)) ∧
    (sem.getLsbD 1 = false →
    (∀ i, u.cslots.find? (fun p => p.2.key == c.key) = none → u.freeSlot = some i → (∀ n ∈ u.cnums, n.key ≠ c.key) →
      ∃ t, exec (.cstart sem scope rd rs1) s = .next t ∧ gives t (word ((u.cgen i + 1) % 2 ^ 24 * 256 + i)) ∧ afind t.cslots i = some c ∧
        (∀ j, j ≠ i → afind t.cslots j = afind u.cslots j) ∧ t.cgen i = (u.cgen i + 1) % 2 ^ 24 ∧
        (u.newel = u.chipno → ∃ m, t.cmsgs = u.cmsgs ++ [m] ∧ m.key = c.key ∧ m.kind = .register c.shared)) ∧
    (∀ i o, u.cslots.find? (fun p => p.2.key == c.key) = some (i, o) →
      (o.asid = c.asid → o.block = c.block → ∃ t, exec (.cstart sem scope rd rs1) s = .next t ∧ gives t (u.handleOf i) ∧
        afind t.cslots i = (afind u.cslots i).map fun o => { o with joins := o.joins + 1 }) ∧
      (¬(o.asid = c.asid ∧ o.block = c.block) →
        ∃ t, exec (.cstart sem scope rd rs1) s = .next t ∧ gives t (word (2 ^ 63 + 2)) ∧ t.cslots = u.cslots)) ∧
    (u.cslots.find? (fun p => p.2.key == c.key) = none → u.freeSlot = none →
      ∃ t, exec (.cstart sem scope rd rs1) s = .next t ∧ gives t (word (2 ^ 63 + 1)) ∧ t.cslots = u.cslots))) ∧
  (∀ (sem scope : BitVec 2) (rd rs1 rs2 : BitVec 5) (s : State), s.Clear [rd, rs1, rs2] →
    let h := s.rx rs1
    let ids := (s.posted.filter fun p => p.tid == s.cur).map (·.id) ++
      ((s.bankPosts s.cur).map (·.id)).filter fun i => s.posted.all (·.id != i)
    let later (t : State) (v : Word) : Prop := SameRegisters s t ∧ Retired s t (s.th.pc + 4) ∧ SameButResults s.th t.th ∧ SameMemory s t ∧
      OtherThreads s t ∧ ∃ o : Out, t.th.outs = s.th.outs ++ [o] ∧ o.regs = [rd] ∧ o.vals = some [v]
    (s.slotOf h s.th.asid = none →
      (∃ t, exec (.cwait sem scope rd rs1) s = .next t ∧ Writes s t rd 255 (s.th.pc + 4)) ∧
      (∃ t, exec (.ccancel rd rs1) s = .next t ∧ later t 255 ∧ t.cmsgs = s.cmsgs)) ∧
    (∀ i c, s.slotOf h s.th.asid = some (i, c) →
      (c.state ≠ 4 → exec (.cwait sem scope rd rs1) s = .next s ∧
        ∃ t, exec (.ccancel rd rs1) s = .next t ∧ later t 0 ∧
          (s.newel = s.chipno → ∃ m, t.cmsgs = s.cmsgs ++ [m] ∧ m.key = c.key ∧ m.kind = if c.num = none then .withdraw else .cancel)) ∧
      (c.state = 4 →
        (∃ t, exec (.ccancel rd rs1) s = .next t ∧ later t 1 ∧ t.cmsgs = s.cmsgs) ∧
        ∃ t, exec (.cwait sem scope rd rs1) s = .next t ∧ t.rx rd = (if rd = 0 then 0 else word (c.num.getD 0 * 2 ^ 32 + c.status)) ∧
          (∀ r, r ≠ rd → t.rx r = s.rx r) ∧ t.th.pc = s.th.pc + 4 ∧ SameMemory s t ∧ OthersButNotes s t ∧
          (c.joins ≤ 1 → afind t.cslots i = none) ∧
          (1 < c.joins → afind t.cslots i = (afind s.cslots i).map fun d => { d with joins := d.joins - 1 }) ∧
          (∀ j, j ≠ i → afind t.cslots j = afind s.cslots j) ∧
          t.th.reports = s.th.reports ++ (c.trap.map fun k => { cause := k.1, val := k.2, hold := 0 }).toList)) ∧
    (∀ v, (((s.rx rs2) = 0 ∧ s.slotOf h s.th.asid = none ∧ v = 0) ∨
        ((s.rx rs2) = 0 ∧ ∃ i c, s.slotOf h s.th.asid = some (i, c) ∧ v = word (c.num.getD 0 * 2 ^ 32 +
          (if c.state = 4 then c.status * 2 ^ 16 else 0) + c.joins % 256 * 2 ^ 8 + c.state)) ∨
        ((s.rx rs2) = 1 ∧ ((s.inDomain = false ∧ v = 0) ∨
          (s.inDomain = true ∧ (v.extractLsb' 0 12).toNat = s.newel ∧ (v.extractLsb' 12 12).toNat = s.standby ∧
            v.getLsbD 24 = (s.newel == s.chipno) ∧ v.getLsbD 25 = (!s.noStandby && s.standby == s.chipno) ∧ v.getLsbD 26 = s.ctaken ∧
            v.getLsbD 27 = s.noStandby ∧ v.extractLsb' 28 36 = 0))) ∨
        ((s.rx rs2) = 2 ∧ s.firstNum = none ∧ v = BitVec.allOnes 64) ∨ ((s.rx rs2) = 2 ∧ ∃ n, s.firstNum = some n ∧ v = word n.num) ∨
        ((s.rx rs2) = 3 ∧ v = word (256 - s.cslots.length)) ∨
        ((s.rx rs2) = 4 ∧ v = word ids.length) ∨ (4 < (s.rx rs2).toNat ∧ v = 0)) →
      ∃ t, exec (.cstat rd rs1 rs2) s = .next t ∧ Writes s t rd v (s.th.pc + 4)) ∧
    (s.niReady = true → s.th.lost = none → s.flushes = [] → (∀ o ∈ s.th.outs, o.id ≠ s.nextId) →
      let n := ids.length
      (n = 0 → ∃ t, exec (.pflush rd) s = .next t ∧ later t 0 ∧ t.flushes = [] ∧ t.posted = s.posted) ∧
      (n ≠ 0 → ∃ t f, exec (.pflush rd) s = .next t ∧ Issued s t .fabric [rd] none ∧ t.flushes = [f] ∧ f.count = n ∧ f.tid = s.cur ∧
        f.left = ids ∧ t.posted = s.posted)))

/-- The newel numbers keys once and in order, members begin, finish and report numbers as stated (R366, R367, R368, R369, R371,
R374). -/
def Obligations.CollectiveSteps : Prop :=
  (∀ (s : State) (m : CMsg), s.cmsgs.find? (fun q => q.id == m.id) = some m →
    let rest := s.cmsgs.filter (fun q => q.id != m.id)
    let quiet (t : State) : Prop := t.threads = s.threads ∧ SameMemory s t ∧ t.cores = s.cores
    (∀ shared, m.kind = .register shared → m.dom = s.coldom → s.amNewel = true → s.ckeys.find? (fun k => k.key == m.key) = none → s.ckeys.length < 65536 →
      s.wrapWaits = false → (∀ k ∈ s.ckeys, k.acked = true) →
      ∃ t k, exec (.collectiveRegistration m.id) s = .next t ∧ quiet t ∧ t.ckeys = s.ckeys ++ [k] ∧ k.key = m.key ∧ k.shared = shared ∧
        k.num = s.cnext ∧ k.acked = s.noStandby ∧ t.cnext = (s.cnext + 1) % 2 ^ 32 ∧
        (s.noStandby = true → s.chipno ∈ ranksOf shared ++ [m.src] → ∃ q ∈ t.cmsgs, q.key = m.key ∧ q.num = s.cnext ∧ q.kind = .notice) ∧
        (s.noStandby = false → t.cmsgs = rest)) ∧
    (∀ k, m.kind = .replicaAck → s.ckeys.find? (fun k => k.key == m.key && k.num == m.num && !k.acked) = some k →
      ∃ t, exec (.replicationAck m.id) s = .next t ∧ quiet t ∧
        t.ckeys = s.ckeys.map (fun x => if x.key = m.key then { x with acked := true } else x) ∧
        (s.chipno ∈ ranksOf k.shared → ∃ q ∈ t.cmsgs, q.key = k.key ∧ q.num = k.num ∧ q.kind = .notice)) ∧
    (m.kind = .notice → afind s.cfin m.num = none → s.cnums.any (fun n => n.num == m.num) = false →
      ∃ t, exec (.assignmentNotice m.id) s = .next t ∧ quiet t ∧ t.cmsgs = rest ∧ t.cnums = s.cnums ++ [{ num := m.num, key := m.key, skip := none }] ∧
        (∀ i c, s.cslots.find? (fun p => p.2.key == m.key && p.2.state == 1) = some (i, c) →
          afind t.cslots i = (afind s.cslots i).map fun c => { c with state := 2, num := some m.num }) ∧
        (s.cslots.find? (fun p => p.2.key == m.key && p.2.state == 1) = none → t.cslots = s.cslots)) ∧
    (m.kind = .report → s.amNewel = true →
      ∃ t, exec (.finishReport m.id) s = .next t ∧ quiet t ∧
        (∀ k ∈ s.ckeys, k.num ≠ m.num → k ∈ t.ckeys) ∧
        (∀ q ∈ t.ckeys, q.num = m.num → ∃ r ∈ ranksOf q.shared, r ∉ q.reports) ∧
        (∀ k ∈ s.ckeys, k.num = m.num → (∃ r ∈ ranksOf k.shared, r ≠ m.src ∧ r ∉ k.reports) →
          ∃ q ∈ t.ckeys, q.key = k.key ∧ q.num = k.num ∧ m.src ∈ q.reports) ∧
        (m.src = s.chipno → ∃ q ∈ t.cmsgs, q.num = m.num ∧ q.kind = .reportAck)) ∧
    (m.kind = .reportAck → ∃ t, exec (.finishReportAck m.id) s = .next t ∧ quiet t ∧ t.cmsgs = rest ∧
      t.creports = s.creports.filter fun n => n.num != m.num) ∧
    ((m.kind = .withdraw ∨ m.kind = .cancel) → m.dom = s.coldom → s.amNewel = true →
      (∀ k, s.ckeys.find? (fun k => k.key == m.key && (m.kind == .withdraw || k.num == m.num)) = some k → k.acked = true →
        ∃ t, exec (.collectiveWithdrawal m.id) s = .next t ∧ quiet t ∧
          t.ckeys = s.ckeys.map (fun x => if x.key = m.key then { x with cancelled := true } else x) ∧
          (s.chipno ∈ ranksOf k.shared → ∃ q ∈ t.cmsgs, q.key = k.key ∧ q.num = k.num ∧ q.kind = .skip 1)) ∧
      (s.ckeys.find? (fun k => k.key == m.key && (m.kind == .withdraw || k.num == m.num)) = none →
        (m.kind = .withdraw → (∃ x ∈ rest, x.registersBefore m = true) →
          ∃ t, exec (.collectiveWithdrawal m.id) s = .next t ∧ quiet t ∧ t.ckeys = s.ckeys ∧ (∀ x ∈ t.cmsgs, x.registersBefore m = false) ∧
            (m.src = s.chipno → ∃ q ∈ t.cmsgs, q.key = m.key ∧ q.kind = .removed)) ∧
        (m.kind = .cancel ∨ (∀ x ∈ rest, x.registersBefore m = false) →
          ∃ t, exec (.collectiveWithdrawal m.id) s = .next t ∧ quiet t ∧ t.ckeys = s.ckeys ∧ t.cmsgs = rest))) ∧
    (∀ st, m.kind = .skip st → afind s.cfin m.num = none → s.cslots.any (fun p => p.2.num == some m.num && p.2.state == 3) = false →
      ∃ t, exec (.cancelNotice m.id) s = .next t ∧ quiet t ∧ t.cmsgs = rest ∧ t.cslots = s.cslots ∧
        ∃ n ∈ t.cnums, n.num = m.num ∧ n.skip.isSome = true) ∧
    (m.kind = .removed → ∀ i c, s.cslots.find? (fun p => p.2.key == m.key && p.2.state == 1) = some (i, c) → afind s.cslots i = some c →
      ∃ t d, exec (.cancelNotice m.id) s = .next t ∧ t.threads = s.threads ∧ SameMemory s t ∧ afind t.cslots i = some d ∧ d.state = 4 ∧ d.status = 1 ∧
        d.num = c.num) ∧
    (m.kind = .takeover → ∃ t, exec (.takeoverNotice m.id) s = .next t ∧ quiet t ∧ t.ctaken = true ∧ t.cslots = s.cslots ∧
      (s.standby = s.chipno → ∀ p ∈ s.cslots, p.2.state = 1 → ∃ q ∈ t.cmsgs, q.key = p.2.key ∧ q.kind = .register p.2.shared))) ∧
  (∀ (s : State) (n : CNum), s.firstNum = some n → (∀ p ∈ s.cslots, p.2.state ≠ 3) →
    (∀ st, n.skip = some st → ∃ t, exec .collectiveBegin s = .next t ∧ SameMemory s t ∧ SamePcs s t ∧ afind t.cfin n.num = some st ∧
      t.cnums = s.cnums.filter (fun q => q.num != n.num) ∧
      ∀ i c, s.cslots.find? (fun p => p.2.num == some n.num && p.2.state != 4) = some (i, c) → afind s.cslots i = some c →
        ∃ d, afind t.cslots i = some d ∧ d.state = 4 ∧ d.status = st) ∧
    ∀ i c, n.skip = none → s.cslots.find? (fun p => p.2.num == some n.num && p.2.state == 2) = some (i, c) →
      s.engParked c.id = false → c.data = [] → (∀ p ∈ s.cslots, p.1 = i → p.2 = c) →
      let len := c.srcLen (c.rank s.chipno)
      let va := c.block.getD 1 0
      let begun (v t : State) (d : Marked) : Prop := exec .collectiveBegin s = .next t ∧ SameMemory v t ∧ SamePcs v t ∧
        t.cslots = s.cslots.map fun p => if p.1 = i then (p.1, { p.2 with state := 3, data := d }) else p
      (len = 0 → ∃ t, begun s t []) ∧
      (isOwnWindow va = true → va.toNat % 0x100000 + len ≤ 0x100000 →
        ∃ t, begun s t (s.marked (spadBase (coreOf c.tid) + va.toNat % 0x100000) len)) ∧
      ∀ v u a pa path, 0 < len → va.toNat % 64 + len ≤ 64 → v = s.modSlot i (fun c => { c with state := 3 }) →
        v.reachAs (coreOf c.tid) c.asid c.user va len { r := true } = (u, .at_ (.mem a) path pa) → u.cslots = v.cslots →
        u.podcfg = s.podcfg → u.portShut (coreOf c.tid) a = false → ∃ t, begun u t (u.marked a len)) ∧
  (∀ (s : State) (num i : Nat) (c : CLive), s.cslots.find? (fun p => p.2.num == some num && p.2.state == 3) = some (i, c) →
    afind s.cslots i = some c → s.engParked c.id = false → c.op = 1 → c.root = c.rank s.chipno → c.root < c.members → c.data ≠ [] →
    c.data.length = c.count * c.elem → c.dest = none → c.put = 0 → (c.block.getD 6 0).getLsbD 35 = false →
    (∀ p ∈ s.posted, p.cmd ≠ some c.id) → (∀ p ∈ s.cslots, p.2.num = some num → p.2.state ≠ 4 → p = (i, c)) →
    (∀ p ∈ s.cslots, p.1 = i → p.2 = c) →
    let va := c.block.getD 2 0
    let completed (v : State) (a : Nat) : Prop :=
      ∃ t d, exec (.collectiveComplete num) s = .next t ∧ Stored v t a (c.data.map (·.1)) ∧ SamePcs v t ∧ afind t.cslots i = some d ∧
        d.state = 4 ∧ d.status = 0 ∧ d.trap = none ∧ afind t.cfin num = some 0
    (isOwnWindow va = true → va.toNat % 0x100000 + c.data.length ≤ 0x100000 → s.lockets = [] →
      completed s (spadBase (coreOf c.tid) + va.toNat % 0x100000)) ∧
    ∀ v u a pa path, v = (s.collSources c c.root c.members).1.modSlot i (fun d => { d with dest := some c.data }) →
      va.toNat % 64 + c.data.length ≤ 64 →
      v.reachAs (coreOf c.tid) c.asid c.user va c.data.length { w := true } = (u, .at_ (.mem a) path pa) →
      u.cslots = v.cslots → u.posted = s.posted → u.podcfg = s.podcfg → u.portShut (coreOf c.tid) a = false → (∀ b, u.keep b = b) → completed u a) ∧
  (∀ s : State, s.inDomain = true → s.noStandby = false →
    (s.amNewel = true → s.cbeat + 7000 ≤ s.time → exec .newelHeartbeat s = .next { s with cbeat := s.time }) ∧
    (s.amNewel = false → s.standby = s.chipno → exec .newelHeartbeat s = .next { s with cbeat := s.time }) ∧
    (s.standby = s.chipno → s.cbeat + 70000 ≤ s.time → ∃ t, exec .standbyTakeover s = .next t ∧ t.ctaken = true ∧ t.cnext = s.cnext ∧
      (∀ k ∈ t.ckeys, k.acked = true) ∧ t.ckeys.length = s.ckeys.length ∧ t.threads = s.threads ∧ SameMemory s t) ∧
    (s.time < s.cbeat + 70000 → exec .standbyTakeover s = .next s))

/-- Links retrain, fail and train, and remote accesses are performed and acknowledged as stated (R270, R271, R354, R355, R358,
R375). -/
def Obligations.FabricLinks : Prop :=
  (∀ (s : State) (pa a src : Nat) (covers bad : List Nat) (d : List Byte), s.locate pa d.length = .mem a → pa / 2 ^ 40 = s.chipno →
    s.portShut Config.cores a = false →
    (s.inLocket a d.length = false → s.isHeld a d.length = false → a % 64 + d.length ≤ 64 →
      ∃ t, exec (.postedWriteArrival pa { src := src, covers := covers, w := .bytes d bad }) s = .next t ∧ Stored s t a d ∧ SamePcs s t ∧
        ∀ i, i < d.length → t.isPoisoned (a + i) 1 = bad.contains i) ∧
    (s.inLocket a d.length = true ∨ s.isHeld a d.length = true →
      exec (.postedWriteArrival pa { src := src, covers := covers, w := .bytes d bad }) s = .next s)) ∧
  (∀ (s : State) (p : Posted), s.posted.find? (fun q => q.id == p.id) = some p → p.cmd = none →
    (s.flushes = [] → ∃ t, exec (.postedWriteAck p.id) s = .next t ∧ t.posted = s.posted.filter (fun q => q.id != p.id) ∧ t.threads = s.threads ∧
      SameMemory s t) ∧
    (∀ f, s.flushes = [f] → f.left = [p.id] → f.lost = none → f.count < 2 ^ 32 →
      ∃ t, exec (.postedWriteAck p.id) s = .next t ∧ t.flushes = [] ∧ Answered s t f.tid f.id [word f.count] ∧ SameMemory s t)) ∧
  (∀ (s : State) (tid id : Nat) (u : Thread) (w : RemoteWait) (val : Word), s.threads.find? (fun p => p.2.remote.any fun r => r.id == id) = some (tid, u) →
    s.thread tid = u → u.remote = some w → (w.size, w.signed) ∈ [(1, true), (2, true), (4, true), (8, true), (1, false), (2, false), (4, false)] →
    ∃ t, exec (.remoteLoadReply id val) s = .next t ∧
      (t.thread tid).rx w.rd = (if w.rd = 0 then 0 else loadValue w.size w.signed (val.toNat % 2 ^ (8 * w.size))) ∧
      (∀ r, r ≠ w.rd → (t.thread tid).rx r = u.rx r) ∧ (t.thread tid).pc = u.pc + 4 ∧ (t.thread tid).remote = none ∧
      (∀ k, k ≠ tid → ({ t.thread k with early := (s.thread k).early } : Thread) = s.thread k) ∧ SameMemory s t) ∧
  (∀ (s : State) (l : Nat), (l < 6 ∨ (32 ≤ l ∧ l < 50)) → (s.link l).down = false →
    let others (t : State) : Prop := (∀ k, k ≠ l → t.link k = s.link k) ∧ t.threads = s.threads ∧ SameMemory s t
    let trains (t : State) : Prop := (t.link l).retrain = true ∧ (32 ≤ l → (t.tlink (l - 32)).state = 1) ∧ others t
    ((s.link l).retrain = false →
      (∃ t, exec (.linkLoss l) s = .next t ∧ trains t) ∧
      ((s.link l).crc = 15 → ∃ t, exec (.flitCrcFailure l) s = .next t ∧
        (trains t ∨ ((t.link l).crc = 1 ∧ (t.link l).retrain = false ∧ others t))) ∧
      ((s.link l).crc < 15 → ∃ t, exec (.flitCrcFailure l) s = .next t ∧
        ((t.link l).crc = (s.link l).crc + 1 ∨ (t.link l).crc = 1) ∧ (t.link l).retrain = false ∧ others t)) ∧
    ((s.link l).retrain = true →
      (∃ t, exec (.linkRetrained l) s = .next t ∧ (t.link l).retrain = false ∧ (t.link l).crc = 0 ∧ (32 ≤ l → (t.tlink (l - 32)).state = if (s.tlink (l - 32)).same then 1 else 2) ∧ others t) ∧
      (s.time < (s.link l).since + 700000 → exec (.linkDownTimeout l) s = .next s) ∧
      ((s.link l).since + 700000 ≤ s.time →
        ∃ t, exec (.linkDownTimeout l) s = .next t ∧ (t.link l).down = true ∧ (t.link l).retrain = false ∧
          (32 ≤ l → (t.tlink (l - 32)).state = 0 ∧ exec (.tamgonLinkDown (l - 32)) s = .next t) ∧ (∀ k, k ≠ l → t.link k = s.link k) ∧
          (l < 6 ∨ (∀ p ∈ s.threads, p.2.remote = none) →
            ∀ k, (t.thread k).pc = (s.thread k).pc ∧ (t.thread k).steward = (s.thread k).steward ∧
              ∃ r, (t.thread k).reports = (s.thread k).reports ++ r ∧ ∀ x ∈ r, x.cause = 12 ∧ x.hold = 0) ∧
          (s.net = [] → s.bank = [] → s.beadOps = [] → s.xops = [] → s.cores = [] → s.threads = [] → s.xnet = [] → s.systems = [] →
            (32 ≤ l → s.posted = [] ∧ s.cslots = []) → others t)))) ∧
  ∀ (s : State) (k : Nat), k < Config.tamgonLinks →
    ((s.tlink k).state ≠ 2 → (s.tlink k).same = false → (s.link (32 + k)).retrain = false →
      ∃ t, exec (.linkTrained k) s = .next t ∧ (t.tlink k).state = (if (s.tlink k).state = 0 then 1 else 2) ∧ (t.link (32 + k)).down = false ∧ (∀ j, j ≠ k → t.tlink j = s.tlink j)) ∧
    ∀ peer plink, (s.tlink k).state = 2 → s.podLast.isSome = true →
      ∃ t, exec (.peerExchange k peer plink) s = .next t ∧ (t.tlink k).peer = peer ∧ (t.tlink k).plink = plink ∧ (t.tlink k).met = true ∧
        (t.tlink k).state = (if peer.toNat = s.chipno then 1 else 2) ∧ ({ t with tlinks := s.tlinks } : State) = s

/-- The card instructions end, suspend, post, steal, bind and describe cards as their entries in chapter 5 say (R94, R106 to
R109, R112, R117, R119 to R123). That a CARD.YIELD, WFI or CARD.SUSP which finds the deque full loses the reservation all the
same is the model's choice (log 19). -/
def Obligations.CardCommands : Prop :=
  (∀ (s : State) (c : Card), s.Clear [] → s.th.card = some c → s.outstanding s.cur = false → s.performed s.cur = true → s.posted = [] →
    c.handler = false → c.sends = [] → s.th.lost = none → (∀ o ∈ s.bank, o.tid ≠ s.cur) → c.seat = none → (s.core (coreOf s.cur)).allocs.all (fun a => !a.evicting) = true →
    ∃ t, exec .cardExit s = .next t ∧ t.th.card = none ∧ SameRegisters s t ∧ Retired s t (s.th.pc + 4) ∧ OthersButNotes s t ∧ SameMemory s t ∧
      (∀ tag, (s.core (coreOf s.cur)).tags = [(tag, c.id)] → (t.core (coreOf s.cur)).tags = []) ∧
      (c.entry = none → t.entries = s.entries ∧ t.queues = s.queues) ∧
      ∀ id e, c.entry = some id → afind s.entries id = some e →
        (1 < e.left → (afind t.entries id).map (·.left) = some (e.left - 1)) ∧
        (e.left = 1 → e.dead = false → e.bad = false → e.sigs = [] → c.copy = none →
          afind t.entries id = none ∧ t.queue e.queue = { s.queue e.queue with done := (s.queue e.queue).done + 1 } ∧
          t.msix = s.msix ++ (if (s.queue e.queue).ie then [(s.queue e.queue).vec.toNat] else []))) ∧
  (∀ (i : Instr) (pc : Word) (s : State) (c : Card) (rs1 : BitVec 5), s.Clear [rs1] →
    (i = .cardYield ∧ pc = s.th.pc + 4 ∨ i = .wfi ∧ pc = s.th.pc + 4 ∨ i = .cardSusp rs1 ∧ pc = s.rx rs1 ∧ GoodTarget pc) →
    s.th.card = some c → s.maySuspend = true →
    (256 ≤ (s.core (coreOf s.cur)).deque.length → ∃ t, exec i s = .next t ∧ SameRegisters s t ∧ Retired s t pc ∧ t.th.resv = none ∧
      SameRest s.th { t.th with resv := s.th.resv } ∧ OnlyThreadButNotes s t ∧ SameMemory s t) ∧
    ((s.core (coreOf s.cur)).deque.length < 256 → fitting (s.core (coreOf s.cur)).free s.th.unread = s.th.unread.length → (s.core (coreOf s.cur)).allocs.all (fun a => !a.evicting) = true →
      ∃ t k, exec i s = .next t ∧ t.th.card = none ∧ t.th.steward = false ∧ t.th.instret = s.th.instret + 1 ∧ OthersButNotes s t ∧ SameMemory s t ∧
        (t.core (coreOf s.cur)).deque = (s.core (coreOf s.cur)).deque ++ [k] ∧ k.id = c.id ∧ k.pc = pc ∧ k.hdr = c.hdr ∧
        k.xs = [s.rx 10, s.rx 11, s.rx 12, s.rx 13, s.rx 14, s.rx 15])) ∧
  (∀ (rs1 : BitVec 5) (s : State), s.Clear [rs1] → s.CanTrap → ¬ GoodTarget (s.rx rs1) →
    ∃ t, exec (.cardSusp rs1) s = .next t ∧ TrapTaken s t (targetCause (s.rx rs1)) (s.rx rs1)) ∧
  (∀ (rd rs1 rs2 : BitVec 5) (s : State) (c : Card), s.Clear [rd, rs1, rs2] → s.th.card = some c →
    let core := coreOf s.cur
    let a := (s.rx rs1).toNat
    let gives (v : Word) := ∃ t, exec (.cardBind rd rs1 rs2) s = .next t ∧ Writes s t rd v (s.th.pc + 4)
    (a < 64 → ∀ k, afind (s.core core).tags a = some k → k ≠ c.id → gives 1) ∧ (64 ≤ a → a ≠ 0xFFFF → gives 2) ∧
    (a < 64 → afind (s.core core).tags a = none → (∃ b, s.tagOf core c.id = some b) → gives 4) ∧
    (a = 0xFFFF → ∃ t, exec (.cardBind rd rs1 rs2) s = .next t ∧ Acts s t rd 3 ∧ t.th.chans = [] ∧ OtherThreads s t ∧
      (t.th.card.map fun d => (d.id, d.tag)) = some (c.id, 0xFFFF) ∧
      ∀ b, (s.core core).tags = [(b, c.id)] → (t.core core).tags = []) ∧
    (a < 64 → (afind (s.core core).tags a = none ∧ s.tagOf core c.id = none ∨ afind (s.core core).tags a = some c.id) → s.maySuspend = true →
      (s.core core).allocs.all (fun a => !a.evicting) = true → fitting (s.core core).free s.th.unread = s.th.unread.length →
      (s.giveBack s.cur).hasHeld core a = false →
      ∃ t k, exec (.cardBind rd rs1 rs2) s = .next t ∧ t.th.card = none ∧ OtherThreads s t ∧ SameMemory s t ∧
        afind (t.core core).tags a = some c.id ∧ (t.core core).asleep = (s.core core).asleep ++ [k] ∧ k.id = c.id ∧ k.pc = s.th.pc + 4 ∧
        k.tag = a ∧ k.chan = (s.rx rs2).extractLsb' 0 3 ∧ k.deliver = some { rd := rd, val := 0 } ∧
        k.xs = [s.rx 10, s.rx 11, s.rx 12, s.rx 13, s.rx 14, s.rx 15])) ∧
  (∀ (rd rs1 : BitVec 5) (s : State) (c : Card), s.Clear [rd, rs1] → s.th.card = some c →
    (∃ t h, exec (.cardPrio rd rs1) s = .next t ∧ Acts s t rd (word (c.hdr.toNat % 4)) ∧ OnlyThread s t ∧ t.th.card = some { c with hdr := h } ∧
      h.toNat = c.hdr.toNat / 4 * 4 + min (s.rx rs1).toNat 3) ∧
    (s.cur < 4096 → ∃ t, exec (.cardSelf rd rs1) s = .next t ∧ Writes s t rd
      (if s.rx rs1 = 0 then c.hdr else if s.rx rs1 = 1 then (if c.copy = some true then 1 else 0)
        else if s.rx rs1 = 2 then word (coreOf s.cur + 65536 * (s.cur % 4))
        else if s.rx rs1 = 3 then (if c.slice = 0 then 0 else word (s.th.sliceAt - s.cycle (coreOf s.cur)))
        else if s.rx rs1 = 4 then word (c.home % 256) else 0) (s.th.pc + 4))) ∧
  (∀ (rs1 : BitVec 5) (s : State) (c : Card), s.Clear [rs1] → s.th.card = some c →
    ∃ t, exec (.dualsig rs1) s = .next t ∧ SameRegisters s t ∧ Retired s t (s.th.pc + 4) ∧ OnlyThread s t ∧ SameMemory s t ∧
      t.th.card = some (if c.dual then { c with sig := c.sig.rotateLeft 1 ^^^ s.rx rs1 } else c)) ∧
  (∀ (s : State) (c : Card), s.Clear [] → s.th.card = some c →
    (c.handler = true → c.hdone = false → s.outstanding s.cur = false → (∀ p ∈ c.sends, p.rel = none) →
      ∃ t, exec .hdone s = .next t ∧ SameRegisters s t ∧ Retired s t (s.th.pc + 4) ∧ t.th.card = some { c with sends := [], hdone := true } ∧
        t.net = s.net ++ (c.sends.zipIdx.map fun p => { p.1 with
          free := true, mid := BitVec.ofNat 12 s.chipno ++ BitVec.ofNat 10 (coreOf s.cur) ++ ((s.core (coreOf s.cur)).sent + BitVec.ofNat 26 p.2) }) ∧
        OtherThreads s t ∧ SameMemory s t ∧
        ∀ m, c.msg = some m → (t.core (coreOf s.cur)).inbox = (s.core (coreOf s.cur)).inbox.filter fun p => p.id != m.id) ∧
    (c.handler = false ∨ c.hdone = true → s.CanTrap → ∃ t, exec .hdone s = .next t ∧ TrapTaken s t 0 (s.ir.zeroExtend 64))) ∧
  (∀ (rd : BitVec 5) (n : BitVec 3) (s : State), s.Clear [rd, 3#2 ++ n] →
    (s.th.pres.getLsbD n.toNat = false → exec (.ptake rd n) s = .next s) ∧
    (s.th.pres.getLsbD n.toNat = true → (s.core (coreOf s.cur)).inbox = [] →
      ∃ t, exec (.ptake rd n) s = .next t ∧ Acts s t rd (s.rx (3#2 ++ n)) ∧ OthersButNotes s t ∧
        ∀ j, j < 8 → t.th.pres.getLsbD j = (s.th.pres.getLsbD j && decide (j ≠ n.toNat)))) ∧
  (∀ (rd rs1 : BitVec 5) (s : State), s.Clear [rd, rs1] →
    let me := coreOf s.cur
    let v := dieOf me * 256 + (s.rx rs1).toNat
    let gives (t : State) (w : Word) := exec (.cardSteal rd rs1) s = .next t ∧ SameRegisters s t ∧ Retired s t (s.th.pc + 4) ∧
      SameButResults s.th t.th ∧ OtherThreads s t ∧ SameMemory s t ∧
      ∃ o : Out, t.th.outs = s.th.outs ++ [o] ∧ o.regs = [rd] ∧ o.vals = some [w] ∧ o.acq = none
    let alone := ∀ c, s.th.card = some c → c.seat = none
    (alone → 255 < (s.rx rs1).toNat ∨ v = me → ∃ t, gives t 2 ∧ t.cores = s.cores) ∧
    (((∃ c, s.th.card = some c ∧ c.seat.isSome = true) ∨ ((s.rx rs1).toNat ≤ 255 ∧ v ≠ me ∧ s.wins v me = none)) →
      ∃ t, gives t 1 ∧ t.cores = s.cores) ∧
    ((s.rx rs1).toNat ≤ 255 → v ≠ me → alone → ∀ k, s.wins v me = some k →
      (256 ≤ (s.core me).deque.length → ∃ t, gives t 3 ∧ (∀ j, j ≠ v → t.core j = s.core j) ∧
        (t.core v).deque = k :: (s.core v).deque.filter (fun c => c.id != k.id)) ∧
      ((s.core me).deque.length < 256 → ∃ t, gives t 0 ∧ (t.core v).deque = (s.core v).deque.filter (fun c => c.id != k.id) ∧
        ∃ d, (t.core me).deque = (s.core me).deque ++ [d] ∧ d.id = k.id ∧ d.pc = k.pc ∧ d.hdr = k.hdr ∧ d.xs = k.xs))) ∧
  (∀ (s : State) (v thief : Nat) (k : Card), s.wins v thief = some k →
    ((s.core v).deque.length = 1 → ∀ tid ∈ tidsOf v, s.isFree tid = true → ∀ c, s.bestPick (s.picks tid) = some (.ready c) → c.id ≠ k.id) ∧ k ∈ (s.core v).deque ∧ affAdmits k.aff v thief = true ∧ k.seat = none ∧ k.copy = none ∧
    ∀ c ∈ (s.core v).deque, s.stealable v thief c = true → c.agedClass ≤ k.agedClass) ∧
  ∀ (rd rs1 rs2 : BitVec 5) (s : State), s.Clear [rd, rs1, rs2] →
    ((s.rx rs1).toNat % 64 ≠ 0 → s.CanTrap → ∃ t, exec (.cardPost rd rs1 rs2) s = .next t ∧ TrapTaken s t 1 (s.rx rs1)) ∧
    ((s.rx rs1).toNat % 64 = 0 → s.performed s.cur = true → s.acquiring s.cur = false →
      ∀ u a path pa, (s.publish s.cur 2).scalar s.cur (s.rx rs1) 64 { r := true } = (u, .at_ (.mem a) path pa) → u.isPoisoned a 64 = false →
      u.behind s.cur path pa 64 = false → u.portShut (coreOf s.cur) a = false →
      let w (i : Nat) : Word := word (u.readVal (a + 8 * i) 8)
      let own := s.rx rs2 = 0xFFFFFFFFFFFFFFFF
      let good := (w 0).toNat % 4 = 0 ∧ isVa (w 0) = true ∧ (w 1).toNat / 128 % 512 = 0 ∧ (∃ r, afind s.roots ((w 1).toNat / 2 ^ 48) = some r) ∧
        ¬ ((w 1).getLsbD 6 = true ∧ (w 1).getLsbD 5 = true) ∧ (w 1).toNat / 65536 % 65536 = 0xFFFF ∧
        (s.th.steward = false → (w 1).toNat / 2 ^ 48 = s.th.asid.toNat)
      let gives (v : Word) := ∃ t, exec (.cardPost rd rs1 rs2) s = .next t ∧ SameRegisters u t ∧ Retired u t (s.th.pc + 4) ∧
        SameButResults u.th t.th ∧ OthersButNotes u t ∧ SameMemory u t ∧ t.pushes = s.pushes ∧ t.cores = u.cores ∧
        ∃ o : Out, t.th.outs = u.th.outs ++ [o] ∧ o.regs = [rd] ∧ o.vals = some [v]
      (¬ own → 255 < (s.rx rs2).toNat → gives 3) ∧
      (own ∨ (s.rx rs2).toNat ≤ 255 → ¬ good → gives 2) ∧
      (own ∨ (s.rx rs2).toNat ≤ 255 → good → ∃ t p, exec (.cardPost rd rs1 rs2) s = .next t ∧ SameRegisters u t ∧ Retired u t (s.th.pc + 4) ∧
        SameButResults u.th t.th ∧ Awaits u t .card [rd] none ∧ OthersButNotes u t ∧ SameMemory u t ∧ t.cores = u.cores ∧
        t.pushes = s.pushes ++ [p] ∧ p.tid = s.cur ∧ p.core = (if own then coreOf s.cur else dieOf (coreOf s.cur) * 256 + (s.rx rs2).toNat) ∧
        p.card.pc = w 0 ∧ p.card.group = 0xFFFF ∧ p.card.asid.toNat = (w 1).toNat / 2 ^ 48 ∧ p.card.xs = [w 2, w 3, w 4, w 5, w 6, w 7]))

/-- The barrier rules (R108, R124 to R126, R225). That a core-group barrier completes in the step of its last arrival, rows,
dies and pods by their own steps, and that BARRIER_COMPLETE opens a pod barrier on the seats of this package alone, which stand
for every package's, is the model's choice (log 20). -/
def Obligations.Barriers : Prop :=
  let meets (s : State) (g : Group) (w : BarWait) : Prop :=
    ∀ y ∈ g.seats, g.sub w.level y = w.sub → y.done = true ∨ (s.thread y.tid).bar = some w
  let goesOn (s t : State) (w : BarWait) : Prop := SameMemory s t ∧ t.groups = s.groups ∧ ∀ k,
    ((s.thread k).bar = some w → (t.thread k).bar = none ∧ (t.thread k).pc = (s.thread k).pc + 4 ∧
      (t.thread k).instret = (s.thread k).instret + 1 ∧ (t.thread k).x = (s.thread k).x) ∧
    ((s.thread k).bar ≠ some w → ({ t.thread k with early := (s.thread k).early } : Thread) = s.thread k)
  (∀ p ∈ ([(.barCore, 1), (.barRow, 2), (.barDie, 3), (.barPod, 4)] : List (Instr × Nat)), ∀ (s : State) (c : Card), s.Clear [] →
    s.th.card = some c →
    (s.CanTrap → (c.seat = none ∨ afind s.groups c.group = none ∨ (∃ g, afind s.groups c.group = some g ∧ g.level < p.2)) →
      ∃ t, exec p.1 s = .next t ∧ TrapTaken s t 0 (s.ir.zeroExtend 64)) ∧
    ∀ g x, c.seat.isSome = true → afind s.groups c.group = some g → g.seatOf s.cur = some x → p.2 ≤ g.level → s.th.bar = none →
      s.outstanding s.cur = false → s.performed s.cur = true → s.posted = [] → (∀ o ∈ s.bank, o.tid ≠ s.cur) →
      let w : BarWait := { slot := c.group, level := p.2, sub := g.sub p.2 x }
      (p.2 = 2 → (s.th.gang && s.gangQueued s.cur) = false → s.gangOpen c.group w.sub = true → s.CanTrap → ∃ t, exec p.1 s = .next t ∧ TrapTaken s t 7 8) ∧
      ((p.2 = 2 → (s.th.gang && s.gangQueued s.cur) = false ∧ s.gangOpen c.group w.sub = false) →
        (¬ (p.2 = 1 ∧ ∀ y ∈ g.seats, g.sub 1 y = w.sub → y.tid = s.cur ∨ y.done = true ∨ (s.thread y.tid).bar = some w) →
          ∃ t, exec p.1 s = .next t ∧ t.th.bar = some w ∧ t.th.pc = s.th.pc ∧ t.th.instret = s.th.instret ∧ SameRegisters s t ∧
            t.groups = s.groups ∧ OthersButNotes s t ∧ SameMemory s t) ∧
        (p.2 = 1 → (∀ y ∈ g.seats, g.sub 1 y = w.sub → y.tid = s.cur ∨ y.done = true ∨ (s.thread y.tid).bar = some w) →
          ∃ t, exec p.1 s = .next t ∧ t.th.bar = none ∧ SameRegisters s t ∧ Retired s t (s.th.pc + 4) ∧ SameMemory s t ∧ t.groups = s.groups ∧
            ∀ k, k ≠ s.cur → ((s.thread k).bar = some w → (t.thread k).bar = none ∧ (t.thread k).pc = (s.thread k).pc + 4 ∧
              (t.thread k).x = (s.thread k).x) ∧
              ((s.thread k).bar ≠ some w → ({ t.thread k with early := (s.thread k).early } : Thread) = s.thread k)))) ∧
  ∀ (s : State) (slot level sub : Nat) (g : Group), afind s.groups slot = some g →
    let w : BarWait := { slot := slot, level := level, sub := sub }
    (∃ k, (s.thread k).bar = some w) →
    (meets s g w → (level = 2 → ∃ t, exec (.rowClaspClose slot sub) s = .next t ∧ goesOn s t w) ∧
      (3 ≤ level → ∃ t, exec (.barrierComplete slot level sub) s = .next t ∧ goesOn s t w)) ∧
    (¬ meets s g w → (level = 2 → exec (.rowClaspClose slot sub) s = .next s) ∧ exec (.barrierComplete slot level sub) s = .next s)

/-- The scheduler (R80, R81, R88 to R90, R93, R95 to R97, R110). That a dispatched or stolen card starts on the lowest idle
thread set of its core, and that among equal classes pre-empted cards are taken last, is the model's choice (log 31). -/
def Obligations.SchedulerSteps : Prop :=
  (∀ (s : State) (q : Nat), s.launchIn q = none → ((s.queue q).en = false ∨ (s.queue q).head = (s.queue q).tail) →
    exec (.queueDispatch q) s = .next s) ∧
  (∀ (s : State) (q : Nat) (img : List Byte), s.live = true → s.launchIn q = none → s.headBytes q = some img → (s.queue q).kind = false →
    let w := cardWords img
    let hdr := w.getD 1 0
    s.mayBegin q hdr = true →
    (s.cardOk (w.headD 0) hdr = false → ∃ t, exec (.queueDispatch q) s = .next t ∧ SamePcs s t ∧ SameMemory s t ∧ t.cores = s.cores ∧
      t.queue q = { s.queue q with head := (s.queue q).head + 1, err := (s.queue q).err + 1, last := 4, stamps := (s.queue q).stamps.drop 1 } ∧
      t.msix = s.msix ++ (if (s.queue q).ie then [(s.queue q).vec.toNat] else [])) ∧
    (s.cardOk (w.headD 0) hdr = true → ∀ core,
      let cls := if s.headAged q then 3 else hdr.toNat % 4
      s.placeCard (s.queueHome q) (hdr.toNat / 4 % 4) 0 (hdr.getLsbD 5) cls = some core → s.outranked q (.card core cls w) = false →
      ∃ t tid rest k id e, exec (.queueDispatch q) s = .next t ∧ SameMemory s t ∧ s.idleOn core = tid :: rest ∧
        (hdr.getLsbD 5 = false → OthersOfButNotes s t tid) ∧ (t.thread tid).card = some k ∧ (t.thread tid).pc = k.pc ∧ (t.thread tid).steward = false ∧ k.pc = w.headD 0 ∧ k.xs = w.drop 2 ∧ k.group = 0xFFFF ∧ k.asid.toNat = hdr.toNat / 2 ^ 48 ∧
        k.entry = some id ∧ afind t.entries id = some e ∧ e.queue = q ∧ e.unpicked = 0 ∧ e.left = (if hdr.getLsbD 5 then 2 else 1) ∧
        (t.queue q).head = (s.queue q).head + 1)) ∧
  (∀ (s : State) (home aff : Nat) (dies : BitVec 4) (dual : Bool) (cls core : Nat), s.placeCard home aff dies dual cls = some core →
    core < 1024 ∧ affAdmits aff home core = true ∧ dieAdmits dies core = true ∧ 0 < s.spare core cls ∧
    (dual = true → 0 < s.spare (twinCore core) cls) ∧
    ∀ c, c < 1024 → affAdmits aff home c = true → dieAdmits dies c = true → 0 < s.spare c cls → (dual = true → 0 < s.spare (twinCore c) cls) →
      s.running core < s.running c ∨ (s.running core = s.running c ∧ core ≤ c)) ∧
  (∀ (s : State) (id : Nat) (l : Launch) (shape : List (List (List Nat))), afind s.launches id = some l → l.level ≠ 0 → s.live = true →
    l.dual = false → s.groupFits l = some shape →
    ∃ t slot g, exec (.gangAdmit id) s = .next t ∧ SameMemory s t ∧ afind s.groups slot = none ∧ slot < 0xFFFF ∧
      (∀ n, n < slot → (afind s.groups n).isSome = true) ∧ afind t.groups slot = some g ∧ g.entry = l.entry ∧ g.level = l.level ∧
      g.seats.length = l.perGroup ∧
      (∀ x ∈ g.seats, s.isIdle x.tid = true ∧ (t.thread x.tid).pc = l.pc ∧ (t.thread x.tid).steward = false ∧
        ∃ k, (t.thread x.tid).card = some k ∧ k.seat = some x.tid ∧ k.group = slot ∧ k.pc = l.pc) ∧
      (∀ j, (∀ x ∈ g.seats, x.tid ≠ j) → ({ t.thread j with early := (s.thread j).early } : Thread) = s.thread j) ∧
      (l.next + 1 = l.count → afind t.launches l.entry = none) ∧
      (l.next + 1 ≠ l.count → (afind t.launches l.entry).map (·.next) = some (l.next + 1))) ∧
  (∀ (s : State) (tid : Nat), (s.picks tid = [] → exec (.cardPickup tid) s = .next s) ∧
    (s.live = true → s.isFree tid = true → ∀ c : Card, s.bestPick (s.picks tid) = some (.ready c) →
      ¬ (c.dual = true ∧ c.copy = none) → s.tagOf (coreOf tid) c.id = none → c.deliver = none → c.xs.length = 6 →
      ∃ t, exec (.cardPickup tid) s = .next t ∧ SameMemory s t ∧ OthersOfButNotes s t tid ∧
        (t.thread tid).pc = c.pc ∧ (t.thread tid).steward = false ∧
        (∀ r : BitVec 5, (t.thread tid).rx r = if 10 ≤ r.toNat ∧ r.toNat < 16 then c.xs.getD (r.toNat - 10) 0 else 0) ∧
        (t.thread tid).v = [] ∧ (t.thread tid).k = [] ∧ (t.thread tid).vfmt = 0 ∧ (t.thread tid).mfmt = 1 ∧ (t.thread tid).vflags = 0 ∧
        (t.thread tid).bank0 = (s.thread tid).bank0 ∧ (t.thread tid).instret = (s.thread tid).instret ∧
        ((t.thread tid).card.map fun d => (d.id, d.pc, d.hdr, d.xs)) = some (c.id, c.pc, c.hdr, c.xs) ∧
        (t.core (coreOf tid)).deque = (s.core (coreOf tid)).deque.filter (fun d => d.id != c.id) ∧
        ∀ id e, c.ran = false → c.entry = some id → afind s.entries id = some e →
          (afind t.entries id).map (·.unpicked) = some (e.unpicked - 1))) ∧
  (∀ (s : State) (l : List Pick) (p : Pick), s.bestPick l = some p → p ∈ l ∧ ∀ q ∈ l, s.pickClass q ≤ s.pickClass p) ∧
  (∀ (s : State) (p : Push), s.pushes.find? (fun q => q.id == p.id) = some p →
    ((s.core p.core).deque.length < 256 → ∃ t k, exec (.dequePush p.id) s = .next t ∧ Answered s t p.tid p.out [0] ∧ OthersOf s t p.tid ∧
      SameMemory s t ∧ t.pushes = s.pushes.filter (fun q => q.id != p.id) ∧ (t.core p.core).deque = (s.core p.core).deque ++ [k] ∧
      k.pc = p.card.pc ∧ k.hdr = p.card.hdr ∧ k.xs = p.card.xs) ∧
    (256 ≤ (s.core p.core).deque.length → ∃ t, exec (.dequePush p.id) s = .next t ∧ Answered s t p.tid p.out [1] ∧ OthersOf s t p.tid ∧
      SameMemory s t ∧ t.pushes = s.pushes.filter (fun q => q.id != p.id) ∧ t.cores = s.cores)) ∧
  (∀ (s : State) (core : Nat), core < 1024 → s.live = true → (s.core core).pause = none → s.idleOn core ≠ [] → s.findsCard core = false →
    let v := victimAt core (s.core core).scan
    (∀ k, s.wins v core = some k → k.dual = false → ∃ t tid rest d, exec (.stealScanStep core) s = .next t ∧ s.idleOn core = tid :: rest ∧
      OthersOfButNotes s t tid ∧ SameMemory s t ∧ (t.core v).deque = (s.core v).deque.filter (fun c => c.id != k.id) ∧ (t.thread tid).card = some d ∧
      d.id = k.id ∧ d.pc = k.pc ∧ d.hdr = k.hdr ∧ d.xs = k.xs ∧ d.home = core) ∧
    (s.wins v core = none → ∃ t, exec (.stealScanStep core) s = .next t ∧ t.threads = s.threads ∧ SameMemory s t ∧
      ((s.core core).scan = 1022 → (t.core core).pause = some (s.cycle core + 64)) ∧
      ((s.core core).scan < 1022 → (t.core core).pause = none ∧ (t.core core).scan = (s.core core).scan + 1))) ∧
  (∀ core v : Nat, core < 1024 → v < 1024 → v ≠ core → ∃ i, i < 1023 ∧ victimAt core i = v) ∧
  (∀ (s : State) (core n : Nat), (s.core core).pause = some n → s.live = true →
    (n ≤ s.cycle core → ∃ t, exec (.stealPauseEnd core) s = .next t ∧ (t.core core).pause = none ∧ (t.core core).scan = 0 ∧
      t.threads = s.threads ∧ SameMemory s t) ∧
    (s.cycle core < n → exec (.stealPauseEnd core) s = .next s)) ∧
  ∀ (s : State) (id core : Nat) (k : Core),
    s.cores.find? (fun p => p.2.deque.any fun c => c.id == id && !c.aged && decide (c.since + 2 ^ 20 < s.time)) = some (core, k) → s.core core = k →
    ∃ t, exec (.ageing id) s = .next t ∧ t.threads = s.threads ∧ SameMemory s t ∧
      (t.core core).deque = k.deque.map (fun c => if c.id = id then { c with aged := true } else c) ∧ (∀ c, c ≠ core → t.core c = s.core c) ∧
      ∀ c ∈ (t.core core).deque, c.id = id → c.agedClass = 3

/-- Slices, watchdogs, requests, deadlines, CKPT, eviction and re-admission (R99, R100, R143 to R150, R381). That a write of
EVICT is ignored where the pool has no room for an image of the allocation and 0x50000 bytes is the model's choice (log 29); so
is that EVICT takes the core's first allocation not yet asked for, and that its eviction is complete as soon as no card of the
allocation runs (log 30). -/
def Obligations.DeadlinesAndCheckpoints : Prop :=
  (∀ (s : State) (tid : Nat) (c : Card), (s.thread tid).card = some c →
    let asks (t : State) (n : BitVec 2) := t.thread tid = { s.thread tid with preempts := (s.thread tid).preempts ++ [n], sliceAt := (t.thread tid).sliceAt }
    (c.slice = 0 ∨ s.cycle (coreOf tid) < (s.thread tid).sliceAt → exec (.sliceExpiry tid) s = .next s) ∧
    (c.slice ≠ 0 → (s.thread tid).sliceAt ≠ 0 → (s.thread tid).sliceAt ≤ s.cycle (coreOf tid) →
      ((s.core (coreOf tid)).deque = [] → s.queues = [] → exec (.sliceExpiry tid) s =
        .next (s.modThread tid fun t => { t with sliceAt := s.cycle (coreOf tid) + c.slice })) ∧
      ((∃ k ∈ (s.core (coreOf tid)).deque, s.mayTake tid k = true ∧ s.effClass c ≤ s.effClass k) →
        ∃ t, exec (.sliceExpiry tid) s = .next t ∧ asks t 0 ∧ OthersOf s t tid ∧ SameMemory s t))) ∧
  (∀ (s : State) (id at_ : Nat) (e : Entry), afind s.entries id = some e → e.wdogAt = some at_ → e.dead = false → s.ready = true → s.pstate = 0 →
    (s.time < at_ → exec (.watchdogExpiry id) s = .next s) ∧
    (at_ ≤ s.time → ∃ t, exec (.watchdogExpiry id) s = .next t ∧ SameMemory s t ∧
      (∀ core, (t.core core).waitingOf id = []) ∧ afind t.launches id = none ∧
      ∀ k, (∀ c, (s.thread k).card = some c → c.entry = some id → t.thread k = { s.thread k with preempts := (s.thread k).preempts ++ [2] }) ∧
        ((∀ c, (s.thread k).card = some c → c.entry ≠ some id) → t.thread k = s.thread k))) ∧
  (∀ (s : State) (core : Nat) (val : Word), core < 1024 → ∃ t, exec (.preempt core val) s = .next t ∧ SameMemory s t ∧ t.cores = s.cores ∧
    ∀ k, t.thread k = if k / 4 = core ∧ val.getLsbD (k % 4) = true ∧ (s.thread k).card ≠ none ∧ 3 ∉ (s.thread k).preempts
      then { s.thread k with preempts := (s.thread k).preempts ++ [3] } else s.thread k) ∧
  (∀ (s : State) (tid : Nat), (s.thread tid).card.isSome = true → (s.thread tid).deadlineHit = false → 1 ∉ (s.thread tid).preempts →
    ((s.thread tid).ckptab.getLsbD 1 = true → (s.thread tid).deadlineAt ≤ s.cycle (coreOf tid) →
      exec (.checkpointDeadline tid) s = .next (s.modThread tid fun t => { t with preempts := t.preempts ++ [1] })) ∧
    ((s.thread tid).ckptab.getLsbD 1 = false ∨ s.cycle (coreOf tid) < (s.thread tid).deadlineAt → exec (.checkpointDeadline tid) s = .next s)) ∧
  (∀ (s : State) (d : Nat) (val : Word) (a : Alloc), s.live = true → d < 4 →
    let core := d * 256 + val.toNat % 256
    (s.core core).allocs = [a] → a.evicting = false →
    (s.poolRoom d a = false → exec (.evict d val) s = .next s) ∧
    (s.poolRoom d a = true → s.evictedWith core a.slot = [core] →
      (∀ c ∈ rowCores core, c ≠ core → ∀ o ∈ (s.core c).allocs, o.slot = a.slot → o.evicting = false) →
      (s.allocTids core a.slot ≠ [] → ∃ t, exec (.evict d val) s = .next t ∧ SameMemory s t ∧ t.evictions = s.evictions ∧
        (t.core core).allocs = [{ a with evicting := true }] ∧
        ∀ k, k ∈ s.allocTids core a.slot → (t.thread k).ckptab.getLsbD 1 = true ∧
          (t.thread k).deadlineAt = s.cycle core + (s.thread k).ckptmax.toNat % 2 ^ 32 ∧ (t.thread k).pc = (s.thread k).pc) ∧
      (s.allocTids core a.slot = [] → ∃ t e, exec (.evict d val) s = .next t ∧ SamePcs s t ∧ (t.core core).allocs = [] ∧
        t.evictions = s.evictions ++ [e] ∧ e.core = core ∧ e.alloc = a ∧ e.ready = (s.core core).deque.filter (·.inGroup a.slot) ∧
        (t.core core).deque = (s.core core).deque.filter fun k => !k.inGroup a.slot))) ∧
  (∀ (rs1 : BitVec 5) (s : State), s.th.pfx = false →
    ((s.th.steward = false ∨ (s.pending s.cur rs1 = false ∧ s.th.bank0.act = false)) → s.CanTrap →
      ∃ t, exec (.ckpt rs1) s = .next t ∧ TrapTaken s t 0 (s.ir.zeroExtend 64)) ∧
    ∀ c, s.th.steward = true → s.pending s.cur rs1 = false → s.th.bank0.act = true → s.th.card = some c → s.ckptWaits s.cur = false →
      s.th.ckptab.getLsbD 1 = false → (s.core (coreOf s.cur)).allocs.all (fun a => !a.evicting) = true →
      s.th.chans = [] → s.th.landed = [] → s.tagOf (coreOf s.cur) c.id = none → s.stopping s.cur = [] → s.th.outs = [] → s.th.jobs = [] →
      let buffer := s.th.savearea.toNat / 2 ^ 16 % 2 ^ 36 * 2 ^ 16
      ∃ t v, exec (.ckpt rs1) s = .next t ∧ t.th.card = none ∧ OthersButReservations s t ∧
        (t.core (coreOf s.cur)).stopped = (s.core (coreOf s.cur)).stopped ++ [v] ∧ v.card.id = c.id ∧ v.card.hdr = c.hdr ∧ v.tid = s.cur ∧
        v.buffer = buffer ∧
        (buffer / 2 ^ 40 = s.chipno → buffer % 2 ^ 40 + 0x10000 ≤ 0xC000000000 → s.inLocket (buffer % 2 ^ 40 + 0x9000) 512 = false →
          s.vague = [] →
          (∀ r : BitVec 5, r ≠ 0 → t.readVal (buffer % 2 ^ 40 + 0x9000 + 8 * (r.toNat - 1)) 8 = (s.rx r).toNat) ∧
          t.readVal (buffer % 2 ^ 40 + 0x9000 + 248) 8 = (s.th.pc + 4).toNat)) ∧
  (∀ (s : State) (tid : Nat) (v : Saved), s.live = true → s.isFree tid = true → s.bestPick (s.picks tid) = some (.stopped v) →
    v.chans = [] → v.unread = [] → v.copies = [] → v.outs = [] → v.jobs = [] → v.bank = [] → v.beadOps = [] → v.xops = [] →
    s.tagOf (coreOf tid) v.card.id = none → v.buffer / 2 ^ 40 = s.chipno → v.buffer % 2 ^ 40 + 0x10000 ≤ 0xC000000000 →
    let word8 (i : Nat) : Word := word (s.readVal (v.buffer % 2 ^ 40 + 0x9000 + 8 * i) 8)
    ∃ t, exec (.cardPickup tid) s = .next t ∧ SameMemory s t ∧ OthersOfButNotes s t tid ∧
      (∀ r : BitVec 5, r ≠ 0 → (t.thread tid).rx r = word8 (r.toNat - 1)) ∧ (t.thread tid).pc = word8 31 ∧
      (t.thread tid).steward = (word8 32).getLsbD 0 ∧ (t.thread tid).tvec0 = word8 33 ∧ (t.thread tid).tvec1 = word8 34 ∧
      (t.thread tid).bank0.tepc = word8 35 &&& ~~~3 ∧ (t.thread tid).bank1.tepc = word8 36 &&& ~~~3 ∧
      ((t.thread tid).card.map (·.id)) = some v.card.id ∧
      (t.core (coreOf tid)).stopped = (s.core (coreOf tid)).stopped.filter fun x => x.card.id != v.card.id) ∧
  ∀ (s : State) (e : Eviction) (core : Nat) (m : List (Nat × Nat)), s.live = true → s.evictions.find? (fun x => x.id == e.id) = some e →
    e.gang = false →
    (s.takesEviction e core = false → exec (.evictionReadmit e.id core) s = .next s) ∧
    (s.takesEviction e core = true → s.moveTids e core = some m → ∃ t, exec (.evictionReadmit e.id core) s = .next t ∧ SamePcs s t ∧
      t.evictions = s.evictions.filter (fun x => x.id != e.id) ∧ (t.core core).allocs = (s.core core).allocs ++ [e.alloc] ∧
      ((t.core core).stopped.map fun v => (v.card.id, v.evicted)) =
        ((s.core core).stopped.map fun v => (v.card.id, v.evicted)) ++ (e.cards.map fun v => (v.card.id, true)) ∧
      ∀ off d, e.bytes = [(off, d)] → (∀ b, s.keep b = b) → Stored s t (spadBase core + off) d)

/-- The windows and registers of the host (R90, R91, R135, R379, R381, R382, R385, R386, R389, R393). That an append whose ring
lies in a locket is counted in TAIL all the same is the model's choice (log 57); so is that a write of a queue descriptor takes
any LOGCAP and BASE as written (log 63). -/
def Obligations.HostWindows : Prop :=
  let quietly (s t : State) : Prop := SamePcs s t ∧ t.cores = s.cores
  (∀ (s : State) (off : Nat) (d : List Byte), s.ready = true → s.pstate = 0 → off < 0x800000 →
    let q := off / 64
    let x := s.queue q
    let fails (code : BitVec 8) := ∃ t, exec (.hostAppend off d) s = .next t ∧ quietly s t ∧ SameMemory s t ∧
      t.queue q = { x with err := x.err + 1, last := code } ∧ t.msix = s.msix ++ (if x.ie then [x.vec.toNat] else [])
    (x.en = false → fails 3) ∧ (x.en = true → (d.length ≠ 64 ∨ off % 64 ≠ 0) → fails 2) ∧
    (x.en = true → d.length = 64 → off % 64 = 0 → (x.tail - x.head).toNat = 2 ^ x.logcap.toNat → fails 1) ∧
    (x.en = true → d.length = 64 → off % 64 = 0 → (x.tail - x.head).toNat ≠ 2 ^ x.logcap.toNat → (∀ b, s.keep b = b) →
      let a := x.base.toNat % 2 ^ 40 + 64 * (x.tail.toNat % 2 ^ x.logcap.toNat)
      s.outOfService a 64 = false →
      ∃ t, exec (.hostAppend off d) s = .next t ∧ quietly s t ∧ (t.queue q).tail = x.tail + 1 ∧ (t.queue q).head = x.head ∧
        (s.inLocket a 64 = false → s.isHeld a 64 = false → Stored s t a d) ∧ (s.inLocket a 64 = true → SameMemory s t ∧ t.hint.getLsbD 3 = true))) ∧
  (∀ (s : State) (off : Nat) (d : List Byte), s.ready = true → s.pstate = 0 →
    (0xC000000000 < off + d.length → exec (.hostWrite off d) s = .next { s with idleFor := 0 }) ∧
    (off + d.length ≤ 0xC000000000 → s.withdrawn = [] → s.inLocket off d.length = false →
      ∃ t, exec (.hostWrite off d) s = .next t ∧ quietly s t ∧ Stored s t off d) ∧
    (off + d.length ≤ 0xC000000000 → s.withdrawn = [] → s.inLocket off d.length = true →
      ∃ t, exec (.hostWrite off d) s = .next t ∧ quietly s t ∧ SameMemory s t ∧ t.hint.getLsbD 3 = true ∧
        afind t.errlog (s.errNext % 4096) = some { time := s.time, loc := s.chipno * 2 ^ 40 + off, kind := 5, count := 0 })) ∧
  (∀ (s : State) (bar off n : Nat),
    let answers (d : List Byte) (poisoned : Bool) := exec (.hostRead bar off n) s =
      .next { s with idleFor := 0, hostOut := s.hostOut ++ [{ bar := bar, off := off, data := d, poisoned := poisoned }] }
    (s.ready = false → bar = 4 → answers (List.replicate n 0xFF) false) ∧
    (s.ready = true → s.pstate = 0 →
      (bar = 4 → off + n ≤ 0xC000000000 → s.withdrawn = [] → answers (s.readBytes off n) (s.isPoisoned off n)) ∧
      (bar = 4 → 0xC000000000 < off + n → answers (List.replicate n 0xFF) false) ∧
      (bar = 2 → off % 64 = 0 → n = 8 →
        answers (leBytes ((s.queue (off / 64)).tail.toNat + 2 ^ 32 * (s.queue (off / 64)).head.toNat) 8) false) ∧
      (bar = 0 → (n ≠ 8 ∨ off % 8 ≠ 0) → answers (List.replicate n 0) false) ∧
      (bar = 0 → n = 8 → ∀ p ∈ ([(0x00, s.pkgstat), (0x10, s.ltol), (0x18, zext s.hint), (0x20, s.hintv), (0x30, s.coldom), (0x38, s.podcfg),
        (0x48, zext s.attstat), (0x08, 0), (0x28, 0), (0x40, 0)] : List (Nat × Word)), off = p.1 → answers (leBytes p.2.toNat 8) false)) ∧
    (s.ready = true → s.pstate ≠ 0 → s.waking = false → bar = 4 → exec (.hostRead bar off n) s = .next { s with idleFor := 0, waking := true })) ∧
  (∀ (s : State) (v : Word), s.ready = true → s.pstate = 0 → s.idleFor = 0 →
    (∀ off n, (n ≠ 8 ∨ off % 8 ≠ 0) → exec (.controlRegisterWrite off n v) s = .next s) ∧
    (∀ p ∈ ([(0x00, s), (0x10, { s with ltol := v &&& 0xFFFFFFFF }), (0x20, { s with hintv := v &&& 0x80000000000007FF }), (0x48, s)] : List (Nat × State)),
      exec (.controlRegisterWrite p.1 8 v) s = .next p.2) ∧
    (∀ i, i < 8 → exec (.controlRegisterWrite (0x100 + 8 * i) 8 v) s = .next { s with attnonce := aput s.attnonce i v }) ∧
    (∀ p ∈ ([(0x08, .rst v), (0x18, .hintWrite v), (0x38, .podcfgWrite v), (0x40, .attreq v)] : List (Nat × Instr)),
      exec (.controlRegisterWrite p.1 8 v) s = exec p.2 s) ∧
    exec (.controlRegisterWrite 0x30 8 v) s = exec (if v.getLsbD 63 then .coldomEnable v else .coldomDisable v) s ∧
    (v.toNat % 4 = 2 → exec (.controlRegisterWrite 0x28 8 v) s = exec (.lcDeploy v) s) ∧
    (v.toNat % 4 = 3 → exec (.controlRegisterWrite 0x28 8 v) s = exec (.lcReturn v) s) ∧
    (∀ d, d < 4 →
      exec (.controlRegisterWrite (0x100000000 + 0x10000000 * d) 8 v) s = exec (.gcolWrite d v) s ∧
      exec (.controlRegisterWrite (0x100000008 + 0x10000000 * d) 8 v) s = exec (.gfoldWrite d v) s ∧
      exec (.controlRegisterWrite (0x100000010 + 0x10000000 * d) 8 v) s = exec (.freplay d v) s ∧
      (s.halted = false → exec (.controlRegisterWrite (0x100000018 + 0x10000000 * d) 8 v) s = exec (.evict d v) s) ∧
      ∀ q : Nat, ∀ i : BitVec 2, q < 32768 → exec (.controlRegisterWrite (0x100C00000 + 0x10000000 * d + 32 * q + 8 * i.toNat) 8 v) s =
        exec (.queueDescriptorWrite (32768 * d + q) i v) s) ∧
    (∀ core, core < 1024 →
      exec (.controlRegisterWrite (0x600000000 + 0x1000 * core) 8 v) s = exec (.niovfWrite core v) s ∧
      exec (.controlRegisterWrite (0x600000008 + 0x1000 * core) 8 v) s = exec (.preempt core v) s ∧
      ∀ k o, k < 4 → o < 0x100 → o % 8 = 0 → exec (.controlRegisterWrite (0x600000100 + 0x1000 * core + 0x100 * k + o) 8 v) s =
        exec (.stwcsrWrite (4 * core + k) o v) s)) ∧
  (∀ (s : State) (off n : Nat) (v : Word) (d : List Byte),
    (s.ready = false → s.idleFor = 0 → exec (.hostWrite off d) s = .next s ∧ exec (.hostAppend off d) s = .next s ∧
      ((off ≠ 8 ∨ n ≠ 8) → exec (.controlRegisterWrite off n v) s = .next s) ∧ exec (.controlRegisterWrite 8 8 v) s = exec (.rst v) s) ∧
    (s.ready = true → s.pstate ≠ 0 → s.hostHeld.length < 256 →
      exec (.hostWrite off d) s = .next { s with idleFor := 0, hostHeld := s.hostHeld ++ [.mem off d], waking := true } ∧
      exec (.hostAppend off d) s = .next { s with idleFor := 0, hostHeld := s.hostHeld ++ [.append off d], waking := true } ∧
      (off ≠ 0 → off ≠ 0x10 → off ≠ 0x18 →
        exec (.controlRegisterWrite off n v) s = .next { s with idleFor := 0, hostHeld := s.hostHeld ++ [.ctl off n v], waking := true }))) ∧
  (∀ (s : State) (q : Nat) (v : Word), s.ready = true → q < 131072 →
    let x := s.queue q
    ∃ t u, exec (.queueDescriptorWrite q 0 v) s = .next t ∧ t.queue q = (if x.en then x else { x with base := v }) ∧
      exec (.queueDescriptorWrite q 1 v) s = .next u ∧ (u.queue q).en = v.getLsbD 5 ∧ (u.queue q).ie = v.getLsbD 7 ∧
      (u.queue q).vec = v.extractLsb' 8 11 ∧ (u.queue q).base = x.base ∧
      (x.en = true → (u.queue q).logcap = x.logcap ∧ (u.queue q).kind = x.kind ∧ (u.queue q).home = x.home ∧ (u.queue q).tail = x.tail ∧
        (u.queue q).head = x.head ∧ (u.queue q).done = x.done ∧ (u.queue q).err = x.err) ∧
      (x.en = false → (u.queue q).logcap = v.extractLsb' 0 5 ∧ (u.queue q).kind = v.getLsbD 6 ∧ (u.queue q).home = v.extractLsb' 19 8 ∧
        (v.getLsbD 5 = true → (u.queue q).tail = 0 ∧ (u.queue q).head = 0 ∧ (u.queue q).done = 0 ∧ (u.queue q).err = 0)) ∧
      ({ t with queues := s.queues } : State) = s ∧ ({ u with queues := s.queues } : State) = s ∧
      ∀ k, k ≠ q → t.queue k = s.queue k ∧ u.queue k = s.queue k) ∧
  (∀ (s : State) (v : Word), s.ready = true → exec (.hintWrite v) s = .next { s with hint := s.hint &&& ~~~(v.extractLsb' 0 6) }) ∧
  ∀ (s : State) (tid off : Nat) (v : Word),
    (off ∉ [0x00, 0x08, 0x58, 0x60, 0x68, 0x70, 0x80] ∨ (s.thread tid).bank0.act = true → exec (.stwcsrWrite tid off v) s = .next s) ∧
    ((s.thread tid).bank0.act = false →
      (off ∈ [0x00, 0x08] → v.toNat % 4 ≠ 0 → exec (.stwcsrWrite tid off v) s = .next s) ∧
      (off = 0x00 → v.toNat % 4 = 0 → exec (.stwcsrWrite tid off v) s = .next (s.modThread tid fun t => { t with tvec0 := v })) ∧
      (off = 0x08 → v.toNat % 4 = 0 → exec (.stwcsrWrite tid off v) s = .next (s.modThread tid fun t => { t with tvec1 := v })) ∧
      (off = 0x58 → v.toNat % 2 ^ 16 = 0 → v.toNat < 2 ^ 52 →
        exec (.stwcsrWrite tid off v) s = .next (s.modThread tid fun t => { t with savearea := v })) ∧
      (off = 0x68 → v.toNat < 2 ^ 32 → exec (.stwcsrWrite tid off v) s = .next (s.modThread tid fun t => { t with ckptmax := v })))

/-- Resets, the life cycle, attestation, domains, columns, NIOVF and FREPLAY (R158, R245, R275, R277, R354, R359, R381, R386 to
R388, R390, R394). That an accepted ATTREQ leaves ATTSTAT exactly 1, DONE and REFUSED cleared, is the model's choice (log 40);
so is that a write of PODCFG with V = 0, with a reserved bit set or to a valid PODCFG is ignored (log 36). -/
def Obligations.RootAndColumns : Prop :=
  let wiped (s t : State) : Prop := t.mem = [] ∧ t.poison = [] ∧ t.threads = [] ∧ t.queues = [] ∧ t.groups = [] ∧ t.entries = [] ∧ t.lockets = [] ∧
    t.logs = [] ∧ t.systems = [] ∧ t.cslots = [] ∧ t.coldom = 0 ∧ t.podcfg = 0 ∧ t.roots = [] ∧ t.tlb = [] ∧ t.ready = false ∧ t.pstate = 0 ∧
    t.halted = false ∧ t.resets = s.resets + 1 ∧ t.corrections = s.corrections ∧ (∀ l, l ∈ s.recorded → l ∈ t.gone) ∧ (∀ l, l ∈ s.gone → l ∈ t.gone)
  (∀ (s : State) (v : Word), ∃ t, exec .packageReset s = .next t ∧ wiped s t ∧ t.lc = s.lc ∧ t.hint = 0 ∧
    exec (.rst v) s = .next (if v.getLsbD 0 then t else s)) ∧
  (∀ s : State, (s.lcNext = none → exec .wipeDone s = .next { s with ready := true }) ∧
    ∀ l, s.lcNext = some l → s.ready = false → ∃ t, exec .wipeDone s = .next t ∧ t.ready = true ∧ t.lc = l ∧ t.lcNext = none ∧ t.hint.getLsbD 4 = true ∧
      t.threads = s.threads ∧ t.mem = s.mem) ∧
  (∀ s : State, (s.lc = 0 → exec .provision s = .next { s with lc := 1, resets := 0 }) ∧ (s.lc ≠ 0 → exec .provision s = .next s)) ∧
  (∀ (s : State) (v : Word),
    let asked := s.ready = true ∧ v.toNat / 2 ^ 48 = 0x4C43
    (asked → s.lc = 1 → v.toNat % 4 = 2 → ∃ t, exec (.lcDeploy v) s = .next t ∧ wiped s t ∧ t.lc = s.lc ∧ t.lcNext = some 2 ∧ t.hint = 0) ∧
    (asked → (s.lc = 1 ∨ s.lc = 2) → v.toNat % 4 = 3 → ∃ t, exec (.lcReturn v) s = .next t ∧ wiped s t ∧ t.lc = s.lc ∧ t.lcNext = some 3 ∧ t.hint = 0) ∧
    (¬ (asked ∧ s.lc = 1 ∧ v.toNat % 4 = 2) → exec (.lcDeploy v) s = .next s) ∧
    (¬ (asked ∧ (s.lc = 1 ∨ s.lc = 2) ∧ v.toNat % 4 = 3) → exec (.lcReturn v) s = .next s)) ∧
  (∀ (s : State) (v : Word), s.ready = true →
    (v.getLsbD 0 = false ∨ s.attstat.getLsbD 0 = true → exec (.attreq v) s = .next s) ∧
    (v.getLsbD 0 = true → s.attstat.getLsbD 0 = false →
      ((s.lc = 0 ∨ s.lc = 3) → exec (.attreq v) s = .next { s with attstat := 4 }) ∧
      (s.lc = 1 ∨ s.lc = 2 → (v.getLsbD 2 = false ∨ ∀ p ∈ s.threads, p.2.plogNext = []) → ∃ t r, exec (.attreq v) s = .next t ∧ t.attstat = 1 ∧ t.request = some r ∧
        r.nonce = (List.range 8).map (fun i => aget 0 s.attnonce i) ∧ r.open_ = (if v.getLsbD 1 then s.openLogs else []) ∧
        t.logs = (if v.getLsbD 2 then s.logs.drop s.carried else s.logs) ∧ t.threads = s.threads ∧ t.mem = s.mem))) ∧
  (∀ (s : State) (r : Request), s.request = some r → ∃ t, exec .attestReportDone s = .next t ∧ t.attstat = 2 ∧ t.request = none ∧
    t.hint.getLsbD 5 = true ∧ t.attreport.take (s.reportOf r).length = s.reportOf r ∧ t.threads = s.threads ∧ t.mem = s.mem) ∧
  (∀ (s : State) (v : Word),
    (s.cslots ≠ [] → exec (.coldomEnable v) s = .next s ∧ exec (.coldomDisable v) s = .next s) ∧
    (s.cslots = [] →
      let w := v &&& 0x8000000FFFFFFFFF
      let clear (t : State) := t.ckeys = [] ∧ t.cnums = [] ∧ t.cnext = 0 ∧ t.creports = [] ∧ t.ctaken = false
      (v.getLsbD 63 = true → ∃ t, exec (.coldomEnable v) s = .next t ∧ t.coldom = w ∧ t.threads = s.threads ∧ t.mem = s.mem ∧
        (w ≠ s.coldom ∨ v.toNat % 4096 = s.chipno → clear t) ∧ (v.toNat / 4096 % 4096 = s.chipno → t.ckeys = [] ∧ t.cnext = 0) ∧
        (w = s.coldom → v.toNat % 4096 ≠ s.chipno → v.toNat / 4096 % 4096 ≠ s.chipno → t = s)) ∧
      (v.getLsbD 63 = false → ∃ t, exec (.coldomDisable v) s = .next t ∧ t.coldom = w ∧ t.threads = s.threads ∧ t.mem = s.mem ∧
        (w ≠ s.coldom → clear t) ∧ (w = s.coldom → t = s))) ∧
    exec (.podcfgWrite v) s = .next (if v.getLsbD 63 = true ∧ s.podcfg.getLsbD 63 = false ∧ s.ready = true ∧ v.toNat / 2 ^ 24 % 2 ^ 39 = 0 ∧
      v.toNat % 4096 ≤ v.toNat / 4096 % 4096 then { s with podcfg := v } else s)) ∧
  (∀ (s : State) (d : Nat) (v : Word), s.ready = true → d < 4 →
    let accepted := v.toNat % 2 ^ 16 ≠ 0 ∧ (s.die d).moving = false ∧ (v.toNat % 2 ^ 16 = 0xFFFF ∨ s.foldValid d = true)
    (¬ accepted → exec (.gcolWrite d v) s = .next s) ∧
    (accepted → ∃ t, exec (.gcolWrite d v) s = .next t ∧ (t.die d).on = v.extractLsb' 0 16 ∧
      ((t.die d).moving = true ↔ v.extractLsb' 0 16 ≠ s.columns d) ∧ t.columns d = s.columns d ∧ t.threads = s.threads ∧ t.mem = s.mem) ∧
    (s.columns d ≠ 0xFFFF → exec (.gfoldWrite d v) s = .next s) ∧
    (s.columns d = 0xFFFF → v.toNat / 2 ^ 52 % 2 ^ 11 = 0 → v.toNat % 2 ^ 26 = 0 → exec (.gfoldWrite d v) s = .next { s with gfold := aput s.gfold d v }) ∧
    ∃ t, exec (.freplay d v) s = .next t ∧ SamePcs s t ∧ SameMemory s t ∧
      (s.parked = [] → (t.die d).drop = false ∧ t.parked = [] ∧ ∀ n, n < 8 → v.getLsbD n = true → afind (t.die d).faults n = none) ∧
      (∀ p, p ∈ t.parked → p ∈ s.parked) ∧ (∀ p, p ∈ s.parked → dieOf (coreOf p.tid) ≠ d → p ∈ t.parked)) ∧
  (∀ (s : State) (d col : Nat), d < 4 → col < 16 → (s.die d).moving = true →
    ((s.die d).on.getLsbD col = (s.columns d).getLsbD col → exec (.columnMoveDone d col) s = .next s) ∧
    ((s.die d).on.getLsbD col ≠ (s.columns d).getLsbD col → ∃ t, exec (.columnMoveDone d col) s = .next t ∧
      (∀ c, c < 16 → (t.columns d).getLsbD c = if c = col then (s.die d).on.getLsbD c else (s.columns d).getLsbD c) ∧
      ((t.die d).moving = true ↔ t.columns d ≠ (s.die d).on) ∧ t.threads = s.threads ∧
      (Memory.wf s.mem = true → s.foldBase d + 0x4000000 ≤ 0xC000000000 → ∀ a, inGallery a = true → dieOfAddr a = d → t.readByte a = s.readByte a))) ∧
  ∀ (s : State) (core : Nat) (v : Word), s.ready = true → core < 1024 →
    ((s.core core).heap ≠ [] → exec (.niovfWrite core v) s = .next s) ∧
    ((s.core core).heap = [] → v.toNat / 2 ^ 61 % 4 = 0 → v.toNat / 2 ^ 52 % 16 = 0 → v.toNat % 2 ^ 16 = 0 →
      (8 ≤ v.toNat / 2 ^ 56 % 32 ∧ v.toNat / 2 ^ 56 % 32 ≤ 20) →
      exec (.niovfWrite core v) s = .next (s.modCore core fun c => { c with niovf := v }))

/-- Power states, errors and reported traps change the package as stated (R138, R382, R383, R384, R385, R392, R393). -/
def Obligations.PowerAndErrors : Prop :=
  (∀ s : State, (s.idle = false ∨ s.live = false ∨ s.ltol.toNat < 5 ∨ s.idleFor < 1024 → exec .idleTimeout s = .next s) ∧
    (s.live = true → s.idle = true → 1024 ≤ s.idleFor → 5 ≤ s.ltol.toNat →
      ∃ t, exec .idleTimeout s = .next t ∧ t.waking = false ∧ t.threads = s.threads ∧ t.cores = s.cores ∧
        let p2 := s.cores.all (fun p => p.2.allocs.isEmpty) = true ∧ s.systems = [] ∧ (∀ d, d < 4 → s.foldValid d = true)
        (¬ p2 ∨ s.ltol.toNat < 200 → t.pstate = 1 ∧ SameMemory s t) ∧ (p2 → 200 ≤ s.ltol.toNat → s.ltol.toNat < 5000 → t.pstate = 2) ∧
        (p2 → 5000 ≤ s.ltol.toNat → t.pstate = 3) ∧ (p2 → 200 ≤ s.ltol.toNat → ∀ d, d < 4 → t.columns d = 1))) ∧
  (∀ s : State, (s.pstate = 0 ∨ s.waking = true ∨ s.wakeCause = false → exec .powerWake s = .next s) ∧
    (s.pstate ≠ 0 → s.waking = false → s.wakeCause = true → exec .powerWake s = .next { s with waking := true }) ∧
    (s.pstate = 0 ∨ s.waking = false → exec .powerExitDone s = .next s) ∧
    (s.pstate = 1 → s.waking = true → s.hostHeld = [] → s.cheld = [] → exec .powerExitDone s = .next { s with pstate := 0, waking := false, idleFor := 0 }) ∧
    (1 < s.pstate.toNat → s.waking = true → s.hostHeld = [] → ∃ t, exec .powerExitDone s = .next t ∧ t.pstate = 0 ∧ t.waking = false ∧ t.hostHeld = [] ∧
      t.slept = [] ∧ (∀ c, (t.core c).rings = [] ∧ (t.core c).accs = [] ∧ (t.core c).lands = [] ∧ (t.core c).deque = (s.core c).deque) ∧
      (∀ k, (t.thread k).bank0 = {} ∧ (t.thread k).bank1 = {} ∧ (t.thread k).tmsg = 0 ∧ (t.thread k).tvec0 = (s.thread k).tvec0 ∧
        (t.thread k).tvec1 = (s.thread k).tvec1 ∧ (t.thread k).savearea = (s.thread k).savearea ∧ (t.thread k).ckptmax = (s.thread k).ckptmax ∧
        (t.thread k).plogbase = (s.thread k).plogbase ∧ (t.thread k).plogIndex = (s.thread k).plogIndex ∧
        (t.thread k).plogChain = (s.thread k).plogChain) ∧
      (s.slept = [] → s.vague = [] → ∀ a, windowBase ≤ a → a < windowBase + 0x40000000 → t.readByte a = 0))) ∧
  (∀ (s : State) (loc : Nat),
    let c := aget { count := 0, times := [] } s.corrections loc
    let lasting := c.times.length = 2 ∧ ∀ n ∈ c.times, s.rootTime + s.time ≤ n + 24 * 3600 * 700000000
    ∃ t e, exec (.correctedError loc) s = .next t ∧ (aget { count := 0, times := [] } t.corrections loc).count = c.count + 1 ∧
      afind t.errlog (s.errNext % 4096) = some e ∧ e.time = s.time ∧ e.count = c.count + 1 ∧ (lasting → e.kind = 2 ∧ loc ∈ t.recorded) ∧
      (¬ lasting → e.kind = 1 ∧ t.recorded = s.recorded) ∧ t.hint.getLsbD 2 = true ∧ t.threads = s.threads ∧ SameMemory s t) ∧
  (∀ (s : State) (pa n : Nat), ∃ t e, exec (.uncorrectableError pa n) s = .next t ∧ afind t.errlog (s.errNext % 4096) = some e ∧ e.kind = 3 ∧
    e.loc = pa ∧ t.hint.getLsbD 2 = true ∧ t.threads = s.threads ∧ SameMemory s t ∧
    (∀ b, b ∈ t.poison ↔ b ∈ s.poison ∨ (pa % 2 ^ 40 ≤ b ∧ b < pa % 2 ^ 40 + n))) ∧
  (∀ (s : State) (loc : Nat), ∃ t e, exec (.onDieLinkFailure loc) s = .next t ∧ t.halted = true ∧ afind t.errlog (s.errNext % 4096) = some e ∧
    e.kind = 4 ∧ e.loc = loc ∧ t.threads = s.threads ∧ SameMemory s t ∧ (∀ tid, t.canIssue tid = false) ∧
    ∀ u tid, exec (.cardPickup tid) t = .next u → u = t) ∧
  ∀ (s : State) (tid : Nat),
    ((∀ r ∈ (s.thread tid).reports, r.hold ≠ 0) ∨ (s.thread tid).card = none → exec (.engineTrapReport tid) s = .next s) ∧
    (∀ (r : Report) (held rest : List Report), (s.thread tid).reports = held ++ r :: rest → (∀ q ∈ held, q.hold ≠ 0) → r.hold = 0 →
      (s.thread tid).card.isSome = true → (s.thread tid).inHandler = false →
      (s.thread tid).bank0.act = false → ∃ t, exec (.engineTrapReport tid) s = .next t ∧ SameMemory s t ∧ OthersOf s t tid ∧
        (t.thread tid).reports = held ++ rest ∧ (t.thread tid).pc = (s.thread tid).tvec0 ∧ (t.thread tid).steward = true ∧
        (t.thread tid).bank0.act = true ∧ (t.thread tid).bank0.tepc = (s.thread tid).pc ∧ (t.thread tid).bank0.tcause = r.cause.zeroExtend 64 ∧
        (t.thread tid).bank0.tval = r.val ∧ (t.thread tid).bank0.pm = (s.thread tid).steward ∧ (t.thread tid).x = (s.thread tid).x)

/-- Network and bead commands whose checks pass complete: the thread set goes on at the next instruction (R32, R240, R247, R254,
R258, R259, R260, R295). -/
def Obligations.NetworkAndBeadCommandsGoOn : Prop :=
  (∀ (sem scope : BitVec 2) (rd rs1 rs2 : BitVec 5) (s : State), s.Clear [rd, rs1, rs2] → s.niReady = true →
    let w := s.rx rs2
    let v := s.rx rs1
    let off := v.toNat % 0x100000
    ((if s.inPhase then s.heldSends.length < 8 else s.staged (coreOf s.cur) < 8) →
      (off % 16 = 0 → w.getLsbD 60 = false → w.getLsbD 52 = false → w.extractLsb' 22 18 = 0 → w.extractLsb' 10 6 = 0 →
        s.inPod (w.extractLsb' 40 12).toNat = true →
        (if w.getLsbD 63 then w.extractLsb' 61 2 = 0 ∧ (w.extractLsb' 53 7).toNat ≤ 112
          else w.extractLsb' 16 6 = 0 ∧ (w.extractLsb' 53 7).toNat ≤ 48 ∧ (s.rx rd).extractLsb' 0 2 = 0 ∧ (s.rx rd).extractLsb' 48 16 = 0) →
        GoesOn s (.msend sem scope rd rs1 rs2) []) ∧
      (v.extractLsb' 52 12 = 0 → v.extractLsb' 27 13 = 0 → v.extractLsb' 22 2 = 0 → v.extractLsb' 10 6 = 0 →
        s.inPod (v.extractLsb' 40 12).toNat = true → GoesOn s (.rwr sem scope rs1 rs2) [])) ∧
    (let w0 := s.blockWord off 0
     let w1 := s.blockWord off 1
     let w2 := s.blockWord off 2
     let cw := s.blockWord off 3
     let len := (w2.extractLsb' 0 40).toNat
     let count := (w2.extractLsb' 0 21).toNat
     let idx := (w1.extractLsb' 20 20).toNat
     let loc := (w1.extractLsb' 0 20).toNat
     let esz := (w1.extractLsb' 45 2).toNat
     off % 32 = 0 → ((s.core (coreOf s.cur)).channel (w2.extractLsb' 60 4).toNat).q.length < 16 → cw.extractLsb' 42 22 = 0 →
     cw.extractLsb' 20 13 = 0 → cw.toNat % 16 = 0 →
     (w2.extractLsb' 40 20 = 0 →
       ((len = 0 ∨ w1.toNat + len ≤ w0.toNat ∨ w0.toNat + len ≤ w1.toNat) →
         (cw.getLsbD 33 = true → cw.getLsbD 34 = true → isOwnWindow w0 = true ∧ isOwnWindow (w0 + word len - 1) = true) →
         GoesOn s (.cpy sem scope rd rs1) [rd]) ∧
       (w0.toNat + len ≤ 0x100000 → w0.extractLsb' 20 44 = 0 → s.rx rs2 ≠ 0 → (cw.getLsbD 33 = true → cw.getLsbD 34 = true) →
         GoesOn s (.cpym sem scope rd rs1 rs2) [rd])) ∧
     (w2.extractLsb' 21 39 = 0 → w1.extractLsb' 47 17 = 0 → w1.extractLsb' 40 5 = 0 → cw.getLsbD 34 = false → count ≤ 0x100000 →
       idx % 4 = 0 → loc % 2 ^ esz = 0 → idx + 4 * count ≤ 0x100000 → loc + 2 ^ esz * count ≤ 0x100000 →
       GoesOn s (.gath sem scope rd rs1) [rd] ∧ GoesOn s (.scat sem scope rd rs1) [rd])) ∧
    (off % 16 = 0 → w.getLsbD 63 = false → s.inLocket (spadBase (coreOf s.cur) + off) 16 = false → GoesOn s (.boinit rs1 rs2) []) ∧
    (off % 16 = 0 → s.readVal (spadBase (coreOf s.cur) + off) 8 % 2 ^ 63 ≤ s.readVal (spadBase (coreOf s.cur) + off + 8) 8 % 2 ^ 63 →
      GoesOn s (.bowait sem scope rd rs1) [rd]) ∧
    (v.toNat < 16 → GoesOn s (.wptr rd rs1) [rd])) ∧
  ∀ (sem scope : BitVec 2) (rd rs1 rs2 : BitVec 5) (s : State), s.Clear [rd, rd + 1, rs1, rs2, rs2 + 1] → s.niReady = true →
    let x := (s.rx rs1).toNat
    (s.inPhase = false → x / 16 % 8 = 0 → GoesOn s (.bpush sem scope rd rs1 rs2) [] ∧ GoesOn s (.bround sem scope rd rs1 rs2) []) ∧
    (s.inPhase = false → x % 128 = 0 → GoesOn s (.bpop sem scope rd rs1) [] ∧ GoesOn s (.back sem scope rd rs1 rs2) []) ∧
    (x % 64 = 0 → GoesOn s (.bidxget sem scope rd rs1 rs2) [] ∧ GoesOn s (.bidxput sem scope rd rs1 rs2) [] ∧ GoesOn s (.bquiet rd rs1 rs2) []) ∧
    (cfgBad (s.rx rs2) = false → x % (if (s.rx rs2).toNat / 2 ^ 60 = 4 ∨ (s.rx rs2).toNat / 2 ^ 60 = 5 then 64 else 128) = 0 →
      GoesOn s (.bqcfg rd rs1 rs2) [])

/-- Card and crossing commands whose checks pass complete (R19, R32, R106, R107, R108, R109, R112, R117, R119, R120, R121,
R324). -/
def Obligations.CardAndCrossingCommandsGoOn : Prop :=
  (∀ (rd rs1 rs2 : BitVec 5) (n : BitVec 3) (s : State) (c : Card), s.Clear [rd, rs1, rs2, 3#2 ++ n] → s.th.card = some c →
    GoesOn s (.cardPrio rd rs1) [rd] ∧ GoesOn s (.cardSelf rd rs1) [rd] ∧ GoesOn s (.dualsig rs1) [] ∧ GoesOn s (.cardSteal rd rs1) [] ∧
    (s.th.pres.getLsbD n.toNat = true → (s.core (coreOf s.cur)).inbox = [] → GoesOn s (.ptake rd n) [rd]) ∧
    ((∃ k, (s.rx rs1).toNat < 64 ∧ afind (s.core (coreOf s.cur)).tags (s.rx rs1).toNat = some k ∧ k ≠ c.id) ∨ 64 ≤ (s.rx rs1).toNat →
      GoesOn s (.cardBind rd rs1 rs2) [rd]) ∧
    (c.handler = true → c.hdone = false → s.outstanding s.cur = false → (∀ p ∈ c.sends, p.rel = none) → GoesOn s .hdone []) ∧
    ((s.rx rs1).toNat % 64 = 0 → s.performed s.cur = true → s.acquiring s.cur = false →
      ∀ u a path pa, (s.publish s.cur 2).scalar s.cur (s.rx rs1) 64 { r := true } = (u, .at_ (.mem a) path pa) → u.isPoisoned a 64 = false →
      u.behind s.cur path pa 64 = false → u.portShut (coreOf s.cur) a = false → GoesOn s (.cardPost rd rs1 rs2) []) ∧
    (s.maySuspend = true → 256 ≤ (s.core (coreOf s.cur)).deque.length → GoesOn s .cardYield [] ∧ GoesOn s .wfi [] ∧
      (GoodTarget (s.rx rs1) → ∃ t, exec (.cardSusp rs1) s = .next t ∧ Retired s t (s.rx rs1) ∧ SameRegisters s t)) ∧
    (s.maySuspend = true → (s.core (coreOf s.cur)).deque.length < 256 → fitting (s.core (coreOf s.cur)).free s.th.unread = s.th.unread.length →
      (s.core (coreOf s.cur)).allocs.all (fun a => !a.evicting) = true → ∀ i, (i = .cardYield ∨ i = .wfi ∨ i = .cardSusp rs1 ∧ GoodTarget (s.rx rs1)) →
      ∃ t, exec i s = .next t ∧ t.th.card = none ∧ t.th.instret = s.th.instret + 1) ∧
    (s.outstanding s.cur = false → s.performed s.cur = true → c.entry = none → c.handler = false → c.sends = [] → s.th.lost = none →
      c.seat = none → (s.core (coreOf s.cur)).allocs.all (fun a => !a.evicting) = true →
      ∃ t, exec .cardExit s = .next t ∧ t.th.card = none ∧ t.th.instret = s.th.instret + 1)) ∧
  ∀ (sem scope : BitVec 2) (rd rs1 rs2 : BitVec 5) (s : State), s.Clear [rd, rs1, rs2] → s.acquiring s.cur = false →
    (∀ q ∈ s.xops, q.id < s.nextId) →
    let x := (s.rx rs1).toNat
    let y := s.rx rs2
    (x < 65536 → (v64 y.toNat).isNan = false → GoesOn s (.qrun sem scope rd rs1 rs2) [] ∧ GoesOn s (.qsample sem scope rd rs1 rs2) []) ∧
    GoesOn s (.qslope sem scope rd rs1 rs2) [] ∧
    (x < 2 ^ 36 → (v64 y.toNat).isNan = false → (v32 ((s.rx rd).toNat % 2 ^ 32)).finite = true → GoesOn s (.qinj sem scope rd rs1 rs2) []) ∧
    (x < 2 ^ 36 → y.toNat % 8 = 0 → GoesOn s (.qvset rd rs1 rs2) []) ∧
    (x < 2 ^ 36 → y.extractLsb' 32 31 = 0 → GoesOn s (.qconv rd rs1 rs2) []) ∧
    (x < 65536 → GoesOn s (.qstat rd rs1 rs2) []) ∧ (x < 65536 → y.toNat ≤ 1 → GoesOn s (.qstop rd rs1 rs2) []) ∧
    (x % 128 = 0 → y.toNat ≤ 1 → GoesOn s (.qcfg rd rs1 rs2) [])
end

