-- ==== Sys2Proof/Laws/Map.lean ====
section
/-! SUPPORT. The laws of maps and of byte memory: read after write, frames, the canonical form, and the byte order. -/

namespace Sys2Proof.Machine

theorem aget_aput_same {α : Type} (d : α) (m : AMap α) (n : Nat) (v : α) : aget d (aput m n v) n = v := by
  induction m with
  | nil => simp [aput, aget]
  | cons p m ih =>
    obtain ⟨k, w⟩ := p
    simp only [aput]
    split
    · simp [aget]
    · split
      · simp [aget]
      · simp [aget, *]

theorem aget_aput_other {α : Type} (d : α) (m : AMap α) (n k : Nat) (v : α) (h : k ≠ n) :
    aget d (aput m n v) k = aget d m k := by
  induction m with
  | nil => simp [aput, aget, Ne.symm h]
  | cons p m ih =>
    obtain ⟨j, w⟩ := p
    simp only [aput]
    split
    · simp [aget, Ne.symm h]
    · split
      · rename_i hj
        subst hj
        simp [aget, Ne.symm h]
      · simp [aget, ih]

theorem aget_aput {α : Type} (d : α) (m : AMap α) (n k : Nat) (v : α) :
    aget d (aput m n v) k = if k = n then v else aget d m k := by
  split
  · next h => subst h; exact aget_aput_same d m k v
  · next h => exact aget_aput_other d m n k v h

theorem afind_aput {α : Type} (m : AMap α) (n k : Nat) (v : α) :
    afind (aput m n v) k = if k = n then some v else afind m k := by
  induction m with
  | nil => by_cases h : k = n <;> simp [aput, afind, h, Ne.symm]
  | cons p m ih =>
    obtain ⟨j, w⟩ := p
    simp only [aput]
    split
    · by_cases h : k = n
      · simp [afind, h]
      · simp [afind, h, Ne.symm h]
    · split
      · rename_i hj
        subst hj
        by_cases h : k = j
        · simp [afind, h]
        · simp [afind, h, Ne.symm h]
      · rename_i hj
        simp only [afind, ih]
        split
        · rename_i hk
          subst hk
          simp [hj]
        · rfl

theorem aget_adel_same {α : Type} (d : α) (m : AMap α) (n : Nat) : aget d (adel m n) n = d := by
  induction m with
  | nil => rfl
  | cons p m ih =>
    obtain ⟨j, w⟩ := p
    by_cases h : j = n
    · simpa [adel, h] using ih
    · simpa [adel, h, aget] using ih

theorem aget_adel_other {α : Type} (d : α) (m : AMap α) (n k : Nat) (h : k ≠ n) : aget d (adel m n) k = aget d m k := by
  induction m with
  | nil => rfl
  | cons p m ih =>
    obtain ⟨j, w⟩ := p
    by_cases hj : j = n
    · subst hj
      simpa [adel, aget, Ne.symm h] using ih
    · by_cases hk : j = k
      · simp [adel, aget, hk, h]
      · simpa [adel, hj, aget, hk] using ih

theorem afind_adel_same {α : Type} (m : AMap α) (n : Nat) : afind (adel m n) n = none := by
  induction m with
  | nil => rfl
  | cons p m ih =>
    obtain ⟨j, w⟩ := p
    by_cases h : j = n
    · simpa [adel, h] using ih
    · simpa [adel, h, afind] using ih

/-- A byte reads as it was written. -/
theorem mread_mwrite_same (m : Memory) (a : Nat) (b : Byte) : mread (mwrite m a b) a = b := by
  unfold mread mwrite
  split
  · next h => rw [aget_adel_same, h]
  · exact aget_aput_same _ _ _ _

/-- A write leaves every other byte alone. -/
theorem mread_mwrite_other (m : Memory) (a c : Nat) (b : Byte) (h : c ≠ a) : mread (mwrite m a b) c = mread m c := by
  unfold mread mwrite
  split
  · exact aget_adel_other _ _ _ _ h
  · exact aget_aput_other _ _ _ _ _ h

theorem above_mono (m : Memory) (n k : Nat) (h : k ≤ n) (hm : Memory.above n m = true) : Memory.above k m = true := by
  cases m with
  | nil => rfl
  | cons p m =>
    obtain ⟨j, b⟩ := p
    simp only [Memory.above, Bool.and_eq_true, decide_eq_true_eq] at hm ⊢
    exact ⟨⟨le_trans h hm.1.1, hm.1.2⟩, hm.2⟩

theorem above_filter (p : Nat × Byte → Bool) (m : Memory) : ∀ n, Memory.above n m = true → Memory.above n (m.filter p) = true := by
  induction m with
  | nil => intro n _; rfl
  | cons q m ih =>
    obtain ⟨j, b⟩ := q
    intro n hm
    simp only [Memory.above, Bool.and_eq_true, decide_eq_true_eq] at hm
    by_cases hp : p (j, b) = true
    · simp only [List.filter_cons_of_pos hp, Memory.above, Bool.and_eq_true, decide_eq_true_eq]
      exact ⟨hm.1, ih _ hm.2⟩
    · rw [List.filter_cons_of_neg hp]
      exact above_mono _ _ _ (by omega) (ih _ hm.2)

theorem above_aput (m : Memory) (a : Nat) (b : Byte) (hb : b ≠ Memory.unlisted) :
    ∀ n, n ≤ a → Memory.above n m = true → Memory.above n (aput m a b) = true := by
  induction m with
  | nil => intro n hn _; simp [aput, Memory.above, hn, hb]
  | cons q m ih =>
    obtain ⟨j, c⟩ := q
    intro n hn hm
    simp only [Memory.above, Bool.and_eq_true, decide_eq_true_eq] at hm
    simp only [aput]
    split
    · next h =>
      simp only [Memory.above, Bool.and_eq_true, decide_eq_true_eq]
      exact ⟨⟨hn, by simpa using hb⟩, ⟨by omega, hm.1.2⟩, hm.2⟩
    · split
      · next h1 h2 =>
        subst h2
        simp only [Memory.above, Bool.and_eq_true, decide_eq_true_eq]
        exact ⟨⟨hm.1.1, by simpa using hb⟩, hm.2⟩
      · next h1 h2 =>
        simp only [Memory.above, Bool.and_eq_true, decide_eq_true_eq]
        exact ⟨hm.1, ih _ (by omega) hm.2⟩

/-- Removing bytes keeps the canonical form. -/
theorem wf_filter (p : Nat × Byte → Bool) (m : Memory) (h : Memory.wf m = true) : Memory.wf (m.filter p) = true :=
  above_filter p m 0 h

/-- A write of one byte keeps the canonical form. -/
theorem wf_mwrite (m : Memory) (a : Nat) (b : Byte) (h : Memory.wf m = true) : Memory.wf (mwrite m a b) = true := by
  unfold mwrite
  split
  · exact wf_filter _ _ h
  · next hb => exact above_aput m a b hb 0 (Nat.zero_le _) h

/-- A write of bytes keeps the canonical form. -/
theorem wf_mwrites (d : List Byte) : ∀ (m : Memory) (a : Nat), Memory.wf m = true → Memory.wf (mwrites m a d) = true := by
  induction d with
  | nil => intro m a h; exact h
  | cons b d ih => intro m a h; exact ih _ _ (wf_mwrite m a b h)

@[simp] theorem leBytes_length (n : Nat) : ∀ v, (leBytes v n).length = n := by
  induction n with
  | zero => intro v; rfl
  | succ n ih => intro v; simp [leBytes, ih]

/-- The value of the little-endian bytes of a value (R40). -/
theorem leNat_leBytes (n : Nat) : ∀ v, leNat (leBytes v n) = v % 256 ^ n := by
  induction n with
  | zero => intro v; simp [leBytes, leNat, Nat.mod_one]
  | succ n ih =>
    intro v
    have h : v % 256 ^ (n + 1) = v % 256 + 256 * (v / 256 % 256 ^ n) := by
      rw [pow_succ, Nat.mul_comm (256 ^ n) 256, Nat.mod_mul]
    simp only [leBytes, leNat, ih, BitVec.toNat_ofNat, h]

end Sys2Proof.Machine
end

