-- ==== Sys2Proof/Laws/State.lean ====
section
/-! SUPPORT. One lemma for each field under each update of the state, of a thread set and of a core. -/

namespace Sys2Proof.Machine

@[simp] theorem State.modThread_eq (s : State) (tid : Nat) (f : Thread → Thread) : s.modThread tid f = s.setThread tid (f (s.thread tid)) := rfl
@[simp] theorem State.modTh_eq (s : State) (f : Thread → Thread) : s.modTh f = s.setThread s.cur (f (s.thread s.cur)) := rfl
@[simp] theorem State.th_eq (s : State) : s.th = s.thread s.cur := rfl
@[simp] theorem State.modCore_eq (s : State) (n : Nat) (f : Core → Core) : s.modCore n f = s.setCore n (f (s.core n)) := rfl
@[simp] theorem State.modDie_eq (s : State) (d : Nat) (f : Die → Die) : s.modDie d f = s.setDie d (f (s.die d)) := rfl
theorem State.wx_eq (s : State) (r : BitVec 5) (v : Word) : s.wx r v = s.setThread s.cur ((s.thread s.cur).wx r v) := rfl
theorem State.rx_eq (s : State) (r : BitVec 5) : s.rx r = (s.thread s.cur).rx r := rfl
theorem State.retireTo_eq (s : State) (pc : Word) : s.retireTo pc = s.setThread s.cur ((s.thread s.cur).retireTo pc) := rfl
theorem State.retire_eq (s : State) : s.retire = s.setThread s.cur ((s.thread s.cur).retireTo ((s.thread s.cur).pc + 4)) := rfl

@[simp] theorem State.setThread_agenda (s : State) (k : Nat) (t : Thread) : (s.setThread k t).agenda = s.agenda := rfl
@[simp] theorem State.setThread_cur (s : State) (k : Nat) (t : Thread) : (s.setThread k t).cur = s.cur := rfl
@[simp] theorem State.setThread_fresh (s : State) (k : Nat) (t : Thread) : (s.setThread k t).fresh = s.fresh := rfl
@[simp] theorem State.setThread_nextId (s : State) (k : Nat) (t : Thread) : (s.setThread k t).nextId = s.nextId := rfl
@[simp] theorem State.setThread_traps (s : State) (k : Nat) (t : Thread) : (s.setThread k t).traps = s.traps := rfl
@[simp] theorem State.setThread_time (s : State) (k : Nat) (t : Thread) : (s.setThread k t).time = s.time := rfl
@[simp] theorem State.setThread_gated (s : State) (k : Nat) (t : Thread) : (s.setThread k t).gated = s.gated := rfl
@[simp] theorem State.setThread_ir (s : State) (k : Nat) (t : Thread) : (s.setThread k t).ir = s.ir := rfl
@[simp] theorem State.setThread_mem (s : State) (k : Nat) (t : Thread) : (s.setThread k t).mem = s.mem := rfl
@[simp] theorem State.setThread_poison (s : State) (k : Nat) (t : Thread) : (s.setThread k t).poison = s.poison := rfl
@[simp] theorem State.setThread_cores (s : State) (k : Nat) (t : Thread) : (s.setThread k t).cores = s.cores := rfl
@[simp] theorem State.setThread_dieMap (s : State) (k : Nat) (t : Thread) : (s.setThread k t).dieMap = s.dieMap := rfl
@[simp] theorem State.setThread_roots (s : State) (k : Nat) (t : Thread) : (s.setThread k t).roots = s.roots := rfl
@[simp] theorem State.setThread_tlb (s : State) (k : Nat) (t : Thread) : (s.setThread k t).tlb = s.tlb := rfl
@[simp] theorem State.setThread_parked (s : State) (k : Nat) (t : Thread) : (s.setThread k t).parked = s.parked := rfl
@[simp] theorem State.setThread_lockets (s : State) (k : Nat) (t : Thread) : (s.setThread k t).lockets = s.lockets := rfl
@[simp] theorem State.setThread_flights (s : State) (k : Nat) (t : Thread) : (s.setThread k t).flights = s.flights := rfl
@[simp] theorem State.setThread_posted (s : State) (k : Nat) (t : Thread) : (s.setThread k t).posted = s.posted := rfl
@[simp] theorem State.setThread_pushes (s : State) (k : Nat) (t : Thread) : (s.setThread k t).pushes = s.pushes := rfl
@[simp] theorem State.setThread_net (s : State) (k : Nat) (t : Thread) : (s.setThread k t).net = s.net := rfl
@[simp] theorem State.setThread_bank (s : State) (k : Nat) (t : Thread) : (s.setThread k t).bank = s.bank := rfl
@[simp] theorem State.setThread_beadOps (s : State) (k : Nat) (t : Thread) : (s.setThread k t).beadOps = s.beadOps := rfl
@[simp] theorem State.setThread_beads (s : State) (k : Nat) (t : Thread) : (s.setThread k t).beads = s.beads := rfl
@[simp] theorem State.setThread_indices (s : State) (k : Nat) (t : Thread) : (s.setThread k t).indices = s.indices := rfl
@[simp] theorem State.setThread_flushes (s : State) (k : Nat) (t : Thread) : (s.setThread k t).flushes = s.flushes := rfl
@[simp] theorem State.setThread_tlinks (s : State) (k : Nat) (t : Thread) : (s.setThread k t).tlinks = s.tlinks := rfl
@[simp] theorem State.setThread_links (s : State) (k : Nat) (t : Thread) : (s.setThread k t).links = s.links := rfl
@[simp] theorem State.setThread_coldom (s : State) (k : Nat) (t : Thread) : (s.setThread k t).coldom = s.coldom := rfl
@[simp] theorem State.setThread_cops (s : State) (k : Nat) (t : Thread) : (s.setThread k t).cops = s.cops := rfl
@[simp] theorem State.setThread_cslots (s : State) (k : Nat) (t : Thread) : (s.setThread k t).cslots = s.cslots := rfl
@[simp] theorem State.setThread_cgens (s : State) (k : Nat) (t : Thread) : (s.setThread k t).cgens = s.cgens := rfl
@[simp] theorem State.setThread_cnums (s : State) (k : Nat) (t : Thread) : (s.setThread k t).cnums = s.cnums := rfl
@[simp] theorem State.setThread_cfin (s : State) (k : Nat) (t : Thread) : (s.setThread k t).cfin = s.cfin := rfl
@[simp] theorem State.setThread_creports (s : State) (k : Nat) (t : Thread) : (s.setThread k t).creports = s.creports := rfl
@[simp] theorem State.setThread_cmsgs (s : State) (k : Nat) (t : Thread) : (s.setThread k t).cmsgs = s.cmsgs := rfl
@[simp] theorem State.setThread_cheld (s : State) (k : Nat) (t : Thread) : (s.setThread k t).cheld = s.cheld := rfl
@[simp] theorem State.setThread_ckeys (s : State) (k : Nat) (t : Thread) : (s.setThread k t).ckeys = s.ckeys := rfl
@[simp] theorem State.setThread_cnext (s : State) (k : Nat) (t : Thread) : (s.setThread k t).cnext = s.cnext := rfl
@[simp] theorem State.setThread_cbeat (s : State) (k : Nat) (t : Thread) : (s.setThread k t).cbeat = s.cbeat := rfl
@[simp] theorem State.setThread_ctaken (s : State) (k : Nat) (t : Thread) : (s.setThread k t).ctaken = s.ctaken := rfl
@[simp] theorem State.setThread_systems (s : State) (k : Nat) (t : Thread) : (s.setThread k t).systems = s.systems := rfl
@[simp] theorem State.setThread_xnet (s : State) (k : Nat) (t : Thread) : (s.setThread k t).xnet = s.xnet := rfl
@[simp] theorem State.setThread_xops (s : State) (k : Nat) (t : Thread) : (s.setThread k t).xops = s.xops := rfl
@[simp] theorem State.setThread_held (s : State) (k : Nat) (t : Thread) : (s.setThread k t).held = s.held := rfl
@[simp] theorem State.setThread_vague (s : State) (k : Nat) (t : Thread) : (s.setThread k t).vague = s.vague := rfl
@[simp] theorem State.setThread_withdrawn (s : State) (k : Nat) (t : Thread) : (s.setThread k t).withdrawn = s.withdrawn := rfl
@[simp] theorem State.setThread_gcolNow (s : State) (k : Nat) (t : Thread) : (s.setThread k t).gcolNow = s.gcolNow := rfl
@[simp] theorem State.setThread_gfold (s : State) (k : Nat) (t : Thread) : (s.setThread k t).gfold = s.gfold := rfl
@[simp] theorem State.setThread_ready (s : State) (k : Nat) (t : Thread) : (s.setThread k t).ready = s.ready := rfl
@[simp] theorem State.setThread_pstate (s : State) (k : Nat) (t : Thread) : (s.setThread k t).pstate = s.pstate := rfl
@[simp] theorem State.setThread_halted (s : State) (k : Nat) (t : Thread) : (s.setThread k t).halted = s.halted := rfl
@[simp] theorem State.setThread_groups (s : State) (k : Nat) (t : Thread) : (s.setThread k t).groups = s.groups := rfl
@[simp] theorem State.setThread_queues (s : State) (k : Nat) (t : Thread) : (s.setThread k t).queues = s.queues := rfl
@[simp] theorem State.setThread_entries (s : State) (k : Nat) (t : Thread) : (s.setThread k t).entries = s.entries := rfl
@[simp] theorem State.setThread_launches (s : State) (k : Nat) (t : Thread) : (s.setThread k t).launches = s.launches := rfl
@[simp] theorem State.setThread_podRanks (s : State) (k : Nat) (t : Thread) : (s.setThread k t).podRanks = s.podRanks := rfl
@[simp] theorem State.setThread_msix (s : State) (k : Nat) (t : Thread) : (s.setThread k t).msix = s.msix := rfl
@[simp] theorem State.setThread_lc (s : State) (k : Nat) (t : Thread) : (s.setThread k t).lc = s.lc := rfl
@[simp] theorem State.setThread_hint (s : State) (k : Nat) (t : Thread) : (s.setThread k t).hint = s.hint := rfl
@[simp] theorem State.setThread_hintv (s : State) (k : Nat) (t : Thread) : (s.setThread k t).hintv = s.hintv := rfl
@[simp] theorem State.setThread_podcfg (s : State) (k : Nat) (t : Thread) : (s.setThread k t).podcfg = s.podcfg := rfl
@[simp] theorem State.setThread_logs (s : State) (k : Nat) (t : Thread) : (s.setThread k t).logs = s.logs := rfl
@[simp] theorem State.setThread_evictions (s : State) (k : Nat) (t : Thread) : (s.setThread k t).evictions = s.evictions := rfl
@[simp] theorem State.setThread_ltol (s : State) (k : Nat) (t : Thread) : (s.setThread k t).ltol = s.ltol := rfl
@[simp] theorem State.setThread_attnonce (s : State) (k : Nat) (t : Thread) : (s.setThread k t).attnonce = s.attnonce := rfl
@[simp] theorem State.setThread_attstat (s : State) (k : Nat) (t : Thread) : (s.setThread k t).attstat = s.attstat := rfl
@[simp] theorem State.setThread_request (s : State) (k : Nat) (t : Thread) : (s.setThread k t).request = s.request := rfl
@[simp] theorem State.setThread_attreport (s : State) (k : Nat) (t : Thread) : (s.setThread k t).attreport = s.attreport := rfl
@[simp] theorem State.setThread_carried (s : State) (k : Nat) (t : Thread) : (s.setThread k t).carried = s.carried := rfl
@[simp] theorem State.setThread_resets (s : State) (k : Nat) (t : Thread) : (s.setThread k t).resets = s.resets := rfl
@[simp] theorem State.setThread_rootTime (s : State) (k : Nat) (t : Thread) : (s.setThread k t).rootTime = s.rootTime := rfl
@[simp] theorem State.setThread_errlog (s : State) (k : Nat) (t : Thread) : (s.setThread k t).errlog = s.errlog := rfl
@[simp] theorem State.setThread_errNext (s : State) (k : Nat) (t : Thread) : (s.setThread k t).errNext = s.errNext := rfl
@[simp] theorem State.setThread_corrections (s : State) (k : Nat) (t : Thread) : (s.setThread k t).corrections = s.corrections := rfl
@[simp] theorem State.setThread_recorded (s : State) (k : Nat) (t : Thread) : (s.setThread k t).recorded = s.recorded := rfl
@[simp] theorem State.setThread_gone (s : State) (k : Nat) (t : Thread) : (s.setThread k t).gone = s.gone := rfl
@[simp] theorem State.setThread_waking (s : State) (k : Nat) (t : Thread) : (s.setThread k t).waking = s.waking := rfl
@[simp] theorem State.setThread_lcNext (s : State) (k : Nat) (t : Thread) : (s.setThread k t).lcNext = s.lcNext := rfl
@[simp] theorem State.setThread_idleFor (s : State) (k : Nat) (t : Thread) : (s.setThread k t).idleFor = s.idleFor := rfl
@[simp] theorem State.setThread_slept (s : State) (k : Nat) (t : Thread) : (s.setThread k t).slept = s.slept := rfl
@[simp] theorem State.setThread_hostHeld (s : State) (k : Nat) (t : Thread) : (s.setThread k t).hostHeld = s.hostHeld := rfl
@[simp] theorem State.setThread_hostOut (s : State) (k : Nat) (t : Thread) : (s.setThread k t).hostOut = s.hostOut := rfl
@[simp] theorem State.setCore_agenda (s : State) (k : Nat) (c : Core) : (s.setCore k c).agenda = s.agenda := rfl
@[simp] theorem State.setCore_cur (s : State) (k : Nat) (c : Core) : (s.setCore k c).cur = s.cur := rfl
@[simp] theorem State.setCore_fresh (s : State) (k : Nat) (c : Core) : (s.setCore k c).fresh = s.fresh := rfl
@[simp] theorem State.setCore_nextId (s : State) (k : Nat) (c : Core) : (s.setCore k c).nextId = s.nextId := rfl
@[simp] theorem State.setCore_traps (s : State) (k : Nat) (c : Core) : (s.setCore k c).traps = s.traps := rfl
@[simp] theorem State.setCore_time (s : State) (k : Nat) (c : Core) : (s.setCore k c).time = s.time := rfl
@[simp] theorem State.setCore_gated (s : State) (k : Nat) (c : Core) : (s.setCore k c).gated = s.gated := rfl
@[simp] theorem State.setCore_ir (s : State) (k : Nat) (c : Core) : (s.setCore k c).ir = s.ir := rfl
@[simp] theorem State.setCore_mem (s : State) (k : Nat) (c : Core) : (s.setCore k c).mem = s.mem := rfl
@[simp] theorem State.setCore_poison (s : State) (k : Nat) (c : Core) : (s.setCore k c).poison = s.poison := rfl
@[simp] theorem State.setCore_threads (s : State) (k : Nat) (c : Core) : (s.setCore k c).threads = s.threads := rfl
@[simp] theorem State.setCore_dieMap (s : State) (k : Nat) (c : Core) : (s.setCore k c).dieMap = s.dieMap := rfl
@[simp] theorem State.setCore_roots (s : State) (k : Nat) (c : Core) : (s.setCore k c).roots = s.roots := rfl
@[simp] theorem State.setCore_tlb (s : State) (k : Nat) (c : Core) : (s.setCore k c).tlb = s.tlb := rfl
@[simp] theorem State.setCore_parked (s : State) (k : Nat) (c : Core) : (s.setCore k c).parked = s.parked := rfl
@[simp] theorem State.setCore_lockets (s : State) (k : Nat) (c : Core) : (s.setCore k c).lockets = s.lockets := rfl
@[simp] theorem State.setCore_flights (s : State) (k : Nat) (c : Core) : (s.setCore k c).flights = s.flights := rfl
@[simp] theorem State.setCore_posted (s : State) (k : Nat) (c : Core) : (s.setCore k c).posted = s.posted := rfl
@[simp] theorem State.setCore_pushes (s : State) (k : Nat) (c : Core) : (s.setCore k c).pushes = s.pushes := rfl
@[simp] theorem State.setCore_net (s : State) (k : Nat) (c : Core) : (s.setCore k c).net = s.net := rfl
@[simp] theorem State.setCore_bank (s : State) (k : Nat) (c : Core) : (s.setCore k c).bank = s.bank := rfl
@[simp] theorem State.setCore_beadOps (s : State) (k : Nat) (c : Core) : (s.setCore k c).beadOps = s.beadOps := rfl
@[simp] theorem State.setCore_beads (s : State) (k : Nat) (c : Core) : (s.setCore k c).beads = s.beads := rfl
@[simp] theorem State.setCore_indices (s : State) (k : Nat) (c : Core) : (s.setCore k c).indices = s.indices := rfl
@[simp] theorem State.setCore_flushes (s : State) (k : Nat) (c : Core) : (s.setCore k c).flushes = s.flushes := rfl
@[simp] theorem State.setCore_tlinks (s : State) (k : Nat) (c : Core) : (s.setCore k c).tlinks = s.tlinks := rfl
@[simp] theorem State.setCore_links (s : State) (k : Nat) (c : Core) : (s.setCore k c).links = s.links := rfl
@[simp] theorem State.setCore_coldom (s : State) (k : Nat) (c : Core) : (s.setCore k c).coldom = s.coldom := rfl
@[simp] theorem State.setCore_cops (s : State) (k : Nat) (c : Core) : (s.setCore k c).cops = s.cops := rfl
@[simp] theorem State.setCore_cslots (s : State) (k : Nat) (c : Core) : (s.setCore k c).cslots = s.cslots := rfl
@[simp] theorem State.setCore_cgens (s : State) (k : Nat) (c : Core) : (s.setCore k c).cgens = s.cgens := rfl
@[simp] theorem State.setCore_cnums (s : State) (k : Nat) (c : Core) : (s.setCore k c).cnums = s.cnums := rfl
@[simp] theorem State.setCore_cfin (s : State) (k : Nat) (c : Core) : (s.setCore k c).cfin = s.cfin := rfl
@[simp] theorem State.setCore_creports (s : State) (k : Nat) (c : Core) : (s.setCore k c).creports = s.creports := rfl
@[simp] theorem State.setCore_cmsgs (s : State) (k : Nat) (c : Core) : (s.setCore k c).cmsgs = s.cmsgs := rfl
@[simp] theorem State.setCore_cheld (s : State) (k : Nat) (c : Core) : (s.setCore k c).cheld = s.cheld := rfl
@[simp] theorem State.setCore_ckeys (s : State) (k : Nat) (c : Core) : (s.setCore k c).ckeys = s.ckeys := rfl
@[simp] theorem State.setCore_cnext (s : State) (k : Nat) (c : Core) : (s.setCore k c).cnext = s.cnext := rfl
@[simp] theorem State.setCore_cbeat (s : State) (k : Nat) (c : Core) : (s.setCore k c).cbeat = s.cbeat := rfl
@[simp] theorem State.setCore_ctaken (s : State) (k : Nat) (c : Core) : (s.setCore k c).ctaken = s.ctaken := rfl
@[simp] theorem State.setCore_systems (s : State) (k : Nat) (c : Core) : (s.setCore k c).systems = s.systems := rfl
@[simp] theorem State.setCore_xnet (s : State) (k : Nat) (c : Core) : (s.setCore k c).xnet = s.xnet := rfl
@[simp] theorem State.setCore_xops (s : State) (k : Nat) (c : Core) : (s.setCore k c).xops = s.xops := rfl
@[simp] theorem State.setCore_held (s : State) (k : Nat) (c : Core) : (s.setCore k c).held = s.held := rfl
@[simp] theorem State.setCore_vague (s : State) (k : Nat) (c : Core) : (s.setCore k c).vague = s.vague := rfl
@[simp] theorem State.setCore_withdrawn (s : State) (k : Nat) (c : Core) : (s.setCore k c).withdrawn = s.withdrawn := rfl
@[simp] theorem State.setCore_gcolNow (s : State) (k : Nat) (c : Core) : (s.setCore k c).gcolNow = s.gcolNow := rfl
@[simp] theorem State.setCore_gfold (s : State) (k : Nat) (c : Core) : (s.setCore k c).gfold = s.gfold := rfl
@[simp] theorem State.setCore_ready (s : State) (k : Nat) (c : Core) : (s.setCore k c).ready = s.ready := rfl
@[simp] theorem State.setCore_pstate (s : State) (k : Nat) (c : Core) : (s.setCore k c).pstate = s.pstate := rfl
@[simp] theorem State.setCore_halted (s : State) (k : Nat) (c : Core) : (s.setCore k c).halted = s.halted := rfl
@[simp] theorem State.setCore_groups (s : State) (k : Nat) (c : Core) : (s.setCore k c).groups = s.groups := rfl
@[simp] theorem State.setCore_queues (s : State) (k : Nat) (c : Core) : (s.setCore k c).queues = s.queues := rfl
@[simp] theorem State.setCore_entries (s : State) (k : Nat) (c : Core) : (s.setCore k c).entries = s.entries := rfl
@[simp] theorem State.setCore_launches (s : State) (k : Nat) (c : Core) : (s.setCore k c).launches = s.launches := rfl
@[simp] theorem State.setCore_podRanks (s : State) (k : Nat) (c : Core) : (s.setCore k c).podRanks = s.podRanks := rfl
@[simp] theorem State.setCore_msix (s : State) (k : Nat) (c : Core) : (s.setCore k c).msix = s.msix := rfl
@[simp] theorem State.setCore_lc (s : State) (k : Nat) (c : Core) : (s.setCore k c).lc = s.lc := rfl
@[simp] theorem State.setCore_hint (s : State) (k : Nat) (c : Core) : (s.setCore k c).hint = s.hint := rfl
@[simp] theorem State.setCore_hintv (s : State) (k : Nat) (c : Core) : (s.setCore k c).hintv = s.hintv := rfl
@[simp] theorem State.setCore_podcfg (s : State) (k : Nat) (c : Core) : (s.setCore k c).podcfg = s.podcfg := rfl
@[simp] theorem State.setCore_logs (s : State) (k : Nat) (c : Core) : (s.setCore k c).logs = s.logs := rfl
@[simp] theorem State.setCore_evictions (s : State) (k : Nat) (c : Core) : (s.setCore k c).evictions = s.evictions := rfl
@[simp] theorem State.setCore_ltol (s : State) (k : Nat) (c : Core) : (s.setCore k c).ltol = s.ltol := rfl
@[simp] theorem State.setCore_attnonce (s : State) (k : Nat) (c : Core) : (s.setCore k c).attnonce = s.attnonce := rfl
@[simp] theorem State.setCore_attstat (s : State) (k : Nat) (c : Core) : (s.setCore k c).attstat = s.attstat := rfl
@[simp] theorem State.setCore_request (s : State) (k : Nat) (c : Core) : (s.setCore k c).request = s.request := rfl
@[simp] theorem State.setCore_attreport (s : State) (k : Nat) (c : Core) : (s.setCore k c).attreport = s.attreport := rfl
@[simp] theorem State.setCore_carried (s : State) (k : Nat) (c : Core) : (s.setCore k c).carried = s.carried := rfl
@[simp] theorem State.setCore_resets (s : State) (k : Nat) (c : Core) : (s.setCore k c).resets = s.resets := rfl
@[simp] theorem State.setCore_rootTime (s : State) (k : Nat) (c : Core) : (s.setCore k c).rootTime = s.rootTime := rfl
@[simp] theorem State.setCore_errlog (s : State) (k : Nat) (c : Core) : (s.setCore k c).errlog = s.errlog := rfl
@[simp] theorem State.setCore_errNext (s : State) (k : Nat) (c : Core) : (s.setCore k c).errNext = s.errNext := rfl
@[simp] theorem State.setCore_corrections (s : State) (k : Nat) (c : Core) : (s.setCore k c).corrections = s.corrections := rfl
@[simp] theorem State.setCore_recorded (s : State) (k : Nat) (c : Core) : (s.setCore k c).recorded = s.recorded := rfl
@[simp] theorem State.setCore_gone (s : State) (k : Nat) (c : Core) : (s.setCore k c).gone = s.gone := rfl
@[simp] theorem State.setCore_waking (s : State) (k : Nat) (c : Core) : (s.setCore k c).waking = s.waking := rfl
@[simp] theorem State.setCore_lcNext (s : State) (k : Nat) (c : Core) : (s.setCore k c).lcNext = s.lcNext := rfl
@[simp] theorem State.setCore_idleFor (s : State) (k : Nat) (c : Core) : (s.setCore k c).idleFor = s.idleFor := rfl
@[simp] theorem State.setCore_slept (s : State) (k : Nat) (c : Core) : (s.setCore k c).slept = s.slept := rfl
@[simp] theorem State.setCore_hostHeld (s : State) (k : Nat) (c : Core) : (s.setCore k c).hostHeld = s.hostHeld := rfl
@[simp] theorem State.setCore_hostOut (s : State) (k : Nat) (c : Core) : (s.setCore k c).hostOut = s.hostOut := rfl
@[simp] theorem State.setDie_agenda (s : State) (k : Nat) (d : Die) : (s.setDie k d).agenda = s.agenda := rfl
@[simp] theorem State.setDie_cur (s : State) (k : Nat) (d : Die) : (s.setDie k d).cur = s.cur := rfl
@[simp] theorem State.setDie_fresh (s : State) (k : Nat) (d : Die) : (s.setDie k d).fresh = s.fresh := rfl
@[simp] theorem State.setDie_nextId (s : State) (k : Nat) (d : Die) : (s.setDie k d).nextId = s.nextId := rfl
@[simp] theorem State.setDie_traps (s : State) (k : Nat) (d : Die) : (s.setDie k d).traps = s.traps := rfl
@[simp] theorem State.setDie_time (s : State) (k : Nat) (d : Die) : (s.setDie k d).time = s.time := rfl
@[simp] theorem State.setDie_gated (s : State) (k : Nat) (d : Die) : (s.setDie k d).gated = s.gated := rfl
@[simp] theorem State.setDie_ir (s : State) (k : Nat) (d : Die) : (s.setDie k d).ir = s.ir := rfl
@[simp] theorem State.setDie_mem (s : State) (k : Nat) (d : Die) : (s.setDie k d).mem = s.mem := rfl
@[simp] theorem State.setDie_poison (s : State) (k : Nat) (d : Die) : (s.setDie k d).poison = s.poison := rfl
@[simp] theorem State.setDie_threads (s : State) (k : Nat) (d : Die) : (s.setDie k d).threads = s.threads := rfl
@[simp] theorem State.setDie_cores (s : State) (k : Nat) (d : Die) : (s.setDie k d).cores = s.cores := rfl
@[simp] theorem State.setDie_roots (s : State) (k : Nat) (d : Die) : (s.setDie k d).roots = s.roots := rfl
@[simp] theorem State.setDie_tlb (s : State) (k : Nat) (d : Die) : (s.setDie k d).tlb = s.tlb := rfl
@[simp] theorem State.setDie_parked (s : State) (k : Nat) (d : Die) : (s.setDie k d).parked = s.parked := rfl
@[simp] theorem State.setDie_lockets (s : State) (k : Nat) (d : Die) : (s.setDie k d).lockets = s.lockets := rfl
@[simp] theorem State.setDie_flights (s : State) (k : Nat) (d : Die) : (s.setDie k d).flights = s.flights := rfl
@[simp] theorem State.setDie_posted (s : State) (k : Nat) (d : Die) : (s.setDie k d).posted = s.posted := rfl
@[simp] theorem State.setDie_pushes (s : State) (k : Nat) (d : Die) : (s.setDie k d).pushes = s.pushes := rfl
@[simp] theorem State.setDie_net (s : State) (k : Nat) (d : Die) : (s.setDie k d).net = s.net := rfl
@[simp] theorem State.setDie_bank (s : State) (k : Nat) (d : Die) : (s.setDie k d).bank = s.bank := rfl
@[simp] theorem State.setDie_beadOps (s : State) (k : Nat) (d : Die) : (s.setDie k d).beadOps = s.beadOps := rfl
@[simp] theorem State.setDie_beads (s : State) (k : Nat) (d : Die) : (s.setDie k d).beads = s.beads := rfl
@[simp] theorem State.setDie_indices (s : State) (k : Nat) (d : Die) : (s.setDie k d).indices = s.indices := rfl
@[simp] theorem State.setDie_flushes (s : State) (k : Nat) (d : Die) : (s.setDie k d).flushes = s.flushes := rfl
@[simp] theorem State.setDie_tlinks (s : State) (k : Nat) (d : Die) : (s.setDie k d).tlinks = s.tlinks := rfl
@[simp] theorem State.setDie_links (s : State) (k : Nat) (d : Die) : (s.setDie k d).links = s.links := rfl
@[simp] theorem State.setDie_coldom (s : State) (k : Nat) (d : Die) : (s.setDie k d).coldom = s.coldom := rfl
@[simp] theorem State.setDie_cops (s : State) (k : Nat) (d : Die) : (s.setDie k d).cops = s.cops := rfl
@[simp] theorem State.setDie_cslots (s : State) (k : Nat) (d : Die) : (s.setDie k d).cslots = s.cslots := rfl
@[simp] theorem State.setDie_cgens (s : State) (k : Nat) (d : Die) : (s.setDie k d).cgens = s.cgens := rfl
@[simp] theorem State.setDie_cnums (s : State) (k : Nat) (d : Die) : (s.setDie k d).cnums = s.cnums := rfl
@[simp] theorem State.setDie_cfin (s : State) (k : Nat) (d : Die) : (s.setDie k d).cfin = s.cfin := rfl
@[simp] theorem State.setDie_creports (s : State) (k : Nat) (d : Die) : (s.setDie k d).creports = s.creports := rfl
@[simp] theorem State.setDie_cmsgs (s : State) (k : Nat) (d : Die) : (s.setDie k d).cmsgs = s.cmsgs := rfl
@[simp] theorem State.setDie_cheld (s : State) (k : Nat) (d : Die) : (s.setDie k d).cheld = s.cheld := rfl
@[simp] theorem State.setDie_ckeys (s : State) (k : Nat) (d : Die) : (s.setDie k d).ckeys = s.ckeys := rfl
@[simp] theorem State.setDie_cnext (s : State) (k : Nat) (d : Die) : (s.setDie k d).cnext = s.cnext := rfl
@[simp] theorem State.setDie_cbeat (s : State) (k : Nat) (d : Die) : (s.setDie k d).cbeat = s.cbeat := rfl
@[simp] theorem State.setDie_ctaken (s : State) (k : Nat) (d : Die) : (s.setDie k d).ctaken = s.ctaken := rfl
@[simp] theorem State.setDie_systems (s : State) (k : Nat) (d : Die) : (s.setDie k d).systems = s.systems := rfl
@[simp] theorem State.setDie_xnet (s : State) (k : Nat) (d : Die) : (s.setDie k d).xnet = s.xnet := rfl
@[simp] theorem State.setDie_xops (s : State) (k : Nat) (d : Die) : (s.setDie k d).xops = s.xops := rfl
@[simp] theorem State.setDie_held (s : State) (k : Nat) (d : Die) : (s.setDie k d).held = s.held := rfl
@[simp] theorem State.setDie_vague (s : State) (k : Nat) (d : Die) : (s.setDie k d).vague = s.vague := rfl
@[simp] theorem State.setDie_withdrawn (s : State) (k : Nat) (d : Die) : (s.setDie k d).withdrawn = s.withdrawn := rfl
@[simp] theorem State.setDie_gcolNow (s : State) (k : Nat) (d : Die) : (s.setDie k d).gcolNow = s.gcolNow := rfl
@[simp] theorem State.setDie_gfold (s : State) (k : Nat) (d : Die) : (s.setDie k d).gfold = s.gfold := rfl
@[simp] theorem State.setDie_ready (s : State) (k : Nat) (d : Die) : (s.setDie k d).ready = s.ready := rfl
@[simp] theorem State.setDie_pstate (s : State) (k : Nat) (d : Die) : (s.setDie k d).pstate = s.pstate := rfl
@[simp] theorem State.setDie_halted (s : State) (k : Nat) (d : Die) : (s.setDie k d).halted = s.halted := rfl
@[simp] theorem State.setDie_groups (s : State) (k : Nat) (d : Die) : (s.setDie k d).groups = s.groups := rfl
@[simp] theorem State.setDie_queues (s : State) (k : Nat) (d : Die) : (s.setDie k d).queues = s.queues := rfl
@[simp] theorem State.setDie_entries (s : State) (k : Nat) (d : Die) : (s.setDie k d).entries = s.entries := rfl
@[simp] theorem State.setDie_launches (s : State) (k : Nat) (d : Die) : (s.setDie k d).launches = s.launches := rfl
@[simp] theorem State.setDie_podRanks (s : State) (k : Nat) (d : Die) : (s.setDie k d).podRanks = s.podRanks := rfl
@[simp] theorem State.setDie_msix (s : State) (k : Nat) (d : Die) : (s.setDie k d).msix = s.msix := rfl
@[simp] theorem State.setDie_lc (s : State) (k : Nat) (d : Die) : (s.setDie k d).lc = s.lc := rfl
@[simp] theorem State.setDie_hint (s : State) (k : Nat) (d : Die) : (s.setDie k d).hint = s.hint := rfl
@[simp] theorem State.setDie_hintv (s : State) (k : Nat) (d : Die) : (s.setDie k d).hintv = s.hintv := rfl
@[simp] theorem State.setDie_podcfg (s : State) (k : Nat) (d : Die) : (s.setDie k d).podcfg = s.podcfg := rfl
@[simp] theorem State.setDie_logs (s : State) (k : Nat) (d : Die) : (s.setDie k d).logs = s.logs := rfl
@[simp] theorem State.setDie_evictions (s : State) (k : Nat) (d : Die) : (s.setDie k d).evictions = s.evictions := rfl
@[simp] theorem State.setDie_ltol (s : State) (k : Nat) (d : Die) : (s.setDie k d).ltol = s.ltol := rfl
@[simp] theorem State.setDie_attnonce (s : State) (k : Nat) (d : Die) : (s.setDie k d).attnonce = s.attnonce := rfl
@[simp] theorem State.setDie_attstat (s : State) (k : Nat) (d : Die) : (s.setDie k d).attstat = s.attstat := rfl
@[simp] theorem State.setDie_request (s : State) (k : Nat) (d : Die) : (s.setDie k d).request = s.request := rfl
@[simp] theorem State.setDie_attreport (s : State) (k : Nat) (d : Die) : (s.setDie k d).attreport = s.attreport := rfl
@[simp] theorem State.setDie_carried (s : State) (k : Nat) (d : Die) : (s.setDie k d).carried = s.carried := rfl
@[simp] theorem State.setDie_resets (s : State) (k : Nat) (d : Die) : (s.setDie k d).resets = s.resets := rfl
@[simp] theorem State.setDie_rootTime (s : State) (k : Nat) (d : Die) : (s.setDie k d).rootTime = s.rootTime := rfl
@[simp] theorem State.setDie_errlog (s : State) (k : Nat) (d : Die) : (s.setDie k d).errlog = s.errlog := rfl
@[simp] theorem State.setDie_errNext (s : State) (k : Nat) (d : Die) : (s.setDie k d).errNext = s.errNext := rfl
@[simp] theorem State.setDie_corrections (s : State) (k : Nat) (d : Die) : (s.setDie k d).corrections = s.corrections := rfl
@[simp] theorem State.setDie_recorded (s : State) (k : Nat) (d : Die) : (s.setDie k d).recorded = s.recorded := rfl
@[simp] theorem State.setDie_gone (s : State) (k : Nat) (d : Die) : (s.setDie k d).gone = s.gone := rfl
@[simp] theorem State.setDie_waking (s : State) (k : Nat) (d : Die) : (s.setDie k d).waking = s.waking := rfl
@[simp] theorem State.setDie_lcNext (s : State) (k : Nat) (d : Die) : (s.setDie k d).lcNext = s.lcNext := rfl
@[simp] theorem State.setDie_idleFor (s : State) (k : Nat) (d : Die) : (s.setDie k d).idleFor = s.idleFor := rfl
@[simp] theorem State.setDie_slept (s : State) (k : Nat) (d : Die) : (s.setDie k d).slept = s.slept := rfl
@[simp] theorem State.setDie_hostHeld (s : State) (k : Nat) (d : Die) : (s.setDie k d).hostHeld = s.hostHeld := rfl
@[simp] theorem State.setDie_hostOut (s : State) (k : Nat) (d : Die) : (s.setDie k d).hostOut = s.hostOut := rfl
@[simp] theorem State.wx_agenda (s : State) (r : BitVec 5) (v : Word) : (s.wx r v).agenda = s.agenda := rfl
@[simp] theorem State.retireTo_agenda (s : State) (pc : Word) : (s.retireTo pc).agenda = s.agenda := rfl
@[simp] theorem State.retire_agenda (s : State) : s.retire.agenda = s.agenda := rfl
@[simp] theorem State.wx_cur (s : State) (r : BitVec 5) (v : Word) : (s.wx r v).cur = s.cur := rfl
@[simp] theorem State.retireTo_cur (s : State) (pc : Word) : (s.retireTo pc).cur = s.cur := rfl
@[simp] theorem State.retire_cur (s : State) : s.retire.cur = s.cur := rfl
@[simp] theorem State.wx_fresh (s : State) (r : BitVec 5) (v : Word) : (s.wx r v).fresh = s.fresh := rfl
@[simp] theorem State.retireTo_fresh (s : State) (pc : Word) : (s.retireTo pc).fresh = s.fresh := rfl
@[simp] theorem State.retire_fresh (s : State) : s.retire.fresh = s.fresh := rfl
@[simp] theorem State.wx_nextId (s : State) (r : BitVec 5) (v : Word) : (s.wx r v).nextId = s.nextId := rfl
@[simp] theorem State.retireTo_nextId (s : State) (pc : Word) : (s.retireTo pc).nextId = s.nextId := rfl
@[simp] theorem State.retire_nextId (s : State) : s.retire.nextId = s.nextId := rfl
@[simp] theorem State.wx_traps (s : State) (r : BitVec 5) (v : Word) : (s.wx r v).traps = s.traps := rfl
@[simp] theorem State.retireTo_traps (s : State) (pc : Word) : (s.retireTo pc).traps = s.traps := rfl
@[simp] theorem State.retire_traps (s : State) : s.retire.traps = s.traps := rfl
@[simp] theorem State.wx_time (s : State) (r : BitVec 5) (v : Word) : (s.wx r v).time = s.time := rfl
@[simp] theorem State.retireTo_time (s : State) (pc : Word) : (s.retireTo pc).time = s.time := rfl
@[simp] theorem State.retire_time (s : State) : s.retire.time = s.time := rfl
@[simp] theorem State.wx_gated (s : State) (r : BitVec 5) (v : Word) : (s.wx r v).gated = s.gated := rfl
@[simp] theorem State.retireTo_gated (s : State) (pc : Word) : (s.retireTo pc).gated = s.gated := rfl
@[simp] theorem State.retire_gated (s : State) : s.retire.gated = s.gated := rfl
@[simp] theorem State.wx_ir (s : State) (r : BitVec 5) (v : Word) : (s.wx r v).ir = s.ir := rfl
@[simp] theorem State.retireTo_ir (s : State) (pc : Word) : (s.retireTo pc).ir = s.ir := rfl
@[simp] theorem State.retire_ir (s : State) : s.retire.ir = s.ir := rfl
@[simp] theorem State.wx_mem (s : State) (r : BitVec 5) (v : Word) : (s.wx r v).mem = s.mem := rfl
@[simp] theorem State.retireTo_mem (s : State) (pc : Word) : (s.retireTo pc).mem = s.mem := rfl
@[simp] theorem State.retire_mem (s : State) : s.retire.mem = s.mem := rfl
@[simp] theorem State.wx_poison (s : State) (r : BitVec 5) (v : Word) : (s.wx r v).poison = s.poison := rfl
@[simp] theorem State.retireTo_poison (s : State) (pc : Word) : (s.retireTo pc).poison = s.poison := rfl
@[simp] theorem State.retire_poison (s : State) : s.retire.poison = s.poison := rfl
@[simp] theorem State.wx_cores (s : State) (r : BitVec 5) (v : Word) : (s.wx r v).cores = s.cores := rfl
@[simp] theorem State.retireTo_cores (s : State) (pc : Word) : (s.retireTo pc).cores = s.cores := rfl
@[simp] theorem State.retire_cores (s : State) : s.retire.cores = s.cores := rfl
@[simp] theorem State.wx_dieMap (s : State) (r : BitVec 5) (v : Word) : (s.wx r v).dieMap = s.dieMap := rfl
@[simp] theorem State.retireTo_dieMap (s : State) (pc : Word) : (s.retireTo pc).dieMap = s.dieMap := rfl
@[simp] theorem State.retire_dieMap (s : State) : s.retire.dieMap = s.dieMap := rfl
@[simp] theorem State.wx_roots (s : State) (r : BitVec 5) (v : Word) : (s.wx r v).roots = s.roots := rfl
@[simp] theorem State.retireTo_roots (s : State) (pc : Word) : (s.retireTo pc).roots = s.roots := rfl
@[simp] theorem State.retire_roots (s : State) : s.retire.roots = s.roots := rfl
@[simp] theorem State.wx_tlb (s : State) (r : BitVec 5) (v : Word) : (s.wx r v).tlb = s.tlb := rfl
@[simp] theorem State.retireTo_tlb (s : State) (pc : Word) : (s.retireTo pc).tlb = s.tlb := rfl
@[simp] theorem State.retire_tlb (s : State) : s.retire.tlb = s.tlb := rfl
@[simp] theorem State.wx_parked (s : State) (r : BitVec 5) (v : Word) : (s.wx r v).parked = s.parked := rfl
@[simp] theorem State.retireTo_parked (s : State) (pc : Word) : (s.retireTo pc).parked = s.parked := rfl
@[simp] theorem State.retire_parked (s : State) : s.retire.parked = s.parked := rfl
@[simp] theorem State.wx_lockets (s : State) (r : BitVec 5) (v : Word) : (s.wx r v).lockets = s.lockets := rfl
@[simp] theorem State.retireTo_lockets (s : State) (pc : Word) : (s.retireTo pc).lockets = s.lockets := rfl
@[simp] theorem State.retire_lockets (s : State) : s.retire.lockets = s.lockets := rfl
@[simp] theorem State.wx_flights (s : State) (r : BitVec 5) (v : Word) : (s.wx r v).flights = s.flights := rfl
@[simp] theorem State.retireTo_flights (s : State) (pc : Word) : (s.retireTo pc).flights = s.flights := rfl
@[simp] theorem State.retire_flights (s : State) : s.retire.flights = s.flights := rfl
@[simp] theorem State.wx_posted (s : State) (r : BitVec 5) (v : Word) : (s.wx r v).posted = s.posted := rfl
@[simp] theorem State.retireTo_posted (s : State) (pc : Word) : (s.retireTo pc).posted = s.posted := rfl
@[simp] theorem State.retire_posted (s : State) : s.retire.posted = s.posted := rfl
@[simp] theorem State.wx_pushes (s : State) (r : BitVec 5) (v : Word) : (s.wx r v).pushes = s.pushes := rfl
@[simp] theorem State.retireTo_pushes (s : State) (pc : Word) : (s.retireTo pc).pushes = s.pushes := rfl
@[simp] theorem State.retire_pushes (s : State) : s.retire.pushes = s.pushes := rfl
@[simp] theorem State.wx_net (s : State) (r : BitVec 5) (v : Word) : (s.wx r v).net = s.net := rfl
@[simp] theorem State.retireTo_net (s : State) (pc : Word) : (s.retireTo pc).net = s.net := rfl
@[simp] theorem State.retire_net (s : State) : s.retire.net = s.net := rfl
@[simp] theorem State.wx_bank (s : State) (r : BitVec 5) (v : Word) : (s.wx r v).bank = s.bank := rfl
@[simp] theorem State.retireTo_bank (s : State) (pc : Word) : (s.retireTo pc).bank = s.bank := rfl
@[simp] theorem State.retire_bank (s : State) : s.retire.bank = s.bank := rfl
@[simp] theorem State.wx_beadOps (s : State) (r : BitVec 5) (v : Word) : (s.wx r v).beadOps = s.beadOps := rfl
@[simp] theorem State.retireTo_beadOps (s : State) (pc : Word) : (s.retireTo pc).beadOps = s.beadOps := rfl
@[simp] theorem State.retire_beadOps (s : State) : s.retire.beadOps = s.beadOps := rfl
@[simp] theorem State.wx_beads (s : State) (r : BitVec 5) (v : Word) : (s.wx r v).beads = s.beads := rfl
@[simp] theorem State.retireTo_beads (s : State) (pc : Word) : (s.retireTo pc).beads = s.beads := rfl
@[simp] theorem State.retire_beads (s : State) : s.retire.beads = s.beads := rfl
@[simp] theorem State.wx_indices (s : State) (r : BitVec 5) (v : Word) : (s.wx r v).indices = s.indices := rfl
@[simp] theorem State.retireTo_indices (s : State) (pc : Word) : (s.retireTo pc).indices = s.indices := rfl
@[simp] theorem State.retire_indices (s : State) : s.retire.indices = s.indices := rfl
@[simp] theorem State.wx_flushes (s : State) (r : BitVec 5) (v : Word) : (s.wx r v).flushes = s.flushes := rfl
@[simp] theorem State.retireTo_flushes (s : State) (pc : Word) : (s.retireTo pc).flushes = s.flushes := rfl
@[simp] theorem State.retire_flushes (s : State) : s.retire.flushes = s.flushes := rfl
@[simp] theorem State.wx_tlinks (s : State) (r : BitVec 5) (v : Word) : (s.wx r v).tlinks = s.tlinks := rfl
@[simp] theorem State.retireTo_tlinks (s : State) (pc : Word) : (s.retireTo pc).tlinks = s.tlinks := rfl
@[simp] theorem State.retire_tlinks (s : State) : s.retire.tlinks = s.tlinks := rfl
@[simp] theorem State.wx_links (s : State) (r : BitVec 5) (v : Word) : (s.wx r v).links = s.links := rfl
@[simp] theorem State.retireTo_links (s : State) (pc : Word) : (s.retireTo pc).links = s.links := rfl
@[simp] theorem State.retire_links (s : State) : s.retire.links = s.links := rfl
@[simp] theorem State.wx_coldom (s : State) (r : BitVec 5) (v : Word) : (s.wx r v).coldom = s.coldom := rfl
@[simp] theorem State.retireTo_coldom (s : State) (pc : Word) : (s.retireTo pc).coldom = s.coldom := rfl
@[simp] theorem State.retire_coldom (s : State) : s.retire.coldom = s.coldom := rfl
@[simp] theorem State.wx_cops (s : State) (r : BitVec 5) (v : Word) : (s.wx r v).cops = s.cops := rfl
@[simp] theorem State.retireTo_cops (s : State) (pc : Word) : (s.retireTo pc).cops = s.cops := rfl
@[simp] theorem State.retire_cops (s : State) : s.retire.cops = s.cops := rfl
@[simp] theorem State.wx_cslots (s : State) (r : BitVec 5) (v : Word) : (s.wx r v).cslots = s.cslots := rfl
@[simp] theorem State.retireTo_cslots (s : State) (pc : Word) : (s.retireTo pc).cslots = s.cslots := rfl
@[simp] theorem State.retire_cslots (s : State) : s.retire.cslots = s.cslots := rfl
@[simp] theorem State.wx_cgens (s : State) (r : BitVec 5) (v : Word) : (s.wx r v).cgens = s.cgens := rfl
@[simp] theorem State.retireTo_cgens (s : State) (pc : Word) : (s.retireTo pc).cgens = s.cgens := rfl
@[simp] theorem State.retire_cgens (s : State) : s.retire.cgens = s.cgens := rfl
@[simp] theorem State.wx_cnums (s : State) (r : BitVec 5) (v : Word) : (s.wx r v).cnums = s.cnums := rfl
@[simp] theorem State.retireTo_cnums (s : State) (pc : Word) : (s.retireTo pc).cnums = s.cnums := rfl
@[simp] theorem State.retire_cnums (s : State) : s.retire.cnums = s.cnums := rfl
@[simp] theorem State.wx_cfin (s : State) (r : BitVec 5) (v : Word) : (s.wx r v).cfin = s.cfin := rfl
@[simp] theorem State.retireTo_cfin (s : State) (pc : Word) : (s.retireTo pc).cfin = s.cfin := rfl
@[simp] theorem State.retire_cfin (s : State) : s.retire.cfin = s.cfin := rfl
@[simp] theorem State.wx_creports (s : State) (r : BitVec 5) (v : Word) : (s.wx r v).creports = s.creports := rfl
@[simp] theorem State.retireTo_creports (s : State) (pc : Word) : (s.retireTo pc).creports = s.creports := rfl
@[simp] theorem State.retire_creports (s : State) : s.retire.creports = s.creports := rfl
@[simp] theorem State.wx_cmsgs (s : State) (r : BitVec 5) (v : Word) : (s.wx r v).cmsgs = s.cmsgs := rfl
@[simp] theorem State.retireTo_cmsgs (s : State) (pc : Word) : (s.retireTo pc).cmsgs = s.cmsgs := rfl
@[simp] theorem State.retire_cmsgs (s : State) : s.retire.cmsgs = s.cmsgs := rfl
@[simp] theorem State.wx_cheld (s : State) (r : BitVec 5) (v : Word) : (s.wx r v).cheld = s.cheld := rfl
@[simp] theorem State.retireTo_cheld (s : State) (pc : Word) : (s.retireTo pc).cheld = s.cheld := rfl
@[simp] theorem State.retire_cheld (s : State) : s.retire.cheld = s.cheld := rfl
@[simp] theorem State.wx_ckeys (s : State) (r : BitVec 5) (v : Word) : (s.wx r v).ckeys = s.ckeys := rfl
@[simp] theorem State.retireTo_ckeys (s : State) (pc : Word) : (s.retireTo pc).ckeys = s.ckeys := rfl
@[simp] theorem State.retire_ckeys (s : State) : s.retire.ckeys = s.ckeys := rfl
@[simp] theorem State.wx_cnext (s : State) (r : BitVec 5) (v : Word) : (s.wx r v).cnext = s.cnext := rfl
@[simp] theorem State.retireTo_cnext (s : State) (pc : Word) : (s.retireTo pc).cnext = s.cnext := rfl
@[simp] theorem State.retire_cnext (s : State) : s.retire.cnext = s.cnext := rfl
@[simp] theorem State.wx_cbeat (s : State) (r : BitVec 5) (v : Word) : (s.wx r v).cbeat = s.cbeat := rfl
@[simp] theorem State.retireTo_cbeat (s : State) (pc : Word) : (s.retireTo pc).cbeat = s.cbeat := rfl
@[simp] theorem State.retire_cbeat (s : State) : s.retire.cbeat = s.cbeat := rfl
@[simp] theorem State.wx_ctaken (s : State) (r : BitVec 5) (v : Word) : (s.wx r v).ctaken = s.ctaken := rfl
@[simp] theorem State.retireTo_ctaken (s : State) (pc : Word) : (s.retireTo pc).ctaken = s.ctaken := rfl
@[simp] theorem State.retire_ctaken (s : State) : s.retire.ctaken = s.ctaken := rfl
@[simp] theorem State.wx_systems (s : State) (r : BitVec 5) (v : Word) : (s.wx r v).systems = s.systems := rfl
@[simp] theorem State.retireTo_systems (s : State) (pc : Word) : (s.retireTo pc).systems = s.systems := rfl
@[simp] theorem State.retire_systems (s : State) : s.retire.systems = s.systems := rfl
@[simp] theorem State.wx_xnet (s : State) (r : BitVec 5) (v : Word) : (s.wx r v).xnet = s.xnet := rfl
@[simp] theorem State.retireTo_xnet (s : State) (pc : Word) : (s.retireTo pc).xnet = s.xnet := rfl
@[simp] theorem State.retire_xnet (s : State) : s.retire.xnet = s.xnet := rfl
@[simp] theorem State.wx_xops (s : State) (r : BitVec 5) (v : Word) : (s.wx r v).xops = s.xops := rfl
@[simp] theorem State.retireTo_xops (s : State) (pc : Word) : (s.retireTo pc).xops = s.xops := rfl
@[simp] theorem State.retire_xops (s : State) : s.retire.xops = s.xops := rfl
@[simp] theorem State.wx_held (s : State) (r : BitVec 5) (v : Word) : (s.wx r v).held = s.held := rfl
@[simp] theorem State.retireTo_held (s : State) (pc : Word) : (s.retireTo pc).held = s.held := rfl
@[simp] theorem State.retire_held (s : State) : s.retire.held = s.held := rfl
@[simp] theorem State.wx_vague (s : State) (r : BitVec 5) (v : Word) : (s.wx r v).vague = s.vague := rfl
@[simp] theorem State.retireTo_vague (s : State) (pc : Word) : (s.retireTo pc).vague = s.vague := rfl
@[simp] theorem State.retire_vague (s : State) : s.retire.vague = s.vague := rfl
@[simp] theorem State.wx_withdrawn (s : State) (r : BitVec 5) (v : Word) : (s.wx r v).withdrawn = s.withdrawn := rfl
@[simp] theorem State.retireTo_withdrawn (s : State) (pc : Word) : (s.retireTo pc).withdrawn = s.withdrawn := rfl
@[simp] theorem State.retire_withdrawn (s : State) : s.retire.withdrawn = s.withdrawn := rfl
@[simp] theorem State.wx_gcolNow (s : State) (r : BitVec 5) (v : Word) : (s.wx r v).gcolNow = s.gcolNow := rfl
@[simp] theorem State.retireTo_gcolNow (s : State) (pc : Word) : (s.retireTo pc).gcolNow = s.gcolNow := rfl
@[simp] theorem State.retire_gcolNow (s : State) : s.retire.gcolNow = s.gcolNow := rfl
@[simp] theorem State.wx_gfold (s : State) (r : BitVec 5) (v : Word) : (s.wx r v).gfold = s.gfold := rfl
@[simp] theorem State.retireTo_gfold (s : State) (pc : Word) : (s.retireTo pc).gfold = s.gfold := rfl
@[simp] theorem State.retire_gfold (s : State) : s.retire.gfold = s.gfold := rfl
@[simp] theorem State.wx_ready (s : State) (r : BitVec 5) (v : Word) : (s.wx r v).ready = s.ready := rfl
@[simp] theorem State.retireTo_ready (s : State) (pc : Word) : (s.retireTo pc).ready = s.ready := rfl
@[simp] theorem State.retire_ready (s : State) : s.retire.ready = s.ready := rfl
@[simp] theorem State.wx_pstate (s : State) (r : BitVec 5) (v : Word) : (s.wx r v).pstate = s.pstate := rfl
@[simp] theorem State.retireTo_pstate (s : State) (pc : Word) : (s.retireTo pc).pstate = s.pstate := rfl
@[simp] theorem State.retire_pstate (s : State) : s.retire.pstate = s.pstate := rfl
@[simp] theorem State.wx_halted (s : State) (r : BitVec 5) (v : Word) : (s.wx r v).halted = s.halted := rfl
@[simp] theorem State.retireTo_halted (s : State) (pc : Word) : (s.retireTo pc).halted = s.halted := rfl
@[simp] theorem State.retire_halted (s : State) : s.retire.halted = s.halted := rfl
@[simp] theorem State.wx_groups (s : State) (r : BitVec 5) (v : Word) : (s.wx r v).groups = s.groups := rfl
@[simp] theorem State.retireTo_groups (s : State) (pc : Word) : (s.retireTo pc).groups = s.groups := rfl
@[simp] theorem State.retire_groups (s : State) : s.retire.groups = s.groups := rfl
@[simp] theorem State.wx_queues (s : State) (r : BitVec 5) (v : Word) : (s.wx r v).queues = s.queues := rfl
@[simp] theorem State.retireTo_queues (s : State) (pc : Word) : (s.retireTo pc).queues = s.queues := rfl
@[simp] theorem State.retire_queues (s : State) : s.retire.queues = s.queues := rfl
@[simp] theorem State.wx_entries (s : State) (r : BitVec 5) (v : Word) : (s.wx r v).entries = s.entries := rfl
@[simp] theorem State.retireTo_entries (s : State) (pc : Word) : (s.retireTo pc).entries = s.entries := rfl
@[simp] theorem State.retire_entries (s : State) : s.retire.entries = s.entries := rfl
@[simp] theorem State.wx_launches (s : State) (r : BitVec 5) (v : Word) : (s.wx r v).launches = s.launches := rfl
@[simp] theorem State.retireTo_launches (s : State) (pc : Word) : (s.retireTo pc).launches = s.launches := rfl
@[simp] theorem State.retire_launches (s : State) : s.retire.launches = s.launches := rfl
@[simp] theorem State.wx_podRanks (s : State) (r : BitVec 5) (v : Word) : (s.wx r v).podRanks = s.podRanks := rfl
@[simp] theorem State.retireTo_podRanks (s : State) (pc : Word) : (s.retireTo pc).podRanks = s.podRanks := rfl
@[simp] theorem State.retire_podRanks (s : State) : s.retire.podRanks = s.podRanks := rfl
@[simp] theorem State.wx_msix (s : State) (r : BitVec 5) (v : Word) : (s.wx r v).msix = s.msix := rfl
@[simp] theorem State.retireTo_msix (s : State) (pc : Word) : (s.retireTo pc).msix = s.msix := rfl
@[simp] theorem State.retire_msix (s : State) : s.retire.msix = s.msix := rfl
@[simp] theorem State.wx_lc (s : State) (r : BitVec 5) (v : Word) : (s.wx r v).lc = s.lc := rfl
@[simp] theorem State.retireTo_lc (s : State) (pc : Word) : (s.retireTo pc).lc = s.lc := rfl
@[simp] theorem State.retire_lc (s : State) : s.retire.lc = s.lc := rfl
@[simp] theorem State.wx_hint (s : State) (r : BitVec 5) (v : Word) : (s.wx r v).hint = s.hint := rfl
@[simp] theorem State.retireTo_hint (s : State) (pc : Word) : (s.retireTo pc).hint = s.hint := rfl
@[simp] theorem State.retire_hint (s : State) : s.retire.hint = s.hint := rfl
@[simp] theorem State.wx_hintv (s : State) (r : BitVec 5) (v : Word) : (s.wx r v).hintv = s.hintv := rfl
@[simp] theorem State.retireTo_hintv (s : State) (pc : Word) : (s.retireTo pc).hintv = s.hintv := rfl
@[simp] theorem State.retire_hintv (s : State) : s.retire.hintv = s.hintv := rfl
@[simp] theorem State.wx_podcfg (s : State) (r : BitVec 5) (v : Word) : (s.wx r v).podcfg = s.podcfg := rfl
@[simp] theorem State.retireTo_podcfg (s : State) (pc : Word) : (s.retireTo pc).podcfg = s.podcfg := rfl
@[simp] theorem State.retire_podcfg (s : State) : s.retire.podcfg = s.podcfg := rfl
@[simp] theorem State.wx_logs (s : State) (r : BitVec 5) (v : Word) : (s.wx r v).logs = s.logs := rfl
@[simp] theorem State.retireTo_logs (s : State) (pc : Word) : (s.retireTo pc).logs = s.logs := rfl
@[simp] theorem State.retire_logs (s : State) : s.retire.logs = s.logs := rfl
@[simp] theorem State.wx_evictions (s : State) (r : BitVec 5) (v : Word) : (s.wx r v).evictions = s.evictions := rfl
@[simp] theorem State.retireTo_evictions (s : State) (pc : Word) : (s.retireTo pc).evictions = s.evictions := rfl
@[simp] theorem State.retire_evictions (s : State) : s.retire.evictions = s.evictions := rfl
@[simp] theorem State.wx_ltol (s : State) (r : BitVec 5) (v : Word) : (s.wx r v).ltol = s.ltol := rfl
@[simp] theorem State.retireTo_ltol (s : State) (pc : Word) : (s.retireTo pc).ltol = s.ltol := rfl
@[simp] theorem State.retire_ltol (s : State) : s.retire.ltol = s.ltol := rfl
@[simp] theorem State.wx_attnonce (s : State) (r : BitVec 5) (v : Word) : (s.wx r v).attnonce = s.attnonce := rfl
@[simp] theorem State.retireTo_attnonce (s : State) (pc : Word) : (s.retireTo pc).attnonce = s.attnonce := rfl
@[simp] theorem State.retire_attnonce (s : State) : s.retire.attnonce = s.attnonce := rfl
@[simp] theorem State.wx_attstat (s : State) (r : BitVec 5) (v : Word) : (s.wx r v).attstat = s.attstat := rfl
@[simp] theorem State.retireTo_attstat (s : State) (pc : Word) : (s.retireTo pc).attstat = s.attstat := rfl
@[simp] theorem State.retire_attstat (s : State) : s.retire.attstat = s.attstat := rfl
@[simp] theorem State.wx_request (s : State) (r : BitVec 5) (v : Word) : (s.wx r v).request = s.request := rfl
@[simp] theorem State.retireTo_request (s : State) (pc : Word) : (s.retireTo pc).request = s.request := rfl
@[simp] theorem State.retire_request (s : State) : s.retire.request = s.request := rfl
@[simp] theorem State.wx_attreport (s : State) (r : BitVec 5) (v : Word) : (s.wx r v).attreport = s.attreport := rfl
@[simp] theorem State.retireTo_attreport (s : State) (pc : Word) : (s.retireTo pc).attreport = s.attreport := rfl
@[simp] theorem State.retire_attreport (s : State) : s.retire.attreport = s.attreport := rfl
@[simp] theorem State.wx_carried (s : State) (r : BitVec 5) (v : Word) : (s.wx r v).carried = s.carried := rfl
@[simp] theorem State.retireTo_carried (s : State) (pc : Word) : (s.retireTo pc).carried = s.carried := rfl
@[simp] theorem State.retire_carried (s : State) : s.retire.carried = s.carried := rfl
@[simp] theorem State.wx_resets (s : State) (r : BitVec 5) (v : Word) : (s.wx r v).resets = s.resets := rfl
@[simp] theorem State.retireTo_resets (s : State) (pc : Word) : (s.retireTo pc).resets = s.resets := rfl
@[simp] theorem State.retire_resets (s : State) : s.retire.resets = s.resets := rfl
@[simp] theorem State.wx_rootTime (s : State) (r : BitVec 5) (v : Word) : (s.wx r v).rootTime = s.rootTime := rfl
@[simp] theorem State.retireTo_rootTime (s : State) (pc : Word) : (s.retireTo pc).rootTime = s.rootTime := rfl
@[simp] theorem State.retire_rootTime (s : State) : s.retire.rootTime = s.rootTime := rfl
@[simp] theorem State.wx_errlog (s : State) (r : BitVec 5) (v : Word) : (s.wx r v).errlog = s.errlog := rfl
@[simp] theorem State.retireTo_errlog (s : State) (pc : Word) : (s.retireTo pc).errlog = s.errlog := rfl
@[simp] theorem State.retire_errlog (s : State) : s.retire.errlog = s.errlog := rfl
@[simp] theorem State.wx_errNext (s : State) (r : BitVec 5) (v : Word) : (s.wx r v).errNext = s.errNext := rfl
@[simp] theorem State.retireTo_errNext (s : State) (pc : Word) : (s.retireTo pc).errNext = s.errNext := rfl
@[simp] theorem State.retire_errNext (s : State) : s.retire.errNext = s.errNext := rfl
@[simp] theorem State.wx_corrections (s : State) (r : BitVec 5) (v : Word) : (s.wx r v).corrections = s.corrections := rfl
@[simp] theorem State.retireTo_corrections (s : State) (pc : Word) : (s.retireTo pc).corrections = s.corrections := rfl
@[simp] theorem State.retire_corrections (s : State) : s.retire.corrections = s.corrections := rfl
@[simp] theorem State.wx_recorded (s : State) (r : BitVec 5) (v : Word) : (s.wx r v).recorded = s.recorded := rfl
@[simp] theorem State.retireTo_recorded (s : State) (pc : Word) : (s.retireTo pc).recorded = s.recorded := rfl
@[simp] theorem State.retire_recorded (s : State) : s.retire.recorded = s.recorded := rfl
@[simp] theorem State.wx_gone (s : State) (r : BitVec 5) (v : Word) : (s.wx r v).gone = s.gone := rfl
@[simp] theorem State.retireTo_gone (s : State) (pc : Word) : (s.retireTo pc).gone = s.gone := rfl
@[simp] theorem State.retire_gone (s : State) : s.retire.gone = s.gone := rfl
@[simp] theorem State.wx_waking (s : State) (r : BitVec 5) (v : Word) : (s.wx r v).waking = s.waking := rfl
@[simp] theorem State.retireTo_waking (s : State) (pc : Word) : (s.retireTo pc).waking = s.waking := rfl
@[simp] theorem State.retire_waking (s : State) : s.retire.waking = s.waking := rfl
@[simp] theorem State.wx_lcNext (s : State) (r : BitVec 5) (v : Word) : (s.wx r v).lcNext = s.lcNext := rfl
@[simp] theorem State.retireTo_lcNext (s : State) (pc : Word) : (s.retireTo pc).lcNext = s.lcNext := rfl
@[simp] theorem State.retire_lcNext (s : State) : s.retire.lcNext = s.lcNext := rfl
@[simp] theorem State.wx_idleFor (s : State) (r : BitVec 5) (v : Word) : (s.wx r v).idleFor = s.idleFor := rfl
@[simp] theorem State.retireTo_idleFor (s : State) (pc : Word) : (s.retireTo pc).idleFor = s.idleFor := rfl
@[simp] theorem State.retire_idleFor (s : State) : s.retire.idleFor = s.idleFor := rfl
@[simp] theorem State.wx_slept (s : State) (r : BitVec 5) (v : Word) : (s.wx r v).slept = s.slept := rfl
@[simp] theorem State.retireTo_slept (s : State) (pc : Word) : (s.retireTo pc).slept = s.slept := rfl
@[simp] theorem State.retire_slept (s : State) : s.retire.slept = s.slept := rfl
@[simp] theorem State.wx_hostHeld (s : State) (r : BitVec 5) (v : Word) : (s.wx r v).hostHeld = s.hostHeld := rfl
@[simp] theorem State.retireTo_hostHeld (s : State) (pc : Word) : (s.retireTo pc).hostHeld = s.hostHeld := rfl
@[simp] theorem State.retire_hostHeld (s : State) : s.retire.hostHeld = s.hostHeld := rfl
@[simp] theorem State.wx_hostOut (s : State) (r : BitVec 5) (v : Word) : (s.wx r v).hostOut = s.hostOut := rfl
@[simp] theorem State.retireTo_hostOut (s : State) (pc : Word) : (s.retireTo pc).hostOut = s.hostOut := rfl
@[simp] theorem State.retire_hostOut (s : State) : s.retire.hostOut = s.hostOut := rfl
@[simp] theorem Thread.retireTo_pc (t : Thread) (pc : Word) : (t.retireTo pc).pc = pc := rfl
@[simp] theorem Thread.retireTo_steward (t : Thread) (pc : Word) : (t.retireTo pc).steward = t.steward := rfl
@[simp] theorem Thread.retireTo_x (t : Thread) (pc : Word) : (t.retireTo pc).x = t.x := rfl
@[simp] theorem Thread.retireTo_v (t : Thread) (pc : Word) : (t.retireTo pc).v = t.v := rfl
@[simp] theorem Thread.retireTo_k (t : Thread) (pc : Word) : (t.retireTo pc).k = t.k := rfl
@[simp] theorem Thread.retireTo_vfmt (t : Thread) (pc : Word) : (t.retireTo pc).vfmt = t.vfmt := rfl
@[simp] theorem Thread.retireTo_mfmt (t : Thread) (pc : Word) : (t.retireTo pc).mfmt = t.mfmt := rfl
@[simp] theorem Thread.retireTo_vflags (t : Thread) (pc : Word) : (t.retireTo pc).vflags = t.vflags := rfl
@[simp] theorem Thread.retireTo_pfx (t : Thread) (pc : Word) : (t.retireTo pc).pfx = false := rfl
@[simp] theorem Thread.retireTo_pfxv (t : Thread) (pc : Word) : (t.retireTo pc).pfxv = t.pfxv := rfl
@[simp] theorem Thread.retireTo_chwin (t : Thread) (pc : Word) : (t.retireTo pc).chwin = t.chwin := rfl
@[simp] theorem Thread.retireTo_pres (t : Thread) (pc : Word) : (t.retireTo pc).pres = t.pres := rfl
@[simp] theorem Thread.retireTo_dtbase (t : Thread) (pc : Word) : (t.retireTo pc).dtbase = t.dtbase := rfl
@[simp] theorem Thread.retireTo_dist (t : Thread) (pc : Word) : (t.retireTo pc).dist = t.dist := rfl
@[simp] theorem Thread.retireTo_skew (t : Thread) (pc : Word) : (t.retireTo pc).skew = t.skew := rfl
@[simp] theorem Thread.retireTo_bank0 (t : Thread) (pc : Word) : (t.retireTo pc).bank0 = t.bank0 := rfl
@[simp] theorem Thread.retireTo_bank1 (t : Thread) (pc : Word) : (t.retireTo pc).bank1 = t.bank1 := rfl
@[simp] theorem Thread.retireTo_tvec0 (t : Thread) (pc : Word) : (t.retireTo pc).tvec0 = t.tvec0 := rfl
@[simp] theorem Thread.retireTo_tvec1 (t : Thread) (pc : Word) : (t.retireTo pc).tvec1 = t.tvec1 := rfl
@[simp] theorem Thread.retireTo_tmsg (t : Thread) (pc : Word) : (t.retireTo pc).tmsg = t.tmsg := rfl
@[simp] theorem Thread.retireTo_savearea (t : Thread) (pc : Word) : (t.retireTo pc).savearea = t.savearea := rfl
@[simp] theorem Thread.retireTo_ckptab (t : Thread) (pc : Word) : (t.retireTo pc).ckptab = t.ckptab := rfl
@[simp] theorem Thread.retireTo_ckptmax (t : Thread) (pc : Word) : (t.retireTo pc).ckptmax = t.ckptmax := rfl
@[simp] theorem Thread.retireTo_plogbase (t : Thread) (pc : Word) : (t.retireTo pc).plogbase = t.plogbase := rfl
@[simp] theorem Thread.retireTo_plogIndex (t : Thread) (pc : Word) : (t.retireTo pc).plogIndex = t.plogIndex := rfl
@[simp] theorem Thread.retireTo_plogChain (t : Thread) (pc : Word) : (t.retireTo pc).plogChain = t.plogChain := rfl
@[simp] theorem Thread.retireTo_card (t : Thread) (pc : Word) : (t.retireTo pc).card = t.card := rfl
@[simp] theorem Thread.retireTo_park (t : Thread) (pc : Word) : (t.retireTo pc).park = false := rfl
@[simp] theorem Thread.retireTo_outs (t : Thread) (pc : Word) : (t.retireTo pc).outs = t.outs := rfl
@[simp] theorem Thread.retireTo_jobs (t : Thread) (pc : Word) : (t.retireTo pc).jobs = t.jobs := rfl
@[simp] theorem Thread.retireTo_chans (t : Thread) (pc : Word) : (t.retireTo pc).chans = t.chans := rfl
@[simp] theorem Thread.retireTo_landed (t : Thread) (pc : Word) : (t.retireTo pc).landed = t.landed := rfl
@[simp] theorem Thread.retireTo_resv (t : Thread) (pc : Word) : (t.retireTo pc).resv = t.resv := rfl
@[simp] theorem Thread.retireTo_gang (t : Thread) (pc : Word) : (t.retireTo pc).gang = t.gang := rfl
@[simp] theorem Thread.retireTo_instret (t : Thread) (pc : Word) : (t.retireTo pc).instret = t.instret + 1 := rfl
@[simp] theorem Thread.retireTo_reports (t : Thread) (pc : Word) : (t.retireTo pc).reports = t.reports := rfl
@[simp] theorem Thread.retireTo_preempts (t : Thread) (pc : Word) : (t.retireTo pc).preempts = t.preempts := rfl
@[simp] theorem Thread.retireTo_deadlineHit (t : Thread) (pc : Word) : (t.retireTo pc).deadlineHit = t.deadlineHit := rfl
@[simp] theorem Thread.retireTo_deadlineAt (t : Thread) (pc : Word) : (t.retireTo pc).deadlineAt = t.deadlineAt := rfl
@[simp] theorem Thread.retireTo_sliceAt (t : Thread) (pc : Word) : (t.retireTo pc).sliceAt = t.sliceAt := rfl
@[simp] theorem Thread.retireTo_mark (t : Thread) (pc : Word) : (t.retireTo pc).mark = none := rfl
@[simp] theorem Thread.retireTo_openAt (t : Thread) (pc : Word) : (t.retireTo pc).openAt = none := rfl
@[simp] theorem Thread.retireTo_lateRel (t : Thread) (pc : Word) : (t.retireTo pc).lateRel = t.lateRel := rfl
@[simp] theorem Thread.retireTo_relAt (t : Thread) (pc : Word) : (t.retireTo pc).relAt = t.relAt := rfl
@[simp] theorem Thread.retireTo_bar (t : Thread) (pc : Word) : (t.retireTo pc).bar = t.bar := rfl
@[simp] theorem Thread.retireTo_remote (t : Thread) (pc : Word) : (t.retireTo pc).remote = t.remote := rfl
@[simp] theorem Thread.retireTo_early (t : Thread) (pc : Word) : (t.retireTo pc).early = t.early := rfl
@[simp] theorem Thread.retireTo_seen (t : Thread) (pc : Word) : (t.retireTo pc).seen = t.seen := rfl
@[simp] theorem Thread.retireTo_lost (t : Thread) (pc : Word) : (t.retireTo pc).lost = t.lost := rfl
@[simp] theorem Thread.retireTo_mflags (t : Thread) (pc : Word) : (t.retireTo pc).mflags = t.mflags := rfl
@[simp] theorem Thread.retireTo_mcard (t : Thread) (pc : Word) : (t.retireTo pc).mcard = t.mcard := rfl
@[simp] theorem Thread.retireTo_aborted (t : Thread) (pc : Word) : (t.retireTo pc).aborted = t.aborted := rfl
@[simp] theorem Thread.retireTo_issued (t : Thread) (pc : Word) : (t.retireTo pc).issued = t.issued := rfl
@[simp] theorem Thread.retireTo_waits (t : Thread) (pc : Word) : (t.retireTo pc).waits = false := rfl
@[simp] theorem Thread.retireTo_plogNext (t : Thread) (pc : Word) : (t.retireTo pc).plogNext = t.plogNext := rfl
@[simp] theorem Thread.wx_pc (t : Thread) (r : BitVec 5) (v : Word) : (t.wx r v).pc = t.pc := by unfold Thread.wx; split <;> rfl
@[simp] theorem Thread.wv_pc (t : Thread) (r : BitVec 5) (v : VWord) : (t.wv r v).pc = t.pc := rfl
@[simp] theorem Thread.wk_pc (t : Thread) (r : BitVec 3) (v : KWord) : (t.wk r v).pc = t.pc := by unfold Thread.wk; split <;> rfl
@[simp] theorem Thread.wx_steward (t : Thread) (r : BitVec 5) (v : Word) : (t.wx r v).steward = t.steward := by unfold Thread.wx; split <;> rfl
@[simp] theorem Thread.wv_steward (t : Thread) (r : BitVec 5) (v : VWord) : (t.wv r v).steward = t.steward := rfl
@[simp] theorem Thread.wk_steward (t : Thread) (r : BitVec 3) (v : KWord) : (t.wk r v).steward = t.steward := by unfold Thread.wk; split <;> rfl
@[simp] theorem Thread.wv_x (t : Thread) (r : BitVec 5) (v : VWord) : (t.wv r v).x = t.x := rfl
@[simp] theorem Thread.wk_x (t : Thread) (r : BitVec 3) (v : KWord) : (t.wk r v).x = t.x := by unfold Thread.wk; split <;> rfl
@[simp] theorem Thread.wx_v (t : Thread) (r : BitVec 5) (v : Word) : (t.wx r v).v = t.v := by unfold Thread.wx; split <;> rfl
@[simp] theorem Thread.wk_v (t : Thread) (r : BitVec 3) (v : KWord) : (t.wk r v).v = t.v := by unfold Thread.wk; split <;> rfl
@[simp] theorem Thread.wx_k (t : Thread) (r : BitVec 5) (v : Word) : (t.wx r v).k = t.k := by unfold Thread.wx; split <;> rfl
@[simp] theorem Thread.wv_k (t : Thread) (r : BitVec 5) (v : VWord) : (t.wv r v).k = t.k := rfl
@[simp] theorem Thread.wx_vfmt (t : Thread) (r : BitVec 5) (v : Word) : (t.wx r v).vfmt = t.vfmt := by unfold Thread.wx; split <;> rfl
@[simp] theorem Thread.wv_vfmt (t : Thread) (r : BitVec 5) (v : VWord) : (t.wv r v).vfmt = t.vfmt := rfl
@[simp] theorem Thread.wk_vfmt (t : Thread) (r : BitVec 3) (v : KWord) : (t.wk r v).vfmt = t.vfmt := by unfold Thread.wk; split <;> rfl
@[simp] theorem Thread.wx_mfmt (t : Thread) (r : BitVec 5) (v : Word) : (t.wx r v).mfmt = t.mfmt := by unfold Thread.wx; split <;> rfl
@[simp] theorem Thread.wv_mfmt (t : Thread) (r : BitVec 5) (v : VWord) : (t.wv r v).mfmt = t.mfmt := rfl
@[simp] theorem Thread.wk_mfmt (t : Thread) (r : BitVec 3) (v : KWord) : (t.wk r v).mfmt = t.mfmt := by unfold Thread.wk; split <;> rfl
@[simp] theorem Thread.wx_vflags (t : Thread) (r : BitVec 5) (v : Word) : (t.wx r v).vflags = t.vflags := by unfold Thread.wx; split <;> rfl
@[simp] theorem Thread.wv_vflags (t : Thread) (r : BitVec 5) (v : VWord) : (t.wv r v).vflags = t.vflags := rfl
@[simp] theorem Thread.wk_vflags (t : Thread) (r : BitVec 3) (v : KWord) : (t.wk r v).vflags = t.vflags := by unfold Thread.wk; split <;> rfl
@[simp] theorem Thread.wx_pfx (t : Thread) (r : BitVec 5) (v : Word) : (t.wx r v).pfx = t.pfx := by unfold Thread.wx; split <;> rfl
@[simp] theorem Thread.wv_pfx (t : Thread) (r : BitVec 5) (v : VWord) : (t.wv r v).pfx = t.pfx := rfl
@[simp] theorem Thread.wk_pfx (t : Thread) (r : BitVec 3) (v : KWord) : (t.wk r v).pfx = t.pfx := by unfold Thread.wk; split <;> rfl
@[simp] theorem Thread.wx_pfxv (t : Thread) (r : BitVec 5) (v : Word) : (t.wx r v).pfxv = t.pfxv := by unfold Thread.wx; split <;> rfl
@[simp] theorem Thread.wv_pfxv (t : Thread) (r : BitVec 5) (v : VWord) : (t.wv r v).pfxv = t.pfxv := rfl
@[simp] theorem Thread.wk_pfxv (t : Thread) (r : BitVec 3) (v : KWord) : (t.wk r v).pfxv = t.pfxv := by unfold Thread.wk; split <;> rfl
@[simp] theorem Thread.wx_chwin (t : Thread) (r : BitVec 5) (v : Word) : (t.wx r v).chwin = t.chwin := by unfold Thread.wx; split <;> rfl
@[simp] theorem Thread.wv_chwin (t : Thread) (r : BitVec 5) (v : VWord) : (t.wv r v).chwin = t.chwin := rfl
@[simp] theorem Thread.wk_chwin (t : Thread) (r : BitVec 3) (v : KWord) : (t.wk r v).chwin = t.chwin := by unfold Thread.wk; split <;> rfl
@[simp] theorem Thread.wx_pres (t : Thread) (r : BitVec 5) (v : Word) : (t.wx r v).pres = t.pres := by unfold Thread.wx; split <;> rfl
@[simp] theorem Thread.wv_pres (t : Thread) (r : BitVec 5) (v : VWord) : (t.wv r v).pres = t.pres := rfl
@[simp] theorem Thread.wk_pres (t : Thread) (r : BitVec 3) (v : KWord) : (t.wk r v).pres = t.pres := by unfold Thread.wk; split <;> rfl
@[simp] theorem Thread.wx_dtbase (t : Thread) (r : BitVec 5) (v : Word) : (t.wx r v).dtbase = t.dtbase := by unfold Thread.wx; split <;> rfl
@[simp] theorem Thread.wv_dtbase (t : Thread) (r : BitVec 5) (v : VWord) : (t.wv r v).dtbase = t.dtbase := rfl
@[simp] theorem Thread.wk_dtbase (t : Thread) (r : BitVec 3) (v : KWord) : (t.wk r v).dtbase = t.dtbase := by unfold Thread.wk; split <;> rfl
@[simp] theorem Thread.wx_dist (t : Thread) (r : BitVec 5) (v : Word) : (t.wx r v).dist = t.dist := by unfold Thread.wx; split <;> rfl
@[simp] theorem Thread.wv_dist (t : Thread) (r : BitVec 5) (v : VWord) : (t.wv r v).dist = t.dist := rfl
@[simp] theorem Thread.wk_dist (t : Thread) (r : BitVec 3) (v : KWord) : (t.wk r v).dist = t.dist := by unfold Thread.wk; split <;> rfl
@[simp] theorem Thread.wx_skew (t : Thread) (r : BitVec 5) (v : Word) : (t.wx r v).skew = t.skew := by unfold Thread.wx; split <;> rfl
@[simp] theorem Thread.wv_skew (t : Thread) (r : BitVec 5) (v : VWord) : (t.wv r v).skew = t.skew := rfl
@[simp] theorem Thread.wk_skew (t : Thread) (r : BitVec 3) (v : KWord) : (t.wk r v).skew = t.skew := by unfold Thread.wk; split <;> rfl
@[simp] theorem Thread.wx_bank0 (t : Thread) (r : BitVec 5) (v : Word) : (t.wx r v).bank0 = t.bank0 := by unfold Thread.wx; split <;> rfl
@[simp] theorem Thread.wv_bank0 (t : Thread) (r : BitVec 5) (v : VWord) : (t.wv r v).bank0 = t.bank0 := rfl
@[simp] theorem Thread.wk_bank0 (t : Thread) (r : BitVec 3) (v : KWord) : (t.wk r v).bank0 = t.bank0 := by unfold Thread.wk; split <;> rfl
@[simp] theorem Thread.wx_bank1 (t : Thread) (r : BitVec 5) (v : Word) : (t.wx r v).bank1 = t.bank1 := by unfold Thread.wx; split <;> rfl
@[simp] theorem Thread.wv_bank1 (t : Thread) (r : BitVec 5) (v : VWord) : (t.wv r v).bank1 = t.bank1 := rfl
@[simp] theorem Thread.wk_bank1 (t : Thread) (r : BitVec 3) (v : KWord) : (t.wk r v).bank1 = t.bank1 := by unfold Thread.wk; split <;> rfl
@[simp] theorem Thread.wx_tvec0 (t : Thread) (r : BitVec 5) (v : Word) : (t.wx r v).tvec0 = t.tvec0 := by unfold Thread.wx; split <;> rfl
@[simp] theorem Thread.wv_tvec0 (t : Thread) (r : BitVec 5) (v : VWord) : (t.wv r v).tvec0 = t.tvec0 := rfl
@[simp] theorem Thread.wk_tvec0 (t : Thread) (r : BitVec 3) (v : KWord) : (t.wk r v).tvec0 = t.tvec0 := by unfold Thread.wk; split <;> rfl
@[simp] theorem Thread.wx_tvec1 (t : Thread) (r : BitVec 5) (v : Word) : (t.wx r v).tvec1 = t.tvec1 := by unfold Thread.wx; split <;> rfl
@[simp] theorem Thread.wv_tvec1 (t : Thread) (r : BitVec 5) (v : VWord) : (t.wv r v).tvec1 = t.tvec1 := rfl
@[simp] theorem Thread.wk_tvec1 (t : Thread) (r : BitVec 3) (v : KWord) : (t.wk r v).tvec1 = t.tvec1 := by unfold Thread.wk; split <;> rfl
@[simp] theorem Thread.wx_tmsg (t : Thread) (r : BitVec 5) (v : Word) : (t.wx r v).tmsg = t.tmsg := by unfold Thread.wx; split <;> rfl
@[simp] theorem Thread.wv_tmsg (t : Thread) (r : BitVec 5) (v : VWord) : (t.wv r v).tmsg = t.tmsg := rfl
@[simp] theorem Thread.wk_tmsg (t : Thread) (r : BitVec 3) (v : KWord) : (t.wk r v).tmsg = t.tmsg := by unfold Thread.wk; split <;> rfl
@[simp] theorem Thread.wx_savearea (t : Thread) (r : BitVec 5) (v : Word) : (t.wx r v).savearea = t.savearea := by unfold Thread.wx; split <;> rfl
@[simp] theorem Thread.wv_savearea (t : Thread) (r : BitVec 5) (v : VWord) : (t.wv r v).savearea = t.savearea := rfl
@[simp] theorem Thread.wk_savearea (t : Thread) (r : BitVec 3) (v : KWord) : (t.wk r v).savearea = t.savearea := by unfold Thread.wk; split <;> rfl
@[simp] theorem Thread.wx_ckptab (t : Thread) (r : BitVec 5) (v : Word) : (t.wx r v).ckptab = t.ckptab := by unfold Thread.wx; split <;> rfl
@[simp] theorem Thread.wv_ckptab (t : Thread) (r : BitVec 5) (v : VWord) : (t.wv r v).ckptab = t.ckptab := rfl
@[simp] theorem Thread.wk_ckptab (t : Thread) (r : BitVec 3) (v : KWord) : (t.wk r v).ckptab = t.ckptab := by unfold Thread.wk; split <;> rfl
@[simp] theorem Thread.wx_ckptmax (t : Thread) (r : BitVec 5) (v : Word) : (t.wx r v).ckptmax = t.ckptmax := by unfold Thread.wx; split <;> rfl
@[simp] theorem Thread.wv_ckptmax (t : Thread) (r : BitVec 5) (v : VWord) : (t.wv r v).ckptmax = t.ckptmax := rfl
@[simp] theorem Thread.wk_ckptmax (t : Thread) (r : BitVec 3) (v : KWord) : (t.wk r v).ckptmax = t.ckptmax := by unfold Thread.wk; split <;> rfl
@[simp] theorem Thread.wx_plogbase (t : Thread) (r : BitVec 5) (v : Word) : (t.wx r v).plogbase = t.plogbase := by unfold Thread.wx; split <;> rfl
@[simp] theorem Thread.wv_plogbase (t : Thread) (r : BitVec 5) (v : VWord) : (t.wv r v).plogbase = t.plogbase := rfl
@[simp] theorem Thread.wk_plogbase (t : Thread) (r : BitVec 3) (v : KWord) : (t.wk r v).plogbase = t.plogbase := by unfold Thread.wk; split <;> rfl
@[simp] theorem Thread.wx_plogIndex (t : Thread) (r : BitVec 5) (v : Word) : (t.wx r v).plogIndex = t.plogIndex := by unfold Thread.wx; split <;> rfl
@[simp] theorem Thread.wv_plogIndex (t : Thread) (r : BitVec 5) (v : VWord) : (t.wv r v).plogIndex = t.plogIndex := rfl
@[simp] theorem Thread.wk_plogIndex (t : Thread) (r : BitVec 3) (v : KWord) : (t.wk r v).plogIndex = t.plogIndex := by unfold Thread.wk; split <;> rfl
@[simp] theorem Thread.wx_plogChain (t : Thread) (r : BitVec 5) (v : Word) : (t.wx r v).plogChain = t.plogChain := by unfold Thread.wx; split <;> rfl
@[simp] theorem Thread.wv_plogChain (t : Thread) (r : BitVec 5) (v : VWord) : (t.wv r v).plogChain = t.plogChain := rfl
@[simp] theorem Thread.wk_plogChain (t : Thread) (r : BitVec 3) (v : KWord) : (t.wk r v).plogChain = t.plogChain := by unfold Thread.wk; split <;> rfl
@[simp] theorem Thread.wx_card (t : Thread) (r : BitVec 5) (v : Word) : (t.wx r v).card = t.card := by unfold Thread.wx; split <;> rfl
@[simp] theorem Thread.wv_card (t : Thread) (r : BitVec 5) (v : VWord) : (t.wv r v).card = t.card := rfl
@[simp] theorem Thread.wk_card (t : Thread) (r : BitVec 3) (v : KWord) : (t.wk r v).card = t.card := by unfold Thread.wk; split <;> rfl
@[simp] theorem Thread.wx_park (t : Thread) (r : BitVec 5) (v : Word) : (t.wx r v).park = t.park := by unfold Thread.wx; split <;> rfl
@[simp] theorem Thread.wv_park (t : Thread) (r : BitVec 5) (v : VWord) : (t.wv r v).park = t.park := rfl
@[simp] theorem Thread.wk_park (t : Thread) (r : BitVec 3) (v : KWord) : (t.wk r v).park = t.park := by unfold Thread.wk; split <;> rfl
@[simp] theorem Thread.wx_outs (t : Thread) (r : BitVec 5) (v : Word) : (t.wx r v).outs = t.outs := by unfold Thread.wx; split <;> rfl
@[simp] theorem Thread.wv_outs (t : Thread) (r : BitVec 5) (v : VWord) : (t.wv r v).outs = t.outs := rfl
@[simp] theorem Thread.wk_outs (t : Thread) (r : BitVec 3) (v : KWord) : (t.wk r v).outs = t.outs := by unfold Thread.wk; split <;> rfl
@[simp] theorem Thread.wx_jobs (t : Thread) (r : BitVec 5) (v : Word) : (t.wx r v).jobs = t.jobs := by unfold Thread.wx; split <;> rfl
@[simp] theorem Thread.wv_jobs (t : Thread) (r : BitVec 5) (v : VWord) : (t.wv r v).jobs = t.jobs := rfl
@[simp] theorem Thread.wk_jobs (t : Thread) (r : BitVec 3) (v : KWord) : (t.wk r v).jobs = t.jobs := by unfold Thread.wk; split <;> rfl
@[simp] theorem Thread.wx_chans (t : Thread) (r : BitVec 5) (v : Word) : (t.wx r v).chans = t.chans := by unfold Thread.wx; split <;> rfl
@[simp] theorem Thread.wv_chans (t : Thread) (r : BitVec 5) (v : VWord) : (t.wv r v).chans = t.chans := rfl
@[simp] theorem Thread.wk_chans (t : Thread) (r : BitVec 3) (v : KWord) : (t.wk r v).chans = t.chans := by unfold Thread.wk; split <;> rfl
@[simp] theorem Thread.wx_landed (t : Thread) (r : BitVec 5) (v : Word) : (t.wx r v).landed = t.landed := by unfold Thread.wx; split <;> rfl
@[simp] theorem Thread.wv_landed (t : Thread) (r : BitVec 5) (v : VWord) : (t.wv r v).landed = t.landed := rfl
@[simp] theorem Thread.wk_landed (t : Thread) (r : BitVec 3) (v : KWord) : (t.wk r v).landed = t.landed := by unfold Thread.wk; split <;> rfl
@[simp] theorem Thread.wx_resv (t : Thread) (r : BitVec 5) (v : Word) : (t.wx r v).resv = t.resv := by unfold Thread.wx; split <;> rfl
@[simp] theorem Thread.wv_resv (t : Thread) (r : BitVec 5) (v : VWord) : (t.wv r v).resv = t.resv := rfl
@[simp] theorem Thread.wk_resv (t : Thread) (r : BitVec 3) (v : KWord) : (t.wk r v).resv = t.resv := by unfold Thread.wk; split <;> rfl
@[simp] theorem Thread.wx_gang (t : Thread) (r : BitVec 5) (v : Word) : (t.wx r v).gang = t.gang := by unfold Thread.wx; split <;> rfl
@[simp] theorem Thread.wv_gang (t : Thread) (r : BitVec 5) (v : VWord) : (t.wv r v).gang = t.gang := rfl
@[simp] theorem Thread.wk_gang (t : Thread) (r : BitVec 3) (v : KWord) : (t.wk r v).gang = t.gang := by unfold Thread.wk; split <;> rfl
@[simp] theorem Thread.wx_instret (t : Thread) (r : BitVec 5) (v : Word) : (t.wx r v).instret = t.instret := by unfold Thread.wx; split <;> rfl
@[simp] theorem Thread.wv_instret (t : Thread) (r : BitVec 5) (v : VWord) : (t.wv r v).instret = t.instret := rfl
@[simp] theorem Thread.wk_instret (t : Thread) (r : BitVec 3) (v : KWord) : (t.wk r v).instret = t.instret := by unfold Thread.wk; split <;> rfl
@[simp] theorem Thread.wx_reports (t : Thread) (r : BitVec 5) (v : Word) : (t.wx r v).reports = t.reports := by unfold Thread.wx; split <;> rfl
@[simp] theorem Thread.wv_reports (t : Thread) (r : BitVec 5) (v : VWord) : (t.wv r v).reports = t.reports := rfl
@[simp] theorem Thread.wk_reports (t : Thread) (r : BitVec 3) (v : KWord) : (t.wk r v).reports = t.reports := by unfold Thread.wk; split <;> rfl
@[simp] theorem Thread.wx_preempts (t : Thread) (r : BitVec 5) (v : Word) : (t.wx r v).preempts = t.preempts := by unfold Thread.wx; split <;> rfl
@[simp] theorem Thread.wv_preempts (t : Thread) (r : BitVec 5) (v : VWord) : (t.wv r v).preempts = t.preempts := rfl
@[simp] theorem Thread.wk_preempts (t : Thread) (r : BitVec 3) (v : KWord) : (t.wk r v).preempts = t.preempts := by unfold Thread.wk; split <;> rfl
@[simp] theorem Thread.wx_deadlineHit (t : Thread) (r : BitVec 5) (v : Word) : (t.wx r v).deadlineHit = t.deadlineHit := by unfold Thread.wx; split <;> rfl
@[simp] theorem Thread.wv_deadlineHit (t : Thread) (r : BitVec 5) (v : VWord) : (t.wv r v).deadlineHit = t.deadlineHit := rfl
@[simp] theorem Thread.wk_deadlineHit (t : Thread) (r : BitVec 3) (v : KWord) : (t.wk r v).deadlineHit = t.deadlineHit := by unfold Thread.wk; split <;> rfl
@[simp] theorem Thread.wx_deadlineAt (t : Thread) (r : BitVec 5) (v : Word) : (t.wx r v).deadlineAt = t.deadlineAt := by unfold Thread.wx; split <;> rfl
@[simp] theorem Thread.wv_deadlineAt (t : Thread) (r : BitVec 5) (v : VWord) : (t.wv r v).deadlineAt = t.deadlineAt := rfl
@[simp] theorem Thread.wk_deadlineAt (t : Thread) (r : BitVec 3) (v : KWord) : (t.wk r v).deadlineAt = t.deadlineAt := by unfold Thread.wk; split <;> rfl
@[simp] theorem Thread.wx_sliceAt (t : Thread) (r : BitVec 5) (v : Word) : (t.wx r v).sliceAt = t.sliceAt := by unfold Thread.wx; split <;> rfl
@[simp] theorem Thread.wv_sliceAt (t : Thread) (r : BitVec 5) (v : VWord) : (t.wv r v).sliceAt = t.sliceAt := rfl
@[simp] theorem Thread.wk_sliceAt (t : Thread) (r : BitVec 3) (v : KWord) : (t.wk r v).sliceAt = t.sliceAt := by unfold Thread.wk; split <;> rfl
@[simp] theorem Thread.wx_mark (t : Thread) (r : BitVec 5) (v : Word) : (t.wx r v).mark = t.mark := by unfold Thread.wx; split <;> rfl
@[simp] theorem Thread.wv_mark (t : Thread) (r : BitVec 5) (v : VWord) : (t.wv r v).mark = t.mark := rfl
@[simp] theorem Thread.wk_mark (t : Thread) (r : BitVec 3) (v : KWord) : (t.wk r v).mark = t.mark := by unfold Thread.wk; split <;> rfl
@[simp] theorem Thread.wx_openAt (t : Thread) (r : BitVec 5) (v : Word) : (t.wx r v).openAt = t.openAt := by unfold Thread.wx; split <;> rfl
@[simp] theorem Thread.wv_openAt (t : Thread) (r : BitVec 5) (v : VWord) : (t.wv r v).openAt = t.openAt := rfl
@[simp] theorem Thread.wk_openAt (t : Thread) (r : BitVec 3) (v : KWord) : (t.wk r v).openAt = t.openAt := by unfold Thread.wk; split <;> rfl
@[simp] theorem Thread.wx_lateRel (t : Thread) (r : BitVec 5) (v : Word) : (t.wx r v).lateRel = t.lateRel := by unfold Thread.wx; split <;> rfl
@[simp] theorem Thread.wv_lateRel (t : Thread) (r : BitVec 5) (v : VWord) : (t.wv r v).lateRel = t.lateRel := rfl
@[simp] theorem Thread.wk_lateRel (t : Thread) (r : BitVec 3) (v : KWord) : (t.wk r v).lateRel = t.lateRel := by unfold Thread.wk; split <;> rfl
@[simp] theorem Thread.wx_relAt (t : Thread) (r : BitVec 5) (v : Word) : (t.wx r v).relAt = t.relAt := by unfold Thread.wx; split <;> rfl
@[simp] theorem Thread.wv_relAt (t : Thread) (r : BitVec 5) (v : VWord) : (t.wv r v).relAt = t.relAt := rfl
@[simp] theorem Thread.wk_relAt (t : Thread) (r : BitVec 3) (v : KWord) : (t.wk r v).relAt = t.relAt := by unfold Thread.wk; split <;> rfl
@[simp] theorem Thread.wx_bar (t : Thread) (r : BitVec 5) (v : Word) : (t.wx r v).bar = t.bar := by unfold Thread.wx; split <;> rfl
@[simp] theorem Thread.wv_bar (t : Thread) (r : BitVec 5) (v : VWord) : (t.wv r v).bar = t.bar := rfl
@[simp] theorem Thread.wk_bar (t : Thread) (r : BitVec 3) (v : KWord) : (t.wk r v).bar = t.bar := by unfold Thread.wk; split <;> rfl
@[simp] theorem Thread.wx_remote (t : Thread) (r : BitVec 5) (v : Word) : (t.wx r v).remote = t.remote := by unfold Thread.wx; split <;> rfl
@[simp] theorem Thread.wv_remote (t : Thread) (r : BitVec 5) (v : VWord) : (t.wv r v).remote = t.remote := rfl
@[simp] theorem Thread.wk_remote (t : Thread) (r : BitVec 3) (v : KWord) : (t.wk r v).remote = t.remote := by unfold Thread.wk; split <;> rfl
@[simp] theorem Thread.wx_early (t : Thread) (r : BitVec 5) (v : Word) : (t.wx r v).early = t.early := by unfold Thread.wx; split <;> rfl
@[simp] theorem Thread.wv_early (t : Thread) (r : BitVec 5) (v : VWord) : (t.wv r v).early = t.early := rfl
@[simp] theorem Thread.wk_early (t : Thread) (r : BitVec 3) (v : KWord) : (t.wk r v).early = t.early := by unfold Thread.wk; split <;> rfl
@[simp] theorem Thread.wx_seen (t : Thread) (r : BitVec 5) (v : Word) : (t.wx r v).seen = t.seen := by unfold Thread.wx; split <;> rfl
@[simp] theorem Thread.wv_seen (t : Thread) (r : BitVec 5) (v : VWord) : (t.wv r v).seen = t.seen := rfl
@[simp] theorem Thread.wk_seen (t : Thread) (r : BitVec 3) (v : KWord) : (t.wk r v).seen = t.seen := by unfold Thread.wk; split <;> rfl
@[simp] theorem Thread.wx_lost (t : Thread) (r : BitVec 5) (v : Word) : (t.wx r v).lost = t.lost := by unfold Thread.wx; split <;> rfl
@[simp] theorem Thread.wv_lost (t : Thread) (r : BitVec 5) (v : VWord) : (t.wv r v).lost = t.lost := rfl
@[simp] theorem Thread.wk_lost (t : Thread) (r : BitVec 3) (v : KWord) : (t.wk r v).lost = t.lost := by unfold Thread.wk; split <;> rfl
@[simp] theorem Thread.wx_mflags (t : Thread) (r : BitVec 5) (v : Word) : (t.wx r v).mflags = t.mflags := by unfold Thread.wx; split <;> rfl
@[simp] theorem Thread.wv_mflags (t : Thread) (r : BitVec 5) (v : VWord) : (t.wv r v).mflags = t.mflags := rfl
@[simp] theorem Thread.wk_mflags (t : Thread) (r : BitVec 3) (v : KWord) : (t.wk r v).mflags = t.mflags := by unfold Thread.wk; split <;> rfl
@[simp] theorem Thread.wx_mcard (t : Thread) (r : BitVec 5) (v : Word) : (t.wx r v).mcard = t.mcard := by unfold Thread.wx; split <;> rfl
@[simp] theorem Thread.wv_mcard (t : Thread) (r : BitVec 5) (v : VWord) : (t.wv r v).mcard = t.mcard := rfl
@[simp] theorem Thread.wk_mcard (t : Thread) (r : BitVec 3) (v : KWord) : (t.wk r v).mcard = t.mcard := by unfold Thread.wk; split <;> rfl
@[simp] theorem Thread.wx_aborted (t : Thread) (r : BitVec 5) (v : Word) : (t.wx r v).aborted = t.aborted := by unfold Thread.wx; split <;> rfl
@[simp] theorem Thread.wv_aborted (t : Thread) (r : BitVec 5) (v : VWord) : (t.wv r v).aborted = t.aborted := rfl
@[simp] theorem Thread.wk_aborted (t : Thread) (r : BitVec 3) (v : KWord) : (t.wk r v).aborted = t.aborted := by unfold Thread.wk; split <;> rfl
@[simp] theorem Thread.wx_issued (t : Thread) (r : BitVec 5) (v : Word) : (t.wx r v).issued = t.issued := by unfold Thread.wx; split <;> rfl
@[simp] theorem Thread.wv_issued (t : Thread) (r : BitVec 5) (v : VWord) : (t.wv r v).issued = t.issued := rfl
@[simp] theorem Thread.wk_issued (t : Thread) (r : BitVec 3) (v : KWord) : (t.wk r v).issued = t.issued := by unfold Thread.wk; split <;> rfl
@[simp] theorem Thread.wx_waits (t : Thread) (r : BitVec 5) (v : Word) : (t.wx r v).waits = t.waits := by unfold Thread.wx; split <;> rfl
@[simp] theorem Thread.wv_waits (t : Thread) (r : BitVec 5) (v : VWord) : (t.wv r v).waits = t.waits := rfl
@[simp] theorem Thread.wk_waits (t : Thread) (r : BitVec 3) (v : KWord) : (t.wk r v).waits = t.waits := by unfold Thread.wk; split <;> rfl
@[simp] theorem Thread.wx_plogNext (t : Thread) (r : BitVec 5) (v : Word) : (t.wx r v).plogNext = t.plogNext := by unfold Thread.wx; split <;> rfl
@[simp] theorem Thread.wv_plogNext (t : Thread) (r : BitVec 5) (v : VWord) : (t.wv r v).plogNext = t.plogNext := rfl
@[simp] theorem Thread.wk_plogNext (t : Thread) (r : BitVec 3) (v : KWord) : (t.wk r v).plogNext = t.plogNext := by unfold Thread.wk; split <;> rfl

/-- A thread set reads as it was set. -/
@[simp] theorem State.thread_setThread_same (s : State) (k : Nat) (t : Thread) : (s.setThread k t).thread k = t :=
  aget_aput_same _ _ _ _
/-- Setting one thread set leaves the others. -/
theorem State.thread_setThread_other (s : State) (j k : Nat) (t : Thread) (h : j ≠ k) : (s.setThread k t).thread j = s.thread j :=
  aget_aput_other _ _ _ _ _ h
theorem State.thread_setThread (s : State) (j k : Nat) (t : Thread) :
    (s.setThread k t).thread j = if j = k then t else s.thread j := aget_aput _ _ _ _ _
@[simp] theorem State.core_setCore_same (s : State) (k : Nat) (c : Core) : (s.setCore k c).core k = c :=
  aget_aput_same _ _ _ _
theorem State.core_setCore_other (s : State) (j k : Nat) (c : Core) (h : j ≠ k) : (s.setCore k c).core j = s.core j :=
  aget_aput_other _ _ _ _ _ h
@[simp] theorem State.thread_setCore (s : State) (j k : Nat) (c : Core) : (s.setCore k c).thread j = s.thread j := rfl
@[simp] theorem State.core_setThread (s : State) (j k : Nat) (t : Thread) : (s.setThread k t).core j = s.core j := rfl
@[simp] theorem State.die_setThread (s : State) (j k : Nat) (t : Thread) : (s.setThread k t).die j = s.die j := rfl
@[simp] theorem State.die_setCore (s : State) (j k : Nat) (c : Core) : (s.setCore k c).die j = s.die j := rfl

/-- Reading an x register after a write of one (R10): x0 reads zero and discards writes. -/
theorem Thread.rx_wx (t : Thread) (r q : BitVec 5) (v : Word) :
    (t.wx r v).rx q = if q = 0 then 0 else if q = r then v else t.rx q := by
  unfold Thread.rx Thread.wx
  by_cases hq : q = 0
  · simp [hq]
  · simp only [hq, if_false]
    by_cases hr : r = 0
    · subst hr
      simp only [if_true]
      split
      · next h => exact absurd h hq
      · rfl
    · simp only [hr, if_false, aget_aput]
      by_cases h : q = r
      · simp [h]
      · have : q.toNat ≠ r.toNat := fun hh => h (BitVec.eq_of_toNat_eq hh)
        simp [h, this]
@[simp] theorem Thread.rx_retireTo (t : Thread) (pc : Word) (q : BitVec 5) : (t.retireTo pc).rx q = t.rx q := rfl
@[simp] theorem Thread.rx_zero (t : Thread) : t.rx 0 = 0 := rfl

/-- A vector register reads as it was written, the others as before. -/
theorem Thread.rv_wv (t : Thread) (r q : BitVec 5) (v : VWord) : (t.wv r v).rv q = if q = r then v else t.rv q := by
  unfold Thread.rv Thread.wv
  by_cases h : q = r
  · subst h
    simp [aget_aput]
  · have : q.toNat ≠ r.toNat := fun hh => h (BitVec.eq_of_toNat_eq hh)
    simp [aget_aput, h, this]

/-- A predicate register reads as it was written, k0 always all true (R10, R11). -/
theorem Thread.rk_wk (t : Thread) (r q : BitVec 3) (v : KWord) :
    (t.wk r v).rk q = if q = 0 then BitVec.allOnes 128 else if q = r then v else t.rk q := by
  unfold Thread.rk Thread.wk
  by_cases hq : q = 0
  · simp [hq]
  · simp only [hq, if_false]
    by_cases hr : r = 0
    · subst hr
      simp only [if_true]
      split
      · next h => exact absurd h hq
      · rfl
    · simp only [hr, if_false, aget_aput]
      by_cases h : q = r
      · simp [h]
      · have : q.toNat ≠ r.toNat := fun hh => h (BitVec.eq_of_toNat_eq hh)
        simp [h, this]

end Sys2Proof.Machine
end

