-- ==== Sys2Proof/Laws/Ops.lean ====
section
/-! SUPPORT. What each shared operation can do, said once: the checks at issue, retirement, taking a trap. -/

namespace Sys2Proof.Machine

open Sys2Proof

/-- `plain` answers the illegal case, holds, or acts. -/
theorem plain_cases {s t : State} {regs : List (BitVec 5)} {k : State → State} (h : plain s regs k = .next t) :
    (s.th.pfx = true ∧ t = s.illegal) ∨ (s.th.pfx = false ∧ (∃ r ∈ regs, s.pending s.cur r = true) ∧ t = s) ∨
    (s.Clear regs ∧ t = k s) := by
  unfold plain at h
  injection h with h
  by_cases hp : s.th.pfx = true
  · exact .inl ⟨hp, by rw [if_pos hp] at h; exact h.symm⟩
  · rw [if_neg hp] at h
    have hf : s.th.pfx = false := by simpa using hp
    by_cases hr : regs.any (s.pending s.cur) = true
    · rw [if_pos hr] at h
      exact .inr (.inl ⟨hf, by simpa using hr, h.symm⟩)
    · rw [if_neg hr] at h
      exact .inr (.inr ⟨⟨hf, by simpa using hr⟩, h.symm⟩)

/-- An instruction without a format acts where nothing holds it. -/
theorem plain_runs {s : State} {regs : List (BitVec 5)} {k : State → State} (h : s.Clear regs) : plain s regs k = .next (k s) := by
  have hr : ¬ regs.any (s.pending s.cur) = true := by simpa using h.2
  unfold plain
  rw [if_neg (by rw [h.1]; exact Bool.false_ne_true), if_neg hr]

/-- A pending prefix makes it illegal. -/
theorem plain_prefixed {s : State} {regs : List (BitVec 5)} {k : State → State} (h : s.th.pfx = true) :
    plain s regs k = .next s.illegal := by
  unfold plain
  rw [if_pos h]

/-- A pending register holds it at issue. -/
theorem plain_held {s : State} {regs : List (BitVec 5)} {k : State → State} (h : s.th.pfx = false) (r : BitVec 5) (hr : r ∈ regs)
    (hp : s.pending s.cur r = true) : plain s regs k = .next s := by
  unfold plain
  rw [if_neg (by rw [h]; exact Bool.false_ne_true), if_pos (List.any_eq_true.mpr ⟨r, hr, hp⟩)]

/-- A steward instruction acts for the steward. -/
theorem stewardOnly_runs {s : State} {regs : List (BitVec 5)} {k : State → State} (h : s.Clear regs) (hs : s.th.steward = true) :
    stewardOnly s regs k = .next (k s) := by
  have hr : ¬ regs.any (s.pending s.cur) = true := by simpa using h.2
  unfold stewardOnly
  rw [if_neg (by simp [h.1, hs, -State.th_eq]), if_neg hr]

/-- A steward instruction is illegal in user mode. -/
theorem stewardOnly_user {s : State} {regs : List (BitVec 5)} {k : State → State} (hs : s.th.steward = false) :
    stewardOnly s regs k = .next s.illegal := by
  unfold stewardOnly
  rw [if_pos (by simp [hs, -State.th_eq])]

/-- The other thread sets keep what they are. -/
theorem otherThreads_setThread (s : State) (u : Thread) : OtherThreads s (s.setThread s.cur u) :=
  fun _ hk => State.thread_setThread_other s _ _ u hk

/-- The issuing thread set after writing rd and retiring. -/
theorem th_wx_retireTo (s : State) (rd : BitVec 5) (v pc : Word) :
    ((s.wx rd v).retireTo pc).thread s.cur = ((s.thread s.cur).wx rd v).retireTo pc := by
  simp [State.retireTo_eq, State.wx_eq]

/-- What `wx` and `retireTo` leave of a thread set. -/
theorem sameRest_wx_retireTo (u : Thread) (rd : BitVec 5) (v pc : Word) : SameRest u ((u.wx rd v).retireTo pc) := by
  unfold SameRest Thread.wx Thread.retireTo
  split <;> rfl

/-- Writing rd and retiring has the whole effect that `Writes` states. -/
theorem writes_retireTo (s : State) (rd : BitVec 5) (v pc : Word) : Writes s ((s.wx rd v).retireTo pc) rd v pc := by
  have ht := th_wx_retireTo s rd v pc
  have hc : ((s.wx rd v).retireTo pc).cur = s.cur := rfl
  have hx : ∀ r, ((s.wx rd v).retireTo pc).rx r = ((s.thread s.cur).wx rd v).rx r := fun r => by
    rw [State.rx_eq, hc, ht, Thread.rx_retireTo]
  have hth : ((s.wx rd v).retireTo pc).th = ((s.thread s.cur).wx rd v).retireTo pc := ht
  refine ⟨?_, ?_, ?_, ?_, ⟨?_, rfl⟩, fun _ => rfl⟩
  · rw [hx, Thread.rx_wx]
    by_cases h : rd = 0 <;> simp [h]
  · intro r hr
    rw [hx, Thread.rx_wx, State.rx_eq]
    by_cases h : r = 0
    · subst h; rfl
    · rw [if_neg h, if_neg hr]
  · unfold Retired
    rw [hth]
    simp
  · rw [hth]
    exact sameRest_wx_retireTo _ _ _ _
  · intro k hk
    rw [State.retireTo_eq, State.wx_cur, State.thread_setThread_other _ _ _ _ hk, State.wx_eq, State.thread_setThread_other _ _ _ _ hk]

/-- Retiring has the whole effect that `GoesTo` states. -/
theorem goesTo_retireTo (s : State) (pc : Word) : GoesTo s (s.retireTo pc) pc := by
  have hth : (s.retireTo pc).th = (s.thread s.cur).retireTo pc := State.thread_setThread_same _ _ _
  refine ⟨fun r => ?_, ?_, ?_, ⟨otherThreads_setThread _ _, rfl⟩, fun _ => rfl⟩
  · change (s.retireTo pc).th.rx r = _
    rw [hth, Thread.rx_retireTo, State.rx_eq]
  · unfold Retired
    rw [hth]
    simp
  · rw [hth]
    rfl

/-- A trap that a bank takes has the whole effect that `TrapTaken` states. -/
theorem trapHere_taken {s : State} (h : s.CanTrap) (cause : BitVec 6) (val : Word) : TrapTaken s (s.trapHere cause val) cause val := by
  obtain ⟨hb, hh⟩ := h
  have e : s.trapHere cause val =
      ({ ((s.withdrawAccess s.cur).setCore (coreOf s.cur) { s.core (coreOf s.cur) with
            seqWait := (s.core (coreOf s.cur)).seqWait.filter fun x => x != s.cur }).setThread s.cur
          (s.th.enter s.th.bank0.act (s.th.fill cause val s.th.pc (s.th.park && s.outstanding s.cur) false)) with traps := s.traps + 1 } : State) := by
    unfold State.trapHere State.trap
    rw [State.th_eq] at hb hh
    simp only [hb, hh, Bool.false_eq_true, if_false, State.th_eq]
    rfl
  have hth : (s.trapHere cause val).th = s.th.enter s.th.bank0.act (s.th.fill cause val s.th.pc (s.th.park && s.outstanding s.cur) false) := by
    rw [e]; exact State.thread_setThread_same _ _ _
  unfold TrapTaken SameRegisters OtherThreads
  rw [hth]
  and_intros
  all_goals first
    | rfl
    | exact fun k hk => by rw [e]; exact State.thread_setThread_other _ _ _ _ hk
    | exact fun r => congrFun (congrArg Thread.rx hth) r
    | exact fun a => by rw [e]; rfl
    | (rw [e]; rfl)
    | (intro c
       rw [e]
       change ({ ((s.withdrawAccess s.cur).setCore (coreOf s.cur) _).core c with seqWait := _ } : Core) = _
       by_cases hc : c = coreOf s.cur
       · rw [hc, State.core_setCore_same]
       · rw [State.core_setCore_other _ _ _ _ hc]; rfl)

/-- An enabled step has its effect. -/
theorem event_some {s t : State} {o : Option State} (h : o = some t) : event s o = .next t := by rw [h]; rfl
/-- A step that is not enabled changes nothing. -/
theorem event_none {s : State} {o : Option State} (h : o = none) : event s o = .next s := by rw [h]; rfl

end Sys2Proof.Machine
end

