-- ==== Sys2Proof/Laws/Views.lean ====
section
/-! SUPPORT. What releases, acquires and reads can change: the notes of values seen early, and nothing else. -/

namespace Sys2Proof.Machine

open Sys2Proof

/-- Two states differ in the thread sets' early values at most. -/
def SameButEarly (s t : State) : Prop :=
  ({ t with threads := s.threads } : State) = s ∧ ∀ k, ({ t.thread k with early := (s.thread k).early } : Thread) = s.thread k

/-- Two states differ in the thread sets' notes of what loads have seen at most. -/
def SameButNotes (s t : State) : Prop :=
  ({ t with threads := s.threads } : State) = s ∧
  ∀ k, ({ t.thread k with early := (s.thread k).early, seen := (s.thread k).seen } : Thread) = s.thread k

/-- A relation that a change of each listed thread set keeps holds at every number. -/
theorem aget_mapThreads {R : Thread → Thread → Prop} (g : Nat × Thread → Thread) (h0 : R {} {}) (h : ∀ p, R (g p) p.2) (m : AMap Thread) (k : Nat) :
    R (aget {} (m.map fun p => (p.1, g p)) k) (aget {} m k) := by
  induction m with
  | nil => exact h0
  | cons p m ih =>
    simp only [List.map_cons, aget]
    split
    · exact h p
    · exact ih

theorem Thread.share_early (t : Thread) (tid : Nat) (f : Holder → List Holder) (on : Early → Bool) (e : List Early) :
    ({ t.share tid f on with early := e } : Thread) = { t with early := e } := by
  unfold Thread.share
  split <;> rfl

/-- Sharing what is known changes early values alone. -/
theorem State.share_sameButEarly (s : State) (f : Holder → List Holder) (on : Early → Bool) : SameButEarly s (s.share f on) :=
  ⟨rfl, aget_mapThreads (R := fun t u => ({ t with early := u.early } : Thread) = u) _ rfl (fun p => p.2.share_early p.1 f on _) s.threads⟩

theorem SameButEarly.refl (s : State) : SameButEarly s s := ⟨rfl, fun _ => rfl⟩

theorem SameButEarly.trans {s t u : State} (a : SameButEarly s t) (b : SameButEarly t u) : SameButEarly s u :=
  ⟨by
    have h := congrArg (fun x : State => ({ x with threads := s.threads } : State)) b.1
    exact h.trans a.1,
  fun k => by
    have h := congrArg (fun x : Thread => ({ x with early := (s.thread k).early } : Thread)) (b.2 k)
    exact h.trans (a.2 k)⟩

theorem SameButEarly.notes {s t : State} (a : SameButEarly s t) : SameButNotes s t :=
  ⟨a.1, fun k => by
    have h := congrArg (fun x : Thread => ({ x with seen := (s.thread k).seen } : Thread)) (a.2 k)
    exact h⟩

theorem SameButNotes.trans {s t u : State} (a : SameButNotes s t) (b : SameButNotes t u) : SameButNotes s u :=
  ⟨by
    have h := congrArg (fun x : State => ({ x with threads := s.threads } : State)) b.1
    exact h.trans a.1,
  fun k => by
    have h := congrArg (fun x : Thread => ({ x with early := (s.thread k).early, seen := (s.thread k).seen } : Thread)) (b.2 k)
    exact h.trans (a.2 k)⟩

/-! What is kept: registers, pcs and memory; and so what the statements say of the others. -/

theorem SameButNotes.memory {s t : State} (a : SameButNotes s t) : t.mem = s.mem := by
  have h := congrArg State.mem a.1
  exact h
theorem SameButNotes.cores {s t : State} (a : SameButNotes s t) : t.cores = s.cores := by
  have h := congrArg State.cores a.1
  exact h
theorem SameButNotes.cur {s t : State} (a : SameButNotes s t) : t.cur = s.cur := by
  have h := congrArg State.cur a.1
  exact h
theorem SameButNotes.pc {s t : State} (a : SameButNotes s t) (k : Nat) : (t.thread k).pc = (s.thread k).pc := by
  have h := congrArg Thread.pc (a.2 k)
  exact h
theorem SameButNotes.x {s t : State} (a : SameButNotes s t) (k : Nat) : (t.thread k).x = (s.thread k).x := by
  have h := congrArg Thread.x (a.2 k)
  exact h
theorem SameButNotes.outs {s t : State} (a : SameButNotes s t) (k : Nat) : (t.thread k).outs = (s.thread k).outs := by
  have h := congrArg Thread.outs (a.2 k)
  exact h
theorem SameButNotes.others {s t : State} (a : SameButNotes s t) : OthersButNotes s t := fun k _ => a.2 k
theorem SameButNotes.othersOf {s t : State} (a : SameButNotes s t) (tid : Nat) : OthersOfButNotes s t tid := fun k _ => a.2 k

/-! One for each release and acquire. -/

theorem publish_sameButEarly (s : State) (tid : Nat) (sc : BitVec 2) (f : Bool) : SameButEarly s (s.publish tid sc f) := s.share_sameButEarly _ _
theorem releaseAt_sameButEarly (s : State) (p : Party) (sc : BitVec 2) (pa n : Nat) : SameButEarly s (s.releaseAt p sc pa n) := s.share_sameButEarly _ _
theorem releaseTo_sameButEarly (s : State) (p : Party) (sc : BitVec 2) (id : Nat) : SameButEarly s (s.releaseTo p sc id) := s.share_sameButEarly _ _
theorem carry_sameButEarly (s : State) (p : Party) (rel : Option (BitVec 2)) (id : Nat) : SameButEarly s (s.carry p rel id) := by
  cases rel
  · exact .refl s
  · exact releaseTo_sameButEarly s p _ id
theorem entrust_sameButEarly (s : State) (tid id : Nat) (rel : Option (BitVec 2)) : SameButEarly s (s.entrust tid id rel) := by
  unfold State.entrust
  split
  · exact s.share_sameButEarly _ _
  · exact .refl s
theorem releaseIn_sameButEarly (s : State) (p : Party) (rel : Option (BitVec 2)) (key : Nat) : SameButEarly s (s.releaseIn p rel key) := by
  cases rel
  · exact .refl s
  · exact s.share_sameButEarly _ _
theorem answerIn_sameButEarly (s : State) (id key : Nat) : SameButEarly s (s.answerIn id key) := s.share_sameButEarly _ _
theorem releaseCard_sameButEarly (s : State) (p : Party) (id : Nat) : SameButEarly s (s.releaseCard p id) := s.share_sameButEarly _ _
theorem cover_sameButEarly (s : State) (tid id : Nat) : SameButEarly s (s.cover tid id) := s.share_sameButEarly _ _
theorem owe_sameButEarly (s : State) (tid pa n : Nat) : SameButEarly s (s.owe tid pa n) := s.share_sameButEarly _ _
theorem oweStore_sameButEarly (s : State) (tid from_ : Nat) : SameButEarly s (s.oweStore tid from_) := s.share_sameButEarly _ _
theorem answerTakes_sameButEarly (s : State) (id pa n : Nat) : SameButEarly s (s.answerTakes id pa n) := s.share_sameButEarly _ _
theorem acquire_sameButEarly (s : State) (tid : Nat) (sc : BitVec 2) : SameButEarly s (s.acquire tid sc) := s.share_sameButEarly _ _
theorem acquireFrom_sameButEarly (s : State) (q : Party) (sc : BitVec 2) (id : Nat) : SameButEarly s (s.acquireFrom q sc id) := s.share_sameButEarly _ _
theorem acquireAt_sameButEarly (s : State) (q : Party) (sc : BitVec 2) (pa n : Nat) : SameButEarly s (s.acquireAt q sc pa n) :=
  s.share_sameButEarly _ _
theorem acquireCard_sameButEarly (s : State) (tid id : Nat) : SameButEarly s (s.acquireCard tid id) := s.share_sameButEarly _ _
theorem receive_sameButEarly (s : State) (q : Party) (f : Party → Bool) : SameButEarly s (s.receive q f) := s.share_sameButEarly _ _
theorem countWrite_sameButEarly (s : State) (p : Party) (core ch pa n : Nat) : SameButEarly s (s.countWrite p core ch pa n) :=
  s.share_sameButEarly _ _
theorem acquireCount_sameButEarly (s : State) (tid core ch : Nat) : SameButEarly s (s.acquireCount tid core ch) := s.share_sameButEarly _ _
theorem publishTile_sameButEarly (s : State) (tid core r n : Nat) : SameButEarly s (s.publishTile tid core r n) := s.share_sameButEarly _ _
theorem readTile_sameButEarly (s : State) (from_ r n core : Nat) (t : BitVec 32) : SameButEarly s (s.readTile from_ r n core t) :=
  s.share_sameButEarly _ _
theorem acquireMatrix_sameButEarly (s : State) (tid core : Nat) (t : BitVec 32) : SameButEarly s (s.acquireMatrix tid core t) :=
  s.share_sameButEarly _ _
theorem acquireIn_sameButEarly (s : State) (q : Party) (sc : BitVec 2) (key : Nat) : SameButEarly s (s.acquireIn q sc key) :=
  s.share_sameButEarly _ _
theorem completeAt_sameButEarly (s : State) (tid id : Nat) (rel : Option (BitVec 2)) (pa n : Nat) : SameButEarly s (s.completeAt tid id rel pa n) := by
  cases rel
  · exact .refl s
  · exact (releaseAt_sameButEarly s _ _ pa n).trans (cover_sameButEarly _ tid id)
theorem covering_sameButEarly (s : State) (src : Nat) (l : List Nat) : SameButEarly s (s.covering src l) := by
  unfold State.covering
  split
  · exact .refl s
  · exact s.share_sameButEarly _ _
theorem inherit_sameButEarly (s : State) (tid id : Nat) (rel : Option (BitVec 2)) : SameButEarly s (s.inherit tid id rel) := by
  unfold State.inherit
  split
  · exact .refl s
  · exact s.share_sameButEarly _ _

/-! And for each read. -/

theorem seenBy_sameButEarly (s : State) (p : Party) (pa n : Nat) : SameButEarly s (s.seenBy p pa n) :=
  ⟨rfl, aget_mapThreads (R := fun t u => ({ t with early := u.early } : Thread) = u) _ rfl (fun q => by
    dsimp only
    split <;> rfl) s.threads⟩

theorem answered_sameButEarly (s : State) (tid id : Nat) : SameButEarly s (s.answered tid id) :=
  ⟨rfl, aget_mapThreads (R := fun t u => ({ t with early := u.early } : Thread) = u) _ rfl (fun q => by
    dsimp only
    split <;> rfl) s.threads⟩

/-- A read of a thread set changes the notes alone. -/
theorem noteRead_sameButNotes (s : State) (tid : Nat) (e : Option SbEntry) (path : Path) (pa n : Nat) :
    SameButNotes s (s.noteRead tid e path pa n) := by
  let g (p : Nat × Thread) : Thread :=
    if p.1 == tid then
      { p.2 with
        early := p.2.early.filter (·.afterRead path pa n e.isNone)
        seen := (e.map (·.id)).toList ++ p.2.seen.filter fun i => (s.core (coreOf tid)).sb.any (·.id == i) || s.flights.any (·.id == i) }
    else { p.2 with early := if e.isSome then p.2.early else p.2.early.map (·.seenBy (.thread tid) pa n) }
  let u : State := { s with threads := s.threads.map fun p => (p.1, g p) }
  have hu : SameButNotes s u :=
    ⟨rfl, aget_mapThreads (R := fun t u => ({ t with early := u.early, seen := u.seen } : Thread) = u) g rfl (fun p => by
      dsimp only [g]
      split <;> rfl) s.threads⟩
  have hs : s.noteRead tid e path pa n = match e with
      | some x => u.oweStore tid x.tid
      | none => u.owe tid pa n := by
    have hm : (s.threads.map fun p => if p.1 == tid then (p.1, { p.2 with
          early := p.2.early.filter (·.afterRead path pa n e.isNone)
          seen := (e.map (·.id)).toList ++ p.2.seen.filter fun i => (s.core (coreOf tid)).sb.any (·.id == i) || s.flights.any (·.id == i) })
        else (p.1, { p.2 with early := if e.isSome then p.2.early else p.2.early.map (·.seenBy (.thread tid) pa n) })) =
        s.threads.map fun p => (p.1, g p) := List.map_congr_left fun p _ => by
      dsimp only [g]
      split <;> rfl
    unfold State.noteRead
    simp only [hm]
    rfl
  rw [hs]
  cases e
  · exact hu.trans (owe_sameButEarly u tid pa n).notes
  · exact hu.trans (oweStore_sameButEarly u tid _).notes

theorem memRead_sameButNotes (s : State) (tid : Nat) (path : Path) (pa n : Nat) : SameButNotes s (s.memRead tid path pa n) :=
  noteRead_sameButNotes s tid none path pa n

end Sys2Proof.Machine
end

