-- ==== Sys2Proof/Tests/Slice0.lean ====
section
/-! SUPPORT. The model's own tests: the operand limits, the decoder on words written out from the spec's encodings, and small steps. -/

namespace Sys2Proof.Tests

open Sys2Proof Sys2Proof.Machine

/-- Every term is ill formed. -/
def ill (l : List Instr) : Bool := l.all fun i => !i.wellFormed

/-- Destination predicates are never k0, pairs are even, codes and counts lie in their ranges (R11, R58, R142, R170, R175, R176, R193, R196, R200,
R226); PAUSE and FENCE.TSO are no FENCE (R17). -/
theorem test_ill_operands : ill [
    .fence 0x010 0 0, .fence 0x833 0 0, .vcmpeq 0 1 2 0, .vcmpne 0 1 2 0, .vcmplt 0 1 2 0, .vcmple 0 1 2 0,
    .vcmpltu 0 1 2 0, .vcmpleu 0 1 2 0, .kand 0 1 2 0, .kor 0 1 2 0, .kxor 0 1 2 0, .kandn 0 1 2 0, .vwhile 0 1 2 0,
    .smxstep 3 1 0, .smxnorm 2 1 3 0, .vcvt 1 2 4 0, .vcvt 1 2 10 0, .vcompress 3 2 5 false, .vflight 0 1 2, .fmtp 10,
    .trap 1, .mcommitScratchpad 1 0] = true := by decide

/-- Semantics and scopes that an entry does not accept, and odd pairs (R25, R238, R295). -/
theorem test_ill_semantics : ill [
    .msend 1 0 1 2 3, .msend 0 1 1 2 3, .rwr 3 0 1 2, .cpy 0 2 1 2, .cpym 0 1 1 2 3, .gath 0 1 1 2, .scat 0 3 1 2,
    .bowait 2 0 1 2, .gadd 0 1 1 2 3, .gfadd 0 1 1 2 3, .gmin 0 1 1 2 3, .gmax 0 1 1 2 3, .gor 0 1 1 2 3,
    .gand 0 1 1 2 3, .gxor 0 1 1 2 3, .gcas 0 1 1 2 3, .gqpush 0 1 1 2 3, .gqpop 0 1 1 2, .bpush 0 1 1 2 4,
    .bpush 0 0 1 2 3, .bpop 0 1 2 3, .bpop 0 0 3 2, .bpop 0 0 0 2, .bround 1 0 1 2 3, .back 3 0 1 2 3,
    .bidxget 0 1 1 2 3, .bidxput 0 1 1 2 4, .bidxput 0 0 1 2 5, .qrun 1 0 1 2 3, .qslope 1 0 1 2 3, .qsample 1 0 1 2 3,
    .qinj 1 0 1 2 3, .cstart 1 0 1 2, .cwait 2 0 1 2] = true := by decide

/-- Every word decodes to its instruction. -/
def reads (l : List (Nat × Instr)) : Bool := l.all fun p => decodeTableWord 32 p.1 == some p.2

/-- The example words of R31 that are illegal, each with its reason. -/
def refuses (l : List (IWord × Reject)) : Bool := l.all fun p => match decode p.1 with
  | .error r => r == p.2
  | .ok _ => false

/-- The illegal words of R31. -/
theorem test_refused : refuses [(0x3400040B, .predicateField), (0x6800000B, .unassigned), (0x0800205B, .semantics),
    (0x0000407B, .unassigned), (0x00000053, .majorOpcode), (0x30200073, .baseField), (0x00000001, .length)] = true := by decide

/-- The legal words of R31, R8 and R58, the switch marker among them. -/
theorem test_examples : reads [(0x0020A18B, .vadd 3 1 2 2), (0x8020A18B, .vadd 3 1 2 2), (0x487322DB, .gadd 2 1 5 6 7),
    (0x00000073, .ecall), (0x0C01107B, .fmtp 2), (0x0C02107B, .fmtp 4)] = true := by decide

/-- LUI to BGE, by their encodings (R14, R9). -/
theorem test_decode_00 : reads [
    (0xC3A5F537, .lui 10 0xC3A5F),
    (0xC3A5F517, .auipc 10 0xC3A5F),
    (0xA4F6956F, .jal 10 0xB4D27),
    (0xA5B38567, .jalr 10 7 0xA5B),
    (0xB5438663, .beq 7 20 0x9A6),
    (0xB5439663, .bne 7 20 0x9A6),
    (0xB543C663, .blt 7 20 0x9A6),
    (0xB543D663, .bge 7 20 0x9A6)] = true := by decide

/-- BLTU to LHU, by their encodings (R9, R15). -/
theorem test_decode_01 : reads [
    (0xB543E663, .bltu 7 20 0x9A6),
    (0xB543F663, .bgeu 7 20 0x9A6),
    (0xA5B38503, .lb 10 7 0xA5B),
    (0xA5B39503, .lh 10 7 0xA5B),
    (0xA5B3A503, .lw 10 7 0xA5B),
    (0xA5B3B503, .ld 10 7 0xA5B),
    (0xA5B3C503, .lbu 10 7 0xA5B),
    (0xA5B3D503, .lhu 10 7 0xA5B)] = true := by decide

/-- LWU to SLTIU, by their encodings (R15, R14). -/
theorem test_decode_02 : reads [
    (0xA5B3E503, .lwu 10 7 0xA5B),
    (0xA5438DA3, .sb 7 20 0xA5B),
    (0xA5439DA3, .sh 7 20 0xA5B),
    (0xA543ADA3, .sw 7 20 0xA5B),
    (0xA543BDA3, .sd 7 20 0xA5B),
    (0xA5B38513, .addi 10 7 0xA5B),
    (0xA5B3A513, .slti 10 7 0xA5B),
    (0xA5B3B513, .sltiu 10 7 0xA5B)] = true := by decide

/-- XORI to SUB, by their encodings (R14). -/
theorem test_decode_03 : reads [
    (0xA5B3C513, .xori 10 7 0xA5B),
    (0xA5B3E513, .ori 10 7 0xA5B),
    (0xA5B3F513, .andi 10 7 0xA5B),
    (0x02B39513, .slli 10 7 43),
    (0x02B3D513, .srli 10 7 43),
    (0x42B3D513, .srai 10 7 43),
    (0x01438533, .add 10 7 20),
    (0x41438533, .sub 10 7 20)] = true := by decide

/-- SLL to AND, by their encodings (R14). -/
theorem test_decode_04 : reads [
    (0x01439533, .sll 10 7 20),
    (0x0143A533, .slt 10 7 20),
    (0x0143B533, .sltu 10 7 20),
    (0x0143C533, .xor 10 7 20),
    (0x0143D533, .srl 10 7 20),
    (0x4143D533, .sra 10 7 20),
    (0x0143E533, .or 10 7 20),
    (0x0143F533, .and 10 7 20)] = true := by decide

/-- ADDIW to SRLW, by their encodings (R14). -/
theorem test_decode_05 : reads [
    (0xA5B3851B, .addiw 10 7 0xA5B),
    (0x0153951B, .slliw 10 7 21),
    (0x0153D51B, .srliw 10 7 21),
    (0x4153D51B, .sraiw 10 7 21),
    (0x0143853B, .addw 10 7 20),
    (0x4143853B, .subw 10 7 20),
    (0x0143953B, .sllw 10 7 20),
    (0x0143D53B, .srlw 10 7 20)] = true := by decide

/-- SRAW to WFI, by their encodings (R14, R17, R18, R19). -/
theorem test_decode_06 : reads [
    (0x4143D53B, .sraw 10 7 20),
    (0xA5B3850F, .fence 0xA5B 7 10),
    (0x8330000F, .fenceTso),
    (0x0100000F, .pause),
    (0xA5B3950F, .fenceI 0xA5B 7 10),
    (0x00000073, .ecall),
    (0x00100073, .ebreak),
    (0x10500073, .wfi)] = true := by decide

/-- MUL to REMU, by their encodings (R22). -/
theorem test_decode_07 : reads [
    (0x03438533, .mul 10 7 20),
    (0x03439533, .mulh 10 7 20),
    (0x0343A533, .mulhsu 10 7 20),
    (0x0343B533, .mulhu 10 7 20),
    (0x0343C533, .div 10 7 20),
    (0x0343D533, .divu 10 7 20),
    (0x0343E533, .rem 10 7 20),
    (0x0343F533, .remu 10 7 20)] = true := by decide

/-- MULW to SC.W, by their encodings (R22, R16). -/
theorem test_decode_08 : reads [
    (0x0343853B, .mulw 10 7 20),
    (0x0343C53B, .divw 10 7 20),
    (0x0343D53B, .divuw 10 7 20),
    (0x0343E53B, .remw 10 7 20),
    (0x0343F53B, .remuw 10 7 20),
    (0x1403A52F, .lrW true false 10 7),
    (0x1403B52F, .lrD true false 10 7),
    (0x1D43A52F, .scW true false 10 7 20)] = true := by decide

/-- SC.D to AMOAND.W, by their encodings (R16). -/
theorem test_decode_09 : reads [
    (0x1D43B52F, .scD true false 10 7 20),
    (0x0D43A52F, .amoswapW true false 10 7 20),
    (0x0D43B52F, .amoswapD true false 10 7 20),
    (0x0543A52F, .amoaddW true false 10 7 20),
    (0x0543B52F, .amoaddD true false 10 7 20),
    (0x2543A52F, .amoxorW true false 10 7 20),
    (0x2543B52F, .amoxorD true false 10 7 20),
    (0x6543A52F, .amoandW true false 10 7 20)] = true := by decide

/-- AMOAND.D to AMOMINU.W, by their encodings (R16). -/
theorem test_decode_10 : reads [
    (0x6543B52F, .amoandD true false 10 7 20),
    (0x4543A52F, .amoorW true false 10 7 20),
    (0x4543B52F, .amoorD true false 10 7 20),
    (0x8543A52F, .amominW true false 10 7 20),
    (0x8543B52F, .amominD true false 10 7 20),
    (0xA543A52F, .amomaxW true false 10 7 20),
    (0xA543B52F, .amomaxD true false 10 7 20),
    (0xC543A52F, .amominuW true false 10 7 20)] = true := by decide

/-- AMOMINU.D to CSRRSI, by their encodings (R16, R21). -/
theorem test_decode_11 : reads [
    (0xC543B52F, .amominuD true false 10 7 20),
    (0xE543A52F, .amomaxuW true false 10 7 20),
    (0xE543B52F, .amomaxuD true false 10 7 20),
    (0x5C739573, .csrrw 10 7 0x5C7),
    (0x5C73A573, .csrrs 10 7 0x5C7),
    (0x5C73B573, .csrrc 10 7 0x5C7),
    (0x5C73D573, .csrrwi 10 7 0x5C7),
    (0x5C73E573, .csrrsi 10 7 0x5C7)] = true := by decide

/-- CSRRCI to SH3ADD.UW, by their encodings (R21, R14). -/
theorem test_decode_12 : reads [
    (0x5C73F573, .csrrci 10 7 0x5C7),
    (0x2143A533, .sh1add 10 7 20),
    (0x2143C533, .sh2add 10 7 20),
    (0x2143E533, .sh3add 10 7 20),
    (0x0943853B, .addUw 10 7 20),
    (0x2143A53B, .sh1addUw 10 7 20),
    (0x2143C53B, .sh2addUw 10 7 20),
    (0x2143E53B, .sh3addUw 10 7 20)] = true := by decide

/-- SLLI.UW to VABS, by their encodings (R14, R171, R173, R172). -/
theorem test_decode_13 : reads [
    (0x0AB3951B, .slliUw 10 7 43),
    (0x0143A50B, .vadd 10 7 20 2),
    (0x0343A50B, .vsub 10 7 20 2),
    (0x0543A50B, .vmul 10 7 20 2),
    (0x0743A50B, .vfma 10 7 20 2),
    (0x0943A50B, .vmin 10 7 20 2),
    (0x0B43A50B, .vmax 10 7 20 2),
    (0x0C03A50B, .vabs 10 7 2)] = true := by decide

/-- VNEG to VXOR, by their encodings (R172, R173, R171). -/
theorem test_decode_14 : reads [
    (0x0E03A50B, .vneg 10 7 2),
    (0x1143A50B, .vadds 10 7 20 2),
    (0x1343A50B, .vsubs 10 7 20 2),
    (0x1543A50B, .vmulh 10 7 20 2),
    (0x1743A50B, .vmulw 10 7 20 2),
    (0x1943A50B, .vand 10 7 20 2),
    (0x1B43A50B, .vor 10 7 20 2),
    (0x1D43A50B, .vxor 10 7 20 2)] = true := by decide

/-- VSHL to VDIV, by their encodings (R173, R171, R172). -/
theorem test_decode_15 : reads [
    (0x1F43A50B, .vshl 10 7 20 2),
    (0x2143A50B, .vshr 10 7 20 2),
    (0x2343A50B, .vsra 10 7 20 2),
    (0x2533A50B, .vaddi 10 7 19 2),
    (0x2733A50B, .vshli 10 7 19 2),
    (0x2933A50B, .vshri 10 7 19 2),
    (0x2B33A50B, .vsrai 10 7 19 2),
    (0x2D43A50B, .vdiv 10 7 20 2)] = true := by decide

/-- VSQRT to VCMPLTU, by their encodings (R172, R174, R171, R178). -/
theorem test_decode_16 : reads [
    (0x2E03A50B, .vsqrt 10 7 2),
    (0x3003A50B, .vexp 10 7 2),
    (0x3343A50B, .vsel 10 7 20 2),
    (0x3543A28B, .vcmpeq 5 7 20 2),
    (0x3743A28B, .vcmpne 5 7 20 2),
    (0x3943A28B, .vcmplt 5 7 20 2),
    (0x3B43A28B, .vcmple 5 7 20 2),
    (0x3D43A28B, .vcmpltu 5 7 20 2)] = true := by decide

/-- VCMPLEU to KFIRST, by their encodings (R178, R179, R180). -/
theorem test_decode_17 : reads [
    (0x3F43A28B, .vcmpleu 5 7 20 2),
    (0x4061A28B, .kand 5 3 6 2),
    (0x4261A28B, .kor 5 3 6 2),
    (0x4461A28B, .kxor 5 3 6 2),
    (0x4661A28B, .kandn 5 3 6 2),
    (0x4943A28B, .vwhile 5 7 20 2),
    (0x4A01A50B, .kcount 10 3 2),
    (0x4C01A50B, .kfirst 10 3 2)] = true := by decide

/-- VREDADD to VMOV, by their encodings (R182, R181, R171). -/
theorem test_decode_18 : reads [
    (0x4E03A50B, .vredadd 10 7 2),
    (0x5003A50B, .vredmin 10 7 2),
    (0x5203A50B, .vredmax 10 7 2),
    (0x5403A50B, .vbcast 10 7 2),
    (0x5743850B, .vmvx 10 7 20),
    (0x5943A50B, .vperm 10 7 20 2),
    (0x5A00250B, .viota 10 2),
    (0x5C03A50B, .vmov 10 7 2)] = true := by decide

/-- SMXSTEP to VST, by their encodings (R176, R177, R171, R185, R186, R189). -/
theorem test_decode_19 : reads [
    (0x5E03A50B, .smxstep 10 7 2),
    (0x6143A50B, .smxnorm 10 7 20 2),
    (0x6203A50B, .vpopc 10 7 2),
    (0x6403A50B, .vclz 10 7 2),
    (0x6633A50B, .gaddr 10 7 3 2),
    (0x0133A52B, .vld 10 7 19 2),
    (0x0343A52B, .vldc 10 7 20 2),
    (0x0533A52B, .vst 10 7 19 2)] = true := by decide

/-- VSTC to VCVT, by their encodings (R189, R187, R190, R192, R193). -/
theorem test_decode_20 : reads [
    (0x0743A52B, .vstc 10 7 20 2),
    (0x0943A52B, .vlds 10 7 20 2),
    (0x0B43A52B, .vsts 10 7 20 2),
    (0x0D43A52B, .vldx 10 7 20 2),
    (0x0F43A52B, .vstx 10 7 20 2),
    (0x1023A52B, .vldg 10 7 2 2),
    (0x1223A52B, .vstg 10 7 2 2),
    (0x1473A52B, .vcvt 10 7 7 2)] = true := by decide

/-- VPVENC to VLDB, by their encodings (R194, R195, R196, R198, R200, R199, R191, R186). -/
theorem test_decode_21 : reads [
    (0x1743852B, .vpvenc 10 7 20),
    (0x1943852B, .vpvdec 10 7 20),
    (0x1AD3852B, .vcompress 10 7 6 true),
    (0x1C03A52B, .vdesc 10 7 2),
    (0x1F4385AB, .vflight 11 7 20),
    (0x2000052B, .vwidth 10),
    (0x2200002B, .lwait),
    (0x2423A52B, .vldb 10 7 2 2)] = true := by decide

/-- MSEND to BOWAIT, by their encodings (R247, R251, R255, R256, R263, R264, R258, R259). -/
theorem test_decode_22 : reads [
    (0x5143855B, .msend 2 2 10 7 20),
    (0x5343805B, .rwr 2 2 7 20),
    (0x7403855B, .cpy 3 2 10 7),
    (0x7743855B, .cpym 3 2 10 7 20),
    (0x7003955B, .gath 3 2 10 7),
    (0x7203955B, .scat 3 2 10 7),
    (0x0543905B, .boinit 7 20),
    (0x3603955B, .bowait 1 2 10 7)] = true := by decide

/-- GADD to GCAS, by their encodings (R280). -/
theorem test_decode_23 : reads [
    (0x7143A55B, .gadd 3 2 10 7 20),
    (0x7343A55B, .gfadd 3 2 10 7 20),
    (0x7543A55B, .gmin 3 2 10 7 20),
    (0x7743A55B, .gmax 3 2 10 7 20),
    (0x7143B55B, .gor 3 2 10 7 20),
    (0x7343B55B, .gand 3 2 10 7 20),
    (0x7543B55B, .gxor 3 2 10 7 20),
    (0x7743B55B, .gcas 3 2 10 7 20)] = true := by decide

/-- GQPUSH to BIDXPUT, by their encodings (R287, R302, R304, R303, R305, R309). -/
theorem test_decode_24 : reads [
    (0x7143C55B, .gqpush 3 2 10 7 20),
    (0x7203C55B, .gqpop 3 2 10 7),
    (0x7543C55B, .bpush 3 2 10 7 20),
    (0x7603C55B, .bpop 3 2 10 7),
    (0x5143D55B, .bround 2 2 10 7 20),
    (0x5343D55B, .back 2 2 10 7 20),
    (0x7543D55B, .bidxget 3 2 10 7 20),
    (0x7743D55B, .bidxput 3 2 10 7 20)] = true := by decide

/-- QRUN to PFLUSH, by their encodings (R329, R335, R340, R345, R365, R368, R369, R358). -/
theorem test_decode_25 : reads [
    (0x5143E55B, .qrun 2 2 10 7 20),
    (0x5343E55B, .qslope 2 2 10 7 20),
    (0x5543E55B, .qsample 2 2 10 7 20),
    (0x5743E55B, .qinj 2 2 10 7 20),
    (0x5003F55B, .cstart 2 2 10 7),
    (0x3203F55B, .cwait 1 2 10 7),
    (0x0403F55B, .ccancel 10 7),
    (0x0600755B, .pflush 10)] = true := by decide

/-- CARD.POST to CARD.SELF, by their encodings (R109, R107, R112, R108, R106, R119, R120, R121). -/
theorem test_decode_26 : reads [
    (0x0143857B, .cardPost 10 7 20),
    (0x0203807B, .cardSusp 7),
    (0x0543857B, .cardBind 10 7 20),
    (0x0600007B, .cardExit),
    (0x0800007B, .cardYield),
    (0x0A03857B, .cardPrio 10 7),
    (0x0C03857B, .cardSteal 10 7),
    (0x0E03857B, .cardSelf 10 7)] = true := by decide

/-- HDONE to SCFENCE, by their encodings (R123, R122, R117, R124, R125, R128). -/
theorem test_decode_27 : reads [
    (0x1000007B, .hdone),
    (0x1203807B, .dualsig 7),
    (0x140E857B, .ptake 10 5),
    (0x0000107B, .barCore),
    (0x0200107B, .barRow),
    (0x0400107B, .barDie),
    (0x0600107B, .barPod),
    (0x0940107B, .scfence 20)] = true := by decide

/-- LBFENCE to PLOG, by their encodings (R129, R58, R35, R142, R147, R161, R163). -/
theorem test_decode_28 : reads [
    (0x0A00107B, .lbfence),
    (0x0C03907B, .fmtp 7),
    (0x8E00107B, .switch),
    (0x0000207B, .tret),
    (0x02AAA07B, .trap 0x155),
    (0x0403A07B, .ckpt 7),
    (0x0743A57B, .seal 10 7 20),
    (0x0943A57B, .plog 10 7 20)] = true := by decide

/-- TLB.REPLAY to MMA.SP, by their encodings (R158, R159, R215, R218, R217, R224, R220, R221). -/
theorem test_decode_29 : reads [
    (0x0A03A07B, .tlbReplay 7),
    (0x0D43A07B, .tlbInv 7 20),
    (0x0143B57B, .mringCfg 10 7 20),
    (0x0203B57B, .mringFree 10 7),
    (0x0543B57B, .mringDrop 10 7 20),
    (0x0603B57B, .mgang 10 7),
    (0x0803B57B, .mma 10 7),
    (0x0B43B57B, .mmaSp 10 7 20)] = true := by decide

/-- MGROUP to BQCFG, by their encodings (R222, R227, R228, R229, R219, R216, R301). -/
theorem test_decode_30 : reads [
    (0x0D43B57B, .mgroup 10 7 20),
    (0x0E03B57B, .mread 10 7),
    (0x1003B57B, .mcommitVector 10 7),
    (0x1143B07B, .mcommitScratchpad 7 20),
    (0x1203B07B, .mwait 7),
    (0x1403B07B, .mzero 7),
    (0x1603B57B, .mringPush 10 7),
    (0x0143D57B, .bqcfg 10 7 20)] = true := by decide

/-- BQUIET to CSTAT, by their encodings (R307, R260, R326, R327, R346, R347, R328, R370). -/
theorem test_decode_31 : reads [
    (0x0343D57B, .bquiet 10 7 20),
    (0x0403D57B, .wptr 10 7),
    (0x0743D57B, .qcfg 10 7 20),
    (0x0943D57B, .qvset 10 7 20),
    (0x0B43D57B, .qstat 10 7 20),
    (0x0D43D57B, .qstop 10 7 20),
    (0x0F43D57B, .qconv 10 7 20),
    (0x1143D57B, .cstat 10 7 20)] = true := by decide


end Sys2Proof.Tests
end

