-- ==== Sys2Proof/Tests/Witness1.lean ====
section
/-! SUPPORT. For each statement with hypotheses, concrete states and operands that meet all of them together: each theorem applies the statement
to them, every hypothesis decided by evaluation.  The base subset, memory and the services. -/

namespace Sys2Proof.Tests

set_option Elab.async false

open Sys2Proof Sys2Proof.Machine

/-- A hypothesis that evaluation decides. -/
theorem holds {p : Prop} (h : p := by decide +kernel) : p := h

/-- `Clear` by evaluation. -/
theorem clearOf {s : State} {regs : List (BitVec 5)} (h : (!s.th.pfx && regs.all fun r => !s.pending s.cur r) = true) : s.Clear regs := by
  simp only [Bool.and_eq_true, Bool.not_eq_true', List.all_eq_true] at h
  exact ⟨h.1, fun r hr => by simpa using h.2 r hr⟩

/-- `CanTrap` by evaluation. -/
theorem canTrapOf {s : State} (h : (!(s.th.bank0.act && s.th.bank1.act) && !s.th.inHandler) = true) : s.CanTrap := by
  simp only [Bool.and_eq_true, Bool.not_eq_true'] at h
  exact h

/-- Two thread sets of a core, the second of the higher class. -/
def rivals (s : State) : State :=
  { s.setThread 1 { card := some { placeCard with hdr := setBits placeCard.hdr 0 2 3 } } with agenda := [.issue 0] }

/-- With every column powered each byte is kept where it lies. -/
theorem keepAll {s : State} (h : s.gcolNow = []) (b : Nat) : s.keep b = b := by
  have hc : ∀ d, s.columns d = 0xFFFF := fun d => by simp [State.columns, h, aget]
  have hb : ∀ n, n < 16 → (BitVec.getLsbD (65535 : BitVec 16) n) = true := by decide
  unfold State.keep
  split
  · have := hb (galleryOff b / 64 % 16) (Nat.mod_lt _ (by decide))
    simp only [hc, this, if_true]
  · rfl

/-- What comes next, of a result that says more. -/
theorem toNext {r : Res} {p : State → Prop} (h : ∃ t, r = .next t ∧ p t) : ∃ t, r = .next t := h.imp fun _ k => k.1
/-- What comes next, of a result that names one value more. -/
theorem toNext2 {α : Sort _} {r : Res} {p : State → α → Prop} (h : ∃ t k, r = .next t ∧ p t k) : ∃ t, r = .next t :=
  h.imp fun _ k => k.elim fun _ k => k.1
/-- What comes next, of a result that names the next state. -/
theorem eqNext {r : Res} {t : State} (h : r = .next t) : ∃ t, r = .next t := ⟨t, h⟩
/-- The next state of a result. -/
def nx (r : Res) : State := match r with
  | .next t => t
  | _ => State.reset

/-- A card without tag and group. -/
def card0 : Card := newCard 0 [] 0xFFFFFFFF0000 0 0 0
/-- A thread set with x5 at an address of the core's own scratchpad, x6 = 7, and a card. -/
def th0 : Thread := { pc := 0x100, card := some card0, x := [(5, 0xFFFFFFFFFFF00040), (6, 7)] }
/-- A package in which thread set 0 issues. -/
def s0 : State := { ready := true, threads := [(0, th0)] }
/-- `s0` with its thread set changed. -/
def s0With (f : Thread → Thread) : State := { s0 with threads := [(0, f th0)] }
/-- A trap bank in use. -/
def busy : TrapBank := { act := true, tepc := 0x200, tcause := 9, tval := 1 }
/-- As `s0` in steward mode, in the first bank's handler. -/
def s0Steward : State := s0With fun t => { t with steward := true, bank0 := busy }
/-- A word placed at the pc, its thread set about to issue. -/
def placed (w : Nat) : State := { State.reset.withFetchWord 32 w with agenda := [.issue 0] }

theorem wit_EncodeThenDecode (h : Obligations.EncodeThenDecode) : ∃ d, decode (encode true (.vadd 31 31 0 7)) = .ok d :=
  (h (.vadd 31 31 0 7) true rfl rfl).imp fun _ k => k.1

theorem wit_DecodeThenEncode (h : Obligations.DecodeThenEncode) : encode true (.vadd 3 1 2 2) = 0x8020A18B :=
  (h 0x8020A18B ⟨.vadd 3 1 2 2, true⟩ rfl).2.2

theorem wit_K0IsNeverADestination_1 (h : Obligations.K0IsNeverADestination) : ∃ r, decode (encode false (.kand 0 1 2 0)) = .error r :=
  h.1 (.kand 0 1 2 0) false rfl

theorem wit_K0IsNeverADestination_2 (h : Obligations.K0IsNeverADestination) : ∃ t, s0.runWord (encode false (.vwhile 0 5 6 2)) = .next t :=
  toNext (h.2.1 s0 (.vwhile 0 5 6 2) false rfl (canTrapOf holds))

theorem wit_K0IsNeverADestination_3 (h : Obligations.K0IsNeverADestination) : predDest (.vadd 3 1 2 2) ≠ some 0 :=
  h.2.2.1 0x0020A18B ⟨.vadd 3 1 2 2, false⟩ rfl

theorem wit_StepRunsTheDecodedInstruction_1 (h : Obligations.StepRunsTheDecodedInstruction) : ∃ t, step (placed 0x00500093) = .next t :=
  eqNext ((h.1 (placed 0x00500093) ((({ placed 0x00500093 with agenda := [], cur := 0 } : State).fetch 0).1) _ 0 [] 0x00500093 ⟨.addi 1 0 5, false⟩
    rfl holds holds rfl rfl rfl).1 holds rfl)

/-- As `placed`, its thread set in a waiting instruction. -/
def placedWaiting (w : Nat) : State := (placed w).modThread 0 fun t => { t with waits := true }

theorem wit_StepRunsTheDecodedInstruction_2 (h : Obligations.StepRunsTheDecodedInstruction) : ∃ t, step (placed 0x00000073) = .next t :=
  eqNext ((h.1 (placed 0x00000073) ((({ placed 0x00000073 with agenda := [], cur := 0 } : State).fetch 0).1) _ 0 [] 0x00000073 ⟨.ecall, false⟩ rfl
    holds holds rfl rfl rfl).2.2 holds)

theorem wit_StepRunsTheDecodedInstruction_5 (h : Obligations.StepRunsTheDecodedInstruction) : ∃ t, step (placedWaiting 0x00500093) = .next t :=
  eqNext ((h.1 (placedWaiting 0x00500093) ((({ placedWaiting 0x00500093 with agenda := [], cur := 0 } : State).fetch 0).1) _ 0 [] 0x00500093
    ⟨.addi 1 0 5, false⟩ rfl holds holds rfl rfl rfl).2.1 holds holds holds)

theorem wit_StepRunsTheDecodedInstruction_3 (h : Obligations.StepRunsTheDecodedInstruction) : ∃ t, step (State.reset.withFetchWord 32 0x00500093) =
  .next t :=
  ⟨_, h.2.2 (State.reset.withFetchWord 32 0x00500093) (nx (step (placed 0x00500093))) rfl rfl holds⟩

theorem wit_StepRunsTheDecodedInstruction_4 (h : Obligations.StepRunsTheDecodedInstruction) : step (rivals (placed 0x00500093)) = .next
  { rivals (placed 0x00500093) with agenda := [], cur := 0 } :=
  h.2.1 (rivals (placed 0x00500093)) 0 1 [] rfl holds holds holds holds holds

theorem wit_MemoryStaysCanonical (h : Obligations.MemoryStaysCanonical) : Memory.wf (nx (step (placed 0x00500093))).mem = true :=
  h (placed 0x00500093) (nx (step (placed 0x00500093))) holds rfl

theorem wit_FetchReadsTheBytes_1 (h : Obligations.FetchReadsTheBytes) : ∃ w, ((placed 0x00500093).fetch 0).2 = .word w :=
  ((h.1 (placed 0x00500093) (placed 0x00500093) 0 0 0 holds holds rfl rfl holds).2.2 holds holds).elim
    fun _ k => ⟨_, congrArg Prod.snd k.1⟩

theorem wit_FetchReadsTheBytes_4 (h : Obligations.FetchReadsTheBytes) : ∃ w, ((placed 0x00500093).modCore 0 fun c =>
    { c with ibuf := [(0, 0x13)] }).fetch 0 = ((placed 0x00500093).modCore 0 fun c => { c with ibuf := [(0, 0x13)] }, .word w) :=
  ⟨_, (h.1 ((placed 0x00500093).modCore 0 fun c => { c with ibuf := [(0, 0x13)] }) _ 0 0 0 holds holds rfl rfl holds).2.1 0x13 holds⟩

theorem wit_FetchReadsTheBytes_2 (h : Obligations.FetchReadsTheBytes) : (s0With fun t => { t with pc := 0xFFFFFFFFFFF00000 }).fetch 0 = (s0With fun t
  => { t with pc := 0xFFFFFFFFFFF00000 }, .fault 2) :=
  h.2 _ 0 (Or.inl holds)

theorem wit_FetchReadsTheBytes_3 (h : Obligations.FetchReadsTheBytes) : (s0With fun t => { t with pc := 0x0040000000000000 }).fetch 0 = (s0With fun t
  => { t with pc := 0x0040000000000000 }, .fault 2) :=
  h.2 _ 0 (Or.inr holds)

theorem wit_IllegalWordsAndFetchFaults_1 (h : Obligations.IllegalWordsAndFetchFaults) : ∃ t, exec (.illegalInstruction 0) s0 = .next t :=
  toNext (h.1 s0 0 (canTrapOf holds)).1

theorem wit_IllegalWordsAndFetchFaults_2 (h : Obligations.IllegalWordsAndFetchFaults) : ∃ t, s0.runWord 0x00000053 = .next t :=
  toNext ((h.1 s0 0x00000053 (canTrapOf holds)).2 .majorOpcode rfl)

theorem wit_IllegalWordsAndFetchFaults_3 (h : Obligations.IllegalWordsAndFetchFaults) : ∃ t, exec .fetchFault (s0With fun t =>
  { t with pc := 0xFFFFFFFFFFF00000 }) = .next t :=
  toNext (h.2.1 (s0With fun t => { t with pc := 0xFFFFFFFFFFF00000 }) _ 2 rfl (canTrapOf holds) rfl)

theorem wit_IllegalWordsAndFetchFaults_4 (h : Obligations.IllegalWordsAndFetchFaults) : ∃ t, exec .fetchFault
  { s0 with roots := [(0, 0x8000000000040000)] } = .next t :=
  toNext (h.2.2 { s0 with roots := [(0, 0x8000000000040000)] } _ rfl rfl)

/-- A fetch of a page that is not resident, with entries in the fault buffer of its die. -/
def s0Faults (faults : AMap FaultEntry) : State :=
  ({ s0 with roots := [(0, 0x8000000000040000)] } : State).modDie 0 fun d => { d with faults := faults }
/-- A fault-buffer entry. -/
def fault0 (va : Word) : FaultEntry := { va := va, asid := 0, kind := 1, eng := false, count := 1, first := 0, time := 0 }

theorem wit_IllegalWordsAndFetchFaults_5 (h : Obligations.IllegalWordsAndFetchFaults) : ∃ t, exec .fetchFault (s0Faults [(2, fault0 0)]) = .next t ∧
    (t.die 0).drop = false :=
  (h.2.2 (s0Faults [(2, fault0 0)]) _ rfl rfl).elim fun t k => ⟨t, k.1, (k.2.2.2.2.2.1.1 2 (fault0 0) rfl).1⟩

theorem wit_IllegalWordsAndFetchFaults_6 (h : Obligations.IllegalWordsAndFetchFaults) : ∃ t, exec .fetchFault (s0Faults [(0, fault0 0x10000)]) =
    .next t ∧ (t.die 0).drop = false :=
  (h.2.2 (s0Faults [(0, fault0 0x10000)]) _ rfl rfl).elim fun t k => ⟨t, k.1, (k.2.2.2.2.2.1.2.1 1 rfl holds rfl holds).1⟩

theorem wit_IllegalWordsAndFetchFaults_7 (h : Obligations.IllegalWordsAndFetchFaults) : ∃ t, exec .fetchFault
    (s0Faults ((List.range 8).map fun i => (i, fault0 0x10000))) = .next t ∧ (t.die 0).drop = true :=
  (h.2.2 (s0Faults ((List.range 8).map fun i => (i, fault0 0x10000))) _ rfl rfl).elim fun t k => ⟨t, k.1, (k.2.2.2.2.2.1.2.2 rfl holds).1⟩

theorem wit_RegisterArithmetic (h : Obligations.RegisterArithmetic) : ∃ t, exec (.add 31 5 6) s0 = .next t :=
  toNext (h (.add, fun a b => s64 (a.toInt + b.toInt)) (by simp [regRowsI]) 31 5 6 s0 (clearOf holds))

theorem wit_MultiplyDivide_1 (h : Obligations.MultiplyDivide) : ∃ t, exec (.mul 0 5 6) s0 = .next t :=
  toNext (h.1 (.mul, fun a b => s64 (a.toInt * b.toInt)) (by simp [regRowsM]) 0 5 6 s0 (clearOf holds))

theorem wit_MultiplyDivide_2 (h : Obligations.MultiplyDivide) : ∃ t, exec (.div 1 5 0) s0 = .next t :=
  toNext (((h.2 1 5 0 s0 (clearOf holds) holds).1 rfl).1 _ (by simp))

theorem wit_MultiplyDivide_3 (h : Obligations.MultiplyDivide) : ∃ t, exec (.div 1 5 6) (s0With fun t =>
  { t with x := [(5, 0x8000000000000000), (6, 0xFFFFFFFFFFFFFFFF)] }) = .next t :=
  toNext ((h.2 1 5 6 (s0With fun t => { t with x := [(5, 0x8000000000000000), (6, 0xFFFFFFFFFFFFFFFF)] }) (clearOf holds)
    holds).2.1 holds holds).1

theorem wit_MultiplyDivide_4 (h : Obligations.MultiplyDivide) : ∃ t, exec (.divw 1 5 6) (s0With fun t =>
  { t with x := [(5, 0x80000000), (6, 0xFFFFFFFF)] }) = .next t :=
  toNext ((h.2 1 5 6 (s0With fun t => { t with x := [(5, 0x80000000), (6, 0xFFFFFFFF)] }) (clearOf holds) holds).2.2
    holds holds).1

theorem wit_ImmediateArithmetic_1 (h : Obligations.ImmediateArithmetic) : ∃ t, exec (.addi 1 5 0x800) s0 = .next t :=
  toNext (h.1 (.addi, fun a z => s64 (a.toInt + z)) (by simp [immRows]) 1 5 0x800 s0 (clearOf holds))

theorem wit_ImmediateArithmetic_2 (h : Obligations.ImmediateArithmetic) : ∃ t, exec (.slli 1 5 63) s0 = .next t :=
  toNext (h.2.1 (.slli, fun a n => word (a.toNat * 2 ^ n)) (by simp [shift6Rows]) 1 5 63 s0 (clearOf holds))

theorem wit_ImmediateArithmetic_3 (h : Obligations.ImmediateArithmetic) : ∃ t, exec (.slliw 1 5 31) s0 = .next t :=
  toNext (h.2.2.1 (.slliw, fun a n => s32 (u32 a * 2 ^ n)) (by simp [shift5Rows]) 1 5 31 s0 (clearOf holds))

theorem wit_ImmediateArithmetic_4 (h : Obligations.ImmediateArithmetic) : ∃ t, exec (.lui 0 0x80000) s0 = .next t :=
  toNext (h.2.2.2 0 0x80000 s0 (clearOf holds)).1

theorem wit_BranchesAndJumps_1 (h : Obligations.BranchesAndJumps) : ∃ t, exec (.beq 5 6 0xFFE) s0 = .next t :=
  toNext ((h.1 (.beq, fun a b => a = b) (by simp [branchRows]) 5 6 0xFFE s0 (clearOf holds)).1 holds)

theorem wit_BranchesAndJumps_2 (h : Obligations.BranchesAndJumps) : ∃ t, exec (.beq 6 6 0xFFE) s0 = .next t :=
  toNext ((h.1 (.beq, fun a b => a = b) (by simp [branchRows]) 6 6 0xFFE s0 (clearOf holds)).2 rfl ⟨holds,
    holds, holds⟩)

theorem wit_BranchesAndJumps_3 (h : Obligations.BranchesAndJumps) : ∃ t, exec (.jal 1 0x7FFFE) s0 = .next t :=
  toNext (h.2.1 1 0x7FFFE s0 (clearOf holds) ⟨holds, holds, holds⟩)

theorem wit_BranchesAndJumps_4 (h : Obligations.BranchesAndJumps) : ∃ t, exec (.jalr 1 0 0x7FD) s0 = .next t :=
  toNext (h.2.2.1 1 0 0x7FD s0 (clearOf holds) ⟨holds, holds, holds⟩)

theorem wit_BranchesAndJumps_5 (h : Obligations.BranchesAndJumps) : ∃ t, exec (.beq 6 6 1) s0 = .next t :=
  toNext (h.2.2.2.1 (.beq, fun a b => a = b) (by simp [branchRows]) 6 6 1 s0 (clearOf holds) (canTrapOf holds) rfl (fun k =>
    absurd k.1 holds))

theorem wit_BranchesAndJumps_6 (h : Obligations.BranchesAndJumps) : ∃ t, exec (.jal 1 1) s0 = .next t :=
  toNext (h.2.2.2.2.1 1 1 s0 (clearOf holds) (canTrapOf holds) (fun k => absurd k.1 holds))

theorem wit_BranchesAndJumps_7 (h : Obligations.BranchesAndJumps) : ∃ t, exec (.jalr 1 5 0) (s0With fun t => { t with x := [(5, 0x0040000000000000)] }) =
  .next t :=
  toNext (h.2.2.2.2.2 1 5 0 (s0With fun t => { t with x := [(5, 0x0040000000000000)] }) (clearOf holds) (canTrapOf holds) (fun k
    => absurd k.2.2 holds))

theorem wit_CallsTrap (h : Obligations.CallsTrap) : ∃ t, exec .ecall s0 = .next t :=
  toNext (h s0 (clearOf holds) (canTrapOf holds)).1

theorem wit_ThirdTrapResetsTheCore (h : Obligations.ThirdTrapResetsTheCore) : ∃ t, exec .ecall (s0With fun t =>
  { t with bank0 := busy, bank1 := busy }) = .next t :=
  toNext (h (s0With fun t => { t with bank0 := busy, bank1 := busy }) (clearOf holds) rfl rfl (fun _ k => absurd k (by simp [s0With,
    s0])) (fun _ k => absurd k (by simp [s0With, s0])) holds rfl)

theorem wit_TrapReturn_1 (h : Obligations.TrapReturn) : ∃ t, exec .tret s0Steward = .next t :=
  toNext ((h s0Steward (clearOf holds) rfl).1 (false, busy) rfl rfl rfl)

theorem wit_TrapReturn_2 (h : Obligations.TrapReturn) : (s0With fun t => { t with steward := true, bank1 := busy }).th.inner = some (true, busy) :=
  (h (s0With fun t => { t with steward := true, bank1 := busy }) (clearOf holds) rfl).2.1 rfl

theorem wit_TrapReturn_3 (h : Obligations.TrapReturn) : s0Steward.th.inner = some (false, busy) :=
  (h s0Steward (clearOf holds) rfl).2.2.1 rfl rfl

theorem wit_TrapReturn_4 (h : Obligations.TrapReturn) : ∃ t, exec .tret (s0With fun t => { t with steward := true }) = .next t :=
  toNext ((h (s0With fun t => { t with steward := true }) (clearOf holds) rfl).2.2.2.1 rfl rfl rfl)

theorem wit_TrapReturn_5 (h : Obligations.TrapReturn) : ∃ t, exec .tret (s0With fun t =>
  { t with steward := true, bank0 := { busy with ends := true } }) = .next t :=
  toNext ((h (s0With fun t => { t with steward := true, bank0 := { busy with ends := true } }) (clearOf holds) rfl).2.2.2.2.1 _ rfl rfl
    (canTrapOf holds))

theorem wit_TrapReturn_6 (h : Obligations.TrapReturn) : ∃ t, exec .tret (s0With fun t =>
  { t with steward := true, bank0 := { busy with abt := true } }) = .next t :=
  toNext ((h (s0With fun t => { t with steward := true, bank0 := { busy with abt := true } }) (clearOf holds) rfl).2.2.2.2.2 _ card0 rfl
    rfl rfl rfl holds)

theorem wit_IllegalByPrefixOrMode_1 (h : Obligations.IllegalByPrefixOrMode) : ∃ t, exec (.vand 1 2 3 0) (s0With fun t => { t with pfx := true }) =
  .next t :=
  toNext (h.1 (.vand 1 2 3 0) (s0With fun t => { t with pfx := true }) rfl rfl rfl (canTrapOf holds))

theorem wit_IllegalByPrefixOrMode_2 (h : Obligations.IllegalByPrefixOrMode) : ∃ t, exec .tret s0 = .next t :=
  toNext (h.2.1 .tret s0 rfl rfl (canTrapOf holds))

theorem wit_IllegalByPrefixOrMode_3 (h : Obligations.IllegalByPrefixOrMode) : ∃ t, exec (.fmtp 9) s0 = .next t :=
  toNext (h.2.2.1 9 s0 (clearOf holds))

theorem wit_IllegalByPrefixOrMode_4 (h : Obligations.IllegalByPrefixOrMode) : decode (encode false (.fmtp 10)) = .error .operand :=
  h.2.2.2 10 false holds

theorem wit_PendingRegisterHolds (h : Obligations.PendingRegisterHolds) : exec (.addi 1 5 0) (s0With fun t =>
  { t with outs := [{ id := 0, kind := .ni, regs := [5], vals := none, acq := none }] }) = .next (s0With fun t =>
  { t with outs := [{ id := 0, kind := .ni, regs := [5], vals := none, acq := none }] }) :=
  h.1 (.addi 1 5 0) [1, 5] 5 (s0With fun t => { t with outs := [{ id := 0, kind := .ni, regs := [5], vals := none, acq := none }] }) rfl (by simp)
    rfl rfl

/-- A state in which x5 is pending. -/
def s0Pending (f : Thread → Thread) : State :=
  s0With fun t => f { t with outs := [{ id := 0, kind := .ni, regs := [5], vals := none, acq := none }] }

theorem wit_PendingRegisterHolds_2 (h : Obligations.PendingRegisterHolds) : exec (.cpy 0 0 6 5) (s0Pending id) = .next (s0Pending id) :=
  (h.2.1 (.cpy 0 0 6 5) 5 (s0Pending id) holds holds).1 rfl rfl rfl holds

theorem wit_PendingRegisterHolds_3 (h : Obligations.PendingRegisterHolds) : exec (.tlbInv 5 6) (s0Pending fun t => { t with steward := true }) =
    .next (s0Pending fun t => { t with steward := true }) :=
  (h.2.1 (.tlbInv 5 6) 5 (s0Pending fun t => { t with steward := true }) holds holds).1 rfl rfl rfl holds

theorem wit_PendingRegisterHolds_4 (h : Obligations.PendingRegisterHolds) : exec (.vbcast 1 5 0) (s0Pending fun t => { t with vfmt := 6 }) =
    .next (s0Pending fun t => { t with vfmt := 6 }) :=
  (h.2.1 (.vbcast 1 5 0) 5 (s0Pending fun t => { t with vfmt := 6 }) holds holds).2.1 rfl rfl rfl

theorem wit_PendingRegisterHolds_5 (h : Obligations.PendingRegisterHolds) : exec (.mma 6 5) (s0Pending id) = .next (s0Pending id) :=
  (h.2.1 (.mma 6 5) 5 (s0Pending id) holds holds).2.2 holds

theorem wit_CsrReadsAndWrites_1 (h : Obligations.CsrReadsAndWrites) : ∃ t, exec (.csrrs 1 0 0xC02) s0 = .next t :=
  toNext ((h (.csrrs 1 0 0xC02) 0xC02 .set 1 (.reg 0) s0 _ rfl (clearOf holds) rfl holds rfl).1 rfl)

theorem wit_CsrReadsAndWrites_2 (h : Obligations.CsrReadsAndWrites) : ∃ t, exec (.csrrw 1 6 0x801) s0 = .next t :=
  toNext ((h (.csrrw 1 6 0x801) 0x801 .write 1 (.reg 6) s0 _ rfl (clearOf holds) rfl holds rfl).2 rfl
    holds holds)

theorem wit_CsrReadsAndWrites_3 (h : Obligations.CsrReadsAndWrites) : ∃ t, exec (.ptbaseWrite .set 0 (.imm 31)) s0Steward = .next t :=
  toNext ((h (.ptbaseWrite .set 0 (.imm 31)) 0x5CE .set 0 (.imm 31) s0Steward _ rfl (clearOf holds) rfl holds rfl).2
    rfl holds holds)

theorem wit_CsrRefusals_1 (h : Obligations.CsrRefusals) : ∃ t, exec (.csrrw 1 6 0x5D1) s0 = .next t :=
  toNext (h.2 (.csrrw 1 6 0x5D1) 0x5D1 .write 1 (.reg 6) s0 rfl (clearOf holds) (canTrapOf holds) (Or.inl
    holds))

theorem wit_CsrRefusals_2 (h : Obligations.CsrRefusals) : ∃ t, exec (.csrrw 1 6 0xCC2) s0 = .next t :=
  toNext (h.2 (.csrrw 1 6 0xCC2) 0xCC2 .write 1 (.reg 6) s0 rfl (clearOf holds) (canTrapOf holds) (Or.inr (Or.inl ⟨rfl,
    holds, holds⟩)))

theorem wit_CsrRefusals_3 (h : Obligations.CsrRefusals) : ∃ t, exec (.csrrs 1 0 0x5C0) s0 = .next t :=
  toNext (h.2 (.csrrs 1 0 0x5C0) 0x5C0 .set 1 (.reg 0) s0 rfl (clearOf holds) (canTrapOf holds) (Or.inr (Or.inr (Or.inl
    ⟨holds, holds, rfl⟩))))

theorem wit_CsrRefusals_4 (h : Obligations.CsrRefusals) : ∃ t, exec (.csrrw 1 5 0x802) s0 = .next t :=
  toNext (h.2 (.csrrw 1 5 0x802) 0x802 .write 1 (.reg 5) s0 rfl (clearOf holds) (canTrapOf holds) (Or.inr (Or.inr (Or.inr
    ⟨0, 0xFFFFFFFFFFFFFFE0, rfl, rfl, rfl, Or.inl ⟨holds, holds⟩⟩))))

theorem wit_CsrRefusals_5 (h : Obligations.CsrRefusals) : ∃ t, exec (.csrrwi 1 10 0x801) s0 = .next t :=
  toNext (h.2 (.csrrwi 1 10 0x801) 0x801 .write 1 (.imm 10) s0 rfl (clearOf holds) (canTrapOf holds) (Or.inr (Or.inr
    (Or.inr ⟨1, 0, rfl, rfl, rfl, Or.inr (Or.inl ⟨holds, holds⟩)⟩))))

theorem wit_CsrRefusals_6 (h : Obligations.CsrRefusals) : ∃ t, exec (.csrrw 1 5 0x800) (s0With fun t => { t with x := [(5, 0x80)] }) = .next t :=
  toNext (h.2 (.csrrw 1 5 0x800) 0x800 .write 1 (.reg 5) (s0With fun t => { t with x := [(5, 0x80)] }) rfl (clearOf holds) (canTrapOf
    holds) (Or.inr (Or.inr (Or.inr ⟨0, 0, rfl, rfl, rfl, Or.inr (Or.inr ⟨holds, holds⟩)⟩))))


end Sys2Proof.Tests
end

