-- ==== Sys2Proof/Tests/Witness2.lean ====
section
/-! SUPPORT. As Witness1: scalar accesses, atomics, fences and the steward's services; the vector unit. -/

namespace Sys2Proof.Tests

set_option Elab.async false

open Sys2Proof Sys2Proof.Machine

/-- The last eight bytes of the core's own scratchpad. -/
def s0Top : State := s0With fun t => { t with x := [(5, 0xFFFFFFFFFFFFFFF8), (6, 0x80)] }
/-- Their place. -/
def topAt : Nat := spadBase 0 + 0xFFFF8
/-- A store-buffer entry of thread set 0 at that place. -/
def topEntry : SbEntry := { id := 0, tid := 0, path := .own, va := 0xFFFFFFFFFFFFFFF8, pa := topAt, data := List.replicate 8 0xA5 }
/-- `s0Top` with that entry. -/
def s0Buffered : State := { s0Top with cores := [(0, { sb := [topEntry] })], nextId := 1 }
/-- A misaligned address. -/
def s0Odd : State := s0With fun t => { t with x := [(5, 0xFFFFFFFFFFF00041)] }
/-- An address outside the address space. -/
def s0Bad : State := s0With fun t => { t with x := [(5, 0x0040000000000000)] }
/-- A vector instruction as the sequencer holds it. -/
def vop (i : Instr) (fmt : BitVec 5) : VOp :=
  { instr := i, fmt := fmt, rm := 0, sat := false, chw := false, xa := 0xFFFF0, xb := 0, dt := 0, user := true }
/-- Its item. -/
def vitem (i : Instr) (fmt : BitVec 5) : SeqItem := { id := 1, tid := 0, ops := [vop i fmt], iters := 1, j := 0, at_ := 0, step := 1, entries := 1 }
/-- A core whose sequencer holds it. -/
def s0Seq (i : Instr) (fmt : BitVec 5) : State := { s0 with cores := [(0, { seq := [vitem i fmt] })], nextId := 2 }
/-- A gather into v3 whose last lane is to land from the core's own scratchpad; its command has passed the sequencer or not. -/
def gatherJobOf (begun : Bool) : LaneJob := { begun := begun, id := 1, store := false, vreg := 3, size := 8, user := true, lanes := [(15, 0xFFFFFFFFFFFFFFF8, 0)], hit := [] }
/-- One that has. -/
def gatherJob : LaneJob := gatherJobOf true
/-- One that has not, in the sequencer. -/
def s0Gather (store : Bool) : State :=
  { s0Seq (if store then .vstg 3 1 3 0 else .vldg 3 1 3 0) 0 with threads := [(0, { th0 with jobs := [{ gatherJobOf false with store := store }] })] }
/-- A page of instruction words at the pc: a flight's body of one VADD. -/
def s0Flight (x6 : Word) : State :=
  let s := State.reset.withFetchWord 32 0x00534C2B
  { ((s.writeBytes 4 (bytesOfWord 0x0020A18B)).setThread 0 { (s.thread 0) with x := [(6, x6)], vfmt := 5 }) with agenda := [] }

/-- Page tables that map the virtual page 0x10000 to the local page 0x20000 for ASID 0. -/
def s0Paged (x5 x6 : Word) (steward : Bool) : State := { s0 with
  roots := [(0, 0x8000000000040000)]
  mem := [(0x40000, 1), (0x40001, 8), (0x40002, 5), (0x50000, 1), (0x50001, 8), (0x50002, 6), (0x60008, 0x9F), (0x60009, 1), (0x6000A, 2)]
  threads := [(0, { th0 with steward := steward, x := [(5, x5), (6, x6)] })] }

/-- The oldest item, by evaluation. -/
theorem oldestOf {s : State} {tid : Nat} {it : SeqItem} {o : VOp} (h : (s.ready = true ∧ (s.seqOf tid).head? = some it ∧ it.tid = tid ∧
    s.engParked it.id = false ∧ it.ops = [o] ∧ it.iters = 1 ∧ it.j = 0 ∧ it.at_ = 0 ∧ it.part = 0 ∧ it.got = [] ∧ s.seqHeld it = false ∧
    o.chw = false) := by decide +kernel) : s.OldestIs tid it o := h
/-- Room in the sequencer, by evaluation. -/
theorem roomOf {s : State} {n : Nat}
    (h : ((s.core (coreOf s.cur)).seqWait = [] ∧ ((s.core (coreOf s.cur)).seq.map (·.entries)).sum + n ≤ 16) := by decide +kernel) :
    s.SequencerFree n := h
/-- Nothing earlier is left to be performed, by evaluation. -/
theorem quietOf {s : State} (h : ((s.core (coreOf s.cur)).sb = [] ∧ s.flights.all (fun f => f.tid != s.cur) = true ∧
    s.seqAccesses s.cur = false ∧ s.acquiring s.cur = false) := by decide +kernel) : s.Quiet := h

theorem wit_TranslationFrame_1 (h : Obligations.TranslationFrame) : (s0.reach 0 true 0xFFFFFFFFFFF00040 8 { r := true }).1 = s0 :=
  (h.1 s0 _ 0 true 0xFFFFFFFFFFF00040 8 { r := true } (.mem (spadBase 0 + 0x40)) .own _ rfl).2.2.1 holds

/-- The leaf of `s0Paged` is that at 0x60008. -/
theorem wit_TranslationFrame_3 (h : Obligations.TranslationFrame) : ∃ leaf, (s0Paged 0 0 false).leafOf 0 0 0x10000 = some leaf :=
  ((h.1 (s0Paged 0 0 false) ((s0Paged 0 0 false).reach 0 true 0x10000 8 { w := true }).1 0 true 0x10000 8 { w := true } (.mem 0x20000) .plain 0x20000
    holds).2.2.2 holds).imp fun _ k => k.1
theorem test_leaf : (s0Paged 0 0 false).leafOf 0 0 0x10000 = some 0x60008 := holds

theorem wit_TranslationFrame_2 (h : Obligations.TranslationFrame) : (s0.reach 0 true 0xFFFFFFFFFFF00000 8 { w := true }).1 = s0 :=
  congrArg Prod.fst (h.2.1 s0 0 true 0xFFFFFFFFFFF00000 8 { w := true } holds rfl)

theorem wit_TranslationFrame_4 (h : Obligations.TranslationFrame) : s0.reach 0 true 0x0040000000000000 8 { r := true } = (s0, .fault 2) :=
  h.2.2 s0 0 true 0x0040000000000000 8 { r := true } holds (fun k => absurd k.2 holds)

theorem wit_LoadsComplete_1 (h : Obligations.LoadsComplete) : ∃ t, exec (.ld 7 5 0) s0Buffered = .next t :=
  toNext (((h (.ld, 8, true) (by simp [loadRows]) 7 5 0 s0Buffered s0Buffered topAt topAt .own (clearOf holds) rfl rfl rfl
    holds rfl).2 holds).1 topEntry rfl holds)

theorem wit_LoadsComplete_2 (h : Obligations.LoadsComplete) : ∃ t, exec (.lb 7 5 7) s0Top = .next t :=
  toNext (((h (.lb, 1, true) (by simp [loadRows]) 7 5 7 s0Top s0Top (topAt + 7) (topAt + 7) .own (clearOf holds) rfl rfl rfl
    holds rfl).2 holds).2.2 rfl rfl |>.2.1 rfl rfl)

theorem wit_StoresEnterTheBuffer (h : Obligations.StoresEnterTheBuffer) : ∃ t, exec (.sd 5 6 0) s0Top = .next t :=
  toNext2 (h (.sd, 8) (by simp [storeRows]) 5 6 0 s0Top s0Top topAt topAt .own (clearOf holds) rfl rfl holds rfl)

theorem wit_StoreBufferDrains_1 (h : Obligations.StoreBufferDrains) : ∃ t, exec (.storeBufferDrain 0) s0Buffered = .next t :=
  toNext (h s0Buffered 0 topAt topEntry [] rfl rfl holds holds holds holds)

theorem wit_StoreBufferDrains_2 : dieOfAddr topAt = dieOf 0 ∧ s0Buffered.inLocket topAt 8 = false ∧ s0Buffered.isHeld topAt 8 = false :=
  ⟨holds, rfl, rfl⟩

theorem wit_StoreBufferDrains_3 (h : Obligations.StoreBufferDrains) : ∃ t, exec (.storeBufferDrain 0)
  { s0Buffered with lockets := [(0, { base := topAt + 7, len := 65536, digest := [] })] } = .next t :=
  toNext (h { s0Buffered with lockets := [(0, { base := topAt + 7, len := 65536, digest := [] })] } 0 topAt topEntry [] rfl rfl holds
    holds holds holds)

theorem wit_StoreBufferDrains_4 (h : Obligations.StoreBufferDrains) : ∃ t, exec (.storeBufferDrain 0)
  { s0Buffered with cores := [(0, { sb := [{ topEntry with pa := 0x3000000000 }] })] } = .next t :=
  toNext (h { s0Buffered with cores := [(0, { sb := [{ topEntry with pa := 0x3000000000 }] })] } 0 0x3000000000 { topEntry with pa := 0x3000000000 }
    [] rfl rfl holds holds holds holds)

theorem wit_StoreBufferDrains_5 (h : Obligations.StoreBufferDrains) : ∃ t, exec (.storeBufferDrain 0) { s0Buffered with held := [(topAt, 64)] } = .next t :=
  toNext (h { s0Buffered with held := [(topAt, 64)] } 0 topAt topEntry [] rfl rfl holds holds holds holds)

theorem wit_MisalignedAndRefusedAccesses_1 (h : Obligations.MisalignedAndRefusedAccesses) : ∃ t, exec (.lh 7 5 0) s0Odd = .next t :=
  toNext ((h.1 (.lh, 2, true) (by simp [loadRows]) 7 5 0 s0Odd (clearOf holds) rfl rfl rfl).1 holds (canTrapOf
    holds))

theorem wit_MisalignedAndRefusedAccesses_2 (h : Obligations.MisalignedAndRefusedAccesses) : ∃ t, exec (.ld 7 5 0) s0Bad = .next t :=
  toNext ((h.1 (.ld, 8, true) (by simp [loadRows]) 7 5 0 s0Bad (clearOf holds) rfl rfl rfl).2 s0Bad 2 holds (canTrapOf
    holds) rfl rfl)

theorem wit_MisalignedAndRefusedAccesses_3 (h : Obligations.MisalignedAndRefusedAccesses) : ∃ t, exec (.sh 5 6 0) s0Odd = .next t :=
  toNext ((h.2.1 (.sh, 2) (by simp [storeRows]) 5 6 0 s0Odd (clearOf holds) rfl rfl).1 holds (canTrapOf holds))

theorem wit_MisalignedAndRefusedAccesses_4 (h : Obligations.MisalignedAndRefusedAccesses) : ∃ t, exec (.sd 5 6 0) s0Bad = .next t :=
  toNext ((h.2.1 (.sd, 8) (by simp [storeRows]) 5 6 0 s0Bad (clearOf holds) rfl rfl).2 s0Bad 2 holds (canTrapOf
    holds) rfl rfl)

theorem wit_MisalignedAndRefusedAccesses_5 (h : Obligations.MisalignedAndRefusedAccesses) : ∃ t, exec (.amoaddD true true 7 5 6) s0Odd = .next t :=
  toNext ((h.2.2.2 true true 7 5 6 s0Odd (clearOf holds) quietOf rfl (canTrapOf holds)).1 (.amoaddD, 8, fun a b =>
    (a + b) % 2 ^ 64) (by simp [amoRows, amoRowsD]) holds)

theorem wit_MisalignedAndRefusedAccesses_6 (h : Obligations.MisalignedAndRefusedAccesses) : ∃ t, exec (.scW false false 7 5 6) s0Odd = .next t :=
  toNext ((h.2.2.2 false false 7 5 6 s0Odd (clearOf holds) quietOf rfl (canTrapOf holds)).2.1 (.scW, 4) (by simp
    [scRows]) holds)

theorem wit_MisalignedAndRefusedAccesses_7 (h : Obligations.MisalignedAndRefusedAccesses) : ∃ t, exec (.lrD false true 7 5) s0Odd = .next t :=
  toNext ((h.2.2.2 false true 7 5 6 s0Odd (clearOf holds) quietOf rfl (canTrapOf holds)).2.2 (.lrD, 8) (by simp
    [lrRows]) holds)

theorem wit_MisalignedAndRefusedAccesses_8 (h : Obligations.MisalignedAndRefusedAccesses) : ∃ t, exec (.amoaddD true true 7 5 6) s0Bad = .next t :=
  toNext ((h.2.2.1 true true 7 5 6 s0Bad s0Bad.fencedNow 2 (clearOf holds) quietOf rfl (canTrapOf holds) rfl).1 (.amoaddD, 8, fun a b =>
    (a + b) % 2 ^ 64) (by simp [amoRows, amoRowsD]) holds rfl)

theorem wit_MisalignedAndRefusedAccesses_9 (h : Obligations.MisalignedAndRefusedAccesses) : ∃ t, exec (.scW false false 7 5 6) s0Bad = .next t :=
  toNext ((h.2.2.1 false false 7 5 6 s0Bad s0Bad.fencedNow 2 (clearOf holds) quietOf rfl (canTrapOf holds) rfl).2.1 (.scW, 4) (by simp
    [scRows]) holds rfl)

theorem wit_MisalignedAndRefusedAccesses_10 (h : Obligations.MisalignedAndRefusedAccesses) : ∃ t, exec (.lrD false true 7 5) s0Bad = .next t :=
  toNext ((h.2.2.1 false true 7 5 6 s0Bad s0Bad.fencedNow 2 (clearOf holds) quietOf rfl (canTrapOf holds) rfl).2.2 (.lrD, 8) (by simp
    [lrRows]) holds rfl)

theorem wit_AtomicsReadModifyWrite (h : Obligations.AtomicsReadModifyWrite) : ∃ t, exec (.amoaddD false false 7 5 6) s0Top = .next t :=
  toNext (h (.amoaddD, 8, fun a b => (a + b) % 2 ^ 64) (by simp [amoRows, amoRowsD]) false false 7 5 6 s0Top s0Top.fencedNow topAt topAt .own (clearOf
    holds) quietOf rfl holds rfl rfl holds holds holds)

theorem wit_LoadReservedStoreConditional_1 (h : Obligations.LoadReservedStoreConditional) : ∃ t, exec (.lrD false false 7 5) s0Top = .next t :=
  toNext (h.1 (.lrD, 8) (by simp [lrRows]) false false 7 5 s0Top s0Top.fencedNow topAt topAt .own (clearOf holds) quietOf rfl
    holds rfl rfl holds holds)

theorem wit_LoadReservedStoreConditional_2 (h : Obligations.LoadReservedStoreConditional) : ∃ t, exec (.scD false false 7 5 6) s0Top = .next t :=
  toNext (h.2.1 (.scD, 8) (by simp [scRows]) false false 7 5 6 s0Top s0Top.fencedNow topAt topAt .own (clearOf holds) quietOf rfl holds rfl rfl holds holds holds)

theorem wit_LoadReservedStoreConditional_3 (h : Obligations.LoadReservedStoreConditional) : ((s0With fun t => { t with resv := some 64 }).store (.unit_
  0) 71 [1] |>.thread 0).resv = none :=
  h.2.2 (s0With fun t => { t with resv := some 64 }) 0 (.unit_ 0) 71 64 [1] holds rfl holds holds

theorem wit_LoadReservedStoreConditional_4 : (s0With fun t => { t with resv := some topAt }).fencedNow.th.resv = some (topAt / 8 * 8) :=
  holds

theorem wit_Fences_1 (h : Obligations.Fences) : ∃ t, exec (.fence 0xFF 0 0) s0 = .next t :=
  toNext ((h.1 (.fence 0xFF 0 0) s0 (Or.inr (Or.inr ⟨_, _, _, rfl⟩)) (clearOf holds)).1 quietOf)

theorem wit_Fences_2 (h : Obligations.Fences) : exec .fenceTso s0Buffered = .next s0Buffered.setMark :=
  ((h.1 .fenceTso s0Buffered (Or.inl rfl) (clearOf holds)).2 holds).1

theorem wit_Fences_3 (h : Obligations.Fences) : ∃ t, exec (.fenceI 0 0 0) s0 = .next t :=
  toNext ((h.2.1 0 0 0 s0 (clearOf holds)).2 holds)

theorem wit_Fences_4 (h : Obligations.Fences) : exec (.fenceI 0xFFF 31 31) s0Buffered = .next s0Buffered :=
  (h.2.1 0xFFF 31 31 s0Buffered (clearOf holds)).1 holds

theorem wit_Fences_5 (h : Obligations.Fences) : ∃ t, exec (.scfence 0) s0 = .next t :=
  toNext ((h.2.2.1 0 s0 (clearOf holds)).1 holds)

theorem wit_Fences_6 (h : Obligations.Fences) : exec (.scfence 6) { s0Buffered with threads := [(0, { th0 with x := [(6, 0xE)] })] } = .next
  { s0Buffered with threads := [(0, { th0 with x := [(6, 0xE)] })] }.setMark :=
  ((h.2.2.1 6 { s0Buffered with threads := [(0, { th0 with x := [(6, 0xE)] })] } (clearOf holds)).2.1 holds
    holds).1

theorem wit_Fences_7 (h : Obligations.Fences) : ∃ t, exec (.scfence 6) (s0With fun t => { t with x := [(6, 0xF)] }) = .next t :=
  toNext ((h.2.2.1 6 (s0With fun t => { t with x := [(6, 0xF)] }) (clearOf holds)).2.2.2 quietOf holds rfl rfl rfl)

/-- As `s0Buffered`, with a release in x6, thread set 1 having stored what thread set 0 has read. -/
def s0Read : State := { s0With (fun t => { t with x := [(6, 6)], seen := [0] }) with cores := [(0, { sb := [{ topEntry with tid := 1 }] })], nextId := 1 }
theorem wit_Fences_10 (h : Obligations.Fences) : exec (.scfence 6) s0Read = .next s0Read.setMark :=
  ((h.2.2.1 6 s0Read (clearOf holds)).2.2.1 holds holds).1

theorem wit_Fences_8 (h : Obligations.Fences) : ∃ t, exec .lbfence s0 = .next t :=
  toNext ((h.2.2.2 s0 (clearOf holds) rfl rfl).1 (fun e k => absurd k (by simp [s0, State.core, aget])))

theorem wit_Fences_9 (h : Obligations.Fences) : exec .lbfence s0Buffered = .next s0Buffered :=
  (h.2.2.2 s0Buffered (clearOf holds) rfl rfl).2 ⟨topEntry, by simp [s0Buffered, State.core, aget, s0Top, s0With, s0, coreOf], rfl, by
    decide⟩

theorem wit_SwitchParks_1 (h : Obligations.SwitchParks) : ∃ t, exec .switch s0 = .next t :=
  toNext (h.2.2.1 s0 (clearOf holds))

theorem wit_SwitchParks_2 (h : Obligations.SwitchParks) : ∃ t, exec .switch (s0With fun t => { t with pfx := true }) = .next t :=
  toNext (h.2.2.2 (s0With fun t => { t with pfx := true }) rfl (canTrapOf holds))

theorem wit_StewardServices_1 (h : Obligations.StewardServices) : ∃ t, exec (.seal 7 5 6) (s0With fun t =>
  { t with steward := true, x := [(5, 0x10000), (6, 0x800010000)] }) = .next t :=
  toNext ((h.1 7 5 6 (s0With fun t => { t with steward := true, x := [(5, 0x10000), (6, 0x800010000)] }) (clearOf holds) rfl rfl rfl).1
    holds)

theorem wit_StewardServices_2 (h : Obligations.StewardServices) : ∃ t, exec (.seal 7 5 6) (s0With fun t =>
  { t with steward := true, x := [(5, 0x10000), (6, 0x10000)] }) = .next t :=
  toNext (((h.1 7 5 6 (s0With fun t => { t with steward := true, x := [(5, 0x10000), (6, 0x10000)] }) (clearOf holds) rfl rfl rfl).2
    holds holds holds holds).1 holds)

theorem wit_StewardServices_3 (h : Obligations.StewardServices) : ∃ t, exec (.seal 7 5 6) (s0Paged 0x10000 0x10000 true) = .next t :=
  toNext (((((h.1 7 5 6 (s0Paged 0x10000 0x10000 true) (clearOf holds) rfl rfl rfl).2 holds holds
    holds holds).2 0x20000 [0x60008] holds).2.2 holds holds).2 holds)

theorem wit_StewardServices_8 (h : Obligations.StewardServices) : ∃ t, exec (.seal 7 5 6) { s0Paged 0x10000 0x10000 true with held := [(0x20000, 64)] } =
  .next t :=
  toNext ((((h.1 7 5 6 { s0Paged 0x10000 0x10000 true with held := [(0x20000, 64)] } (clearOf holds) rfl rfl rfl).2 holds holds
    holds holds).2 0x20000 [0x60008] holds).2.1 holds holds)

/-- As `s0Paged`, all 64 lockets in use elsewhere. -/
def s0Sealed : State := { s0Paged 0x10000 0x10000 true with
  lockets := (List.range 64).map fun i => (i, { base := 0x10000000 + 0x10000 * i, len := 0x10000, digest := [] }) }
theorem wit_StewardServices_9 (h : Obligations.StewardServices) : ∃ t, exec (.seal 7 5 6) s0Sealed = .next t :=
  toNext (((((h.1 7 5 6 s0Sealed (clearOf holds) rfl rfl rfl).2 holds holds holds holds).2 0x20000 [0x60008] holds).2.2 holds holds).1 holds)

/-- As `s0Paged`, the leaf leading to a core's scratchpad. -/
def s0Away : State := { s0Paged 0x10000 0x10000 true with
  mem := [(0x40000, 1), (0x40001, 8), (0x40002, 5), (0x50000, 1), (0x50001, 8), (0x50002, 6), (0x60008, 0x9F), (0x60009, 1), (0x6000C, 0xF0)] }
theorem wit_StewardServices_10 (h : Obligations.StewardServices) : ∃ t, exec (.seal 7 5 6) s0Away = .next t :=
  toNext (((h.1 7 5 6 s0Away (clearOf holds) rfl rfl rfl).2 holds holds holds holds).2 windowBase [0x60008] holds |>.1 holds)

theorem wit_StewardServices_4 (h : Obligations.StewardServices) : ∃ t, exec (.plog 7 5 6) s0 = .next t :=
  toNext ((h.2.1 7 5 6 s0 (clearOf holds)).1 (Or.inl rfl))

theorem wit_StewardServices_5 (h : Obligations.StewardServices) : ∃ t, exec (.plog 7 5 6) (s0With fun t => { t with plogbase := 0x8B00000000010000 })
  = .next t :=
  toNext ((h.2.1 7 5 6 (s0With fun t => { t with plogbase := 0x8B00000000010000 }) (clearOf holds)).2 holds rfl
    holds rfl)

theorem wit_StewardServices_6 (h : Obligations.StewardServices) : ∃ t, exec (.tlbReplay 6) s0Steward = .next t :=
  toNext (h.2.2.1 6 s0Steward (clearOf holds) rfl rfl)

theorem wit_StewardServices_7 (h : Obligations.StewardServices) : ∃ t, exec (.tlbInv 6 0) s0Steward = .next t :=
  toNext (h.2.2.2 6 0 s0Steward (clearOf holds) rfl rfl rfl rfl rfl rfl rfl rfl)

theorem wit_VectorIssue (h : Obligations.VectorIssue) : ∃ t, exec (.vadd 31 1 2 7) s0 = .next t :=
  toNext (h (.vadd 31 1 2 7) s0 rfl holds rfl holds rfl rfl ⟨rfl, holds⟩)

theorem wit_VectorTrapsAtIssue_1 (h : Obligations.VectorTrapsAtIssue) : ∃ t, exec (.vshl 1 2 3 0) s0 = .next t :=
  toNext ((h (.vshl 1 2 3 0) s0 rfl (canTrapOf holds)).1 (Or.inl ⟨_, rfl, holds⟩))

theorem wit_VectorTrapsAtIssue_2 (h : Obligations.VectorTrapsAtIssue) : ∃ t, exec (.vand 1 2 3 0) (s0With fun t => { t with pfx := true }) = .next t
  :=
  toNext ((h (.vand 1 2 3 0) (s0With fun t => { t with pfx := true }) rfl (canTrapOf holds)).1 (Or.inr (Or.inl ⟨rfl, rfl⟩)))

theorem wit_VectorTrapsAtIssue_3 (h : Obligations.VectorTrapsAtIssue) : ∃ t, exec (.vadd 24 2 3 0) (s0With fun t => { t with chwin := true }) = .next
  t :=
  toNext ((h (.vadd 24 2 3 0) (s0With fun t => { t with chwin := true }) rfl (canTrapOf holds)).1 (Or.inr (Or.inr (Or.inl ⟨rfl, 24,
    holds, holds⟩))))

theorem wit_VectorTrapsAtIssue_4 (h : Obligations.VectorTrapsAtIssue) : ∃ t, exec (.gaddr 1 2 3 0) s0 = .next t :=
  toNext ((h (.gaddr 1 2 3 0) s0 rfl (canTrapOf holds)).1 (Or.inr (Or.inr (Or.inr ⟨1, 2, 3, 0, rfl, rfl⟩))))

theorem wit_VectorTrapsAtIssue_5 (h : Obligations.VectorTrapsAtIssue) : ∃ t, exec (.vadd 1 3 2 0) (s0With fun t => { t with jobs := [gatherJob] }) =
  .next t :=
  toNext ((h (.vadd 1 3 2 0) (s0With fun t => { t with jobs := [gatherJob] }) rfl (canTrapOf holds)).2.1 holds 3
    holds)

theorem wit_VectorTrapsAtIssue_6 (h : Obligations.VectorTrapsAtIssue) : ∃ t, exec (.vld 1 6 31 0) s0 = .next t :=
  toNext ((h (.vld 1 6 31 0) s0 rfl (canTrapOf holds)).2.2 holds rfl holds _ rfl)

theorem wit_IntegerLanes_1 (h : Obligations.IntegerLanes) : ∃ t, exec (.vectorSequencerExecute 0) (s0Seq (.vmul 31 1 2 0) 5) = .next t :=
  toNext (h (.vmul, fun c a b => elemOf c a * elemOf c b) (by simp [laneRows]) 31 1 2 0 (s0Seq (.vmul 31 1 2 0) 5) 0 (vitem (.vmul 31 1 2 0) 5) (vop
    (.vmul 31 1 2 0) 5) oldestOf rfl holds (fun k => absurd k holds))

theorem wit_IntegerLanes_2 (h : Obligations.IntegerLanes) : ∃ t, exec (.vectorSequencerExecute 0) (s0Seq (.vadds 0 0 0 7) 9) = .next t :=
  toNext (h (.vadds, fun c a b => clampTo c (elemOf c a + elemOf c b)) (by simp [laneRows]) 0 0 0 7 (s0Seq (.vadds 0 0 0 7) 9) 0 (vitem (.vadds 0 0 0
    7) 9) (vop (.vadds 0 0 0 7) 9) oldestOf rfl holds (fun k => absurd k holds))

theorem wit_IntegerCompares (h : Obligations.IntegerCompares) : ∃ t, exec (.vectorSequencerExecute 0) (s0Seq (.vcmpltu 7 1 2 0) 6) = .next t :=
  toNext (h (.vcmpltu, fun _ a b => a < b) (by simp [compareRows]) 7 1 2 0 (s0Seq (.vcmpltu 7 1 2 0) 6) 0 (vitem (.vcmpltu 7 1 2 0) 6) (vop (.vcmpltu
    7 1 2 0) 6) oldestOf rfl holds holds)

theorem wit_PredicateResultsInX (h : Obligations.PredicateResultsInX) : ∃ t, exec (.vectorSequencerExecute 0) (s0Seq (.kfirst 31 0 7) 9) = .next t :=
  toNext (h 31 0 7 (s0Seq (.kfirst 31 0 7) 9) 0 (vitem (.kfirst 31 0 7) 9) (vop (.kfirst 31 0 7) 9) oldestOf
    holds (Or.inr (Or.inl rfl)))

theorem wit_VectorLoadsAndStores_1 (h : Obligations.VectorLoadsAndStores) : ∃ t, exec (.vectorSequencerExecute 0) (s0Seq (.vld 3 5 0 0) 0) = .next t
  :=
  toNext ((h 3 5 0 0 (s0Seq (.vld 3 5 0 0) 0) 0 (vitem (.vld 3 5 0 0) 0) (vop (.vld 3 5 0 0) 0) oldestOf
    holds rfl rfl).1 rfl holds holds)

theorem wit_VectorLoadsAndStores_2 (h : Obligations.VectorLoadsAndStores) : ∃ t, exec (.vectorSequencerExecute 0) (s0Seq (.vst 3 5 0 0) 0) = .next t
  :=
  toNext ((h 3 5 0 0 (s0Seq (.vst 3 5 0 0) 0) 0 (vitem (.vst 3 5 0 0) 0) (vop (.vst 3 5 0 0) 0) oldestOf
    holds rfl rfl).2 rfl)

theorem wit_GathersAndScatters_1 (h : Obligations.GathersAndScatters) : ∃ t, exec (.vldg 3 1 3 0) s0 = .next t :=
  toNext2 (h.1 false 3 1 3 0 s0 holds rfl rfl rfl rfl roomOf holds holds)

theorem wit_GathersAndScatters_2 (h : Obligations.GathersAndScatters) : ∃ t, exec (.leaseLaneLand 0 1 15) (s0With fun t =>
  { t with jobs := [gatherJob] }) = .next t :=
  toNext ((h.2.2.1 (s0With fun t => { t with jobs := [gatherJob] }) (s0With fun t => { t with jobs := [gatherJob] }) 0 15 0xFFFFFFFFFFFFFFF8 0 topAt
    topAt gatherJob .own rfl rfl rfl rfl rfl holds holds holds).1 rfl rfl rfl holds holds holds holds)

theorem wit_GathersAndScatters_3 (h : Obligations.GathersAndScatters) : ∃ t, exec (.leaseLaneLand 0 1 15) (s0With fun t =>
  { t with jobs := [{ gatherJob with store := true }] }) = .next t :=
  toNext ((h.2.2.1 (s0With fun t => { t with jobs := [{ gatherJob with store := true }] }) (s0With fun t =>
    { t with jobs := [{ gatherJob with store := true }] }) 0 15 0xFFFFFFFFFFFFFFF8 0 topAt topAt { gatherJob with store := true } .own rfl rfl rfl rfl
    rfl holds holds holds).2 rfl rfl rfl holds holds holds)

theorem wit_GathersAndScatters_6 (h : Obligations.GathersAndScatters) : ∃ t, exec (.vectorSequencerExecute 0) (s0Gather false) = .next t :=
  toNext2 (h.2.1 false 3 1 3 0 (s0Gather false) 0 (vitem (.vldg 3 1 3 0) 0) (vop (.vldg 3 1 3 0) 0) (gatherJobOf false) oldestOf rfl rfl rfl rfl holds)

theorem wit_GathersAndScatters_7 (h : Obligations.GathersAndScatters) : ∃ t, exec (.vectorSequencerExecute 0) (s0Gather true) = .next t :=
  toNext2 (h.2.1 true 3 1 3 0 (s0Gather true) 0 (vitem (.vstg 3 1 3 0) 0) (vop (.vstg 3 1 3 0) 0) { gatherJobOf false with store := true } oldestOf
    rfl rfl rfl rfl holds)

theorem wit_GathersAndScatters_4 (h : Obligations.GathersAndScatters) : ∃ t, exec .lwait s0 = .next t :=
  toNext ((h.2.2.2 s0 (clearOf holds)).1 rfl)

theorem wit_GathersAndScatters_5 (h : Obligations.GathersAndScatters) : exec .lwait (s0With fun t => { t with jobs := [gatherJob] }) = .next (s0With
  fun t => { t with jobs := [gatherJob] }) :=
  (h.2.2.2 (s0With fun t => { t with jobs := [gatherJob] }) (clearOf holds)).2 rfl

theorem wit_LoadsComplete_3 (h : Obligations.LoadsComplete) : ∃ t, exec (.ld 7 5 0) (s0Paged 0x1FFF8 7 false) = .next t :=
  toNext (((h (.ld, 8, true) (by simp [loadRows]) 7 5 0 (s0Paged 0x1FFF8 7 false) ((s0Paged 0x1FFF8 7 false).reach 0 true 0x1FFF8 8 { r := true }).1
    0x2FFF8 0x2FFF8 .plain (clearOf holds) rfl rfl holds holds holds).2 holds).2.2 holds holds |>.2.1 holds holds)

/-- As `s0Buffered`, its entry four bytes long. -/
def s0Half : State := { s0Top with cores := [(0, { sb := [{ topEntry with data := List.replicate 4 0xA5 }] })], nextId := 1 }
/-- As `s0Top`, a value of its bytes seen early. -/
def s0Seen : State := s0With fun t =>
  { t with x := [(5, 0xFFFFFFFFFFFFFFF8), (6, 0x80)], early := [{ path := .own, pa := topAt, data := List.replicate 8 1, known := [] }] }
/-- As `s0Top`, its last byte poisoned. -/
def s0Poisoned : State := { s0Top with poison := [topAt + 7] }

theorem wit_LoadsComplete_4 (h : Obligations.LoadsComplete) : exec (.ld 7 5 0) s0Half = .next s0Half :=
  ((h (.ld, 8, true) (by simp [loadRows]) 7 5 0 s0Half s0Half topAt topAt .own (clearOf holds) rfl rfl rfl holds rfl).2 holds).2.1 holds

theorem wit_LoadsComplete_5 (h : Obligations.LoadsComplete) : ∃ t, exec (.ld 7 5 0) s0Seen = .next t :=
  toNext (((h (.ld, 8, true) (by simp [loadRows]) 7 5 0 s0Seen s0Seen topAt topAt .own (clearOf holds) rfl rfl rfl holds rfl).2 holds).2.2 rfl rfl |>.1 _ rfl)

theorem wit_LoadsComplete_6 (h : Obligations.LoadsComplete) : ∃ t, exec (.ld 7 5 0) s0Poisoned = .next t :=
  toNext (((h (.ld, 8, true) (by simp [loadRows]) 7 5 0 s0Poisoned s0Poisoned topAt topAt .own (clearOf holds) rfl rfl rfl holds rfl).2 holds).2.2 rfl rfl
    |>.2.2 rfl rfl (canTrapOf holds))

theorem wit_FlightsEnterTheSequencer_1 (h : Obligations.FlightsEnterTheSequencer) : ∃ t, exec (.vflight 1 5 6) (s0Flight 4) = .next t :=
  toNext (((h 1 5 6 (s0Flight 4) _ (clearOf holds) holds).1 [.vadd 3 1 2 2] rfl).2 holds holds
    holds ⟨holds, holds⟩)

theorem wit_FlightsEnterTheSequencer_2 (h : Obligations.FlightsEnterTheSequencer) : ∃ t, exec (.vflight 1 5 6) (s0Flight 1) = .next t :=
  toNext (((h 1 5 6 (s0Flight 1) _ (clearOf holds) holds).1 [.vadd 3 1 2 2] rfl).1 holds (canTrapOf
    holds))

theorem wit_FlightsEnterTheSequencer_3 (h : Obligations.FlightsEnterTheSequencer) : ∃ t, exec (.vflight 2 5 6) (s0Flight 4) = .next t :=
  toNext ((h 2 5 6 (s0Flight 4) _ (clearOf holds) holds).2 rfl (canTrapOf holds))


end Sys2Proof.Tests
end

