-- ==== Sys2Proof/Tests/Witness3.lean ====
section
/-! SUPPORT. As Witness1: the matrix engine and the network interface. -/

namespace Sys2Proof.Tests

set_option Elab.async false

open Sys2Proof Sys2Proof.Machine

/-- `ReaderOk` by evaluation. -/
def readerOkB (s : State) (ar an : Nat) (need : List (Nat × Bool × Nat)) (looks : Bool) : Bool :=
  let c := s.core (coreOf s.cur)
  ((ar :: need.map (·.1)).all fun r => decide (r ≤ 7) && (afind c.rings r).any fun g => decide (g.owner = s.th.asid)) &&
  decide (an ≤ c.available ar) &&
  need.all fun p => decide (p.2.2 ≤ if looks then c.unclaimed p.1 else c.available p.1) && decide (p.1 ≠ ar) && (afind c.rings p.1).any fun g =>
    (afind c.rings ar).any fun h => decide (p.2.1 = true → g.wide = true) && decide (s.half (coreOf s.cur) g.base ≠ s.half (coreOf s.cur) h.base)

theorem readerOkOf {s : State} {ar an : Nat} {need : List (Nat × Bool × Nat)} {looks : Bool} (h : readerOkB s ar an need looks = true) :
    ReaderOk s ar an need looks := by
  simp only [readerOkB, Bool.and_eq_true, List.all_eq_true, Option.any_eq_true, decide_eq_true_eq] at h
  obtain ⟨⟨h1, h2⟩, h3⟩ := h
  refine ⟨fun r hr => h1 r hr, h2, fun p hp => ?_⟩
  obtain ⟨⟨a, b⟩, g, hg, k, hk, c, d⟩ := h3 p hp
  exact ⟨a, b, g, k, hg, hk, c, d⟩

/-- `MetaOk` by evaluation. -/
theorem metaOkOf {u : Thread} {vm : BitVec 5} {h : Nat} (k : ((List.range 64).all fun r =>
    ((List.range (8 * h)).all fun q => decide (q + 1 < 8 * h → metaIdx u vm h r q < metaIdx u vm h r (q + 1))) &&
    (List.range h).all fun p => decide (lane (u.rv (vm + BitVec.ofNat 5 ((r * h + p) / 16))) 64 ((r * h + p) % 16) < 2 ^ 40)) = true) :
    MetaOk u vm h := by
  simp only [List.all_eq_true, Bool.and_eq_true, List.mem_range, decide_eq_true_eq] at k
  exact fun r hr => ⟨fun q hq => (k r hr).1 q (by omega) hq, fun p hp => (k r hr).2 p hp⟩

/-- The groups of a table that name a slot. -/
def naming (rows : List GroupRow) (n : Nat) : List GroupRow := rows.filter fun q => q.slot == n
/-- Those before the first that zeroes it. -/
def beforeZero (rows : List GroupRow) (n : Nat) : List GroupRow := (naming rows n).takeWhile fun q => !(q.clr && decide (0 < q.count))
/-- `GroupSlotsOk` by evaluation. -/
theorem groupSlotsOf {s : State} {rows : List GroupRow} {code : Nat} (k : (∀ n, n < 4 →
    ((∃ q ∈ beforeZero rows n, q.clr = false) → ((s.core (coreOf s.cur)).slotState n).2 = some s.th.asid) ∧
    ((∃ q ∈ naming rows n, q.clr = true ∧ 0 < q.count) → (s.core (coreOf s.cur)).mayZero n s.th.asid = true) ∧
    (((s.core (coreOf s.cur)).slotState n).1 = .empty ∨ ((s.core (coreOf s.cur)).slotState n).1 = kindOf code ∨
      ∀ q ∈ beforeZero rows n, q.count = 0)) := by decide +kernel) : GroupSlotsOk s rows code := k

/-- Words in the scratchpad of core 0. -/
def withSpad (s : State) (off : Nat) (ws : List Word) : State :=
  { s with mem := mwrites s.mem (spadBase 0 + off) (ws.flatMap fun w => leBytes w.toNat 8) }
/-- Core 0 changed, and x5 to x7 set. -/
def s0Core (f : Core → Core) (x5 x6 x7 : Word) : State :=
  { s0With fun t => { t with x := [(5, x5), (6, x6), (7, x7)], skew := [(0, 0x8000008000080000)] } with cores := [(0, f {})] }
/-- A ring of 16 KiB slots with tiles. -/
def ring (base slots tiles : Nat) : Ring :=
  { base := base, wide := false, slots := slots, owner := 0, head := 0, claim := 0, tail := BitVec.ofNat 32 tiles }
/-- An A ring and a B ring in different halves, one tile in each, and a slot of the card's. -/
def rings2 (c : Core) : Core := { c with rings := [(0, ring 0 1 1), (7, ring 0x82000 1 1)], accs := [(0, { owner := some 0 })] }
/-- A card of a group. -/
def cardG : Card := { newCard 0 [] 0x0003FFFF0000 0 0 0 with seat := some 0 }
/-- Its group. -/
def groupG (level : Nat) : Group := { level := level, cpc := 0, cgr := 7, rgd := 0, dgp := 0, pkgs := 0, podkey := 0, entry := 0, seats := [{ slot := 3, tid := 0, dg := 0, rg := 0, cg := 0, done := false }] }
/-- A queued matrix operation. -/
def matOp (k : MatKind) : MatOp := { id := 1, tid := 0, card := some 0, asid := 0, kind := k, ticket := some 0, gang := none, arrived := false, flags := 0 }
/-- An MMA of rings 0 and 7. -/
def mma7 : MmaOp := { fmt := 1, aring := 0, bring := 7, slot := 0, adir := false, bdir := false, atile := 0, btile := 0, sparse := false, keep := 64, bhalf := 0, popb := true, idx := [] }
/-- Core 0 with it at the head of its queue. -/
def s0Mat (k : MatKind) : State := s0Core (fun c => { rings2 c with mq := [matOp k] }) 0 0 0
/-- A vector of sixteen lanes, each naming the eight kept values 0 to 7. -/
def metaV : VWord := 0x398A418820000000398A418820000000398A418820000000398A418820000000398A418820000000398A418820000000398A418820000000398A418820000000398A418820000000398A418820000000398A418820000000398A418820000000398A418820000000398A418820000000398A418820000000398A418820

theorem wit_MatrixCommandsIssue_cfg (h : Obligations.MatrixCommandsIssue) : ∃ t, exec (.mringCfg 1 5 6) (s0Core id 7 0x0F0C0000 0) = .next t :=
  toNext ((h.1 1 5 6 (s0Core id 7 0x0F0C0000 0) (clearOf holds)).1 holds holds holds
    holds holds (fun _ k => nomatch k))

theorem wit_MatrixCommandsIssue_drop (h : Obligations.MatrixCommandsIssue) : ∃ t, exec (.mringDrop 1 5 6) (s0Core rings2 7 1 0) = .next t :=
  toNext ((h.1 1 5 6 (s0Core rings2 7 1 0) (clearOf holds)).2 holds holds ⟨_, rfl, rfl⟩ holds)

theorem wit_MatrixCommandsIssue_push (h : Obligations.MatrixCommandsIssue) : ∃ t, exec (.mringPush 1 5) (s0Core rings2 7 1 0) = .next t :=
  toNext ((h.2.1 1 5 (s0Core rings2 7 1 0) (clearOf holds)).1 (ring 0x82000 1 1) holds rfl rfl rfl rfl)

theorem wit_MatrixCommandsIssue_free (h : Obligations.MatrixCommandsIssue) : ∃ t, exec (.mringFree 1 5) (s0Core rings2 7 1 0) = .next t :=
  toNext ((h.2.1 1 5 (s0Core rings2 7 1 0) (clearOf holds)).2.1 holds holds ⟨_, rfl, rfl⟩)

theorem wit_MatrixCommandsIssue_read (h : Obligations.MatrixCommandsIssue) : ∃ t, exec (.mread 1 5) (s0Core rings2 0x110 1 0) = .next t :=
  toNext ((h.2.1 1 5 (s0Core rings2 0x110 1 0) (clearOf holds)).2.2.1 rfl rfl rfl holds rfl rfl)

theorem wit_MatrixCommandsIssue_gang (h : Obligations.MatrixCommandsIssue) : ∃ t, exec (.mgang 1 5)
  { s0With fun t => { t with card := some cardG, x := [(5, 1)] } with groups := [(3, groupG 2)] } = .next t :=
  toNext ((h.2.1 1 5 { s0With fun t => { t with card := some cardG, x := [(5, 1)] } with groups := [(3, groupG 2)] } (clearOf
    holds)).2.2.2 cardG (groupG 2) rfl rfl rfl holds holds holds)

theorem wit_MatrixCommandsIssue_zero (h : Obligations.MatrixCommandsIssue) : ∃ t, exec (.mzero 5) (s0Core id 15 0 0) = .next t :=
  toNext ((h.2.2.1 5 (s0Core id 15 0 0) (clearOf holds)).1 rfl holds holds)

theorem wit_MatrixCommandsIssue_wait1 (h : Obligations.MatrixCommandsIssue) : ∃ t, exec (.mwait 5) (s0Core id 0xFFFFFFFF 0 0) = .next t :=
  toNext ((h.2.2.1 5 (s0Core id 0xFFFFFFFF 0 0) (clearOf holds)).2.1 (Or.inl rfl))

theorem wit_MatrixCommandsIssue_wait2 (h : Obligations.MatrixCommandsIssue) : ∃ t, exec (.mwait 5) (s0Core (fun c =>
  { c with mq := [{ matOp (.zero 1) with ticket := some 1 }], ticket := 2 }) 0 0 0) = .next t :=
  toNext ((h.2.2.1 5 (s0Core (fun c => { c with mq := [{ matOp (.zero 1) with ticket := some 1 }], ticket := 2 }) 0 0 0) (clearOf
    holds)).2.1 (Or.inr ⟨holds, holds⟩))

theorem wit_MatrixCommandsIssue_wait3 (h : Obligations.MatrixCommandsIssue) : exec (.mwait 5) (s0Mat (.mma mma7)) = .next (s0Mat (.mma mma7)).setMark
  :=
  ((h.2.2.1 5 (s0Mat (.mma mma7)) (clearOf holds)).2.2.1 ⟨matOp (.mma mma7), List.mem_singleton.mpr rfl, rfl⟩).1

theorem wit_MatrixCommandsIssue_full (h : Obligations.MatrixCommandsIssue) : exec (.mzero 5) (s0Core (fun c =>
  { c with mq := List.replicate 16 (matOp (.zero 1)) }) 0 0 0) = .next (s0Core (fun c => { c with mq := List.replicate 16 (matOp (.zero 1)) }) 0 0 0)
  :=
  (h.2.2.1 5 (s0Core (fun c => { c with mq := List.replicate 16 (matOp (.zero 1)) }) 0 0 0) (clearOf holds)).2.2.2 holds

theorem wit_MatrixCommandsIssue_mma (h : Obligations.MatrixCommandsIssue) : ∃ t, exec (.mma 1 5) (s0Core rings2 0x70 0 0) = .next t :=
  toNext ((h.2.2.2.1 1 5 (s0Core rings2 0x70 0 0) rfl rfl holds holds holds rfl ⟨rfl, Or.inl rfl⟩).1
    (readerOkOf holds) rfl rfl)

theorem wit_MatrixCommandsIssue_sparse (h : Obligations.MatrixCommandsIssue) : ∃ t, exec (.mmaSp 1 5 28)
  { s0Core rings2 0x70 0 0 with threads := [(0, { th0 with x := [(5, 0x70)], skew := [(0, 0x8000008000080000)], v := [(28, metaV), (29, metaV), (30, metaV), (31, metaV)] })] }
  = .next t :=
  toNext2 ((h.2.2.2.1 1 5
    { s0Core rings2 0x70 0 0 with threads := [(0, { th0 with x := [(5, 0x70)], skew := [(0, 0x8000008000080000)], v := [(28, metaV), (29, metaV), (30, metaV), (31, metaV)] })] }
    rfl rfl holds holds holds rfl ⟨rfl, Or.inl rfl⟩).2 28 (readerOkOf holds)
    holds holds rfl holds (fun k => absurd k holds) holds fun _ => metaOkOf holds)

theorem wit_MatrixCommandsIssue_group (h : Obligations.MatrixCommandsIssue) : ∃ t, exec (.mgroup 1 5 6) (withSpad (s0Core rings2 0x1000 0x100 0) 0x100
  [1, 0x01070001]) = .next t :=
  toNext (h.2.2.2.2.1 1 5 6 (withSpad (s0Core rings2 0x1000 0x100 0) 0x100 [1, 0x01070001]) [0x01070001] holds holds
    holds holds holds holds holds holds holds
    holds holds holds holds (List.forall_mem_singleton.mpr holds)
    holds (readerOkOf holds) groupSlotsOf)

theorem wit_MatrixCommandsIssue_commit1 (h : Obligations.MatrixCommandsIssue) : ∃ t, exec (.mcommitVector 31 5) (s0Core (fun c =>
  { c with lands := [(1, { state := .full, owner := some 0 })] }) 0xFF03 0 0) = .next t :=
  toNext ((h.2.2.2.2.2 31 5 6 (s0Core (fun c => { c with lands := [(1, { state := .full, owner := some 0 })] }) 0xFF03 0 0) (clearOf
    holds) rfl rfl holds rfl rfl ⟨rfl, holds⟩).1 rfl holds holds (fun _ k =>
    nomatch k))

theorem wit_MatrixCommandsIssue_commit2 (h : Obligations.MatrixCommandsIssue) : ∃ t, exec (.mcommitScratchpad 5 6) (s0Core (fun c =>
  { c with lands := [(1, { state := .filling, owner := some 0 })] }) 1 0xFFF00 0) = .next t :=
  toNext ((h.2.2.2.2.2 31 5 6 (s0Core (fun c => { c with lands := [(1, { state := .filling, owner := some 0 })] }) 1 0xFFF00 0) (clearOf
    holds) rfl rfl holds rfl rfl ⟨rfl, holds⟩).2 rfl holds)

theorem wit_MatrixEngineSteps_mma (h : Obligations.MatrixEngineSteps) : ∃ t, exec (.matrixQueueExecute 0) (s0Mat (.mma mma7)) = .next t :=
  toNext (h.1 (s0Mat (.mma mma7)) 0 (matOp (.mma mma7)) [] mma7 (ring 0 1 1) (ring 0x82000 1 1) rfl rfl rfl (fun _ k => nomatch k) rfl holds
    rfl rfl holds holds (fun k => nomatch k))

theorem wit_MatrixEngineSteps_group (h : Obligations.MatrixEngineSteps) : ∃ t, exec (.matrixQueueExecute 0) (s0Mat (.group 6 0 false [⟨1, 7, 0, false,
  true⟩])) = .next t :=
  toNext (h.2.1 (s0Mat (.group 6 0 false [⟨1, 7, 0, false, true⟩])) 0 (matOp (.group 6 0 false [⟨1, 7, 0, false, true⟩])) [] 6 0 false ⟨1, 7, 0,
    false, true⟩ [] (ring 0 1 1) (ring 0x82000 1 1) rfl rfl rfl (fun _ k => nomatch k) rfl holds holds rfl rfl
    holds holds)

theorem wit_MatrixEngineSteps_read (h : Obligations.MatrixEngineSteps) : ∃ t, exec (.matrixQueueExecute 0) (s0Mat (.read 0 1 true)) = .next t :=
  toNext ((h.2.2.1 (s0Mat (.read 0 1 true)) 0 (matOp (.read 0 1 true)) [] rfl rfl (fun _ k => nomatch k)).1 0 1 true rfl)

theorem wit_MatrixEngineSteps_zero (h : Obligations.MatrixEngineSteps) : ∃ t, exec (.matrixQueueExecute 0) (s0Mat (.zero 15)) = .next t :=
  toNext ((h.2.2.1 (s0Mat (.zero 15)) 0 (matOp (.zero 15)) [] rfl rfl (fun _ k => nomatch k)).2.1 15 rfl)

theorem wit_MatrixEngineSteps_drop (h : Obligations.MatrixEngineSteps) : ∃ t, exec (.matrixQueueExecute 0) (s0Mat (.drop 7 1)) = .next t :=
  toNext ((h.2.2.1 (s0Mat (.drop 7 1)) 0 (matOp (.drop 7 1)) [] rfl rfl (fun _ k => nomatch k)).2.2.1 7 1 rfl)

theorem wit_MatrixEngineSteps_free (h : Obligations.MatrixEngineSteps) : ∃ t, exec (.matrixQueueExecute 0) (s0Mat (.free 7 5)) = .next t :=
  toNext ((h.2.2.1 (s0Mat (.free 7 5)) 0 (matOp (.free 7 5)) [] rfl rfl (fun _ k => nomatch k)).2.2.2 7 5 (ring 0x82000 1 1) rfl rfl)

/-- Eight cores of a row whose gang operations have arrived. -/
def s0Gang : State := { s0 with cores := (List.range 8).map fun i =>
  (i, { rings2 {} with mq := [{ matOp (.mma mma7) with gang := some (3, 0), arrived := true }] }) }

theorem wit_MatrixEngineSteps_gang (h : Obligations.MatrixEngineSteps) : ∃ t, exec (.gangClaspClose 0) s0Gang = .next t :=
  toNext (h.2.2.2.1 s0Gang 0 (fun _ => ({ matOp (.mma mma7) with gang := some (3, 0), arrived := true }, mma7)) (fun _ => (ring 0 1 1, ring 0x82000 1
    1)) (fun i hi => by interval_cases i <;> exact ⟨⟨[], rfl, fun _ k => nomatch k⟩, rfl, rfl, rfl, rfl, rfl, rfl, fun _ => ⟨rfl, by decide⟩,
    holds⟩) holds rfl)

theorem wit_MatrixEngineSteps_arrival (h : Obligations.MatrixEngineSteps) : ∃ t, exec (.matrixQueueExecute 0) (s0Core (fun c =>
  { rings2 c with mq := [{ matOp (.mma mma7) with gang := some (3, 0) }] }) 0 0 0) = .next t :=
  toNext (h.2.2.2.2.1 (s0Core (fun c => { rings2 c with mq := [{ matOp (.mma mma7) with gang := some (3, 0) }] }) 0 0 0) 0 3 0
    { matOp (.mma mma7) with gang := some (3, 0) } [] rfl rfl rfl (fun _ k => nomatch k) rfl)

theorem wit_MatrixEngineSteps_landing (h : Obligations.MatrixEngineSteps) : ∃ t, exec (.landingTransferDone 0 1) (s0Core (fun c =>
  { c with lands := [(1, { state := .moving, owner := some 0 })] }) 0 0 0) = .next t :=
  toNext (h.2.2.2.2.2 (s0Core (fun c => { c with lands := [(1, { state := .moving, owner := some 0 })] }) 0 0 0) 0 1 rfl)


end Sys2Proof.Tests
end

