-- ==== Sys2Proof/Tests/Witness4.lean ====
section
/-! SUPPORT. As Witness1: the network interface's commands, arrivals and copies. -/

namespace Sys2Proof.Tests

set_option Elab.async false

open Sys2Proof Sys2Proof.Machine

/-- Places before or after a range are kept apart from it. -/
theorem apartAll {s : State} (h : s.gcolNow = []) {c a n m : Nat} (k : c + m ≤ a ∨ a + n ≤ c) : ∀ i, i < m → Apart s (c + i) a n := by
  intro i hi j hj
  rw [keepAll h, keepAll h]
  omega

/-- x5 to x7 set. -/
def s0X (a b c : Word) : State := s0Core id a b c
/-- The handler card. -/
def cardH : Card := { card0 with hdr := 0x40, hdr0 := 0x40 }
/-- A command block at scratchpad offset 0x100. -/
def block4 (w0 w1 w2 w3 x6 : Word) : State := withSpad (s0X 0x100 x6 0) 0x100 [w0, w1, w2, w3]
/-- A direct gather's block. -/
def gathBlock : State := block4 0xFFFFFFFFFFF00000 0x60FFFFCFFFF8 0xF000000000000001 0 0
/-- A table-mode gather's block. -/
def gathTable : State := let s := block4 0 0x1CFFFF8FFFFF 0xF000000000000001 0 0
  s.setThread 0 { s.thread 0 with dist := [(3, 0x8000000000000000)] }
/-- A packet. -/
def pkt (kind : Nat) : Packet := { id := 9, arr := 0, kind := kind, pkg := 0, core := 0, tag := 63, reg := 7, mid := 0, hpc := 0x100, asid := 0, cls := 3,
                                   payload := List.replicate 48 1, tid := none, out := 0, rel := none, served := none }
/-- In the network, with core 0 as given. -/
def s0Net (p : Packet) (c : Core) : State := { s0 with net := [p], cores := [(0, c)], nextId := 10 }
/-- A copy of the last 64 bytes. -/
def cpy0 : CopyCmd := { id := 1, tid := 0, asid := 0, user := true, kind := .copy, dst := 0xFFFFFFFFFFFFFFC0, src := 0xFFFFFFFFFFF00000, len := 64, compl := 0,
                        objs := [], home := none, done := 0, run := 0, deliv := 0, fault := none, rel := none }
/-- Channel 15 with a command. -/
def s0Copy (c : CopyCmd) : State := { s0With fun t => { t with outs := [{ id := 1, kind := .ni, regs := [], vals := none, acq := none }] } with
  cores := [(0, { copies := [(15, { ip := 64, wp := 0, q := [c] })] })], nextId := 2 }

theorem wit_NetworkCommands_msend1 (h : Obligations.NetworkCommands) : ∃ t, exec (.msend 3 3 7 5 6) (s0X 0xFFF90 0x8E000000003F03FF 0x1000) = .next t
  :=
  toNext2 ((h.1 3 3 7 5 6 (s0X 0xFFF90 0x8E000000003F03FF 0x1000) (clearOf holds) holds holds).1
    holds holds holds holds holds holds |>.1 holds
    holds holds)

theorem wit_NetworkCommands_msend2 (h : Obligations.NetworkCommands) : ∃ t, exec (.msend 0 0 7 5 6) (s0X 0xFFFD0 0x66000000000003FF 0x1000) = .next t
  :=
  toNext2 ((h.1 0 0 7 5 6 (s0X 0xFFFD0 0x66000000000003FF 0x1000) (clearOf holds) holds holds).1
    holds holds holds holds holds holds |>.2 holds
    holds holds holds holds)

theorem wit_NetworkCommands_msend3 (h : Obligations.NetworkCommands) : ∃ t, exec (.msend 0 0 7 5 6) (s0With fun t =>
  { t with card := some cardH, x := [(5, 0xFFF90), (6, 0x8E000000003F03FF)] }) = .next t :=
  toNext2 ((h.1 0 0 7 5 6 (s0With fun t => { t with card := some cardH, x := [(5, 0xFFF90), (6, 0x8E000000003F03FF)] }) (clearOf holds)
    holds holds).1 holds holds holds holds holds
    holds |>.1 holds holds holds)

theorem wit_NetworkCommands_rwr (h : Obligations.NetworkCommands) : ∃ t, exec (.rwr 2 3 5 6) (s0X 0x073F03FF 7 0) = .next t :=
  toNext2 ((h.1 2 3 7 5 6 (s0X 0x073F03FF 7 0) (clearOf holds) holds holds).2 holds
    holds holds holds holds)

theorem wit_NetworkCommands_cpy1 (h : Obligations.NetworkCommands) : ∃ t, exec (.cpy 0 0 1 5) (block4 0xFFFFFFFFFFF10000 0xFFFFFFFFFFF00000
  0xF000000000010000 0x200000010 0) = .next t :=
  toNext2 ((h.2.1 0 0 1 5 6 (block4 0xFFFFFFFFFFF10000 0xFFFFFFFFFFF00000 0xF000000000010000 0x200000010 0) (clearOf holds)
    holds holds holds holds holds holds).1 holds
    |>.1 holds |>.1 holds)

theorem wit_NetworkCommands_cpy2 (h : Obligations.NetworkCommands) : ∃ t, exec (.cpy 0 0 1 5) (block4 0xFFFFFFFFFFF10000 0xFFFFFFFFFFF00000
  0xF000000000010000 0x600000010 0) = .next t :=
  toNext2 ((h.2.1 0 0 1 5 6 (block4 0xFFFFFFFFFFF10000 0xFFFFFFFFFFF00000 0xF000000000010000 0x600000010 0) (clearOf holds)
    holds holds holds holds holds holds).1 holds
    |>.1 holds |>.2 (block4 0xFFFFFFFFFFF10000 0xFFFFFFFFFFF00000 0xF000000000010000 0x600000010 0) (block4 0xFFFFFFFFFFF10000
    0xFFFFFFFFFFF00000 0xF000000000010000 0x600000010 0) 0 0 holds rfl rfl rfl rfl rfl rfl)

theorem wit_NetworkCommands_cpym (h : Obligations.NetworkCommands) : ∃ t, exec (.cpym 0 0 1 5 6) (block4 0xFFFC0 0xFFFFFFFFFFF00000 0xF000000000000040
  0x600000010 0xFFFFFFFFFFFFFFFF) = .next t :=
  toNext2 ((h.2.1 0 0 1 5 6 (block4 0xFFFC0 0xFFFFFFFFFFF00000 0xF000000000000040 0x600000010 0xFFFFFFFFFFFFFFFF) (clearOf holds)
    holds holds holds holds holds holds).1 holds
    |>.2 holds holds holds holds)

theorem wit_NetworkCommands_gath (h : Obligations.NetworkCommands) : ∃ t, exec (.gath 0 0 1 5) gathBlock = .next t :=
  toNext2 ((h.2.1 0 0 1 5 6 gathBlock (clearOf holds) holds holds holds holds
    holds holds).2 holds holds holds holds holds
    |>.1 holds holds holds holds holds holds |>.1)

theorem wit_NetworkCommands_scat (h : Obligations.NetworkCommands) : ∃ t, exec (.scat 0 0 1 5) gathBlock = .next t :=
  toNext2 ((h.2.1 0 0 1 5 6 gathBlock (clearOf holds) holds holds holds holds
    holds holds).2 holds holds holds holds holds
    |>.1 holds holds holds holds holds holds |>.2)

theorem wit_NetworkCommands_gathTable (h : Obligations.NetworkCommands) : ∃ t, exec (.gath 0 0 1 5) gathTable = .next t :=
  toNext2 ((h.2.1 0 0 1 5 6 gathTable (clearOf holds) holds holds holds holds
    holds holds).2 holds holds holds holds holds
    |>.2 holds holds holds holds holds holds holds
    holds |>.1)

theorem wit_NetworkCommands_scatTable (h : Obligations.NetworkCommands) : ∃ t, exec (.scat 0 0 1 5) gathTable = .next t :=
  toNext2 ((h.2.1 0 0 1 5 6 gathTable (clearOf holds) holds holds holds holds
    holds holds).2 holds holds holds holds holds
    |>.2 holds holds holds holds holds holds holds
    holds |>.2)

theorem wit_NetworkCommands_boinit (h : Obligations.NetworkCommands) : ∃ t, exec (.boinit 5 6) (s0X 0xFFFF0 0x7FFFFFFFFFFFFFFF 0) = .next t :=
  toNext ((h.2.2.1 0 0 1 5 6 (s0X 0xFFFF0 0x7FFFFFFFFFFFFFFF 0) (clearOf holds)).1 holds holds
    holds holds)

theorem wit_NetworkCommands_bowait1 (h : Obligations.NetworkCommands) : ∃ t, exec (.bowait 0 0 1 5) (withSpad (s0X 0xFFFF0 0 0) 0xFFFF0 [1,
  0x8000000000000001]) = .next t :=
  toNext ((h.2.2.1 0 0 1 5 6 (withSpad (s0X 0xFFFF0 0 0) 0xFFFF0 [1, 0x8000000000000001]) (clearOf holds)).2.1 holds |>.1
    holds holds)

theorem wit_NetworkCommands_bowait2 (h : Obligations.NetworkCommands) : exec (.bowait 0 0 1 5) (withSpad (s0X 0xFFFF0 0 0) 0xFFFF0 [2,
  0x8000000000000001]) = .next (withSpad (s0X 0xFFFF0 0 0) 0xFFFF0 [2, 0x8000000000000001]) :=
  ((h.2.2.1 0 0 1 5 6 (withSpad (s0X 0xFFFF0 0 0) 0xFFFF0 [2, 0x8000000000000001]) (clearOf holds)).2.1 holds |>.2
    holds)

theorem wit_NetworkCommands_wptr (h : Obligations.NetworkCommands) : ∃ t, exec (.wptr 1 5) (s0X 15 0 0) = .next t :=
  toNext ((h.2.2.1 0 0 1 5 6 (s0X 15 0 0) (clearOf holds)).2.2 holds)

theorem wit_NetworkCommands_trap1 (h : Obligations.NetworkCommands) : ∃ t, exec (.msend 0 0 1 5 6) (s0X 15 0 0) = .next t :=
  toNext ((h.2.2.2.2.2 0 0 1 5 6 (s0X 15 0 0) (clearOf holds) (canTrapOf holds)).1 holds |>.1)

theorem wit_NetworkCommands_trap2 (h : Obligations.NetworkCommands) : ∃ t, exec (.scat 0 0 1 5) (s0X 16 0 0) = .next t :=
  toNext ((h.2.2.2.2.2 0 0 1 5 6 (s0X 16 0 0) (clearOf holds) (canTrapOf holds)).2.1 holds |>.2.2.2)

theorem wit_NetworkCommands_trap3 (h : Obligations.NetworkCommands) : ∃ t, exec (.wptr 1 5) (s0X 16 0 0) = .next t :=
  toNext ((h.2.2.2.2.2 0 0 1 5 6 (s0X 16 0 0) (clearOf holds) (canTrapOf holds)).2.2.1 holds)

theorem wit_NetworkCommands_trap4 (h : Obligations.NetworkCommands) : ∃ t, exec (.boinit 5 6) (s0X 16 0x8000000000000000 0) = .next t :=
  toNext ((h.2.2.2.2.2 0 0 1 5 6 (s0X 16 0x8000000000000000 0) (clearOf holds) (canTrapOf holds)).2.2.2 holds
    holds)

/-- In a pod of one package. -/
def inPod1 (s : State) : State := { s with podcfg := 0x8000000000000000 }

/-- MSEND with a reserved bit, too long, of a handler at an odd address, and to a package outside the pod. -/
theorem wit_NetworkCommands_badMsend (h : Obligations.NetworkCommands) :
    (∃ t, exec (.msend 0 0 7 5 6) (s0X 0 0x8010000000000000 0) = .next t) ∧ (∃ t, exec (.msend 0 0 7 5 6) (s0X 0 0x8E20000000000000 0) = .next t) ∧
    (∃ t, exec (.msend 0 0 7 5 6) (s0X 0 0 2) = .next t) ∧ ∃ t, exec (.msend 0 0 7 5 6) (inPod1 (s0X 0 0x0000010000000000 0)) = .next t :=
  ⟨toNext ((h.2.2.2.1 0 0 7 5 6 (s0X 0 0x8010000000000000 0) (clearOf holds) (canTrapOf holds)).1 holds |>.1 holds),
   toNext ((h.2.2.2.1 0 0 7 5 6 (s0X 0 0x8E20000000000000 0) (clearOf holds) (canTrapOf holds)).1 holds |>.2.1 holds holds),
   toNext ((h.2.2.2.1 0 0 7 5 6 (s0X 0 0 2) (clearOf holds) (canTrapOf holds)).1 holds |>.2.2.1 holds holds holds),
   toNext ((h.2.2.2.1 0 0 7 5 6 (inPod1 (s0X 0 0x0000010000000000 0)) (clearOf holds) (canTrapOf holds)).1 holds |>.2.2.2 holds holds holds holds)⟩

/-- RWR with a reserved bit, and to a package outside the pod. -/
theorem wit_NetworkCommands_badRwr (h : Obligations.NetworkCommands) :
    (∃ t, exec (.rwr 0 0 5 6) (s0X 0x0010000000000000 0 0) = .next t) ∧ ∃ t, exec (.rwr 0 0 5 6) (inPod1 (s0X 0x0000010000000000 0 0)) = .next t :=
  ⟨toNext ((h.2.2.2.1 0 0 7 5 6 (s0X 0x0010000000000000 0 0) (clearOf holds) (canTrapOf holds)).2.1 holds),
   toNext ((h.2.2.2.1 0 0 7 5 6 (inPod1 (s0X 0x0000010000000000 0 0)) (clearOf holds) (canTrapOf holds)).2.2 holds holds)⟩

/-- A copy of 64 bytes whose destination lies in HBM and whose object is to lie there. -/
def cpyHbm : State := withSpad { s0Paged 0x100 0 false with mem := (s0Paged 0 0 false).mem } 0x100 [0x10000, 0xFFFFFFFFFFF00000, 64, 0x600000000]

/-- Once its first and its last byte have been translated. -/
def cpyHbm1 : State := (cpyHbm.destCore 0x10000).1
def cpyHbm2 : State := (cpyHbm1.destCore 0x1003F).1

/-- CPY with a reserved bit, a misaligned object, ranges that meet, and a destination in no scratchpad. -/
theorem wit_NetworkCommands_badCpy (h : Obligations.NetworkCommands) :
    (∃ t, exec (.cpy 0 0 1 5) (block4 0 0 0x10000000000 0 0) = .next t) ∧ (∃ t, exec (.cpy 0 0 1 5) (block4 0 0 0 15 0) = .next t) ∧
    (∃ t, exec (.cpy 0 0 1 5) (block4 0xFFFFFFFFFFF00000 0xFFFFFFFFFFF0003F 64 0 0) = .next t) ∧ ∃ t, exec (.cpy 0 0 1 5) cpyHbm = .next t :=
  ⟨toNext ((h.2.2.2.2.1 0 0 1 5 6 (block4 0 0 0x10000000000 0 0) (clearOf holds) (canTrapOf holds) holds holds).1 |>.1 holds),
   toNext ((h.2.2.2.2.1 0 0 1 5 6 (block4 0 0 0 15 0) (clearOf holds) (canTrapOf holds) holds holds).1 |>.2.1 holds holds holds),
   toNext ((h.2.2.2.2.1 0 0 1 5 6 (block4 0xFFFFFFFFFFF00000 0xFFFFFFFFFFF0003F 64 0 0) (clearOf holds) (canTrapOf holds) holds holds).1 |>.2.2.1
     holds holds holds holds holds holds),
   toNext ((h.2.2.2.2.1 0 0 1 5 6 cpyHbm (clearOf holds) (canTrapOf holds) holds holds).1 |>.2.2.2 cpyHbm1 cpyHbm2 .other .other holds holds holds
     holds holds holds holds holds nofun nofun nofun nofun (fun _ _ k => nomatch k.1) (canTrapOf holds) holds)⟩

/-- CPYM with a reserved bit, a misaligned object, a destination beyond the scratchpad, and no core named. -/
theorem wit_NetworkCommands_badCpym (h : Obligations.NetworkCommands) :
    (∃ t, exec (.cpym 0 0 1 5 6) (block4 0x100000 0 0 0 1) = .next t) ∧ (∃ t, exec (.cpym 0 0 1 5 6) (block4 0 0 0 1 1) = .next t) ∧
    (∃ t, exec (.cpym 0 0 1 5 6) (block4 0xFFFFF 0 2 0 1) = .next t) ∧ ∃ t, exec (.cpym 0 0 1 5 6) (block4 0 0 0 0 0) = .next t :=
  ⟨toNext ((h.2.2.2.2.1 0 0 1 5 6 (block4 0x100000 0 0 0 1) (clearOf holds) (canTrapOf holds) holds holds).2.1 |>.1 holds),
   toNext ((h.2.2.2.2.1 0 0 1 5 6 (block4 0 0 0 1 1) (clearOf holds) (canTrapOf holds) holds holds).2.1 |>.2.1 holds holds),
   toNext ((h.2.2.2.2.1 0 0 1 5 6 (block4 0xFFFFF 0 2 0 1) (clearOf holds) (canTrapOf holds) holds holds).2.1 |>.2.2.1 holds holds holds),
   toNext ((h.2.2.2.2.1 0 0 1 5 6 (block4 0 0 0 0 0) (clearOf holds) (canTrapOf holds) holds holds).2.1 |>.2.2.2 holds holds holds holds)⟩

/-- GATH with a reserved bit, by a DIST register that is not valid, with a misaligned object, index or place, and with more than 2^20 elements. -/
theorem wit_NetworkCommands_badGath (h : Obligations.NetworkCommands) :
    (∃ t, exec (.gath 0 0 1 5) (block4 0 0x800000000000 0 0 0) = .next t) ∧ (∃ t, exec (.gath 0 0 1 5) (block4 0 0x100000000000 0 0 0) = .next t) ∧
    (∃ t, exec (.gath 0 0 1 5) (block4 0 0 0 1 0) = .next t) ∧ (∃ t, exec (.gath 0 0 1 5) (block4 0 0x200000 0 0 0) = .next t) ∧
    (∃ t, exec (.gath 0 0 1 5) (block4 0 0x600000000004 0 0 0) = .next t) ∧ ∃ t, exec (.gath 0 0 1 5) (block4 0 0 0x100001 0 0) = .next t :=
  ⟨toNext ((h.2.2.2.2.1 0 0 1 5 6 (block4 0 0x800000000000 0 0 0) (clearOf holds) (canTrapOf holds) holds holds).2.2 _ (by simp) |>.1 holds),
   toNext ((h.2.2.2.2.1 0 0 1 5 6 (block4 0 0x100000000000 0 0 0) (clearOf holds) (canTrapOf holds) holds holds).2.2 _ (by simp) |>.2.1 holds holds),
   toNext ((h.2.2.2.2.1 0 0 1 5 6 (block4 0 0 0 1 0) (clearOf holds) (canTrapOf holds) holds holds).2.2 _ (by simp) |>.2.2.1 holds holds holds),
   toNext ((h.2.2.2.2.1 0 0 1 5 6 (block4 0 0x200000 0 0 0) (clearOf holds) (canTrapOf holds) holds holds).2.2 _ (by simp) |>.2.2.2.1 holds holds
     holds holds),
   toNext ((h.2.2.2.2.1 0 0 1 5 6 (block4 0 0x600000000004 0 0 0) (clearOf holds) (canTrapOf holds) holds holds).2.2 _ (by simp) |>.2.2.2.2.1 holds
     holds holds holds holds),
   toNext ((h.2.2.2.2.1 0 0 1 5 6 (block4 0 0 0x100001 0 0) (clearOf holds) (canTrapOf holds) holds holds).2.2 _ (by simp) |>.2.2.2.2.2 holds
     holds holds holds holds holds)⟩

theorem wit_NetworkArrivals_tagged (h : Obligations.NetworkArrivals) : ∃ t, exec (.taggedPacketArrival 9) (s0Net (pkt 6) { tags := [(63, 0)] }) =
  .next t :=
  toNext ((h.1 (s0Net (pkt 6) { tags := [(63, 0)] }) (pkt 6) rfl rfl holds rfl).1 0 0 holds rfl rfl holds holds card0 rfl holds)

theorem wit_NetworkArrivals_inbox (h : Obligations.NetworkArrivals) : ∃ t, exec (.taggedPacketArrival 9) (s0Net (pkt 1) {}) = .next t :=
  toNext ((h.1 (s0Net (pkt 1) {}) (pkt 1) rfl rfl holds rfl).2.1 holds rfl rfl holds)

theorem wit_NetworkArrivals_active (h : Obligations.NetworkArrivals) : ∃ t, exec (.activeMessageArrival 9) (s0Net (pkt 0) {}) = .next t :=
  toNext ((h.1 (s0Net (pkt 0) {}) (pkt 0) rfl rfl holds rfl).2.2.1 rfl rfl holds)

theorem wit_NetworkArrivals_rwr (h : Obligations.NetworkArrivals) : ∃ t, exec (.rwrArrival 9) (s0Net (pkt 2) { tags := [(63, 0)] }) = .next t :=
  toNext ((h.1 (s0Net (pkt 2) { tags := [(63, 0)] }) (pkt 2) rfl rfl holds rfl).2.2.2 0 0 rfl rfl rfl holds holds holds rfl)

theorem wit_NetworkArrivals_away (h : Obligations.NetworkArrivals) : ∃ t, exec (.sendAccepted 9) (s0Net { pkt 1 with pkg := 1 } {}) = .next t :=
  toNext (h.2.1 (s0Net { pkt 1 with pkg := 1 } {}) { pkt 1 with pkg := 1 } rfl holds holds holds)

theorem wit_NetworkArrivals_accepted (h : Obligations.NetworkArrivals) : ∃ t, exec (.sendAccepted 9) (s0With fun t =>
  { t with outs := [{ id := 9, kind := .ni, regs := [], vals := some [], acq := none }] }) = .next t :=
  toNext (h.2.2.1 (s0With fun t => { t with outs := [{ id := 9, kind := .ni, regs := [], vals := some [], acq := none }] }) 9 0 _ rfl rfl)

theorem wit_NetworkArrivals_replay (h : Obligations.NetworkArrivals) : ∃ t, exec (.heapReplay 1023) { s0 with cores := [(1023, { heap := [pkt 1] })] }
  = .next t :=
  toNext (h.2.2.2.1 { s0 with cores := [(1023, { heap := [pkt 1] })] } 1023 (pkt 1) [] rfl holds (Or.inr rfl))

theorem wit_NetworkArrivals_handler1 (h : Obligations.NetworkArrivals) : ∃ t, exec (.handlerTrigger 0)
  { s0 with cores := [(0, { inbox := [pkt 0] })] } = .next t :=
  toNext ((h.2.2.2.2.1 { s0 with cores := [(0, { inbox := [pkt 0] })] } 0 (pkt 0) holds rfl).1 rfl)

theorem wit_NetworkArrivals_handler2 (h : Obligations.NetworkArrivals) : ∃ t, exec (.handlerTrigger 0)
  { s0 with cores := [(0, { inbox := [pkt 0] })], roots := [(0, 0x8000000000040000)] } = .next t :=
  toNext2 ((h.2.2.2.2.1 { s0 with cores := [(0, { inbox := [pkt 0] })], roots := [(0, 0x8000000000040000)] } 0 (pkt 0) holds rfl).2 rfl
    holds holds)

theorem wit_NetworkArrivals_retry (h : Obligations.NetworkArrivals) : ∃ t, exec (.handlerPushRetry 0)
  { s0 with cores := [(0, { building := [cardH] })] } = .next t :=
  toNext (h.2.2.2.2.2.1 { s0 with cores := [(0, { building := [cardH] })] } 0 cardH [] rfl holds)

theorem wit_NetworkArrivals_aborted (h : Obligations.NetworkArrivals) : ∃ t, exec (.abortedHandlerPush 0) (s0With fun t =>
  { t with card := some cardH, aborted := true }) = .next t :=
  toNext (h.2.2.2.2.2.2 (s0With fun t => { t with card := some cardH, aborted := true }) 0 cardH rfl rfl holds)

theorem wit_CopySteps_copy (h : Obligations.CopySteps) : ∃ t, exec (.copyChunkDone 0 15) (s0Copy cpy0) = .next t :=
  toNext (((h (s0Copy cpy0) (s0Copy cpy0) _ 0 15 cpy0 [] (spadBase 0) (spadBase 0 + 0xFFFC0) _ _ .own .own rfl rfl rfl rfl rfl rfl rfl rfl rfl rfl
    holds rfl holds holds).1 64 0 holds rfl holds holds rfl rfl holds).1 rfl rfl
    holds rfl holds |>.1 (Or.inl rfl))

theorem wit_CopySteps_object (h : Obligations.CopySteps) : ∃ t, exec (.copyChunkDone 0 15) (s0Copy { cpy0 with objs := [spadBase 0 + 0x10] }) = .next
  t :=
  toNext (((h (s0Copy { cpy0 with objs := [spadBase 0 + 0x10] }) (s0Copy { cpy0 with objs := [spadBase 0 + 0x10] }) _ 0 15 { cpy0 with objs := [spadBase 0 + 0x10] } [] (spadBase 0) (spadBase 0 + 0xFFFC0) _ _ .own .own rfl rfl rfl
    rfl rfl rfl rfl rfl rfl rfl holds rfl holds holds).1 64 0 holds rfl holds holds rfl rfl holds).1 rfl rfl holds rfl holds |>.2 0x10 rfl holds holds holds (apartAll rfl
    holds) holds)

theorem wit_CopySteps_multi (h : Obligations.CopySteps) : ∃ t, exec (.copyChunkDone 0 15) (s0Copy
  { cpy0 with kind := .multi 0x8000000000000001, dst := 0xFFFC0 }) = .next t :=
  toNext (((h (s0Copy { cpy0 with kind := .multi 0x8000000000000001, dst := 0xFFFC0 }) (s0Copy
    { cpy0 with kind := .multi 0x8000000000000001, dst := 0xFFFC0 }) s0 0 15 { cpy0 with kind := .multi 0x8000000000000001, dst := 0xFFFC0 } []
    (spadBase 0) 0 _ 0 .own .own rfl rfl rfl rfl rfl rfl rfl rfl rfl rfl holds rfl holds holds).1 64 0 holds rfl holds holds rfl rfl holds).2 _ rfl rfl holds rfl holds)

theorem wit_CopySteps_fault (h : Obligations.CopySteps) : ∃ t, exec (.copyChunkDone 0 15) (s0Copy { cpy0 with src := 0x0040000000000000 }) = .next t
  :=
  toNext ((h (s0Copy { cpy0 with src := 0x0040000000000000 }) (s0Copy { cpy0 with src := 0x0040000000000000 }) s0 0 15
    { cpy0 with src := 0x0040000000000000 } [] 0 0 0 0 .own .own rfl rfl rfl rfl rfl rfl rfl rfl rfl rfl holds rfl holds
    holds).2.1 64 0 2 holds rfl holds holds rfl rfl holds rfl rfl rfl)

theorem wit_CopySteps_gather (h : Obligations.CopySteps) : ∃ t, exec (.gatherElementLand 0 15) (s0Copy
  { cpy0 with kind := .gather 0x100 3 none, dst := 0xFFFF8, len := 8 }) = .next t :=
  toNext (((h (s0Copy { cpy0 with kind := .gather 0x100 3 none, dst := 0xFFFF8, len := 8 }) (s0Copy
    { cpy0 with kind := .gather 0x100 3 none, dst := 0xFFFF8, len := 8 }) s0 0 15 { cpy0 with kind := .gather 0x100 3 none, dst := 0xFFFF8, len := 8 }
    [] (spadBase 0) 0 _ 0 .own .own rfl rfl rfl rfl rfl rfl rfl rfl rfl rfl holds rfl holds holds).2.2 0x100 3
    holds rfl holds holds holds holds holds).1 rfl |>.1 holds rfl rfl rfl holds)

theorem wit_CopySteps_gatherFault (h : Obligations.CopySteps) : ∃ t, exec (.gatherElementLand 0 15) (s0Copy
  { cpy0 with kind := .gather 0x100 3 none, dst := 0xFFFF0, src := 0xFFFFFFFFFFF00001, len := 16 }) = .next t :=
  toNext2 (((h (s0Copy { cpy0 with kind := .gather 0x100 3 none, dst := 0xFFFF0, src := 0xFFFFFFFFFFF00001, len := 16 }) s0 s0 0 15
    { cpy0 with kind := .gather 0x100 3 none, dst := 0xFFFF0, src := 0xFFFFFFFFFFF00001, len := 16 } [] 0 0 0 0 .own .own rfl rfl rfl rfl rfl rfl rfl rfl rfl
    rfl holds rfl holds holds).2.2 0x100 3 holds rfl holds holds
    holds holds holds).1 rfl |>.2 holds holds)

theorem wit_CopySteps_scatter (h : Obligations.CopySteps) : ∃ t, exec (.scatterElementAck 0 15) (s0Copy
  { cpy0 with kind := .scatter 0x100 3 none, dst := 0xFFFF8, len := 8 }) = .next t :=
  toNext (((h (s0Copy { cpy0 with kind := .scatter 0x100 3 none, dst := 0xFFFF8, len := 8 }) (s0Copy
    { cpy0 with kind := .scatter 0x100 3 none, dst := 0xFFFF8, len := 8 }) s0 0 15
    { cpy0 with kind := .scatter 0x100 3 none, dst := 0xFFFF8, len := 8 } [] 0 (spadBase 0) 0 _ .own .own rfl rfl rfl rfl rfl rfl rfl rfl rfl rfl
    holds rfl holds holds).2.2 0x100 3 holds rfl holds holds
    holds holds holds).2 rfl holds rfl holds rfl holds)


end Sys2Proof.Tests
end

