-- ==== Sys2Proof/Tests/Witness5.lean ====
section
/-! SUPPORT. As Witness1: gallery atomics and queues, bead queues and indices. -/

namespace Sys2Proof.Tests

set_option Elab.async false

open Sys2Proof Sys2Proof.Machine

/-- A pair by its second component. -/
theorem pairOf {α β : Type} {r : α × β} {b : β} (h : r.2 = b) : r = (r.1, b) := by rw [← h]
/-- Where a bead command's address leads, by evaluation. -/
def beadAtB (x : BeadAt) (a : Nat) : Bool := match x with
  | .at_ b false => a == b
  | _ => false
theorem beadAtOf {r : State × BeadAt} {a : Nat} (h : beadAtB r.2 a = true) : r = (r.1, .at_ a false) := by
  obtain ⟨s, x⟩ := r
  cases x with
  | at_ b l => cases l <;> simp_all [beadAtB]
  | _ => simp [beadAtB] at h
/-- The one command that waits at a descriptor. -/
theorem waitingOne {s : State} {a : Nat} {o : BankOp} (h : (s.bank.filter fun o => match o.arr with
    | some (_, b) => b == a
    | none => false) = [o]) : s.waiting a = [o] :=
  (congrArg (fun l : List BankOp => List.mergeSort l fun p q : BankOp => decide ((p.arr.getD (0, 0)).1 ≤ (q.arr.getD (0, 0)).1)) h).trans (List.mergeSort_singleton _)

/-- Whether an access leads to another package. -/
def farB (x : Access) : Bool := match x with
  | .at_ (.far _) _ _ => true
  | _ => false
/-- `StaysHere` by evaluation. -/
theorem staysOf {s : State} {va : Word} {n : Nat}
    (h : farB (s.reachAs (coreOf s.cur) s.th.asid (!s.th.steward) va n { r := true, w := true }).2 = false := by decide +kernel) :
    s.StaysHere va n := fun pa path p k => by rw [k] at h; cases h
/-- With no PFLUSH none is completed. -/
theorem noFlush {s : State} {id : Nat} (h : s.flushes = [] := by decide +kernel) : s.FlushesWait id := fun f k => by rw [h] at k; cases k

/-- A translation of the virtual page 0x10000 to the first page of a gallery. -/
def galTlb : TlbEntry := { shared := false, owner := 0, asid := 0, vbase := 1, bits := 16, pte := 0xE00000019F, at_ := 0x60008 }
/-- With it a thread set waits for a command's result in x1. -/
def s0Gal (kind : OutKind) (d : List Byte) : State := { s0 with
  tlb := [galTlb]
  mem := mwrites [] galleryBase d
  threads := [(0, { th0 with outs := [{ id := 1, kind := kind, regs := [1], vals := none, acq := none }] })]
  nextId := 2 }
/-- A command at a bank. -/
def bankOp (k : BankKind) (addr : Word) : BankOp :=
  { id := 1, tid := 0, asid := 0, user := true, kind := k, addr := addr, rel := none, arr := none, sent := false }
/-- On its way. -/
def s0Atomic (o : BankOp) (d : List Byte) : State := { s0Gal .gallery d with bank := [o] }
/-- Arrived at the descriptor. -/
def atQueue (k : BankKind) : BankOp := { bankOp k 0x10000 with arr := some (0, galleryBase) }
/-- A queue's descriptor: SENT 7, two entries at offset 0x1000, notifying, and its counters. -/
def queueBytes (head tail : Nat) (bad : Nat) : List Byte :=
  leBytes 7 8 ++ leBytes (1 + bad * 32 + 5 * 2 ^ 32 + 63 * 2 ^ 42 + 2 ^ 63) 8 ++ leBytes 0x1000 8 ++ leBytes head 4 ++ leBytes tail 4
/-- A queue's step. -/
def s0Queue (k : BankKind) (d : List Byte) : State := { s0Gal .gallery d with bank := [atQueue k] }
/-- A bead. -/
def bead0 : Bead := { key := 1, val := 2, round := 6, mult := 3 }
/-- A queue's descriptor with producer 15 registered. -/
def q0 : BeadQ := { qid := 0xFFFF, qidx := 7, v := true, logcap := 8, base := 1, poff := 0x40, pending := 1, inhand := 0, hround := 0, pmask := 0x8000,
                    fulls := 0, frontier := 5, cancels := 0, pushes := 0, rounds := List.replicate 15 0 ++ [5] }
/-- A bead command on its way. -/
def beadOp (k : BeadKind) : BeadOp := { id := 1, tid := 0, asid := 0, user := true, addr := 0x10000, kind := k, rel := none }
/-- To the queue, with its pending beads. -/
def s0Bead (k : BeadKind) (q : BeadQ) (l : List Bead) : State := { s0Gal .bead q.bytes with beadOps := [beadOp k], beads := [(galleryBase, l)] }
/-- To an index of one entry for key 1, its default 9 and its number of entries. -/
def s0Index (k : BeadKind) (count : Nat) : State := { s0Gal .bead (leBytes 9 8 ++ leBytes (2 ^ 44 + 8 * 2 ^ 39) 8 ++ leBytes count 4) with
  beadOps := [beadOp k], indices := [(galleryBase, [(1, 4)])] }

theorem wit_GalleryAtomics_issue1 (h : Obligations.GalleryAtomics) : ∃ t, exec (.gadd 3 2 1 5 6) (s0X 0xFFFFFFFFFFFFFFF9 7 4) = .next t :=
  toNext (((h.1 3 2 1 5 6 (s0X 0xFFFFFFFFFFFFFFF9 7 4) (clearOf holds)).1 (.gadd, .add) (by simp [galleryRows])).1 holds
    holds (Or.inr staysOf) holds (fun k => nomatch k))

theorem wit_GalleryAtomics_issue0 (h : Obligations.GalleryAtomics) : ∃ t, exec (.gmax 0 0 0 5 6) (s0X 0xFFFFFFFFFFFFFFF9 7 4) = .next t :=
  toNext (((h.1 0 0 0 5 6 (s0X 0xFFFFFFFFFFFFFFF9 7 4) (clearOf holds)).1 (.gmax, .max) (by simp [galleryRows])).1 holds
    holds (Or.inl ⟨rfl, holds⟩) holds (fun k => nomatch k))

theorem wit_GalleryAtomics_issue2 (h : Obligations.GalleryAtomics) : ∃ t, exec (.gfadd 0 0 1 5 6) (s0X 0xFFFFFFFFFFFFFFFE 7 4) = .next t :=
  toNext (((h.1 0 0 1 5 6 (s0X 0xFFFFFFFFFFFFFFFE 7 4) (clearOf holds)).1 (.gfadd, .fadd) (by simp [galleryRows])).1 holds
    holds (Or.inr staysOf) holds (fun _ => holds))

theorem wit_GalleryAtomics_issue3 (h : Obligations.GalleryAtomics) : ∃ t, exec (.gcas 0 0 1 5 6) (s0X 4 7 4) = .next t :=
  toNext (((h.1 0 0 1 5 6 (s0X 4 7 4) (clearOf holds)).1 (.gcas, .cas) (by simp [galleryRows])).2.2.1 (canTrapOf holds)
    holds)

theorem wit_GalleryAtomics_issue4 (h : Obligations.GalleryAtomics) : ∃ t, exec (.gfadd 0 0 1 5 6) (s0X 1 7 4) = .next t :=
  toNext (((h.1 0 0 1 5 6 (s0X 1 7 4) (clearOf holds)).1 (.gfadd, .fadd) (by simp [galleryRows])).2.2.2 (canTrapOf holds)
    holds rfl holds)

theorem wit_GalleryAtomics_issue5 (h : Obligations.GalleryAtomics) : ∃ t, exec (.gqpush 0 0 1 5 6) (s0X 0xFFFFFFFFFFFFFFC0 7 4) = .next t :=
  toNext (((h.1 0 0 1 5 6 (s0X 0xFFFFFFFFFFFFFFC0 7 4) (clearOf holds)).2.1 holds holds holds).1)

theorem wit_GalleryAtomics_issue6 (h : Obligations.GalleryAtomics) : ∃ t, exec (.gqpop 0 0 1 5) (s0X 32 7 4) = .next t :=
  toNext (((h.1 0 0 1 5 6 (s0X 32 7 4) (clearOf holds)).2.2 (canTrapOf holds) holds).2)

/-- With the page in another package's gallery, a Tamgon link to it trained. -/
def s0Far : State := { s0X 0x10002 7 4 with
  tlb := [{ galTlb with pte := 0x1E00000019F }], podcfg := 0x8000000000001000, tlinks := [(0, { state := 2, peer := 1, met := true })] }

theorem wit_GalleryAtomics_far (h : Obligations.GalleryAtomics) : ∃ t, exec (.gadd 1 0 1 5 6) s0Far = .next t :=
  toNext2 (((h.1 1 0 1 5 6 s0Far (clearOf holds)).1 (.gadd, .add) (by simp [galleryRows])).2.1
    (s0Far.reachAs 0 0 true 0x10000 4 { r := true, w := true }).1 0x1E000000000 0x1E000000000 .plain (pairOf holds) holds holds holds
    (fun k => nomatch k) (Or.inl holds) holds rfl holds holds ⟨(0, { state := 2, peer := 1, met := true }), holds, rfl, rfl, holds⟩)

theorem wit_GalleryAtomics_bank (h : Obligations.GalleryAtomics) : ∃ t, exec (.galleryBankOperation 1) (s0Atomic (bankOp (.atomic .min 2 0x80000000 0)
  0x1FFFC) []) = .next t :=
  toNext (h.2.1 (s0Atomic (bankOp (.atomic .min 2 0x80000000 0) 0x1FFFC) []) ((s0Atomic (bankOp (.atomic .min 2 0x80000000 0) 0x1FFFC) []).reachAs 0 0
    true 0x1FFFC 4 { r := true, w := true }).1 (bankOp (.atomic .min 2 0x80000000 0) 0x1FFFC) .min 2 0x80000000 0 0xE00000FFFC 0xE00000FFFC .plain rfl
    rfl rfl rfl rfl rfl rfl (pairOf holds) holds holds holds noFlush holds)

theorem wit_GalleryAtomics_bad (h : Obligations.GalleryAtomics) : ∃ t, exec (.galleryQueueStep 1) (s0Queue (.pop) (queueBytes 0 0 1)) = .next t :=
  toNext ((h.2.2.1 (s0Queue (.pop) (queueBytes 0 0 1)) (atQueue (.pop)) 0 galleryBase [] rfl rfl (waitingOne holds) (fun _ k => nomatch
    k) holds holds noFlush).1 holds |>.2.2 rfl rfl holds)

theorem wit_GalleryAtomics_pop1 (h : Obligations.GalleryAtomics) : ∃ t, exec (.galleryQueueStep 1) (s0Queue (.pop) (queueBytes 5 5 0)) = .next t :=
  toNext ((h.2.2.1 (s0Queue (.pop) (queueBytes 5 5 0)) (atQueue (.pop)) 0 galleryBase [] rfl rfl (waitingOne holds) (fun _ k => nomatch
    k) holds holds noFlush).2.1 rfl rfl holds rfl)

theorem wit_GalleryAtomics_pop2 (h : Obligations.GalleryAtomics) : ∃ t, exec (.galleryQueueStep 1) (s0Queue (.pop) (queueBytes 0xFFFFFFFF 1 0)) =
  .next t :=
  toNext ((h.2.2.1 (s0Queue (.pop) (queueBytes 0xFFFFFFFF 1 0)) (atQueue (.pop)) 0 galleryBase [] rfl rfl (waitingOne holds) (fun _ k =>
    nomatch k) holds holds noFlush).2.1 rfl rfl holds rfl)

theorem wit_GalleryAtomics_push1 (h : Obligations.GalleryAtomics) : ∃ t, exec (.galleryQueueStep 1) (s0Queue (.push 7) (queueBytes 0 2 0)) = .next t
  :=
  toNext ((h.2.2.1 (s0Queue (.push 7) (queueBytes 0 2 0)) (atQueue (.push 7)) 0 galleryBase [] rfl rfl (waitingOne holds) (fun _ k =>
    nomatch k) holds holds noFlush).2.2 7 rfl rfl holds rfl |>.1 holds)

theorem wit_GalleryAtomics_push2 (h : Obligations.GalleryAtomics) : ∃ t, exec (.galleryQueueStep 1) (s0Queue (.push 8) (queueBytes 0xFFFFFFFF 1 0)) =
  .next t :=
  toNext ((h.2.2.1 (s0Queue (.push 8) (queueBytes 0xFFFFFFFF 1 0)) (atQueue (.push 8)) 0 galleryBase [] rfl rfl (waitingOne holds) (fun
    _ k => nomatch k) holds holds noFlush).2.2 8 rfl rfl holds rfl |>.2.1 holds holds)

theorem wit_GalleryAtomics_push3 (h : Obligations.GalleryAtomics) : ∃ t, exec (.galleryQueueStep 1) (s0Queue (.push 8) (queueBytes 0xFFFFFFFF
  0xFFFFFFFF 0)) = .next t :=
  toNext ((h.2.2.1 (s0Queue (.push 8) (queueBytes 0xFFFFFFFF 0xFFFFFFFF 0)) (atQueue (.push 8)) 0 galleryBase [] rfl rfl (waitingOne
    holds) (fun _ k => nomatch k) holds holds noFlush).2.2 8 rfl rfl holds rfl |>.2.2 holds
    holds holds holds holds holds)

/-- The pop of a queue that a locket covers, or a held line. -/
def s0Barred (locket : Bool) : State :=
  let s := s0Queue .pop (queueBytes 0 1 0)
  if locket then { s with lockets := [(0, { base := galleryBase, len := 65536, digest := [] })] } else { s with held := [(galleryBase, 64)] }

theorem wit_GalleryAtomics_locket (h : Obligations.GalleryAtomics) : ∃ t, exec (.galleryQueueStep 1) (s0Barred true) = .next t :=
  toNext ((h.2.2.1 (s0Barred true) (atQueue .pop) 0 galleryBase [] rfl rfl (waitingOne holds) (fun _ k => nomatch k) holds holds noFlush).1 holds
    |>.1 holds)

theorem wit_GalleryAtomics_held (h : Obligations.GalleryAtomics) : ∃ t, exec (.galleryQueueStep 1) (s0Barred false) = .next t :=
  toNext ((h.2.2.1 (s0Barred false) (atQueue .pop) 0 galleryBase [] rfl rfl (waitingOne holds) (fun _ k => nomatch k) holds holds noFlush).1 holds
    |>.2.1 holds holds)

theorem wit_GalleryAtomics_return (h : Obligations.GalleryAtomics) : ∃ t, exec (.resultReturn 0 1) (s0With fun t =>
  { t with outs := [{ id := 1, kind := .gallery, regs := [31], vals := some [9], acq := some 0 }] }) = .next t :=
  toNext (h.2.2.2 (s0With fun t => { t with outs := [{ id := 1, kind := .gallery, regs := [31], vals := some [9], acq := some 0 }] }) 0
    { id := 1, kind := .gallery, regs := [31], vals := some [9], acq := some 0 } 9 rfl rfl rfl 31 rfl)

theorem wit_BeadCommands_push (h : Obligations.BeadCommands) : ∃ t, exec (.bpush 2 3 1 5 6) (s0X 0xFFFFFFFFFFFFFF8F 0x200000001 0x100000005) = .next t
  :=
  toNext (((h.1 2 3 1 5 6 (s0X 0xFFFFFFFFFFFFFF8F 0x200000001 0x100000005) (clearOf holds)).1 holds holds
    holds |>.1))

theorem wit_BeadCommands_round (h : Obligations.BeadCommands) : ∃ t, exec (.bround 2 3 1 5 6) (s0X 15 0xFFFFFFFF 0x100000005) = .next t :=
  toNext (((h.1 2 3 1 5 6 (s0X 15 0xFFFFFFFF 0x100000005) (clearOf holds)).1 holds holds holds
    |>.2))

theorem wit_BeadCommands_pop (h : Obligations.BeadCommands) : ∃ t, exec (.bpop 2 3 1 5) (s0X 0x80 0 0x100000005) = .next t :=
  toNext (((h.1 2 3 1 5 6 (s0X 0x80 0 0x100000005) (clearOf holds)).2.1 holds holds holds
    |>.1))

theorem wit_BeadCommands_back (h : Obligations.BeadCommands) : ∃ t, exec (.back 2 3 1 5 6) (s0X 0x80 1 0x100000005) = .next t :=
  toNext (((h.1 2 3 1 5 6 (s0X 0x80 1 0x100000005) (clearOf holds)).2.1 holds holds holds
    |>.2))

theorem wit_BeadCommands_get (h : Obligations.BeadCommands) : ∃ t, exec (.bidxget 2 3 1 5 6) (s0X 0x40 1 0x100000005) = .next t :=
  toNext (((h.1 2 3 1 5 6 (s0X 0x40 1 0x100000005) (clearOf holds)).2.2.1 holds holds |>.1))

theorem wit_BeadCommands_put (h : Obligations.BeadCommands) : ∃ t, exec (.bidxput 2 3 1 5 6) (s0X 0x40 1 0x100000005) = .next t :=
  toNext (((h.1 2 3 1 5 6 (s0X 0x40 1 0x100000005) (clearOf holds)).2.2.1 holds holds |>.2.1))

theorem wit_BeadCommands_quiet (h : Obligations.BeadCommands) : ∃ t, exec (.bquiet 1 5 6) (s0X 0x40 1 0x100000005) = .next t :=
  toNext (((h.1 2 3 1 5 6 (s0X 0x40 1 0x100000005) (clearOf holds)).2.2.1 holds holds |>.2.2))

theorem wit_BeadCommands_cfg1 (h : Obligations.BeadCommands) : ∃ t, exec (.bqcfg 1 5 6) (s0X 0x40 0x5000000000000000 0x100000005) = .next t :=
  toNext (((h.1 2 3 1 5 6 (s0X 0x40 0x5000000000000000 0x100000005) (clearOf holds)).2.2.2.1 holds holds
    holds))

theorem wit_BeadCommands_cfg2 (h : Obligations.BeadCommands) : ∃ t, exec (.bqcfg 1 5 6) (s0X 0x80 0x6000000000000000 0x100000005) = .next t :=
  toNext (((h.1 2 3 1 5 6 (s0X 0x80 0x6000000000000000 0x100000005) (clearOf holds)).2.2.2.1 holds holds
    holds))

theorem wit_BeadCommands_trap1 (h : Obligations.BeadCommands) : ∃ t, exec (.bqcfg 1 5 6) (s0X 0x80 0x7000000000000000 0x100000005) = .next t :=
  toNext (((h.1 2 3 1 5 6 (s0X 0x80 0x7000000000000000 0x100000005) (clearOf holds)).2.2.2.2.1 (canTrapOf holds)
    holds))

theorem wit_BeadCommands_trap2 (h : Obligations.BeadCommands) : ∃ t, exec (.bidxget 2 3 1 5 6) (s0X 0x20 0 0x100000005) = .next t :=
  toNext (((h.1 2 3 1 5 6 (s0X 0x20 0 0x100000005) (clearOf holds)).2.2.2.2.2 (canTrapOf holds) holds))

theorem wit_BeadCommands_s1 (h : Obligations.BeadCommands) : ∃ t, exec (.beadStep 1) (s0Bead (.push 15 { bead0 with mult := 0 }) q0 []) = .next t :=
  toNext ((h.2 (s0Bead (.push 15 { bead0 with mult := 0 }) q0 []) ((s0Bead (.push 15 { bead0 with mult := 0 }) q0 []).beadReach (beadOp (.push 15
    { bead0 with mult := 0 }))).1 (beadOp (.push 15 { bead0 with mult := 0 })) galleryBase rfl rfl rfl rfl (beadAtOf holds)
    holds holds holds holds).1 holds holds |>.1 15 _ rfl holds |>.1
    (Or.inl rfl))

theorem wit_BeadCommands_s2 (h : Obligations.BeadCommands) : ∃ t, exec (.beadStep 1) (s0Bead (.push 14 bead0) q0 []) = .next t :=
  toNext ((h.2 (s0Bead (.push 14 bead0) q0 []) ((s0Bead (.push 14 bead0) q0 []).beadReach (beadOp (.push 14 bead0))).1 (beadOp (.push 14 bead0))
    galleryBase rfl rfl rfl rfl (beadAtOf holds) holds holds holds holds).1 holds
    holds |>.1 14 _ rfl holds |>.1 (Or.inr (Or.inl holds)))

theorem wit_BeadCommands_s3 (h : Obligations.BeadCommands) : ∃ t, exec (.beadStep 1) (s0Bead (.push 15 { bead0 with round := 4 }) q0 []) = .next t :=
  toNext ((h.2 (s0Bead (.push 15 { bead0 with round := 4 }) q0 []) ((s0Bead (.push 15 { bead0 with round := 4 }) q0 []).beadReach (beadOp (.push 15
    { bead0 with round := 4 }))).1 (beadOp (.push 15 { bead0 with round := 4 })) galleryBase rfl rfl rfl rfl (beadAtOf holds)
    holds holds holds holds).1 holds holds |>.1 15 _ rfl holds |>.1
    (Or.inr (Or.inr (Or.inl holds))))

theorem wit_BeadCommands_s4 (h : Obligations.BeadCommands) : ∃ t, exec (.beadStep 1) (s0Bead (.push 15 { bead0 with round := 0xFFFFFFFF }) q0 []) =
  .next t :=
  toNext ((h.2 (s0Bead (.push 15 { bead0 with round := 0xFFFFFFFF }) q0 []) ((s0Bead (.push 15 { bead0 with round := 0xFFFFFFFF }) q0 []).beadReach
    (beadOp (.push 15 { bead0 with round := 0xFFFFFFFF }))).1 (beadOp (.push 15 { bead0 with round := 0xFFFFFFFF })) galleryBase rfl rfl rfl rfl
    (beadAtOf holds) holds holds holds holds).1 holds holds |>.1 15 _
    rfl holds |>.1 (Or.inr (Or.inr (Or.inr holds))))

theorem wit_BeadCommands_s5 (h : Obligations.BeadCommands) : ∃ t, exec (.beadStep 1) (s0Bead (.push 15 { bead0 with round := 5 })
  { q0 with pending := 256 } []) = .next t :=
  toNext ((h.2 (s0Bead (.push 15 { bead0 with round := 5 }) { q0 with pending := 256 } []) ((s0Bead (.push 15 { bead0 with round := 5 })
    { q0 with pending := 256 } []).beadReach (beadOp (.push 15 { bead0 with round := 5 }))).1 (beadOp (.push 15 { bead0 with round := 5 }))
    galleryBase rfl rfl rfl rfl (beadAtOf holds) holds holds holds holds).1 holds
    holds |>.1 15 _ rfl holds |>.2 holds holds holds holds |>.1
    holds holds)

theorem wit_BeadCommands_s6 (h : Obligations.BeadCommands) : ∃ t, exec (.beadStep 1) (s0Bead (.push 15 { bead0 with round := 5 }) q0 [bead0]) = .next
  t :=
  toNext ((h.2 (s0Bead (.push 15 { bead0 with round := 5 }) q0 [bead0]) ((s0Bead (.push 15 { bead0 with round := 5 }) q0 [bead0]).beadReach (beadOp
    (.push 15 { bead0 with round := 5 }))).1 (beadOp (.push 15 { bead0 with round := 5 })) galleryBase rfl rfl rfl rfl (beadAtOf holds)
    holds holds holds holds).1 holds holds |>.1 15 _ rfl holds |>.2
    holds holds holds holds |>.2.1 holds holds)

theorem wit_BeadCommands_s7 (h : Obligations.BeadCommands) : ∃ t, exec (.beadStep 1) (s0Bead (.push 15 { bead0 with mult := -3 }) q0 [bead0]) = .next
  t :=
  toNext ((h.2 (s0Bead (.push 15 { bead0 with mult := -3 }) q0 [bead0]) ((s0Bead (.push 15 { bead0 with mult := -3 }) q0 [bead0]).beadReach (beadOp
    (.push 15 { bead0 with mult := -3 }))).1 (beadOp (.push 15 { bead0 with mult := -3 })) galleryBase rfl rfl rfl rfl (beadAtOf holds)
    holds holds holds holds).1 holds holds |>.1 15 _ rfl holds |>.2
    holds holds holds holds |>.2.2 bead0 holds |>.1 holds)

theorem wit_BeadCommands_s8 (h : Obligations.BeadCommands) : ∃ t, exec (.beadStep 1) (s0Bead (.push 15 { bead0 with mult := 2147483644 }) q0 [bead0])
  = .next t :=
  toNext ((h.2 (s0Bead (.push 15 { bead0 with mult := 2147483644 }) q0 [bead0]) ((s0Bead (.push 15 { bead0 with mult := 2147483644 }) q0
    [bead0]).beadReach (beadOp (.push 15 { bead0 with mult := 2147483644 }))).1 (beadOp (.push 15 { bead0 with mult := 2147483644 })) galleryBase rfl
    rfl rfl rfl (beadAtOf holds) holds holds holds holds).1 holds holds
    |>.1 15 _ rfl holds |>.2 holds holds holds holds |>.2.2 bead0
    holds |>.2.1 holds holds holds)

theorem wit_BeadCommands_s9 (h : Obligations.BeadCommands) : ∃ t, exec (.beadStep 1) (s0Bead (.push 15 { bead0 with mult := 2147483645 }) q0 [bead0])
  = .next t :=
  toNext ((h.2 (s0Bead (.push 15 { bead0 with mult := 2147483645 }) q0 [bead0]) ((s0Bead (.push 15 { bead0 with mult := 2147483645 }) q0
    [bead0]).beadReach (beadOp (.push 15 { bead0 with mult := 2147483645 }))).1 (beadOp (.push 15 { bead0 with mult := 2147483645 })) galleryBase rfl
    rfl rfl rfl (beadAtOf holds) holds holds holds holds).1 holds holds
    |>.1 15 _ rfl holds |>.2 holds holds holds holds |>.2.2 bead0
    holds |>.2.2 holds (Or.inr holds))

theorem wit_BeadCommands_p1 (h : Obligations.BeadCommands) : ∃ t, exec (.beadStep 1) (s0Bead (.pop) { q0 with frontier := 7 } [bead0]) = .next t :=
  toNext ((h.2 (s0Bead (.pop) { q0 with frontier := 7 } [bead0]) ((s0Bead (.pop) { q0 with frontier := 7 } [bead0]).beadReach (beadOp (.pop))).1
    (beadOp (.pop)) galleryBase rfl rfl rfl rfl (beadAtOf holds) holds holds holds holds).1
    holds holds |>.2.1 rfl |>.1 bead0 [] holds holds (Or.inl holds))

theorem wit_BeadCommands_p2 (h : Obligations.BeadCommands) : ∃ t, exec (.beadStep 1) (s0Bead (.pop) { q0 with frontier := 6 } [bead0]) = .next t :=
  toNext ((h.2 (s0Bead (.pop) { q0 with frontier := 6 } [bead0]) ((s0Bead (.pop) { q0 with frontier := 6 } [bead0]).beadReach (beadOp (.pop))).1
    (beadOp (.pop)) galleryBase rfl rfl rfl rfl (beadAtOf holds) holds holds holds holds).1
    holds holds |>.2.1 rfl |>.2 0 (Or.inl ⟨Or.inr ⟨bead0, [], holds, holds⟩, rfl⟩))

theorem wit_BeadCommands_p3 (h : Obligations.BeadCommands) : ∃ t, exec (.beadStep 1) (s0Bead (.pop)
  { q0 with frontier := 7, inhand := 1, hround := 5 } [bead0]) = .next t :=
  toNext ((h.2 (s0Bead (.pop) { q0 with frontier := 7, inhand := 1, hround := 5 } [bead0]) ((s0Bead (.pop)
    { q0 with frontier := 7, inhand := 1, hround := 5 } [bead0]).beadReach (beadOp (.pop))).1 (beadOp (.pop)) galleryBase rfl rfl rfl rfl (beadAtOf
    holds) holds holds holds holds).1 holds holds |>.2.1 rfl |>.2 1
    (Or.inr ⟨⟨bead0, [], holds, holds, holds, holds⟩, rfl⟩))

theorem wit_BeadCommands_r1 (h : Obligations.BeadCommands) : ∃ t, exec (.beadStep 1) (s0Bead (.round 14 0xFFFFFFFF) q0 []) = .next t :=
  toNext ((h.2 (s0Bead (.round 14 0xFFFFFFFF) q0 []) ((s0Bead (.round 14 0xFFFFFFFF) q0 []).beadReach (beadOp (.round 14 0xFFFFFFFF))).1 (beadOp
    (.round 14 0xFFFFFFFF)) galleryBase rfl rfl rfl rfl (beadAtOf holds) holds holds holds holds).1
    holds holds |>.2.2.1 14 0xFFFFFFFF rfl holds holds |>.1 holds)

theorem wit_BeadCommands_r2 (h : Obligations.BeadCommands) : ∃ t, exec (.beadStep 1) (s0Bead (.round 15 4) q0 []) = .next t :=
  toNext ((h.2 (s0Bead (.round 15 4) q0 []) ((s0Bead (.round 15 4) q0 []).beadReach (beadOp (.round 15 4))).1 (beadOp (.round 15 4)) galleryBase rfl
    rfl rfl rfl (beadAtOf holds) holds holds holds holds).1 holds holds
    |>.2.2.1 15 4 rfl holds holds |>.2.1 holds holds)

theorem wit_BeadCommands_r3 (h : Obligations.BeadCommands) : ∃ t, exec (.beadStep 1) (s0Bead (.round 15 5) q0 []) = .next t :=
  toNext2 ((h.2 (s0Bead (.round 15 5) q0 []) ((s0Bead (.round 15 5) q0 []).beadReach (beadOp (.round 15 5))).1 (beadOp (.round 15 5)) galleryBase rfl
    rfl rfl rfl (beadAtOf holds) holds holds holds holds).1 holds holds
    |>.2.2.1 15 5 rfl holds holds |>.2.2 holds holds)

theorem wit_BeadCommands_a1 (h : Obligations.BeadCommands) : ∃ t, exec (.beadStep 1) (s0Bead (.ack 2) { q0 with inhand := 2 } []) = .next t :=
  toNext ((h.2 (s0Bead (.ack 2) { q0 with inhand := 2 } []) ((s0Bead (.ack 2) { q0 with inhand := 2 } []).beadReach (beadOp (.ack 2))).1 (beadOp (.ack
    2)) galleryBase rfl rfl rfl rfl (beadAtOf holds) holds holds holds holds).1 holds
    holds |>.2.2.2 2 rfl |>.1 holds)

theorem wit_BeadCommands_a2 (h : Obligations.BeadCommands) : ∃ t, exec (.beadStep 1) (s0Bead (.ack 3) { q0 with inhand := 2 } []) = .next t :=
  toNext ((h.2 (s0Bead (.ack 3) { q0 with inhand := 2 } []) ((s0Bead (.ack 3) { q0 with inhand := 2 } []).beadReach (beadOp (.ack 3))).1 (beadOp (.ack
    3)) galleryBase rfl rfl rfl rfl (beadAtOf holds) holds holds holds holds).1 holds
    holds |>.2.2.2 3 rfl |>.2 holds holds)

theorem wit_BeadCommands_c1 (h : Obligations.BeadCommands) : ∃ t, exec (.beadStep 1) (s0Bead (.cfg 0x6000000000000000) { q0 with v := false } []) =
  .next t :=
  toNext ((h.2 (s0Bead (.cfg 0x6000000000000000) { q0 with v := false } []) ((s0Bead (.cfg 0x6000000000000000) { q0 with v := false } []).beadReach
    (beadOp (.cfg 0x6000000000000000))).1 (beadOp (.cfg 0x6000000000000000)) galleryBase rfl rfl rfl rfl (beadAtOf holds)
    holds holds holds holds).2.1 holds 0x6000000000000000 rfl |>.1 holds
    holds)

theorem wit_BeadCommands_c2 (h : Obligations.BeadCommands) : ∃ t, exec (.beadStep 1) (s0Bead (.cfg 0) q0 []) = .next t :=
  toNext ((h.2 (s0Bead (.cfg 0) q0 []) ((s0Bead (.cfg 0) q0 []).beadReach (beadOp (.cfg 0))).1 (beadOp (.cfg 0)) galleryBase rfl rfl rfl rfl (beadAtOf
    holds) holds holds holds holds).2.1 holds 0 rfl |>.2.1 holds
    holds)

theorem wit_BeadCommands_c3 (h : Obligations.BeadCommands) : ∃ t, exec (.beadStep 1) (s0Bead (.cfg 0x10000000FFFFFFFF) { q0 with pmask := 0x7FFF } [])
  = .next t :=
  toNext ((h.2 (s0Bead (.cfg 0x10000000FFFFFFFF) { q0 with pmask := 0x7FFF } []) ((s0Bead (.cfg 0x10000000FFFFFFFF) { q0 with pmask := 0x7FFF }
    []).beadReach (beadOp (.cfg 0x10000000FFFFFFFF))).1 (beadOp (.cfg 0x10000000FFFFFFFF)) galleryBase rfl rfl rfl rfl (beadAtOf holds)
    holds holds holds holds).2.1 holds 0x10000000FFFFFFFF rfl |>.2.2.1 15 holds
    holds holds holds holds)

theorem wit_BeadCommands_c4 (h : Obligations.BeadCommands) : ∃ t, exec (.beadStep 1) (s0Bead (.cfg 0x6000000000000000) { q0 with inhand := 2 } []) =
  .next t :=
  toNext ((h.2 (s0Bead (.cfg 0x6000000000000000) { q0 with inhand := 2 } []) ((s0Bead (.cfg 0x6000000000000000) { q0 with inhand := 2 } []).beadReach
    (beadOp (.cfg 0x6000000000000000))).1 (beadOp (.cfg 0x6000000000000000)) galleryBase rfl rfl rfl rfl (beadAtOf holds)
    holds holds holds holds).2.1 holds 0x6000000000000000 rfl |>.2.2.2 holds
    holds)

theorem wit_BeadCommands_i1 (h : Obligations.BeadCommands) : ∃ t, exec (.beadStep 1) (s0Index (.get 1) 1) = .next t :=
  toNext ((h.2 (s0Index (.get 1) 1) ((s0Index (.get 1) 1).beadReach (beadOp (.get 1))).1 (beadOp (.get 1)) galleryBase rfl rfl rfl rfl (beadAtOf
    holds) holds holds holds holds).2.2.1 1 holds |>.1 rfl)

theorem wit_BeadCommands_i2 (h : Obligations.BeadCommands) : ∃ t, exec (.beadStep 1) (s0Index (.put 2 5) 256) = .next t :=
  toNext2 ((h.2 (s0Index (.put 2 5) 256) ((s0Index (.put 2 5) 256).beadReach (beadOp (.put 2 5))).1 (beadOp (.put 2 5)) galleryBase rfl rfl rfl rfl
    (beadAtOf holds) holds holds holds holds).2.2.1 2 holds |>.2 5 rfl)

/-- A queue's bead commands at a descriptor with V = 0. -/
theorem wit_BeadCommands_v0 (h : Obligations.BeadCommands) : ∃ t, exec (.beadStep 1) (s0Bead (.ack 0) { q0 with v := false } []) = .next t :=
  toNext ((h.2 (s0Bead (.ack 0) { q0 with v := false } []) ((s0Bead (.ack 0) { q0 with v := false } []).beadReach (beadOp (.ack 0))).1 (beadOp (.ack
    0)) galleryBase rfl rfl rfl rfl (beadAtOf holds) holds holds holds holds).2.2.2.1 holds |>.1 holds (Or.inr (Or.inr (Or.inr ⟨0, rfl⟩))))

theorem wit_BeadCommands_v0push (h : Obligations.BeadCommands) : ∃ t, exec (.beadStep 1) (s0Bead (.push 15 bead0) { q0 with v := false } []) = .next
  t :=
  toNext ((h.2 (s0Bead (.push 15 bead0) { q0 with v := false } []) ((s0Bead (.push 15 bead0) { q0 with v := false } []).beadReach (beadOp (.push 15
    bead0))).1 (beadOp (.push 15 bead0)) galleryBase rfl rfl rfl rfl (beadAtOf holds) holds holds holds holds).2.2.2.1 holds |>.1 holds (Or.inl
    ⟨15, bead0, rfl⟩))

theorem wit_BeadCommands_v0pop (h : Obligations.BeadCommands) : ∃ t, exec (.beadStep 1) (s0Bead .pop { q0 with v := false } []) = .next t :=
  toNext ((h.2 (s0Bead .pop { q0 with v := false } []) ((s0Bead .pop { q0 with v := false } []).beadReach (beadOp .pop)).1 (beadOp .pop) galleryBase
    rfl rfl rfl rfl (beadAtOf holds) holds holds holds holds).2.2.2.1 holds |>.1 holds (Or.inr (Or.inl rfl)))

theorem wit_BeadCommands_v0round (h : Obligations.BeadCommands) : ∃ t, exec (.beadStep 1) (s0Bead (.round 15 4) { q0 with v := false } []) = .next t
  :=
  toNext ((h.2 (s0Bead (.round 15 4) { q0 with v := false } []) ((s0Bead (.round 15 4) { q0 with v := false } []).beadReach (beadOp (.round 15
    4))).1 (beadOp (.round 15 4)) galleryBase rfl rfl rfl rfl (beadAtOf holds) holds holds holds holds).2.2.2.1 holds |>.1 holds (Or.inr (Or.inr
    (Or.inl ⟨15, 4, rfl⟩))))

/-- An index command at bytes that configure no index. -/
def s0NoIndex (k : BeadKind) : State := { s0Gal .bead [] with beadOps := [beadOp k] }

theorem wit_BeadCommands_v0get (h : Obligations.BeadCommands) : ∃ t, exec (.beadStep 1) (s0NoIndex (.get 1)) = .next t :=
  toNext ((h.2 (s0NoIndex (.get 1)) ((s0NoIndex (.get 1)).beadReach (beadOp (.get 1))).1 (beadOp (.get 1)) galleryBase rfl rfl rfl rfl (beadAtOf
    holds) holds holds holds holds).2.2.2.1 holds |>.2 holds (Or.inl ⟨1, rfl⟩))

theorem wit_BeadCommands_v0put (h : Obligations.BeadCommands) : ∃ t, exec (.beadStep 1) (s0NoIndex (.put 1 7)) = .next t :=
  toNext ((h.2 (s0NoIndex (.put 1 7)) ((s0NoIndex (.put 1 7)).beadReach (beadOp (.put 1 7))).1 (beadOp (.put 1 7)) galleryBase rfl rfl rfl rfl
    (beadAtOf holds) holds holds holds holds).2.2.2.1 holds |>.2 holds (Or.inr ⟨1, 7, rfl⟩))

theorem wit_BeadCommands_q (h : Obligations.BeadCommands) : ∃ t, exec (.beadStep 1) ({ s0Gal .bead [] with beadOps := [beadOp (.quiet 5)] }) = .next t
  :=
  toNext2 ((h.2 ({ s0Gal .bead [] with beadOps := [beadOp (.quiet 5)] }) (({ s0Gal .bead [] with beadOps := [beadOp (.quiet 5)] }).beadReach (beadOp
    (.quiet 5))).1 (beadOp (.quiet 5)) galleryBase rfl rfl rfl rfl (beadAtOf holds) holds holds
    holds holds).2.2.2.2 5 rfl holds)


end Sys2Proof.Tests
end

