-- ==== Sys2Proof/Tests/Steps.lean ====
section
/-! SUPPORT. Single steps on small states, their results worked out by hand from the rules named. -/

namespace Sys2Proof.Tests

set_option Elab.async false

open Sys2Proof Sys2Proof.Machine

/-- x7 after an instruction with values of x5 and x6. -/
def x7After (i : Instr) (a b : Word) : Option Word := match exec i (s0With fun t => { t with x := [(5, a), (6, b)] }) with
  | .next t => some (t.th.rx 7)
  | _ => none
/-- Each instruction gives its value. -/
def gives (l : List (Instr × Word × Word × Word)) : Bool := l.all fun p => x7After p.1 p.2.1 p.2.2.1 == some p.2.2.2
/-- What holds of the state that comes next. -/
def after (r : Res) (f : State → Bool) : Bool := match r with
  | .next t => f t
  | _ => false
/-- All ones. -/
def ones : Word := 0xFFFFFFFFFFFFFFFF
/-- The most negative number. -/
def minInt : Word := 0x8000000000000000

/-- Sums and differences wrap; comparisons are signed or not; word forms extend the sign (R14). -/
theorem test_arithmetic : gives [
    (.add 7 5 6, ones, 1, 0), (.sub 7 5 6, 0, 1, ones), (.addi 7 5 0xFFF, 0, 0, ones), (.slt 7 5 6, ones, 1, 1), (.sltu 7 5 6, ones, 1, 0),
    (.sltiu 7 5 0xFFF, 5, 0, 1), (.addw 7 5 6, 0x7FFFFFFF, 1, 0xFFFFFFFF80000000), (.subw 7 5 6, 0, 1, ones), (.lui 7 0x80000, 0, 0, 0xFFFFFFFF80000000),
    (.auipc 7 0xFFFFF, 0, 0, 0xFFFFFFFFFFFFF100), (.xori 7 5 0xFFF, 0, 0, ones)] = true := by decide +kernel

/-- Shift amounts are the low six or five bits (R14). -/
theorem test_shifts : gives [
    (.sll 7 5 6, 1, 64, 1), (.sra 7 5 6, minInt, 63, ones), (.srl 7 5 6, minInt, 63, 1), (.sllw 7 5 6, 1, 31, 0xFFFFFFFF80000000),
    (.srlw 7 5 6, ones, 32, ones), (.sraw 7 5 6, 0x80000000, 31, ones), (.slliUw 7 5 32, ones, 0, 0xFFFFFFFF00000000),
    (.sh3addUw 7 5 6, 0xFFFFFFFF00000001, 1, 9), (.addUw 7 5 6, ones, 1, 0x100000000)] = true := by decide +kernel

/-- Products, and division by zero and of the most negative number by −1 (R22). -/
theorem test_multiply_divide : gives [
    (.mul 7 5 6, ones, ones, 1), (.mulh 7 5 6, ones, ones, 0), (.mulhu 7 5 6, ones, ones, 0xFFFFFFFFFFFFFFFE), (.mulhsu 7 5 6, ones, ones, ones),
    (.mulw 7 5 6, 0x10000, 0x8000, 0xFFFFFFFF80000000), (.div 7 5 6, 5, 0, ones), (.rem 7 5 6, 5, 0, 5), (.div 7 5 6, minInt, ones, minInt),
    (.rem 7 5 6, minInt, ones, 0), (.divu 7 5 6, 5, 0, ones), (.remu 7 5 6, 5, 0, 5), (.div 7 5 6, 0xFFFFFFFFFFFFFFF9, 2, 0xFFFFFFFFFFFFFFFD),
    (.rem 7 5 6, 0xFFFFFFFFFFFFFFF9, 2, ones), (.divw 7 5 6, 0x80000000, ones, 0xFFFFFFFF80000000), (.remw 7 5 6, 0x80000000, 0, 0xFFFFFFFF80000000),
    (.divuw 7 5 6, 7, 0, ones), (.remuw 7 5 6, 0x80000000, 0, 0xFFFFFFFF80000000)] = true := by decide +kernel

/-- x0 reads zero and keeps it (R10). -/
theorem test_x0 : after (exec (.addi 0 0 5) s0) (fun t => t.th.rx 0 == 0 && t.th.pc == 0x104) = true := by decide +kernel

/-- A link is the address after the jump; JALR clears bit 0; a branch back; a target with bit 1 set traps (R9). -/
theorem test_jumps : (after (exec (.jal 1 0x4) s0) fun t => t.th.pc == 0x108 && t.th.rx 1 == 0x104) &&
    (after (exec (.jalr 5 5 1) (s0X 0x200 0 0)) fun t => t.th.pc == 0x200 && t.th.rx 5 == 0x104) &&
    (after (exec (.bge 5 6 0xFFE) (s0X 1 ones 0)) fun t => t.th.pc == 0xFC) &&
    (after (exec (.bltu 5 6 0xFFE) (s0X ones 1 0)) fun t => t.th.pc == 0x104) &&
    (after (exec (.jalr 1 5 0) (s0X 0x202 0 0)) fun t => t.th.bank0.tcause == 1 && t.th.bank0.tval == 0x202 && t.th.rx 1 == 0) = true := by
  decide +kernel

/-- A load sees the bytes of an older store of its thread set, extended (R15, R71). -/
theorem test_forwarding : (after (exec (.ld 7 5 0) s0Buffered) fun t => t.th.rx 7 == 0xA5A5A5A5A5A5A5A5) &&
    (after (exec (.lb 7 5 7) s0Buffered) fun t => t.th.rx 7 == 0xFFFFFFFFFFFFFFA5) &&
    (after (exec (.lhu 7 5 6) s0Buffered) fun t => t.th.rx 7 == 0xA5A5) = true := by decide +kernel

/-- An AMO gives the old value and stores the new one (R16). -/
theorem test_amo : after (exec (.amomaxW false false 7 5 6) (withSpad (s0X 0xFFFFFFFFFFF00044 1 0) 0x40 [0x8000000000000000]))
    (fun t => t.th.rx 7 == 0xFFFFFFFF80000000 && t.readVal (spadBase 0 + 0x44) 4 == 1) = true := by decide +kernel

/-- A store conditional without a reservation fails with 1 and stores nothing (R16). -/
theorem test_sc : after (exec (.scD false false 7 5 6) (s0X 0xFFFFFFFFFFF00040 9 0)) (fun t => t.th.rx 7 == 1 && t.readVal (spadBase 0 + 0x40) 8 == 0) = true := by
  decide +kernel

/-- ECALL saves the pc and the mode and goes to TVEC0 (R137); the return restores them (R142). -/
theorem test_trap_and_return : (after (exec .ecall (s0With fun t => { t with tvec0 := 0x4000 })) fun t => t.th.pc == 0x4000 && t.th.steward &&
      t.th.bank0.tepc == 0x100 && t.th.bank0.tcause == 9 && t.th.bank0.tval == 0 && !t.th.bank0.pm && t.th.bank0.act) &&
    (after (exec .tret s0Steward) fun t => t.th.pc == 0x200 && !t.th.steward && !t.th.bank0.act) = true := by decide +kernel

/-- A CSR's old value is read and bits are set; a steward CSR is illegal in user mode (R21, R133). -/
theorem test_csr : (after (exec (.csrrs 7 5 0x802) (s0With fun t => { t with x := [(5, 6)], vflags := 9 })) fun t => t.th.rx 7 == 9 && t.th.vflags == 15) &&
    (after (exec (.csrrw 7 5 0x5C0) s0) fun t => t.th.bank0.tcause == 0 && t.th.tvec0 == 0 && t.th.rx 7 == 0) = true := by decide +kernel

/-- FMTP's format stands for the next instruction alone (R58). -/
theorem test_fmtp : after (exec (.fmtp 5) s0) (fun t => t.th.pfx && t.th.pfxv == 5 && t.th.pc == 0x104) = true := by decide +kernel

/-- The vector sequencer's instruction with vector operands. -/
def vecAfter (i : Instr) (fmt : BitVec 5) (a b : VWord) (f : Thread → Bool) : Bool :=
  after (execVectorSequencerExecute 0 { s0Seq i fmt with threads := [(0, { th0 with v := [(1, a), (2, b), (3, 7)], k := [(1, 6)] })] }) fun t => f t.th

/-- Integer lanes wrap or saturate; a lane outside its predicate keeps its value (R171, R172). -/
theorem test_integer_lanes : vecAfter (.vadd 3 1 2 0) 5 0xFF 1 (fun t => (t.rv 3).toNat == 0) && vecAfter (.vadds 3 1 2 0) 5 0x7F 1 (fun t => (t.rv 3).toNat == 0x7F) &&
    vecAfter (.vsubs 3 1 2 0) 6 0 1 (fun t => (t.rv 3).toNat == 0) && vecAfter (.vadd 3 1 2 1) 5 0x0101 0x0202 (fun t => (t.rv 3).toNat % 2 ^ 16 == 0x0307) &&
    vecAfter (.vmin 3 1 2 0) 7 0x8000 1 (fun t => (t.rv 3).toNat % 2 ^ 16 == 0x8000) = true := by decide +kernel

/-- Floating-point lanes round once; an overflow sets its flags (R45 to R53, R171). -/
theorem test_float_lanes : vecAfter (.vadd 3 1 2 0) 1 0x3F80 0x3F80 (fun t => (t.rv 3).toNat % 2 ^ 16 == 0x4000 && t.vflags == 0) &&
    vecAfter (.vmul 3 1 2 0) 0 0x40400000 0x40000000 (fun t => (t.rv 3).toNat % 2 ^ 32 == 0x40C00000) &&
    vecAfter (.vadd 3 1 2 0) 1 0x7F7F 0x7F7F (fun t => (t.rv 3).toNat % 2 ^ 16 == 0x7F80) = true := by decide +kernel

/-- Comparisons write a bit for each lane, signed in a signed format (R175). -/
theorem test_compares : vecAfter (.vcmplt 2 1 2 0) 5 0xFF 1 (fun t => (t.rk 2).toNat == 1) && vecAfter (.vcmplt 2 1 2 0) 6 0xFF 1 (fun t => (t.rk 2).toNat == 0) = true := by
  decide +kernel

/-- A gallery atomic replaces its word; a push stores its value and moves TAIL (R278, R287). -/
theorem test_gallery : (after (exec (.galleryBankOperation 1) (s0Atomic (bankOp (.atomic .min 2 0x80000000 0) 0x1FFFC) [])) fun t =>
      t.readVal 0xE00000FFFC 4 == 0x80000000 && (t.th.outs.map (·.vals)) == [some [0]]) &&
    (after (exec (.galleryQueueStep 1) (s0Queue (.push 8) (queueBytes 1 2 0))) fun t =>
      t.readVal (galleryBase + 0x1000) 8 == 8 && t.readVal (galleryBase + 28) 4 == 3 && (t.th.outs.map (·.vals)) == [some [0]]) = true := by decide +kernel

end Sys2Proof.Tests
end

