-- ==== Sys2Proof/Tests/Witness6.lean ====
section
/-! SUPPORT. As Witness1: the crossing engines. -/

namespace Sys2Proof.Tests

set_option Elab.async false

open Sys2Proof Sys2Proof.Machine

/-- The state a crossing step leaves, and its value, by evaluation. -/
def xu {α : Type} (r : Except XStop (α × State)) : State := match r with
  | .ok p => p.2
  | .error _ => State.reset
def xv {α : Type} (a : α) (r : Except XStop (α × State)) : α := match r with
  | .ok p => p.1
  | .error _ => a
def xok {α : Type} (r : Except XStop (α × State)) : Bool := match r with
  | .ok _ => true
  | .error _ => false
theorem xokOf {r : Except XStop (Unit × State)} (h : xok r = true) : r = .ok ((), xu r) := by
  cases r with
  | ok p => rfl
  | error e => simp [xok] at h
theorem xokVal {α : Type} (a : α) {r : Except XStop (α × State)} (h : xok r = true) : r = .ok (xv a r, xu r) := by
  cases r with
  | ok p => rfl
  | error e => simp [xok] at h
/-- Where a translation leads, by evaluation. -/
def transB (x : Xlat) (a : Nat) : Bool := match x with
  | .ok b => a == b
  | _ => false
theorem transOf {r : State × Xlat} {a : Nat} (h : transB r.2 a = true) : r = (r.1, .ok a) := by
  obtain ⟨s, x⟩ := r
  cases x <;> simp_all [transB]
/-- No event at an instant stops its variables, by evaluation. -/
def xnone (r : Except XStop (Option Nat × State)) : Bool := match r with
  | .ok (none, _) => true
  | _ => false
theorem xnoneOf {r : Except XStop (Option Nat × State)} (h : xnone r = true) : r = .ok (none, xu r) := by
  cases r with
  | ok p => obtain ⟨a, s⟩ := p; cases a <;> simp_all [xnone, xu]
  | error e => simp [xnone] at h

/-- No engine that a command goes to is out, by evaluation. -/
theorem engIn {s : State} {o : CrossOp} (h : ((s.crossPlace o).all fun k => !(s.die (k / 16384)).engineOut) = true) :
    ∀ k, s.crossPlace o = some k → (s.die (k / 16384)).engineOut = false := by
  intro k hk
  simpa [hk] using h

/-- A crossing command on its way. -/
def xop (c : CrossCmd) : CrossOp := { id := 1, tid := 0, asid := 0, user := true, cmd := c, rel := none }
/-- A system of one variable. -/
def sys0 : CrossSys := { id := 7, die := 0, num := 0, block := galleryBase, asid := 0, user := true, nvar := 1 }
/-- Behind another command of the thread set. -/
def s0Behind (x5 x6 x7 : Word) (c : CrossCmd) : State := { s0X x5 x6 x7 with xops := [xop c], nextId := 2 }
/-- A command to a system with its STATE and NOW, whose variable is a phase converter. -/
def s0Cross (c : CrossCmd) (st now : Nat) (y : CrossSys) : State :=
  let s := s0Gal .crossing (leBytes (st * 2 ^ 60) 8 ++ leBytes 0x11000 8 ++ leBytes 0x12000 8 ++ leBytes 0 80 ++ leBytes now 8)
  { s with mem := mwrite s.mem (galleryBase + 0x200F) 0x80, xops := [xop c], systems := [(0, y)] }
/-- Its result. -/
def xout : Out := { id := 1, kind := .crossing, regs := [1], vals := none, acq := none }
/-- Its thread set runs the second copy of a dual-run card. -/
def copyTwo (s : State) : State := s.setThread 0 { s.thread 0 with card := some { card0 with copy := some true } }
/-- QINJ's result, which has no register. -/
def xoutInj : Out := { id := 1, kind := .crossing, regs := [], vals := none, acq := none }
/-- QINJ on its way. -/
def s0Inj (c : CrossCmd) : State :=
  let s := s0Cross c 2 0x3FF0000000000000 sys0
  s.setThread 0 { s.thread 0 with outs := [xoutInj] }
/-- An event packet. -/
def xpkt (frontier : Option Nat) (time : Nat) : CrossPkt :=
  { id := 9, src := 5 * 2 ^ 36 + 3, dst := 0, frontier := frontier, event := { time := time, src := 5 * 2 ^ 36, entry := 0, seq := 3, var := 0, kind := .inject, arg := 0, q := 0 } }
/-- In the network. -/
def s0XNet (p : CrossPkt) (st : Nat) : State := { s0Cross (.stat 0 0) st 0x3FF0000000000000 sys0 with xnet := [p], xops := [] }
/-- The 32 bytes of QVSET in the scratchpad: kind 1 and its value. -/
def spad1 (s : State) : State := withSpad s 0xFFFE0 [0x7F7FFFFF, 0, 1, 0]
/-- An arrival that pends at its variable. -/
def yArr : CrossSys := { sys0 with tl := some 0x7FF0000000000000, arrivals := [{ time := 0x4000000000000000, src := 0, entry := 0, seq := 0, var := 0, kind := .inject, arg := 0, q := 0 }] }
/-- The instant's variables are to be processed. -/
def s1Arr : State :=
  let s := s0Cross (.stat 5 0) 1 0x3FF0000000000000 yArr
  ((s.putBlock 0 104 0x4000000000000000 8).putBlock 0 116 ((s.readVal (galleryBase + 116) 4 + 1) % 2 ^ 32) 4).modSystem 0 fun q =>
    { q with opened := some 0x4000000000000000, applied := [0], wake := [], stopVar := none, arrivals := [] }
/-- The sample buffer of the system at virtual address 0x13000. -/
def s0Samp (y : CrossSys) : State := let s := s0Cross (.stat 5 0) 1 0x3FF0000000000000 y
  { s with mem := mwrites s.mem (galleryBase + 40) (leBytes 0x13000 8) }

theorem wit_CrossingCommands_run (h : Obligations.CrossingCommands) : ∃ t, exec (.qrun 2 3 7 5 6) (s0Behind 0xFFFF 0x7FF0000000000000 0 (.stat 0xFFFF 0)) = .next t :=
  toNext ((h.1 2 3 7 5 6 (s0Behind 0xFFFF 0x7FF0000000000000 0 (.stat 0xFFFF 0)) (clearOf holds) rfl holds).1 holds holds |>.1)

theorem wit_CrossingCommands_sample (h : Obligations.CrossingCommands) : ∃ t, exec (.qsample 2 3 7 5 6) (s0Behind 0xFFFF 0x7FF0000000000000 0 (.stat 0xFFFF 0)) = .next t :=
  toNext ((h.1 2 3 7 5 6 (s0Behind 0xFFFF 0x7FF0000000000000 0 (.stat 0xFFFF 0)) (clearOf holds) rfl holds).1 holds holds |>.2)

theorem wit_CrossingCommands_slope (h : Obligations.CrossingCommands) : ∃ t, exec (.qslope 2 3 7 5 6) (s0Behind 0xFFFFFFFFFFFFFFFF 0xFFFFFFFFFFFFFFFF 0 (.stat 0xFFFF 0)) = .next t :=
  toNext ((h.1 2 3 7 5 6 (s0Behind 0xFFFFFFFFFFFFFFFF 0xFFFFFFFFFFFFFFFF 0 (.stat 0xFFFF 0)) (clearOf holds) rfl holds).2.1)

theorem wit_CrossingCommands_inj (h : Obligations.CrossingCommands) : ∃ t, exec (.qinj 2 3 7 5 6) (s0Behind 0xFFFFFFFFF 0x7FF0000000000000 0x7F7FFFFF (.stat 0xFFFF 0)) = .next t :=
  toNext ((h.1 2 3 7 5 6 (s0Behind 0xFFFFFFFFF 0x7FF0000000000000 0x7F7FFFFF (.stat 0xFFFF 0)) (clearOf holds) rfl holds).2.2.1 holds holds holds)

theorem wit_CrossingCommands_vset (h : Obligations.CrossingCommands) : ∃ t, exec (.qvset 7 5 6) (s0Behind 0xFFFFFFFFF 0xFFFF8 0 (.stat 0xFFFF 0)) = .next t :=
  toNext ((h.1 2 3 7 5 6 (s0Behind 0xFFFFFFFFF 0xFFFF8 0 (.stat 0xFFFF 0)) (clearOf holds) rfl holds).2.2.2.1 holds holds)

theorem wit_CrossingCommands_conv (h : Obligations.CrossingCommands) : ∃ t, exec (.qconv 7 5 6) (s0Behind 0xFFFFFFFFF 0x80000000FFFFFFFF 0 (.stat 0xFFFF 0)) = .next t :=
  toNext ((h.1 2 3 7 5 6 (s0Behind 0xFFFFFFFFF 0x80000000FFFFFFFF 0 (.stat 0xFFFF 0)) (clearOf holds) rfl holds).2.2.2.2.1 holds holds)

theorem wit_CrossingCommands_stat (h : Obligations.CrossingCommands) : ∃ t, exec (.qstat 7 5 6) (s0Behind 0xFFFF 0xFFFF 0 (.stat 0xFFFF 0)) = .next t :=
  toNext ((h.1 2 3 7 5 6 (s0Behind 0xFFFF 0xFFFF 0 (.stat 0xFFFF 0)) (clearOf holds) rfl holds).2.2.2.2.2.1 holds)

theorem wit_CrossingCommands_stop (h : Obligations.CrossingCommands) : ∃ t, exec (.qstop 7 5 6) (s0Behind 0xFFFF 1 0 (.stat 0xFFFF 0)) = .next t :=
  toNext ((h.1 2 3 7 5 6 (s0Behind 0xFFFF 1 0 (.stat 0xFFFF 0)) (clearOf holds) rfl holds).2.2.2.2.2.2.1 holds holds)

theorem wit_CrossingCommands_cfg (h : Obligations.CrossingCommands) : ∃ t, exec (.qcfg 7 5 6) (s0Behind 0x80 1 0 (.cfg false 0x100)) = .next t :=
  toNext ((h.1 2 3 7 5 6 (s0Behind 0x80 1 0 (.cfg false 0x100)) (clearOf holds) rfl holds).2.2.2.2.2.2.2 holds holds)

theorem wit_CrossingCommands_asid (h : Obligations.CrossingCommands) : ∃ t, exec (.resultReturn 0 1) (s0Cross (.stat 0 0) 1 0x3FF0000000000000
  { sys0 with asid := 0xFFFF }) = .next t :=
  toNext ((h.2.1 (s0Cross (.stat 0 0) 1 0x3FF0000000000000 { sys0 with asid := 0xFFFF }) (xop (.stat 0 0)) xout 1 rfl rfl rfl (engIn holds) rfl rfl holds rfl rfl).1 0 { sys0 with asid := 0xFFFF } rfl rfl |>.1 holds)

theorem wit_CrossingCommands_stat0 (h : Obligations.CrossingCommands) : ∃ t, exec (.resultReturn 0 1) (s0Cross (.stat 0 0) 1 0x3FF0000000000000 sys0)
  = .next t :=
  toNext ((h.2.1 (s0Cross (.stat 0 0) 1 0x3FF0000000000000 sys0) (xop (.stat 0 0)) xout 1 rfl rfl rfl (engIn holds) rfl rfl holds rfl rfl).1 0 sys0
    rfl rfl |>.2 rfl holds holds holds holds |>.1 0 0 rfl)

theorem wit_CrossingCommands_stat8 (h : Obligations.CrossingCommands) : ∃ t, exec (.resultReturn 0 1) (s0Cross (.stat 0 8) 1 0x3FF0000000000000 sys0)
  = .next t :=
  toNext ((h.2.1 (s0Cross (.stat 0 8) 1 0x3FF0000000000000 sys0) (xop (.stat 0 8)) xout 1 rfl rfl rfl (engIn holds) rfl rfl holds rfl rfl).1 0 sys0
    rfl rfl |>.2 rfl holds holds holds holds |>.1 0 8 rfl)

theorem wit_CrossingCommands_stat9 (h : Obligations.CrossingCommands) : ∃ t, exec (.resultReturn 0 1) (s0Cross (.stat 0 9) 1 0x3FF0000000000000 sys0)
  = .next t :=
  toNext ((h.2.1 (s0Cross (.stat 0 9) 1 0x3FF0000000000000 sys0) (xop (.stat 0 9)) xout 1 rfl rfl rfl (engIn holds) rfl rfl holds rfl rfl).1 0 sys0
    rfl rfl |>.2 rfl holds holds holds holds |>.1 0 9 rfl)

theorem wit_CrossingCommands_run1 (h : Obligations.CrossingCommands) : ∃ t, exec (.resultReturn 0 1) (s0Cross (.run 0 0x4000000000000000) 5
  0x3FF0000000000000 sys0) = .next t :=
  toNext ((h.2.1 (s0Cross (.run 0 0x4000000000000000) 5 0x3FF0000000000000 sys0) (xop (.run 0 0x4000000000000000)) xout 1 rfl rfl rfl (engIn holds) rfl rfl holds rfl rfl).1 0 sys0 rfl rfl |>.2 rfl holds holds holds holds |>.2.1
    0 0x4000000000000000 rfl |>.1 (Or.inl holds))

theorem wit_CrossingCommands_run2 (h : Obligations.CrossingCommands) : ∃ t, exec (.resultReturn 0 1) (s0Cross (.run 0 0x3FF0000000000000) 1
  0x3FF0000000000000 sys0) = .next t :=
  toNext ((h.2.1 (s0Cross (.run 0 0x3FF0000000000000) 1 0x3FF0000000000000 sys0) (xop (.run 0 0x3FF0000000000000)) xout 1 rfl rfl rfl (engIn holds) rfl rfl holds rfl rfl).1 0 sys0 rfl rfl |>.2 rfl holds holds holds holds |>.2.1
    0 0x3FF0000000000000 rfl |>.2.1 holds holds holds)

theorem wit_CrossingCommands_run3 (h : Obligations.CrossingCommands) : ∃ t, exec (.resultReturn 0 1) (s0Cross (.run 0 0x7FF0000000000000) 3
  0x3FF0000000000000 sys0) = .next t :=
  toNext ((h.2.1 (s0Cross (.run 0 0x7FF0000000000000) 3 0x3FF0000000000000 sys0) (xop (.run 0 0x7FF0000000000000)) xout 1 rfl rfl rfl (engIn holds) rfl rfl holds rfl rfl).1 0 sys0 rfl rfl |>.2 rfl holds holds holds holds |>.2.1
    0 0x7FF0000000000000 rfl |>.2.2 holds holds holds holds)

theorem wit_CrossingCommands_sample1 (h : Obligations.CrossingCommands) : ∃ t, exec (.resultReturn 0 1) (s0Cross (.sample 0 0x3FF0000000000000) 1
  0x3FF0000000000000 { sys0 with sample := some 0 }) = .next t :=
  toNext ((h.2.1 (s0Cross (.sample 0 0x3FF0000000000000) 1 0x3FF0000000000000 { sys0 with sample := some 0 }) (xop (.sample 0 0x3FF0000000000000))
    xout 1 rfl rfl rfl (engIn holds) rfl rfl holds rfl rfl).1 0 { sys0 with sample := some 0 } rfl rfl |>.2 rfl holds
    holds holds holds |>.2.2.1 0 0x3FF0000000000000 rfl holds holds
    holds (Or.inr rfl) |>.1 rfl)

theorem wit_CrossingCommands_sample2 (h : Obligations.CrossingCommands) : ∃ t, exec (.resultReturn 0 1) (s0Cross (.sample 0 0x4000000000000000) 1
  0x3FF0000000000000 { sys0 with opened := some 5 }) = .next t :=
  toNext ((h.2.1 (s0Cross (.sample 0 0x4000000000000000) 1 0x3FF0000000000000 { sys0 with opened := some 5 }) (xop (.sample 0 0x4000000000000000))
    xout 1 rfl rfl rfl (engIn holds) rfl rfl holds rfl rfl).1 0 { sys0 with opened := some 5 } rfl rfl |>.2 rfl holds
    holds holds holds |>.2.2.1 0 0x4000000000000000 rfl holds holds
    holds (Or.inl holds) |>.2 rfl)

theorem wit_CrossingCommands_stop1 (h : Obligations.CrossingCommands) : ∃ t, exec (.resultReturn 0 1) (s0Cross (.stop 0 0) 3 0x3FF0000000000000 sys0)
  = .next t :=
  toNext ((h.2.1 (s0Cross (.stop 0 0) 3 0x3FF0000000000000 sys0) (xop (.stop 0 0)) xout 1 rfl rfl rfl (engIn holds) rfl rfl holds rfl rfl).1 0 sys0
    rfl rfl |>.2 rfl holds holds holds holds |>.2.2.2.1 0 0 rfl rfl |>.1 (Or.inl
    holds))

theorem wit_CrossingCommands_stop2 (h : Obligations.CrossingCommands) : ∃ t, exec (.resultReturn 0 1) (s0Cross (.stop 0 0) 4 0x3FF0000000000000 sys0)
  = .next t :=
  toNext ((h.2.1 (s0Cross (.stop 0 0) 4 0x3FF0000000000000 sys0) (xop (.stop 0 0)) xout 1 rfl rfl rfl (engIn holds) rfl rfl holds rfl rfl).1 0 sys0
    rfl rfl |>.2 rfl holds holds holds holds |>.2.2.2.1 0 0 rfl rfl |>.2
    holds holds holds rfl)

theorem wit_CrossingCommands_conv1 (h : Obligations.CrossingCommands) : ∃ t, exec (.resultReturn 0 1) (s0Cross (.conv 0 0) 1 0x3FF0000000000000 sys0)
  = .next t :=
  toNext ((h.2.1 (s0Cross (.conv 0 0) 1 0x3FF0000000000000 sys0) (xop (.conv 0 0)) xout 1 rfl rfl rfl (engIn holds) rfl rfl holds rfl rfl).1 0 sys0
    rfl rfl |>.2 rfl holds holds holds holds |>.2.2.2.2.1 0 0 0 rfl rfl
    holds rfl |>.1 (Or.inl holds))

theorem wit_CrossingCommands_conv2 (h : Obligations.CrossingCommands) : ∃ t, exec (.resultReturn 0 1) (s0Cross (.conv 0 0x7F7FFFFF) 2
  0x3FF0000000000000 sys0) = .next t :=
  toNext ((h.2.1 (s0Cross (.conv 0 0x7F7FFFFF) 2 0x3FF0000000000000 sys0) (xop (.conv 0 0x7F7FFFFF)) xout 1 rfl rfl rfl (engIn holds) rfl rfl holds rfl rfl).1 0 sys0 rfl rfl |>.2 rfl holds holds holds holds |>.2.2.2.2.1 0 0x7F7FFFFF 0
    rfl rfl holds rfl |>.2 (xu (xsave 0 0
    { kind := 2, x := 0, q := 0, delta := 0x3F800000, d := 0x7F7FFFFF, tx := (s0Cross (.conv 0 0x7F7FFFFF) 2 0x3FF0000000000000 sys0).sysNow 0, tn := emission 0x7F7FFFFF ((s0Cross (.conv 0 0x7F7FFFFF) 2 0x3FF0000000000000 sys0).sysNow 0), pend := false, lv := false, ldir := false, c := 0, aux := 0, tw := (s0Cross (.conv 0 0x7F7FFFFF) 2 0x3FF0000000000000 sys0).sysNow 0 }
    (s0Cross (.conv 0 0x7F7FFFFF) 2 0x3FF0000000000000 sys0))) holds holds holds holds
    holds (xokOf holds))

theorem wit_CrossingCommands_vset1 (h : Obligations.CrossingCommands) : ∃ t, exec (.resultReturn 0 1) (s0Cross (.vset 0 0) 6 0x3FF0000000000000 sys0)
  = .next t :=
  toNext ((h.2.1 (s0Cross (.vset 0 0) 6 0x3FF0000000000000 sys0) (xop (.vset 0 0)) xout 1 rfl rfl rfl (engIn holds) rfl rfl holds rfl rfl).1 0 sys0
    rfl rfl |>.2 rfl holds holds holds holds |>.2.2.2.2.2.1 0 0 0 _ rfl rfl
    holds rfl rfl |>.1 (Or.inr (Or.inr holds)))

theorem wit_CrossingCommands_vset2 (h : Obligations.CrossingCommands) : ∃ t, exec (.resultReturn 0 1) (spad1 (s0Cross (.vset 0 0xFFFE0) 2
  0x3FF0000000000000 sys0)) = .next t :=
  toNext ((h.2.1 (spad1 (s0Cross (.vset 0 0xFFFE0) 2 0x3FF0000000000000 sys0)) (xop (.vset 0 0xFFFE0)) xout 1 holds holds
    rfl (engIn holds) holds holds holds rfl rfl).1 0 sys0 rfl holds |>.2 rfl
    holds holds holds holds |>.2.2.2.2.2.1 0 0xFFFE0 0 (2 ^ 128 + 0x7F7FFFFF) rfl
    holds holds rfl holds |>.2 _ holds holds holds
    holds holds holds (xokOf holds))

theorem wit_CrossingCommands_slope1 (h : Obligations.CrossingCommands) : ∃ t, exec (.resultReturn 0 1) (s0Cross (.slope 0 0) 1 0x3FF0000000000000
  sys0) = .next t :=
  toNext ((h.2.1 (s0Cross (.slope 0 0) 1 0x3FF0000000000000 sys0) (xop (.slope 0 0)) xout 1 rfl rfl rfl (engIn holds) rfl rfl holds rfl rfl).1 0 sys0
    rfl rfl |>.2 rfl holds holds holds holds |>.2.2.2.2.2.2 0 0 0 0 rfl rfl
    holds |>.1 rfl holds)

theorem wit_CrossingCommands_slope3 (h : Obligations.CrossingCommands) : ∃ t, exec (.resultReturn 0 1) (s0Cross (.slope 0 0) 3 0x3FF0000000000000
  sys0) = .next t :=
  toNext ((h.2.1 (s0Cross (.slope 0 0) 3 0x3FF0000000000000 sys0) (xop (.slope 0 0)) xout 1 rfl rfl rfl (engIn holds) rfl rfl holds rfl rfl).1 0 sys0
    rfl rfl |>.2 rfl holds holds holds holds |>.2.2.2.2.2.2 0 0 0 0 rfl rfl
    holds |>.2.2.1 holds holds holds (Or.inr (Or.inl holds)))

/-- The second copy's QSLOPE at an instant that has closed. -/
theorem wit_CrossingCommands_slope4 (h : Obligations.CrossingCommands) : ∃ t, exec (.resultReturn 0 1) (copyTwo (s0Cross (.slope 0 0) 3
  0x3FF0000000000000 sys0)) = .next t :=
  toNext ((h.2.1 (copyTwo (s0Cross (.slope 0 0) 3 0x3FF0000000000000 sys0)) (xop (.slope 0 0)) xout 1 rfl rfl rfl (engIn holds) rfl rfl holds rfl
    rfl).1 0 sys0 rfl rfl |>.2 rfl holds holds holds holds |>.2.2.2.2.2.2 0 0 0 0 rfl rfl holds |>.2.1 rfl holds holds holds)

theorem wit_CrossingCommands_slope2 (h : Obligations.CrossingCommands) : ∃ t, exec (.resultReturn 0 1) (s0Cross (.slope 0x10000 0x7F7FFFFF) 1
  0x3FF0000000000000 ({ sys0 with nvar := 2, opened := some 0x3FF0000000000000, wake := [0, 1] })) = .next t :=
  toNext ((h.2.1 (s0Cross (.slope 0x10000 0x7F7FFFFF) 1 0x3FF0000000000000
    ({ sys0 with nvar := 2, opened := some 0x3FF0000000000000, wake := [0, 1] })) (xop (.slope 0x10000 0x7F7FFFFF)) xout 1 rfl rfl rfl (engIn holds) rfl rfl holds rfl rfl).1 0 ({ sys0 with nvar := 2, opened := some 0x3FF0000000000000, wake := [0, 1] }) rfl rfl |>.2 rfl
    holds holds holds holds |>.2.2.2.2.2.2 0x10000 0x7F7FFFFF 1 0x3FF0000000000000 rfl
    holds holds |>.2.2.2 _ _ _ rfl holds holds holds holds
    holds (xokVal
    { kind := 0, x := 0, q := 0, delta := 0, d := 0, tx := 0, tn := 0, pend := false, lv := false, ldir := false, c := 0, aux := 0, tw := 0 }
    holds) holds (xokOf holds) holds holds holds
    holds holds holds)

theorem wit_CrossingCommands_statAbsent (h : Obligations.CrossingCommands) : ∃ t, exec (.resultReturn 0 1)
  ({ s0Cross (.stat 5 0) 1 0 sys0 with systems := [] }) = .next t :=
  toNext ((h.2.1 ({ s0Cross (.stat 5 0) 1 0 sys0 with systems := [] }) (xop (.stat 5 0)) xout 1 rfl rfl rfl (engIn holds) rfl rfl holds rfl rfl).2.1 5
    5 0 rfl rfl rfl)

theorem wit_CrossingCommands_cfg1 (h : Obligations.CrossingCommands) : ∃ t, exec (.resultReturn 0 1) (s0Cross (.cfg false 0x10000) 1 0 sys0) = .next t
  :=
  toNext ((h.2.1 (s0Cross (.cfg false 0x10000) 1 0 sys0) (xop (.cfg false 0x10000)) xout 1 rfl rfl rfl (engIn holds) rfl rfl holds rfl rfl).2.2
    0x10000 galleryBase 0 sys0 ((s0Cross (.cfg false 0x10000) 1 0 sys0).translate 0 0 0x10000 { r := true } true).1 galleryBase false rfl (transOf
    holds) holds holds |>.1 rfl)

theorem wit_CrossingCommands_cfg2 (h : Obligations.CrossingCommands) : ∃ t, exec (.resultReturn 0 1) (s0Cross (.cfg true 0x10000) 3 0 sys0) = .next t
  :=
  toNext ((h.2.1 (s0Cross (.cfg true 0x10000) 3 0 sys0) (xop (.cfg true 0x10000)) xout 1 rfl rfl rfl (engIn holds) rfl rfl holds rfl rfl).2.2 0x10000
    galleryBase 0 sys0 ((s0Cross (.cfg true 0x10000) 3 0 sys0).translate 0 0 0x10000 { r := true } true).1 galleryBase true rfl (transOf
    holds) holds holds |>.2.1 rfl rfl holds holds rfl)

theorem wit_CrossingCommands_cfg3 (h : Obligations.CrossingCommands) : ∃ t, exec (.resultReturn 0 1) (s0Cross (.cfg true 0x10000) 2 0 sys0) = .next t
  :=
  toNext ((h.2.1 (s0Cross (.cfg true 0x10000) 2 0 sys0) (xop (.cfg true 0x10000)) xout 1 rfl rfl rfl (engIn holds) rfl rfl holds rfl rfl).2.2 0x10000
    galleryBase 0 sys0 ((s0Cross (.cfg true 0x10000) 2 0 sys0).translate 0 0 0x10000 { r := true } true).1 galleryBase true rfl (transOf
    holds) holds holds |>.2.2 rfl rfl (Or.inr holds))

theorem wit_CrossingCommands_inj2 (h : Obligations.CrossingCommands) : ∃ t, exec (.resultReturn 0 1) (s0Inj (.inj 0 0x7F7FFFFF 0x4000000000000000)) =
  .next t :=
  toNext2 (h.2.2 (s0Inj (.inj 0 0x7F7FFFFF 0x4000000000000000)) (xop (.inj 0 0x7F7FFFFF 0x4000000000000000)) xoutInj 0 sys0 0 0x7F7FFFFF
    0x4000000000000000 rfl rfl rfl (engIn holds) rfl rfl holds rfl rfl rfl rfl rfl rfl holds holds holds
    holds holds (Or.inr rfl))

theorem wit_CrossingSteps_hold1 (h : Obligations.CrossingSteps) : ∃ t, exec (.systemHold 0 0) (s0Cross (.stat 5 0) 1 0x3FF0000000000000
  ({ sys0 with sched := [(0, 0x4000000000000000)], tl := some 0x4000000000000000 })) = .next t :=
  toNext ((h.1 (s0Cross (.stat 5 0) 1 0x3FF0000000000000 ({ sys0 with sched := [(0, 0x4000000000000000)], tl := some 0x4000000000000000 })) 0 0
    ({ sys0 with sched := [(0, 0x4000000000000000)], tl := some 0x4000000000000000 }) rfl rfl rfl holds holds
    holds (fun _ k => nomatch k) holds holds holds).1 holds)

theorem wit_CrossingSteps_hold2 (h : Obligations.CrossingSteps) : exec (.systemHold 0 0) (s0Cross (.stat 5 0) 1 0x3FF0000000000000
  ({ sys0 with sched := [(0, 0x4000000000000000)], tl := some 0x7FF0000000000000 })) = .next (s0Cross (.stat 5 0) 1 0x3FF0000000000000
  ({ sys0 with sched := [(0, 0x4000000000000000)], tl := some 0x7FF0000000000000 })) :=
  ((h.1 (s0Cross (.stat 5 0) 1 0x3FF0000000000000 ({ sys0 with sched := [(0, 0x4000000000000000)], tl := some 0x7FF0000000000000 })) 0 0
    ({ sys0 with sched := [(0, 0x4000000000000000)], tl := some 0x7FF0000000000000 }) rfl rfl rfl holds holds
    holds (fun _ k => nomatch k) holds holds holds).2.1 holds)

theorem wit_CrossingSteps_hold3 (h : Obligations.CrossingSteps) : exec (.instantBegin 0 0) (s0Cross (.stat 5 0) 1 0x3FF0000000000000
  ({ sys0 with sched := [(0, 0x4000000000000000)], tl := some 0x4000000000000000 })) = .next (s0Cross (.stat 5 0) 1 0x3FF0000000000000
  ({ sys0 with sched := [(0, 0x4000000000000000)], tl := some 0x4000000000000000 })) :=
  ((h.1 (s0Cross (.stat 5 0) 1 0x3FF0000000000000 ({ sys0 with sched := [(0, 0x4000000000000000)], tl := some 0x4000000000000000 })) 0 0
    ({ sys0 with sched := [(0, 0x4000000000000000)], tl := some 0x4000000000000000 }) rfl rfl rfl holds holds
    holds (fun _ k => nomatch k) holds holds holds).2.2.1 holds)

theorem wit_CrossingSteps_instant (h : Obligations.CrossingSteps) : ∃ t, exec (.instantBegin 0 0) (s0Cross (.stat 5 0) 1 0x3FF0000000000000 yArr) =
  .next t :=
  toNext ((h.1 (s0Cross (.stat 5 0) 1 0x3FF0000000000000 yArr) 0 0 yArr rfl rfl rfl holds holds holds (fun _
    k => nomatch k) holds holds holds).2.2.2 s1Arr (xu (xvariables 0 0x4000000000000000 yArr.arrivals [0]
    s1Arr)) yArr.arrivals [0] holds holds (by rw [show ((((yArr.sched.filter fun p => eqFp (v64 p.2) (v64
    yArr.heapMin)).map (·.1)) ++ (yArr.arrivals.map (·.var))).eraseDups) = [0] by decide +kernel, List.mergeSort_singleton]) holds
    (xnoneOf holds) holds holds holds holds holds
    holds holds).2

/-- A variable, for want of one. -/
def xvar0 : XVar :=
  { kind := 0, x := 0, q := 0, delta := 0, d := 0, tx := 0, tn := 0, pend := false, lv := false, ldir := false, c := 0, aux := 0, tw := 0 }
/-- The system, of two variables, with its sample request. -/
def ySamp : CrossSys := { sys0 with nvar := 2, sample := some 0x4000000000000000 }
/-- Its values written out, by evaluation. -/
def sampleOut (k T : Nat) : List Nat → State → Option State
  | [], s => some s
  | i :: r, s => match xload k i s with
    | .error _ => none
    | .ok (v, u) => match xwriteOut k (word (u.blockField k 40 0 64) + word (8 * i)) (leBytes (u.sampleOf k v T) 8) u with
      | .error _ => none
      | .ok (_, w) => sampleOut k T r w
theorem sampleOut_written {k T : Nat} {l : List Nat} {s z : State} (h : sampleOut k T l s = some z) : SampleWritten k T l s z := by
  induction l generalizing s with
  | nil => exact (Option.some.inj h).symm
  | cons i r ih =>
    simp only [sampleOut] at h
    split at h
    · cases h
    · split at h
      · cases h
      · exact ⟨_, _, _, ‹_›, ‹_›, ih h⟩
theorem sampleOf {k T : Nat} {l : List Nat} {s : State} (h : (sampleOut k T l s).isSome = true) :
    SampleWritten k T l s ((sampleOut k T l s).getD s) := by
  obtain ⟨z, e⟩ := Option.isSome_iff_exists.mp h
  rw [e]
  exact sampleOut_written e

theorem wit_CrossingSteps_sample (h : Obligations.CrossingSteps) : ∃ t, exec (.sampleTake 0 0) (s0Samp ySamp) = .next t :=
  toNext (h.2.1 (s0Samp ySamp) (xu (xbound 0 (s0Samp ySamp))) _ 0 0 ySamp 0x4000000000000000 (xv 0 (xbound 0 (s0Samp ySamp))) rfl rfl rfl holds holds
    rfl rfl holds (xokVal 0 holds) holds (sampleOf holds) holds)

theorem wit_CrossingSteps_drop1 (h : Obligations.CrossingSteps) : ∃ t, exec (.crossingEventArrival 9) ({ s0XNet (xpkt none 0) 1 with systems := [] })
  = .next t :=
  toNext ((h.2.2 ({ s0XNet (xpkt none 0) 1 with systems := [] }) (xpkt none 0) holds holds).1 rfl |>.1 rfl)

theorem wit_CrossingSteps_drop2 (h : Obligations.CrossingSteps) : ∃ t, exec (.crossingFrontierArrival 9)
  ({ s0XNet (xpkt (some 0) 0) 1 with systems := [] }) = .next t :=
  toNext ((h.2.2 ({ s0XNet (xpkt (some 0) 0) 1 with systems := [] }) (xpkt (some 0) 0) holds holds).1 rfl |>.2 rfl)

theorem wit_CrossingSteps_late (h : Obligations.CrossingSteps) : ∃ t, exec (.crossingEventArrival 9) (s0XNet (xpkt none 0x3FF0000000000000) 1) = .next
  t :=
  toNext ((h.2.2 (s0XNet (xpkt none 0x3FF0000000000000) 1) (xpkt none 0x3FF0000000000000) holds holds).2 sys0 rfl holds holds |>.1 rfl holds
    holds holds |>.1 holds holds holds holds)

theorem wit_CrossingSteps_pend (h : Obligations.CrossingSteps) : ∃ t, exec (.crossingEventArrival 9) (s0XNet (xpkt none 0x4000000000000000) 2) = .next
  t :=
  toNext ((h.2.2 (s0XNet (xpkt none 0x4000000000000000) 2) (xpkt none 0x4000000000000000) holds holds).2 sys0 rfl holds holds |>.1 rfl holds
    holds holds |>.2.1 holds holds)

/-- An event and a frontier for a system in RUN. -/
def s0XRun (p : CrossPkt) : State := s0XNet p 1
/-- The arrival taken in. -/
def v0Event : State := ((s0XRun (xpkt none 0x4000000000000000)).dropCross 9).modSystem 0 fun y => y.pend (xpkt none 0x4000000000000000).event
def v0Front : State := ((s0XRun (xpkt (some 0x7FF0000000000000) 0)).dropCross 9).modSystem 0 fun y =>
  { y with peers := aput y.peers (5 * 2 ^ 36) 0x7FF0000000000000 }

theorem wit_CrossingSteps_pendRun (h : Obligations.CrossingSteps) : ∃ t, exec (.crossingEventArrival 9) (s0XRun (xpkt none 0x4000000000000000)) =
  .next t :=
  toNext ((h.2.2 (s0XRun (xpkt none 0x4000000000000000)) (xpkt none 0x4000000000000000) holds holds).2 sys0 rfl holds holds |>.1 rfl holds holds holds
    |>.2.2 v0Event (xu (xlinks 0 v0Event)) (xv ([], []) (xlinks 0 v0Event)) holds holds holds (xokVal _ holds) holds holds holds)

theorem wit_CrossingSteps_frontierRun (h : Obligations.CrossingSteps) : ∃ t, exec (.crossingFrontierArrival 9) (s0XRun (xpkt (some
  0x7FF0000000000000) 0)) = .next t :=
  toNext ((h.2.2 (s0XRun (xpkt (some 0x7FF0000000000000) 0)) (xpkt (some 0x7FF0000000000000) 0) holds holds).2 sys0 rfl holds holds |>.2
    0x7FF0000000000000 rfl |>.2 v0Front (xu (xlinks 0 v0Front)) (xv ([], []) (xlinks 0 v0Front)) holds holds (xokVal _ holds) holds holds holds)

theorem wit_CrossingSteps_frontier (h : Obligations.CrossingSteps) : ∃ t, exec (.crossingFrontierArrival 9) (s0XNet (xpkt (some 0x7FF0000000000000) 0)
  2) = .next t :=
  toNext ((h.2.2 (s0XNet (xpkt (some 0x7FF0000000000000) 0) 2) (xpkt (some 0x7FF0000000000000) 0) holds holds).2 sys0 rfl holds holds |>.2 0x7FF0000000000000 rfl
    |>.1 holds)


end Sys2Proof.Tests
end

