-- ==== Sys2Proof/Tests/Witness7.lean ====
section
/-! SUPPORT. As Witness1: collectives and links. -/

namespace Sys2Proof.Tests

set_option Elab.async false

open Sys2Proof Sys2Proof.Machine

/-- A broadcast of eight bytes in a group of one package. -/
def collBlock : List Word := [5, 0xFFFFFFFFFFF00100, 0xFFFFFFFFFFFFFFF8, 1 + 16 * 2, 8, 0x1000000, 0, 0]
/-- The slot it takes. -/
def coll0 : CLive := { id := 1, key := 5, asid := 0, user := true, block := collBlock, state := 1, num := none, status := 0, joins := 1, tid := 0,
                       trap := none, data := [] }
/-- A package whose domain has no standby, with slots, x5 and x6. -/
def s0Coll (l : AMap CLive) (x5 x6 : Word) : State :=
  { withSpad (s0X x5 x6 0) 0xFFFC0 collBlock with coldom := 0x8000000000000000, cslots := l, nextId := 1 }
/-- A key of the newel. -/
def ckey0 : CKey := { key := 5, shared := coll0.shared, num := 7, mismatched := false, cancelled := false, acked := true, reports := [] }
/-- A message on its way here. -/
def cmsg (k : CKind) : CMsg := { id := 9, src := 0, dom := 0x8000000000000000, key := 5, num := 7, kind := k }
/-- With keys and slots. -/
def s0Msg (k : CKind) (keys : List CKey) (l : AMap CLive) (dom : Word) : State := { s0Coll l 0 0 with coldom := dom, cmsgs := [cmsg k], ckeys := keys }
/-- Number 7 of key 5. -/
def cnum0 : CNum := { num := 7, key := 5, skip := none }
/-- A posted write of the thread set. -/
def posted0 : Posted := { id := 4, tid := 0, pa := 2 ^ 40, w := .bytes [1] [], cmd := none }

theorem wit_CollectiveCommands_cstart1 (h : Obligations.CollectiveCommands) : ∃ t, exec (.cstart 0 0 1 5) (s0Coll [] 0xFFFFFFFFFFFFFFC0 0) = .next t
  :=
  toNext ((h.1 0 0 1 5 (s0Coll [] 0xFFFFFFFFFFFFFFC0 0) (s0Coll [] 0xFFFFFFFFFFFFFFC0 0) (spadBase 0 + 0xFFFC0) (spadBase 0 + 0xFFFC0) .own (clearOf
    holds) holds holds (pairOf holds) holds holds rfl rfl holds holds holds coll0 holds
    holds rfl rfl rfl rfl rfl rfl rfl rfl rfl rfl rfl rfl rfl holds holds holds holds
    holds holds holds).2 rfl |>.1 0 holds holds holds)

theorem wit_CollectiveCommands_cstart2 (h : Obligations.CollectiveCommands) : ∃ t, exec (.cstart 0 0 1 5) (s0Coll [(255, coll0)] 0xFFFFFFFFFFFFFFC0 0)
  = .next t :=
  toNext ((h.1 0 0 1 5 (s0Coll [(255, coll0)] 0xFFFFFFFFFFFFFFC0 0) (s0Coll [(255, coll0)] 0xFFFFFFFFFFFFFFC0 0) (spadBase 0 + 0xFFFC0) (spadBase 0 +
    0xFFFC0) .own (clearOf holds) holds holds (pairOf holds) holds holds rfl rfl holds holds holds coll0
    holds holds rfl rfl rfl rfl rfl rfl rfl rfl rfl rfl rfl rfl rfl holds holds holds
    holds holds holds holds).2 rfl |>.2.1 255 coll0 holds |>.1 holds
    holds)

theorem wit_CollectiveCommands_cstart3 (h : Obligations.CollectiveCommands) : ∃ t, exec (.cstart 0 0 1 5) (s0Coll [(255, { coll0 with asid := 1 })]
  0xFFFFFFFFFFFFFFC0 0) = .next t :=
  toNext ((h.1 0 0 1 5 (s0Coll [(255, { coll0 with asid := 1 })] 0xFFFFFFFFFFFFFFC0 0) (s0Coll [(255, { coll0 with asid := 1 })] 0xFFFFFFFFFFFFFFC0 0)
    (spadBase 0 + 0xFFFC0) (spadBase 0 + 0xFFFC0) .own (clearOf holds) holds holds (pairOf
    holds) holds holds rfl rfl holds holds holds coll0 holds holds rfl rfl rfl rfl rfl rfl rfl rfl rfl rfl rfl rfl rfl
    holds holds holds holds holds holds holds).2 rfl |>.2.1 255 { coll0 with asid := 1 } holds |>.2 holds)

theorem wit_CollectiveCommands_cstart4 (h : Obligations.CollectiveCommands) : ∃ t, exec (.cstart 0 0 1 5) (s0Coll ((List.range 256).map fun i => (i,
  { coll0 with key := word (6 + i) })) 0xFFFFFFFFFFFFFFC0 0) = .next t :=
  toNext ((h.1 0 0 1 5 (s0Coll ((List.range 256).map fun i => (i, { coll0 with key := word (6 + i) })) 0xFFFFFFFFFFFFFFC0 0) (s0Coll ((List.range
    256).map fun i => (i, { coll0 with key := word (6 + i) })) 0xFFFFFFFFFFFFFFC0 0) (spadBase 0 + 0xFFFC0) (spadBase 0 + 0xFFFC0) .own (clearOf
    holds) holds holds (pairOf holds) holds holds rfl rfl holds holds holds coll0 holds
    holds rfl rfl rfl rfl rfl rfl rfl rfl rfl rfl rfl rfl rfl holds holds holds holds
    holds holds holds).2 rfl |>.2.2 holds holds)

theorem wit_CollectiveCommands_cstart5 (h : Obligations.CollectiveCommands) : ∃ t, exec (.cstart 2 3 1 5) (s0Coll [] 0xFFFFFFFFFFFFFFC0 0) = .next t
  :=
  toNext ((h.1 2 3 1 5 (s0Coll [] 0xFFFFFFFFFFFFFFC0 0) (s0Coll [] 0xFFFFFFFFFFFFFFC0 0) (spadBase 0 + 0xFFFC0) (spadBase 0 + 0xFFFC0) .own (clearOf
    holds) holds holds (pairOf holds) holds holds rfl rfl holds holds holds coll0 holds
    holds rfl rfl rfl rfl rfl rfl rfl rfl rfl rfl rfl rfl rfl holds holds holds holds
    holds holds holds).1)

theorem wit_CollectiveCommands_wait1 (h : Obligations.CollectiveCommands) : ∃ t, exec (.cwait 0 0 1 5) (s0Coll [] 0 0) = .next t :=
  toNext ((h.2 0 0 1 5 6 (s0Coll [] 0 0) (clearOf holds)).1 holds |>.1)

theorem wit_CollectiveCommands_cancel1 (h : Obligations.CollectiveCommands) : ∃ t, exec (.ccancel 1 5) (s0Coll [(0, coll0)] 0x100 0) = .next t :=
  toNext ((h.2 0 0 1 5 6 (s0Coll [(0, coll0)] 0x100 0) (clearOf holds)).1 holds |>.2)

theorem wit_CollectiveCommands_wait2 (h : Obligations.CollectiveCommands) : exec (.cwait 0 0 1 5) (s0Coll [(255, coll0)] 255 0) = .next (s0Coll [(255,
  coll0)] 255 0) :=
  ((h.2 0 0 1 5 6 (s0Coll [(255, coll0)] 255 0) (clearOf holds)).2.1 255 coll0 holds |>.1 holds |>.1)

theorem wit_CollectiveCommands_cancel2 (h : Obligations.CollectiveCommands) : ∃ t, exec (.ccancel 1 5) (s0Coll [(255, coll0)] 255 0) = .next t :=
  toNext ((h.2 0 0 1 5 6 (s0Coll [(255, coll0)] 255 0) (clearOf holds)).2.1 255 coll0 holds |>.1 holds |>.2)

theorem wit_CollectiveCommands_cancel3 (h : Obligations.CollectiveCommands) : ∃ t, exec (.ccancel 1 5) (s0Coll [(255,
  { coll0 with state := 4, num := some 7, trap := some (13, 5) })] 255 0) = .next t :=
  toNext ((h.2 0 0 1 5 6 (s0Coll [(255, { coll0 with state := 4, num := some 7, trap := some (13, 5) })] 255 0) (clearOf holds)).2.1 255
    { coll0 with state := 4, num := some 7, trap := some (13, 5) } holds |>.2 holds |>.1)

theorem wit_CollectiveCommands_wait3 (h : Obligations.CollectiveCommands) : ∃ t, exec (.cwait 0 0 1 5) (s0Coll [(255,
  { coll0 with state := 4, num := some 7, trap := some (13, 5) })] 255 0) = .next t :=
  toNext ((h.2 0 0 1 5 6 (s0Coll [(255, { coll0 with state := 4, num := some 7, trap := some (13, 5) })] 255 0) (clearOf holds)).2.1 255
    { coll0 with state := 4, num := some 7, trap := some (13, 5) } holds |>.2 holds |>.2)

theorem wit_CollectiveCommands_stat1 (h : Obligations.CollectiveCommands) : ∃ t, exec (.cstat 1 5 6) (s0Coll [] 0 0) = .next t :=
  toNext ((h.2 0 0 1 5 6 (s0Coll [] 0 0) (clearOf holds)).2.2.1 0 (Or.inl ⟨holds, holds, rfl⟩))

theorem wit_CollectiveCommands_stat2 (h : Obligations.CollectiveCommands) : ∃ t, exec (.cstat 1 5 6) (s0Coll [(255, coll0)] 255 0) = .next t :=
  toNext ((h.2 0 0 1 5 6 (s0Coll [(255, coll0)] 255 0) (clearOf holds)).2.2.1 _ (Or.inr (Or.inl ⟨holds, 255, coll0,
    holds, rfl⟩)))

theorem wit_CollectiveCommands_stat8 (h : Obligations.CollectiveCommands) : ∃ t, exec (.cstat 1 5 6) ({ s0Coll [] 0 1 with coldom := 0 }) = .next t :=
  toNext ((h.2 0 0 1 5 6 ({ s0Coll [] 0 1 with coldom := 0 }) (clearOf holds)).2.2.1 0
    (Or.inr (Or.inr (Or.inl ⟨holds, Or.inl ⟨holds, rfl⟩⟩))))

theorem wit_CollectiveCommands_stat9 (h : Obligations.CollectiveCommands) : ∃ t, exec (.cstat 1 5 6) (s0Coll [] 0 1) = .next t :=
  toNext ((h.2 0 0 1 5 6 (s0Coll [] 0 1) (clearOf holds)).2.2.1 0x9000000
    (Or.inr (Or.inr (Or.inl ⟨holds, Or.inr ⟨holds, holds, holds, holds, holds, holds, holds, holds⟩⟩))))

theorem wit_CollectiveCommands_stat3 (h : Obligations.CollectiveCommands) : ∃ t, exec (.cstat 1 5 6) (s0Coll [] 0 2) = .next t :=
  toNext ((h.2 0 0 1 5 6 (s0Coll [] 0 2) (clearOf holds)).2.2.1 _
    (Or.inr (Or.inr (Or.inr (Or.inl ⟨holds, rfl, rfl⟩)))))

theorem wit_CollectiveCommands_stat4 (h : Obligations.CollectiveCommands) : ∃ t, exec (.cstat 1 5 6) ({ s0Coll [] 0 2 with cnums := [cnum0] }) = .next t :=
  toNext ((h.2 0 0 1 5 6 ({ s0Coll [] 0 2 with cnums := [cnum0] }) (clearOf holds)).2.2.1 _
    (Or.inr (Or.inr (Or.inr (Or.inr (Or.inl ⟨holds, cnum0, rfl, rfl⟩))))))

theorem wit_CollectiveCommands_stat5 (h : Obligations.CollectiveCommands) : ∃ t, exec (.cstat 1 5 6) (s0Coll [] 0 3) = .next t :=
  toNext ((h.2 0 0 1 5 6 (s0Coll [] 0 3) (clearOf holds)).2.2.1 _
    (Or.inr (Or.inr (Or.inr (Or.inr (Or.inr (Or.inl ⟨holds, rfl⟩)))))))

theorem wit_CollectiveCommands_stat6 (h : Obligations.CollectiveCommands) : ∃ t, exec (.cstat 1 5 6) (s0Coll [] 0 4) = .next t :=
  toNext ((h.2 0 0 1 5 6 (s0Coll [] 0 4) (clearOf holds)).2.2.1 _
    (Or.inr (Or.inr (Or.inr (Or.inr (Or.inr (Or.inr (Or.inl ⟨holds, rfl⟩))))))))

theorem wit_CollectiveCommands_stat7 (h : Obligations.CollectiveCommands) : ∃ t, exec (.cstat 1 5 6) (s0Coll [] 0 5) = .next t :=
  toNext ((h.2 0 0 1 5 6 (s0Coll [] 0 5) (clearOf holds)).2.2.1 0
    (Or.inr (Or.inr (Or.inr (Or.inr (Or.inr (Or.inr (Or.inr ⟨holds, rfl⟩))))))))

theorem wit_CollectiveCommands_flush1 (h : Obligations.CollectiveCommands) : ∃ t, exec (.pflush 1) (s0Coll [] 0 0) = .next t :=
  toNext ((h.2 0 0 1 5 6 (s0Coll [] 0 0) (clearOf holds)).2.2.2 holds rfl rfl (fun _ k => nomatch k) |>.1
    holds)

theorem wit_CollectiveCommands_flush2 (h : Obligations.CollectiveCommands) : ∃ t, exec (.pflush 1) ({ s0Coll [] 0 0 with posted := [posted0] }) =
  .next t :=
  toNext2 ((h.2 0 0 1 5 6 ({ s0Coll [] 0 0 with posted := [posted0] }) (clearOf holds)).2.2.2 holds rfl rfl (fun _ k =>
    nomatch k) |>.2 holds)

theorem wit_CollectiveSteps_reg (h : Obligations.CollectiveSteps) : ∃ t, exec (.collectiveRegistration 9) (s0Msg (.register coll0.shared) [] []
  0x8000000000000000) = .next t :=
  toNext2 ((h.1 (s0Msg (.register coll0.shared) [] [] 0x8000000000000000) (cmsg (.register coll0.shared)) rfl).1 _ rfl holds rfl
    holds holds holds holds)

theorem wit_CollectiveSteps_reg2 (h : Obligations.CollectiveSteps) : ∃ t, exec (.collectiveRegistration 9)
  ({ s0Msg (.register coll0.shared) [{ ckey0 with key := 6, num := 0 }] [] 0x8000000000001000 with cmsgs := [{ cmsg (.register coll0.shared) with dom := 0x8000000000001000 }] }) = .next t :=
  toNext2 ((h.1 ({ s0Msg (.register coll0.shared) [{ ckey0 with key := 6, num := 0 }] [] 0x8000000000001000 with cmsgs := [{ cmsg (.register coll0.shared) with dom := 0x8000000000001000 }] })
    ({ cmsg (.register coll0.shared) with dom := 0x8000000000001000 }) rfl).1 _ rfl holds rfl holds holds holds holds)

theorem wit_CollectiveSteps_ack (h : Obligations.CollectiveSteps) : ∃ t, exec (.replicationAck 9) (s0Msg (.replicaAck) [{ ckey0 with acked := false }]
  [] 0x8000000000001000) = .next t :=
  toNext ((h.1 (s0Msg (.replicaAck) [{ ckey0 with acked := false }] [] 0x8000000000001000) (cmsg (.replicaAck)) rfl).2.1 { ckey0 with acked := false }
    rfl rfl)

theorem wit_CollectiveSteps_notice (h : Obligations.CollectiveSteps) : ∃ t, exec (.assignmentNotice 9) (s0Msg (.notice) [] [(255, coll0)]
  0x8000000000000000) = .next t :=
  toNext ((h.1 (s0Msg (.notice) [] [(255, coll0)] 0x8000000000000000) (cmsg (.notice)) rfl).2.2.1 rfl rfl rfl)

theorem wit_CollectiveSteps_report (h : Obligations.CollectiveSteps) : ∃ t, exec (.finishReport 9) (s0Msg (.report) [ckey0] [] 0x8000000000000000) =
  .next t :=
  toNext ((h.1 (s0Msg (.report) [ckey0] [] 0x8000000000000000) (cmsg (.report)) rfl).2.2.2.1 rfl holds)

theorem wit_CollectiveSteps_reportAck (h : Obligations.CollectiveSteps) : ∃ t, exec (.finishReportAck 9) (s0Msg (.reportAck) [] [] 0x8000000000000000)
  = .next t :=
  toNext ((h.1 (s0Msg (.reportAck) [] [] 0x8000000000000000) (cmsg (.reportAck)) rfl).2.2.2.2.1 rfl)

theorem wit_CollectiveSteps_withdraw (h : Obligations.CollectiveSteps) : ∃ t, exec (.collectiveWithdrawal 9) (s0Msg (.withdraw) [ckey0] []
  0x8000000000000000) = .next t :=
  toNext ((h.1 (s0Msg (.withdraw) [ckey0] [] 0x8000000000000000) (cmsg (.withdraw)) rfl).2.2.2.2.2.1 (Or.inl rfl) holds holds |>.1 ckey0 rfl rfl)

theorem wit_CollectiveSteps_withdraw2 (h : Obligations.CollectiveSteps) : ∃ t, exec (.collectiveWithdrawal 9) ({ s0Msg .withdraw [] [] 0x8000000000000000 with cmsgs := [{ cmsg (.register 0) with id := 3 }, cmsg .withdraw] }) = .next t :=
  toNext ((h.1 ({ s0Msg .withdraw [] [] 0x8000000000000000 with cmsgs := [{ cmsg (.register 0) with id := 3 }, cmsg .withdraw] }) (cmsg .withdraw) rfl).2.2.2.2.2.1 (Or.inl rfl) holds holds |>.2 rfl |>.1 rfl ⟨_, List.mem_singleton.2 rfl, holds⟩)

theorem wit_CollectiveSteps_cancel (h : Obligations.CollectiveSteps) : ∃ t, exec (.collectiveWithdrawal 9) (s0Msg (.cancel) [{ ckey0 with num := 8 }]
  [] 0x8000000000000000) = .next t :=
  toNext ((h.1 (s0Msg (.cancel) [{ ckey0 with num := 8 }] [] 0x8000000000000000) (cmsg (.cancel)) rfl).2.2.2.2.2.1 (Or.inr rfl) holds holds
    |>.2 rfl |>.2 (Or.inl rfl))

theorem wit_CollectiveSteps_skip (h : Obligations.CollectiveSteps) : ∃ t, exec (.cancelNotice 9) (s0Msg (.skip 1) [] [(255, coll0)]
  0x8000000000000000) = .next t :=
  toNext ((h.1 (s0Msg (.skip 1) [] [(255, coll0)] 0x8000000000000000) (cmsg (.skip 1)) rfl).2.2.2.2.2.2.1 1 rfl rfl rfl)

theorem wit_CollectiveSteps_removed (h : Obligations.CollectiveSteps) : ∃ t, exec (.cancelNotice 9) (s0Msg (.removed) [] [(255, coll0)]
  0x8000000000000000) = .next t :=
  toNext2 ((h.1 (s0Msg (.removed) [] [(255, coll0)] 0x8000000000000000) (cmsg (.removed)) rfl).2.2.2.2.2.2.2.1 rfl 255 coll0 rfl rfl)

theorem wit_CollectiveSteps_takeover (h : Obligations.CollectiveSteps) : ∃ t, exec (.takeoverNotice 9) (s0Msg (.takeover) [] [(255, coll0)]
  0x8000000000000000) = .next t :=
  toNext ((h.1 (s0Msg (.takeover) [] [(255, coll0)] 0x8000000000000000) (cmsg (.takeover)) rfl).2.2.2.2.2.2.2.2 rfl)

theorem wit_CollectiveSteps_begin1 (h : Obligations.CollectiveSteps) : ∃ t, exec .collectiveBegin
  ({ s0Coll [(255, coll0)] 0 0 with cnums := [{ cnum0 with skip := some 1 }] }) = .next t :=
  toNext ((h.2.1 ({ s0Coll [(255, coll0)] 0 0 with cnums := [{ cnum0 with skip := some 1 }] }) { cnum0 with skip := some 1 } rfl
    holds).1 1 rfl)

/-- The broadcast waiting for its number, with a source and a destination. -/
def collAt (src dst : Word) (count : Word) (st : Nat) (d : Marked) : CLive :=
  { coll0 with block := [5, src, dst, 1 + 16 * 2, count, 0x1000000, 0, 0], state := st, num := some 7, data := d }
/-- Its number notified here, with the page 0x10000 of the gallery. -/
def s0Num (c : CLive) : State := { s0Coll [(255, c)] 0 0 with cnums := [cnum0], tlb := [galTlb] }
/-- Eight bytes gathered. -/
def eight : Marked := [(1, false), (2, false), (3, false), (4, false), (5, false), (6, false), (7, false), (8, false)]
/-- Its source in the scratchpad and in the gallery, or empty, and the two destinations. -/
def collOwn : CLive := collAt 0xFFFFFFFFFFF00100 0xFFFFFFFFFFFFFFF8 8 2 []
def collGal : CLive := collAt 0x10038 0xFFFFFFFFFFFFFFF8 8 2 []
def collNone : CLive := collAt 0x10038 0xFFFFFFFFFFFFFFF8 0 2 []
def collEnd : CLive := collAt 0xFFFFFFFFFFF00100 0xFFFFFFFFFFFFFFF8 8 3 eight
def collEndGal : CLive := collAt 0xFFFFFFFFFFF00100 0x10038 8 3 eight

theorem wit_CollectiveSteps_begin2 (h : Obligations.CollectiveSteps) : ∃ t, exec .collectiveBegin (s0Num collOwn) = .next t :=
  toNext ((h.2.1 (s0Num collOwn) cnum0 rfl holds).2 255 collOwn rfl rfl holds rfl holds |>.2.1 holds holds)

theorem wit_CollectiveSteps_begin3 (h : Obligations.CollectiveSteps) : ∃ t, exec .collectiveBegin (s0Num collNone) = .next t :=
  toNext ((h.2.1 (s0Num collNone) cnum0 rfl holds).2 255 collNone rfl rfl holds rfl holds |>.1 holds)

/-- The package once the number runs. -/
def v0Num (c : CLive) : State := (s0Num c).modSlot 255 fun c => { c with state := 3 }

theorem wit_CollectiveSteps_begin4 (h : Obligations.CollectiveSteps) : ∃ t, exec .collectiveBegin (s0Num collGal) = .next t :=
  toNext ((h.2.1 (s0Num collGal) cnum0 rfl holds).2 255 collGal rfl rfl holds rfl holds |>.2.2 (v0Num collGal)
    ((v0Num collGal).reachAs 0 0 true 0x10038 8 { r := true }).1 (galleryBase + 0x38) (galleryBase + 0x38) .plain holds holds rfl
    (pairOf holds) holds holds holds)

theorem wit_CollectiveSteps_complete (h : Obligations.CollectiveSteps) : ∃ t, exec (.collectiveComplete 7) (s0Num collEnd) = .next t :=
  toNext2 ((h.2.2.1 (s0Num collEnd) 7 255 collEnd rfl rfl holds rfl holds holds holds holds rfl rfl rfl (fun _ k => nomatch k) holds holds).1 holds
    holds rfl)

/-- The package once what is to be written is known. -/
def v0End : State := ((s0Num collEndGal).collSources collEndGal collEndGal.root collEndGal.members).1.modSlot 255 fun d =>
  { d with dest := some collEndGal.data }

theorem wit_CollectiveSteps_complete2 (h : Obligations.CollectiveSteps) : ∃ t, exec (.collectiveComplete 7) (s0Num collEndGal) = .next t :=
  toNext2 ((h.2.2.1 (s0Num collEndGal) 7 255 collEndGal rfl rfl holds rfl holds holds holds holds rfl rfl rfl (fun _ k => nomatch k) holds holds).2
    v0End (v0End.reachAs 0 0 true 0x10038 8 { w := true }).1 (galleryBase + 0x38) (galleryBase + 0x38) .plain rfl holds (pairOf holds)
    holds holds holds holds (keepAll rfl))

theorem wit_CollectiveSteps_beat1 (h : Obligations.CollectiveSteps) : ∃ t, exec .newelHeartbeat
  ({ s0Coll [] 0 0 with coldom := 0x8000000000001000, time := 70000 }) = .next t :=
  eqNext ((h.2.2.2 ({ s0Coll [] 0 0 with coldom := 0x8000000000001000, time := 70000 }) rfl holds).1 holds
    holds)

theorem wit_CollectiveSteps_beat2 (h : Obligations.CollectiveSteps) : ∃ t, exec .newelHeartbeat
  ({ s0Coll [] 0 0 with coldom := 0x8000000000000001, time := 70000 }) = .next t :=
  eqNext ((h.2.2.2 ({ s0Coll [] 0 0 with coldom := 0x8000000000000001, time := 70000 }) rfl holds).2.1 holds rfl)

theorem wit_CollectiveSteps_take1 (h : Obligations.CollectiveSteps) : ∃ t, exec .standbyTakeover
  ({ s0Coll [] 0 0 with coldom := 0x8000000000000001, time := 70000 }) = .next t :=
  toNext ((h.2.2.2 ({ s0Coll [] 0 0 with coldom := 0x8000000000000001, time := 70000 }) rfl holds).2.2.1 rfl holds)

theorem wit_CollectiveSteps_take2 (h : Obligations.CollectiveSteps) : exec .standbyTakeover
  ({ s0Coll [] 0 0 with coldom := 0x8000000000000001, time := 69999 }) = .next ({ s0Coll [] 0 0 with coldom := 0x8000000000000001, time := 69999 }) :=
  ((h.2.2.2 ({ s0Coll [] 0 0 with coldom := 0x8000000000000001, time := 69999 }) rfl holds).2.2.2 holds)

/-- A locket above the scratchpads of core 0. -/
def s0Locket : State := { s0 with lockets := [(0, { base := 0x3010000, len := 65536, digest := [] })] }

theorem wit_FabricLinks_arrive1 (h : Obligations.FabricLinks) : ∃ t, exec (.postedWriteArrival 0x300FFF8 { src := 1, covers := [], w := .bytes [1, 2, 3, 4, 5, 6, 7, 8] [7] })
  s0Locket = .next t :=
  toNext ((h.1 s0Locket 0x300FFF8 0x300FFF8 1 [] [7] [1, 2, 3, 4, 5, 6, 7, 8] rfl rfl holds).1 holds holds holds)

theorem wit_FabricLinks_arrive2 (h : Obligations.FabricLinks) : exec (.postedWriteArrival 0x300FFF9 { src := 1, covers := [], w := .bytes [1, 2, 3, 4, 5, 6, 7, 8] [7] })
  s0Locket = .next s0Locket :=
  (h.1 s0Locket 0x300FFF9 0x300FFF9 1 [] [7] [1, 2, 3, 4, 5, 6, 7, 8] rfl rfl holds).2 (Or.inl holds)

theorem wit_FabricLinks_arrive3 (h : Obligations.FabricLinks) : exec (.postedWriteArrival 0x300FFF8 { src := 1, covers := [], w := .bytes [1] [] }) { s0 with held := [(0x300FFC0,
  64)] } = .next { s0 with held := [(0x300FFC0, 64)] } :=
  (h.1 { s0 with held := [(0x300FFC0, 64)] } 0x300FFF8 0x300FFF8 1 [] [] [1] rfl rfl holds).2 (Or.inr holds)

theorem wit_FabricLinks_ack1 (h : Obligations.FabricLinks) : ∃ t, exec (.postedWriteAck 4) ({ s0 with posted := [posted0] }) = .next t :=
  toNext ((h.2.1 ({ s0 with posted := [posted0] }) posted0 rfl rfl).1 rfl)

theorem wit_FabricLinks_ack2 (h : Obligations.FabricLinks) : ∃ t, exec (.postedWriteAck 4)
  ({ s0With fun t => { t with outs := [{ id := 5, kind := .fabric, regs := [1], vals := none, acq := none }] } with posted := [posted0], flushes := [{ id := 5, tid := 0, count := 1, left := [4], lost := none }] })
  = .next t :=
  toNext ((h.2.1
    ({ s0With fun t => { t with outs := [{ id := 5, kind := .fabric, regs := [1], vals := none, acq := none }] } with posted := [posted0], flushes := [{ id := 5, tid := 0, count := 1, left := [4], lost := none }] })
    posted0 rfl rfl).2 { id := 5, tid := 0, count := 1, left := [4], lost := none } rfl rfl rfl holds)

theorem wit_FabricLinks_reply (h : Obligations.FabricLinks) : ∃ t, exec (.remoteLoadReply 4 0xFFFFFFFFFFFFFFFF) (s0With fun t =>
  { t with remote := some { id := 4, rd := 31, pa := 2 ^ 40, size := 4, signed := true } }) = .next t :=
  toNext (h.2.2.1 (s0With fun t => { t with remote := some { id := 4, rd := 31, pa := 2 ^ 40, size := 4, signed := true } }) 0 4 _
    { id := 4, rd := 31, pa := 2 ^ 40, size := 4, signed := true } 0xFFFFFFFFFFFFFFFF rfl rfl rfl holds)

theorem wit_FabricLinks_loss (h : Obligations.FabricLinks) : ∃ t, exec (.linkLoss 49) ({ State.reset with links := [(49, {})] }) = .next t :=
  toNext ((h.2.2.2.1 ({ State.reset with links := [(49, {})] }) 49 (Or.inr holds) rfl).1 rfl |>.1)

theorem wit_FabricLinks_crc1 (h : Obligations.FabricLinks) : ∃ t, exec (.flitCrcFailure 5) ({ State.reset with links := [(5, { crc := 15 })] }) =
  .next t :=
  toNext ((h.2.2.2.1 ({ State.reset with links := [(5, { crc := 15 })] }) 5 (Or.inl holds) rfl).1 rfl |>.2.1 rfl)

theorem wit_FabricLinks_crc2 (h : Obligations.FabricLinks) : ∃ t, exec (.flitCrcFailure 32) ({ State.reset with links := [(32, { crc := 14 })] }) =
  .next t :=
  toNext ((h.2.2.2.1 ({ State.reset with links := [(32, { crc := 14 })] }) 32 (Or.inr holds) rfl).1 rfl |>.2.2 holds)

theorem wit_FabricLinks_retrained (h : Obligations.FabricLinks) : ∃ t, exec (.linkRetrained 32)
  ({ State.reset with links := [(32, { retrain := true, crc := 15 })] }) = .next t :=
  toNext ((h.2.2.2.1 ({ State.reset with links := [(32, { retrain := true, crc := 15 })] }) 32 (Or.inr holds) rfl).2 rfl |>.1)

/-- A link that has not retrained within 1 ms. -/
def s0Down (l : Nat) : State := { State.reset with time := 700000, links := [(l, { retrain := true, crc := 15 })] }

theorem wit_FabricLinks_down1 (h : Obligations.FabricLinks) : ∃ t, exec (.linkDownTimeout 5) { s0Down 5 with threads := [(0, th0)] } = .next t :=
  toNext ((h.2.2.2.1 { s0Down 5 with threads := [(0, th0)] } 5 (Or.inl holds) rfl).2 rfl |>.2.2 holds)

theorem wit_FabricLinks_down1b (h : Obligations.FabricLinks) : ∃ t, exec (.linkDownTimeout 5) { s0Down 5 with threads := [(0, th0)] } = .next t ∧
    ∃ r, (t.thread 0).reports = [] ++ r :=
  let ⟨t, e, _, _, _, _, hs, _⟩ := (h.2.2.2.1 { s0Down 5 with threads := [(0, th0)] } 5 (Or.inl holds) rfl).2 rfl |>.2.2 holds
  ⟨t, e, (hs (Or.inl holds) 0).2.2.elim fun r hr => ⟨r, hr.1⟩⟩

theorem wit_FabricLinks_down2 (h : Obligations.FabricLinks) : ∃ t, exec (.linkDownTimeout 49) { s0Down 49 with threads := [(0, th0)] } = .next t ∧
    ∃ r, (t.thread 0).reports = [] ++ r :=
  let ⟨t, e, _, _, _, _, hs, _⟩ := (h.2.2.2.1 { s0Down 49 with threads := [(0, th0)] } 49 (Or.inr holds) rfl).2 rfl |>.2.2 holds
  ⟨t, e, (hs (Or.inr holds) 0).2.2.elim fun r hr => ⟨r, hr.1⟩⟩

theorem wit_FabricLinks_down2b (h : Obligations.FabricLinks) : ∃ t, exec (.linkDownTimeout 49) (s0Down 49) = .next t ∧ t.threads = [] :=
  let ⟨t, e, _, _, _, _, _, ho⟩ := (h.2.2.2.1 (s0Down 49) 49 (Or.inr holds) rfl).2 rfl |>.2.2 holds
  ⟨t, e, (ho rfl rfl rfl rfl rfl rfl rfl rfl (fun _ => ⟨rfl, rfl⟩)).2.1⟩

theorem wit_FabricLinks_down3 (h : Obligations.FabricLinks) : exec (.linkDownTimeout 49) { s0Down 49 with time := 699999 } = .next
  { s0Down 49 with time := 699999 } :=
  (h.2.2.2.1 { s0Down 49 with time := 699999 } 49 (Or.inr holds) rfl).2 rfl |>.2.1 holds

theorem wit_FabricLinks_trained (h : Obligations.FabricLinks) : ∃ t, exec (.linkTrained 0) s0 = .next t :=
  toNext ((h.2.2.2.2 s0 0 holds).1 holds rfl rfl)

theorem wit_FabricLinks_peer (h : Obligations.FabricLinks) : ∃ t, exec (.peerExchange 0 0 31)
  ({ s0 with tlinks := [(0, { state := 2 })], podcfg := 0x8000000000001000 }) = .next t :=
  toNext ((h.2.2.2.2 ({ s0 with tlinks := [(0, { state := 2 })], podcfg := 0x8000000000001000 }) 0 holds).2 0 31 rfl rfl)


end Sys2Proof.Tests
end

