-- ==== Sys2Proof/Tests/Witness8.lean ====
section
/-! SUPPORT. As Witness1: cards, barriers and the scheduler. -/

namespace Sys2Proof.Tests

set_option Elab.async false

open Sys2Proof Sys2Proof.Machine

/-- The running card, as given. -/
def s0Card (c : Card) (x5 x6 : Word) : State := s0With fun t => { t with card := some c, x := [(5, x5), (6, x6)] }
/-- Core 0 as given besides. -/
def s0CardCore (c : Card) (x5 x6 : Word) (k : Core) : State := { s0Card c x5 x6 with cores := [(0, k)] }
/-- A full deque. -/
def fullDeque : List Card := List.replicate 256 { card0 with id := 9 }
/-- A deque to steal from. -/
def victims : List Card := [{ card0 with id := 9, hdr := 0xFFFFFFFF0008 }, { card0 with id := 8, hdr := 0xFFFFFFFF0008 }]
/-- An entry with a number of cards left. -/
def entry0 (left : Nat) : Entry := { queue := 131071, left := left, unpicked := 1, wdog := 5, wdogAt := some 70, bad := false, sigs := [], dead := false }
/-- The words of a card to post. -/
def postState (hdr x6 : Word) : State := { withSpad (s0X 0xFFFFFFFFFFFFFFC0 x6 0) 0xFFFC0 [0x100, hdr, 1, 2, 3, 4, 5, 6] with roots := [(0, 0x8000000000040000)] }
/-- A group of two cards in one core group, row group and die group. -/
def group2 (level : Nat) : Group := { level := level, cpc := 1, cgr := 0, rgd := 0, dgp := 0, pkgs := 0, podkey := 0, entry := 0, seats := [{ slot := 0, tid := 0, dg := 0, rg := 0, cg := 0, done := false }, { slot := 1, tid := 1, dg := 0, rg := 0, cg := 0, done := false }] }
/-- Its cards, the second one waiting at a level's barrier or not. -/
def s0Group (level at_ : Nat) : State := { s0 with
  threads := [(0, { th0 with card := some cardG }), (1, { th0 with card := some { cardG with id := 2, seat := some 1 }, bar := if at_ = 0 then none else some { slot := 3, level := at_, sub := 0 } })]
  groups := [(3, group2 level)] }
/-- Both waiting. -/
def s0Waits (level : Nat) (both : Bool) : State := let s := s0Group 4 level
  if both then s.setThread 0 { s.thread 0 with bar := some { slot := 3, level := level, sub := 0 } } else s
/-- A queue of core 1023 whose head is a card's bytes or a launch block's. -/
def s0Queues (img : List Byte) (kind : Bool) : State := { State.reset with
  ready := true, roots := [(0, 0x8000000000040000)], mem := mwrites [] 0xBFFFFFFFC0 img
  queues := [(131071, { base := 0xBFFFFFFFC0, en := true, kind := kind, ie := true, vec := 2047, home := 255, tail := 1 })] }
/-- A card's bytes. -/
def cardImg (pc hdr : Nat) : List Byte := leBytes pc 8 ++ leBytes hdr 8 ++ (List.replicate 48 7)
/-- A launch of one group of one card. -/
def launch0 : Launch := { entry := 5, queue := 131071, pc := 0x100, hdr := 0xFFFFFFFF0000, arg := 0, cpc := 3, cgr := 0, rgd := 0, dgp := 0, level := 1, pkgs := 0, count := 1, slice := 0, wdog := 0, spad := 1024, dies := 8, podkey := 0, rank := 0, next := 0, since := 0 }
/-- A card that waits in a deque. -/
def cardW : Card := { newCard 9 [0x200, 0, 1, 2, 3, 4, 5, 6] 0xFFFFFFFF000B 1 0 0 with since := 0 }
/-- A push on its way. -/
def push0 : Push := { id := 4, card := cardW, core := 1023, tid := 0, out := 5 }
/-- Its issuer. -/
def s0Push (k : Core) : State := { s0With fun t => { t with outs := [{ id := 5, kind := .card, regs := [1], vals := none, acq := none }] } with
  pushes := [push0], cores := [(1023, k)] }

theorem wit_CardCommands_exit1 (h : Obligations.CardCommands) : ∃ t, exec .cardExit
  ({ s0Card ({ card0 with entry := some 5 }) 0 0 with entries := [(5, entry0 1)], queues := [(131071, { ie := true, vec := 2047 })] }) = .next t :=
  toNext (h.1 ({ s0Card ({ card0 with entry := some 5 }) 0 0 with entries := [(5, entry0 1)], queues := [(131071, { ie := true, vec := 2047 })] })
    ({ card0 with entry := some 5 }) (clearOf holds) rfl holds holds rfl rfl rfl rfl (fun _ k => nomatch k) rfl holds)

theorem wit_CardCommands_exit2 (h : Obligations.CardCommands) : ∃ t, exec .cardExit
  ({ s0Card ({ card0 with entry := some 5 }) 0 0 with entries := [(5, entry0 2)], queues := [(131071, { ie := true, vec := 2047 })] }) = .next t :=
  toNext (h.1 ({ s0Card ({ card0 with entry := some 5 }) 0 0 with entries := [(5, entry0 2)], queues := [(131071, { ie := true, vec := 2047 })] })
    ({ card0 with entry := some 5 }) (clearOf holds) rfl holds holds rfl rfl rfl rfl (fun _ k => nomatch k) rfl holds)

theorem wit_CardCommands_yield1 (h : Obligations.CardCommands) : ∃ t, exec .cardYield (s0CardCore card0 0 0 { deque := fullDeque }) = .next t :=
  toNext ((h.2.1 .cardYield _ (s0CardCore card0 0 0 { deque := fullDeque }) card0 5 (clearOf holds) (Or.inl ⟨rfl, rfl⟩) rfl
    holds).1 holds)

theorem wit_CardCommands_wfi (h : Obligations.CardCommands) : ∃ t, exec .wfi (s0Card card0 0 0) = .next t :=
  toNext2 ((h.2.1 .wfi _ (s0Card card0 0 0) card0 5 (clearOf holds) (Or.inr (Or.inl ⟨rfl, rfl⟩)) rfl holds).2
    holds holds holds)

theorem wit_CardCommands_susp (h : Obligations.CardCommands) : ∃ t, exec (.cardSusp 5) (s0CardCore card0 0x3FFFFFFFFFFFFC 0
  { deque := fullDeque.drop 1 }) = .next t :=
  toNext2 ((h.2.1 (.cardSusp 5) _ (s0CardCore card0 0x3FFFFFFFFFFFFC 0 { deque := fullDeque.drop 1 }) card0 5 (clearOf holds) (Or.inr
    (Or.inr ⟨rfl, rfl, holds, holds, holds⟩)) rfl holds).2 holds
    holds holds)

theorem wit_CardCommands_susp2 (h : Obligations.CardCommands) : ∃ t, exec (.cardSusp 5) (s0Card card0 0x40000000000000 0) = .next t :=
  toNext (h.2.2.1 5 (s0Card card0 0x40000000000000 0) (clearOf holds) (canTrapOf holds) (fun k => absurd k.2.2
    holds))

theorem wit_CardCommands_bind1 (h : Obligations.CardCommands) : ∃ t, exec (.cardBind 1 5 6) (s0CardCore card0 63 7 { tags := [(63, 1)] }) = .next t :=
  toNext ((h.2.2.2.1 1 5 6 (s0CardCore card0 63 7 { tags := [(63, 1)] }) card0 (clearOf holds) rfl).1 holds 1
    holds holds)

theorem wit_CardCommands_bind2 (h : Obligations.CardCommands) : ∃ t, exec (.cardBind 1 5 6) (s0CardCore card0 64 7 {}) = .next t :=
  toNext ((h.2.2.2.1 1 5 6 (s0CardCore card0 64 7 {}) card0 (clearOf holds) rfl).2.1 holds holds)

theorem wit_CardCommands_bind3 (h : Obligations.CardCommands) : ∃ t, exec (.cardBind 1 5 6) (s0CardCore card0 63 7 { tags := [(62, 0)] }) = .next t :=
  toNext ((h.2.2.2.1 1 5 6 (s0CardCore card0 63 7 { tags := [(62, 0)] }) card0 (clearOf holds) rfl).2.2.1 holds
    holds ⟨62, holds⟩)

theorem wit_CardCommands_bind4 (h : Obligations.CardCommands) : ∃ t, exec (.cardBind 1 5 6) (s0CardCore card0 0xFFFF 7 { tags := [(62, 0)] }) = .next
  t :=
  toNext ((h.2.2.2.1 1 5 6 (s0CardCore card0 0xFFFF 7 { tags := [(62, 0)] }) card0 (clearOf holds) rfl).2.2.2.1 holds)

theorem wit_CardCommands_bind5 (h : Obligations.CardCommands) : ∃ t, exec (.cardBind 1 5 6) (s0CardCore card0 63 7 {}) = .next t :=
  toNext2 ((h.2.2.2.1 1 5 6 (s0CardCore card0 63 7 {}) card0 (clearOf holds) rfl).2.2.2.2 holds (Or.inl holds)
    holds holds holds holds)

theorem wit_CardCommands_bind6 (h : Obligations.CardCommands) : ∃ t, exec (.cardBind 1 5 6) (s0CardCore card0 63 7 { tags := [(63, 0)] }) = .next t :=
  toNext2 ((h.2.2.2.1 1 5 6 (s0CardCore card0 63 7 { tags := [(63, 0)] }) card0 (clearOf holds) rfl).2.2.2.2 holds (Or.inr holds)
    holds holds holds holds)

theorem wit_CardCommands_prio (h : Obligations.CardCommands) : ∃ t, exec (.cardPrio 1 5) (s0Card card0 4 0) = .next t :=
  toNext2 ((h.2.2.2.2.1 1 5 (s0Card card0 4 0) card0 (clearOf holds) rfl).1)

theorem wit_CardCommands_self (h : Obligations.CardCommands) : ∃ t, exec (.cardSelf 1 5) (s0Card card0 4 0) = .next t :=
  toNext ((h.2.2.2.2.1 1 5 (s0Card card0 4 0) card0 (clearOf holds) rfl).2 holds)

theorem wit_CardCommands_dualsig (h : Obligations.CardCommands) : ∃ t, exec (.dualsig 5) (s0Card card0 4 0) = .next t :=
  toNext (h.2.2.2.2.2.1 5 (s0Card card0 4 0) card0 (clearOf holds) rfl)

theorem wit_CardCommands_hdone1 (h : Obligations.CardCommands) : ∃ t, exec .hdone (s0Card cardH 0 0) = .next t :=
  toNext ((h.2.2.2.2.2.2.1 (s0Card cardH 0 0) cardH (clearOf holds) rfl).1 rfl rfl holds (fun _ k => nomatch k))

theorem wit_CardCommands_hdone2 (h : Obligations.CardCommands) : ∃ t, exec .hdone (s0Card card0 0 0) = .next t :=
  toNext ((h.2.2.2.2.2.2.1 (s0Card card0 0 0) card0 (clearOf holds) rfl).2 (Or.inl rfl) (canTrapOf holds))

theorem wit_CardCommands_ptake1 (h : Obligations.CardCommands) : exec (.ptake 1 7) s0 = .next s0 :=
  ((h.2.2.2.2.2.2.2.1 1 7 s0 (clearOf holds)).1 rfl)

theorem wit_CardCommands_ptake2 (h : Obligations.CardCommands) : ∃ t, exec (.ptake 1 7) (s0With fun t => { t with pres := 0x80 }) = .next t :=
  toNext ((h.2.2.2.2.2.2.2.1 1 7 (s0With fun t => { t with pres := 0x80 }) (clearOf holds)).2 holds rfl)

theorem wit_CardCommands_steal1 (h : Obligations.CardCommands) : ∃ t, exec (.cardSteal 1 5)
  ({ s0Card card0 256 0 with cores := [(0, {}), (255, {})] }) = .next t :=
  ((h.2.2.2.2.2.2.2.2.1 1 5 ({ s0Card card0 256 0 with cores := [(0, {}), (255, {})] }) (clearOf holds)).1 (fun _ k => by cases k; rfl) (Or.inl
    holds)).imp fun _ k => k.1.1

theorem wit_CardCommands_steal2 (h : Obligations.CardCommands) : ∃ t, exec (.cardSteal 1 5)
  ({ s0Card card0 255 0 with cores := [(0, {}), (255, {})] }) = .next t :=
  ((h.2.2.2.2.2.2.2.2.1 1 5 ({ s0Card card0 255 0 with cores := [(0, {}), (255, {})] }) (clearOf holds)).2.1
    (Or.inr ⟨holds, holds, holds⟩)).imp fun _ k => k.1.1

theorem wit_CardCommands_steal5 (h : Obligations.CardCommands) : ∃ t, exec (.cardSteal 1 5) (s0Card cardG 256 0) = .next t :=
  ((h.2.2.2.2.2.2.2.2.1 1 5 (s0Card cardG 256 0) (clearOf holds)).2.1 (Or.inl ⟨cardG, rfl, holds⟩)).imp fun _ k => k.1.1

theorem wit_CardCommands_steal3 (h : Obligations.CardCommands) : ∃ t, exec (.cardSteal 1 5)
  ({ s0Card card0 255 0 with cores := [(0, { deque := fullDeque }), (255, { deque := victims })] }) = .next t
  :=
  ((h.2.2.2.2.2.2.2.2.1 1 5
    ({ s0Card card0 255 0 with cores := [(0, { deque := fullDeque }), (255, { deque := victims })] }) (clearOf
    holds)).2.2 holds holds (fun _ k => by cases k; rfl) ({ card0 with id := 9, hdr := 0xFFFFFFFF0008 })
    holds |>.1 holds).imp fun _ k => k.1.1

theorem wit_CardCommands_steal4 (h : Obligations.CardCommands) : ∃ t, exec (.cardSteal 1 5)
  ({ s0Card card0 255 0 with cores := [(0, {}), (255, { deque := victims })] }) = .next t :=
  ((h.2.2.2.2.2.2.2.2.1 1 5 ({ s0Card card0 255 0 with cores := [(0, {}), (255, { deque := victims })] })
    (clearOf holds)).2.2 holds holds (fun _ k => by cases k; rfl)
    ({ card0 with id := 9, hdr := 0xFFFFFFFF0008 }) holds |>.2 holds).imp fun _ k => k.1.1

theorem wit_CardCommands_stealFrom (h : Obligations.CardCommands) : affAdmits (({ card0 with id := 9, hdr := 0xFFFFFFFF0008 } : Card).aff) 255 0 =
  true :=
  (h.2.2.2.2.2.2.2.2.2.1 ({ s0 with cores := [(255, { deque := victims })] }) 255 0
    ({ card0 with id := 9, hdr := 0xFFFFFFFF0008 }) holds).2.2.1

theorem wit_CardCommands_post0 (h : Obligations.CardCommands) : ∃ t, exec (.cardPost 1 5 6) (s0Card card0 32 0) = .next t :=
  toNext ((h.2.2.2.2.2.2.2.2.2.2 1 5 6 (s0Card card0 32 0) (clearOf holds)).1 holds (canTrapOf holds))

theorem wit_CardCommands_post1 (h : Obligations.CardCommands) : ∃ t, exec (.cardPost 1 5 6) (postState 0xFFFF0000 256) = .next t :=
  toNext ((h.2.2.2.2.2.2.2.2.2.2 1 5 6 (postState 0xFFFF0000 256) (clearOf holds)).2 holds holds
    holds (postState 0xFFFF0000 256) (spadBase 0 + 0xFFFC0) .own (spadBase 0 + 0xFFFC0) (pairOf holds) holds holds holds
    |>.1 holds holds)

theorem wit_CardCommands_post2 (h : Obligations.CardCommands) : ∃ t, exec (.cardPost 1 5 6) (postState 0 255) = .next t :=
  toNext ((h.2.2.2.2.2.2.2.2.2.2 1 5 6 (postState 0 255) (clearOf holds)).2 holds holds holds
    (postState 0 255) (spadBase 0 + 0xFFFC0) .own (spadBase 0 + 0xFFFC0) (pairOf holds) holds holds holds |>.2.1 (Or.inr
    holds) (fun k => absurd k.2.2.2.2.2.1 holds))

theorem wit_CardCommands_post3 (h : Obligations.CardCommands) : ∃ t, exec (.cardPost 1 5 6) (postState 0xFFFF0000 0xFFFFFFFFFFFFFFFF) = .next t :=
  toNext2 ((h.2.2.2.2.2.2.2.2.2.2 1 5 6 (postState 0xFFFF0000 0xFFFFFFFFFFFFFFFF) (clearOf holds)).2 holds
    holds holds (postState 0xFFFF0000 0xFFFFFFFFFFFFFFFF) (spadBase 0 + 0xFFFC0) .own (spadBase 0 + 0xFFFC0) (pairOf
    holds) holds holds holds |>.2.2 (Or.inl holds) ⟨holds, holds, holds,
    ⟨0x8000000000040000, holds⟩, holds, holds, fun _ => holds⟩)

theorem wit_Barriers_ill1 (h : Obligations.Barriers) : ∃ t, exec .barCore s0 = .next t :=
  toNext ((h.1 (.barCore, 1) (by simp) s0 _ (clearOf holds) rfl).1 (canTrapOf holds) (Or.inl rfl))

theorem wit_Barriers_ill2 (h : Obligations.Barriers) : ∃ t, exec .barPod (s0Group 3 0) = .next t :=
  toNext ((h.1 (.barPod, 4) (by simp) (s0Group 3 0) _ (clearOf holds) rfl).1 (canTrapOf holds) (Or.inr (Or.inr ⟨group2 3,
    rfl, holds⟩)))

theorem wit_Barriers_core1 (h : Obligations.Barriers) : ∃ t, exec .barCore (s0Group 1 0) = .next t :=
  toNext ((h.1 (.barCore, 1) (by simp) (s0Group 1 0) _ (clearOf holds) rfl).2 (group2 1)
    { slot := 0, tid := 0, dg := 0, rg := 0, cg := 0, done := false } rfl rfl rfl holds rfl holds holds rfl (fun _ k => nomatch k)
    |>.2 (fun k => absurd k holds) |>.1 (fun k => absurd (k.2 _ (List.mem_cons_of_mem _ (List.mem_singleton.mpr rfl)) rfl)
    holds))

theorem wit_Barriers_core2 (h : Obligations.Barriers) : ∃ t, exec .barCore (s0Group 1 1) = .next t :=
  toNext ((h.1 (.barCore, 1) (by simp) (s0Group 1 1) _ (clearOf holds) rfl).2 (group2 1)
    { slot := 0, tid := 0, dg := 0, rg := 0, cg := 0, done := false } rfl rfl rfl holds rfl holds holds rfl (fun _ k => nomatch k)
    |>.2 (fun k => absurd k holds) |>.2 rfl (fun y hy _ => by fin_cases hy <;> decide))

theorem wit_Barriers_row1 (h : Obligations.Barriers) : ∃ t, exec .barRow
  ({ s0Group 2 2 with cores := [(1, { mq := [{ matOp (.mma mma7) with tid := 4, gang := some (3, 0), arrived := true }] })] }) = .next t :=
  toNext ((h.1 (.barRow, 2) (by simp)
    ({ s0Group 2 2 with cores := [(1, { mq := [{ matOp (.mma mma7) with tid := 4, gang := some (3, 0), arrived := true }] })] }) _ (clearOf
    holds) rfl).2 (group2 2) { slot := 0, tid := 0, dg := 0, rg := 0, cg := 0, done := false } rfl rfl rfl holds rfl
    holds holds rfl (fun _ k => nomatch k) |>.1 rfl holds holds (canTrapOf holds))

theorem wit_Barriers_row2 (h : Obligations.Barriers) : ∃ t, exec .barRow (s0Group 2 2) = .next t :=
  toNext ((h.1 (.barRow, 2) (by simp) (s0Group 2 2) _ (clearOf holds) rfl).2 (group2 2)
    { slot := 0, tid := 0, dg := 0, rg := 0, cg := 0, done := false } rfl rfl rfl holds rfl holds holds rfl (fun _ k => nomatch k)
    |>.2 (fun _ => ⟨holds, holds⟩) |>.1 (fun k => absurd k.1 holds))

theorem wit_Barriers_die (h : Obligations.Barriers) : ∃ t, exec .barDie (s0Group 3 3) = .next t :=
  toNext ((h.1 (.barDie, 3) (by simp) (s0Group 3 3) _ (clearOf holds) rfl).2 (group2 3)
    { slot := 0, tid := 0, dg := 0, rg := 0, cg := 0, done := false } rfl rfl rfl holds rfl holds holds rfl (fun _ k => nomatch k)
    |>.2 (fun k => absurd k holds) |>.1 (fun k => absurd k.1 holds))

theorem wit_Barriers_pod (h : Obligations.Barriers) : ∃ t, exec .barPod (s0Group 4 4) = .next t :=
  toNext ((h.1 (.barPod, 4) (by simp) (s0Group 4 4) _ (clearOf holds) rfl).2 (group2 4)
    { slot := 0, tid := 0, dg := 0, rg := 0, cg := 0, done := false } rfl rfl rfl holds rfl holds holds rfl (fun _ k => nomatch k)
    |>.2 (fun k => absurd k holds) |>.1 (fun k => absurd k.1 holds))

theorem wit_Barriers_close (h : Obligations.Barriers) : ∃ t, exec (.rowClaspClose 3 0) (s0Waits 2 true) = .next t :=
  toNext ((h.2 (s0Waits 2 true) 3 2 0 (group2 4) rfl ⟨0, rfl⟩).1 (fun y hy _ => by fin_cases hy <;> exact Or.inr rfl) |>.1 rfl)

theorem wit_Barriers_complete (h : Obligations.Barriers) : ∃ t, exec (.barrierComplete 3 4 0) (s0Waits 4 true) = .next t :=
  toNext ((h.2 (s0Waits 4 true) 3 4 0 (group2 4) rfl ⟨0, rfl⟩).1 (fun y hy _ => by fin_cases hy <;> exact Or.inr rfl) |>.2 holds)

theorem wit_Barriers_open (h : Obligations.Barriers) : exec (.rowClaspClose 3 0) (s0Waits 2 false) = .next (s0Waits 2 false) :=
  ((h.2 (s0Waits 2 false) 3 2 0 (group2 4) rfl ⟨1, rfl⟩).2 (fun k => absurd (k _ (List.mem_cons_self ..) rfl) holds) |>.1 rfl)

theorem wit_SchedulerSteps_idle (h : Obligations.SchedulerSteps) : exec (.queueDispatch 131071) State.reset = .next State.reset :=
  (h.1 State.reset 131071 rfl (Or.inl rfl))

theorem wit_SchedulerSteps_fail (h : Obligations.SchedulerSteps) : ∃ t, exec (.queueDispatch 131071) (s0Queues (cardImg 0x102 0xFFFFFFFF0000) false) =
  .next t :=
  toNext ((h.2.1 (s0Queues (cardImg 0x102 0xFFFFFFFF0000) false) 131071 (cardImg 0x102 0xFFFFFFFF0000) rfl rfl holds rfl
    holds).1 holds)

theorem wit_SchedulerSteps_card (h : Obligations.SchedulerSteps) : ∃ t, exec (.queueDispatch 131071) (s0Queues (cardImg 0x100 0xFFFFFFFF0020) false) =
  .next t := by
  obtain ⟨t, _, _, _, _, _, k, _⟩ := (h.2.1 (s0Queues (cardImg 0x100 0xFFFFFFFF0020) false) 131071 (cardImg 0x100 0xFFFFFFFF0020) rfl rfl holds rfl
    holds).2 holds 1023 holds holds
  exact ⟨t, k⟩

theorem wit_SchedulerSteps_place (h : Obligations.SchedulerSteps) : (1023 : Nat) < 1024 :=
  (h.2.2.1 State.reset 1023 0 8 true 0 1023 holds).1

theorem wit_SchedulerSteps_gang (h : Obligations.SchedulerSteps) : ∃ t, exec (.gangAdmit 5)
  ({ State.reset with ready := true, launches := [(5, launch0)] }) = .next t :=
  (h.2.2.2.1 ({ State.reset with ready := true, launches := [(5, launch0)] }) 5 launch0
    ((({ State.reset with ready := true, launches := [(5, launch0)] }).groupFits launch0).get holds) rfl holds rfl rfl
    (Option.some_get _).symm).imp fun _ k => k.elim fun _ k => k.elim fun _ k => k.1

theorem wit_SchedulerSteps_pick0 (h : Obligations.SchedulerSteps) : exec (.cardPickup 4095) ({ State.reset with ready := true }) = .next
  ({ State.reset with ready := true }) :=
  ((h.2.2.2.2.1 ({ State.reset with ready := true }) 4095).1 holds)

theorem wit_SchedulerSteps_pick1 (h : Obligations.SchedulerSteps) : ∃ t, exec (.cardPickup 4095)
  ({ State.reset with ready := true, cores := [(1023, { deque := [cardW] })] }) = .next t :=
  toNext ((h.2.2.2.2.1 ({ State.reset with ready := true, cores := [(1023, { deque := [cardW] })] }) 4095).2 rfl rfl cardW
    holds (fun k => absurd k.1 holds) holds rfl rfl)

theorem wit_SchedulerSteps_best (h : Obligations.SchedulerSteps) : Pick.ready cardW ∈ [Pick.ready card0, .ready cardW] :=
  (h.2.2.2.2.2.1 s0 [.ready card0, .ready cardW] (.ready cardW) holds).1

theorem wit_SchedulerSteps_push1 (h : Obligations.SchedulerSteps) : ∃ t, exec (.dequePush 4) (s0Push { deque := fullDeque.drop 1 }) = .next t :=
  toNext2 ((h.2.2.2.2.2.2.1 (s0Push { deque := fullDeque.drop 1 }) push0 rfl).1 holds)

theorem wit_SchedulerSteps_push2 (h : Obligations.SchedulerSteps) : ∃ t, exec (.dequePush 4) (s0Push { deque := fullDeque }) = .next t :=
  toNext ((h.2.2.2.2.2.2.1 (s0Push { deque := fullDeque }) push0 rfl).2 holds)

theorem wit_SchedulerSteps_scan1 (h : Obligations.SchedulerSteps) : ∃ t, exec (.stealScanStep 0)
  ({ State.reset with ready := true, cores := [(0, {}), (1, { deque := [cardW, { cardW with id := 8 }] })] }) = .next t := by
  obtain ⟨t, _, _, _, k, _⟩ := ((h.2.2.2.2.2.2.2.1 ({ State.reset with ready := true, cores := [(0, {}), (1, { deque := [cardW, { cardW with id := 8 }] })] }) 0 holds rfl rfl
    holds holds).1 cardW holds rfl)
  exact ⟨t, k⟩

theorem wit_SchedulerSteps_scan2 (h : Obligations.SchedulerSteps) : ∃ t, exec (.stealScanStep 0)
  ({ State.reset with ready := true, cores := [(0, { scan := 1022 })] }) = .next t :=
  toNext ((h.2.2.2.2.2.2.2.1 ({ State.reset with ready := true, cores := [(0, { scan := 1022 })] }) 0 holds rfl rfl holds
    holds).2 holds)

theorem wit_SchedulerSteps_victims (h : Obligations.SchedulerSteps) : ∃ i, i < 1023 ∧ victimAt 1023 i = 0 :=
  h.2.2.2.2.2.2.2.2.1 1023 0 holds holds holds

theorem wit_SchedulerSteps_pause1 (h : Obligations.SchedulerSteps) : ∃ t, exec (.stealPauseEnd 1023)
  ({ State.reset with ready := true, cores := [(1023, { pause := some 0 })] }) = .next t :=
  toNext ((h.2.2.2.2.2.2.2.2.2.1 ({ State.reset with ready := true, cores := [(1023, { pause := some 0 })] }) 1023 0 rfl rfl).1 holds)

theorem wit_SchedulerSteps_pause2 (h : Obligations.SchedulerSteps) : exec (.stealPauseEnd 1023)
  ({ State.reset with ready := true, cores := [(1023, { pause := some 1 })] }) = .next
  ({ State.reset with ready := true, cores := [(1023, { pause := some 1 })] }) :=
  ((h.2.2.2.2.2.2.2.2.2.1 ({ State.reset with ready := true, cores := [(1023, { pause := some 1 })] }) 1023 1 rfl rfl).2 holds)

theorem wit_SchedulerSteps_age (h : Obligations.SchedulerSteps) : ∃ t, exec (.ageing 9)
  ({ State.reset with time := 1048577, cores := [(1023, { deque := [cardW] })] }) = .next t :=
  toNext (h.2.2.2.2.2.2.2.2.2.2 ({ State.reset with time := 1048577, cores := [(1023, { deque := [cardW] })] }) 9 1023 { deque := [cardW] } rfl rfl)


end Sys2Proof.Tests
end

