-- ==== Sys2Proof/Tests/Witness9.lean ====
section
/-! SUPPORT. As Witness1: deadlines, checkpoints, the host's windows, the root and power. -/

namespace Sys2Proof.Tests

set_option Elab.async false

open Sys2Proof Sys2Proof.Machine

/-- A thread set of a timed card. -/
def s0Timed (slice at_ : Nat) (k : Core) : State := { s0With fun t => { t with card := some { card0 with slice := slice }, sliceAt := at_ } with cores := [(0, k)] }
/-- An allocation of a launch at the end of core 255's scratchpad. -/
def alloc0 : Alloc := { slot := 3, asid := 0, base := 0xFFC00, len := 1024, evicting := false }
/-- The core that holds it, and its die's pool. -/
def s0Alloc (pool : Word) (card : Option Card) : State := { s0 with
  threads := [(1020, { th0 with card := card })], cores := [(255, { allocs := [alloc0] })], dieMap := [(0, { evpool := pool })] }
/-- A card in its allocation. -/
def cardA : Card := { newCard 1 [] 0x0003FFFF0000 255 0 0 with seat := some 1020 }
/-- A thread set in the first handler, with a context buffer in HBM. -/
def s0Ckpt : State := s0With fun t => { t with steward := true, bank0 := busy, savearea := 0xBFFFFF0000 }
/-- A card that waits pre-empted. -/
def saved0 : Saved := { card := cardW, tid := 4095, buffer := 0xBFFFFF0000, chans := [], unread := [], copies := [], outs := [], jobs := [], bank := [], beadOps := [],
                        xops := [], gang := false, mflags := 0, ranges := [], evicted := false, seq := [], reports := [], preempts := [], lost := none }
/-- An evicted allocation. -/
def evicted0 : Eviction := { id := 5, core := 255, alloc := alloc0, bytes := [(0xFFC00, [1, 2, 3])], rings := [], accs := [], lands := [], mq := [], cards := [], ready := [],
                             gang := false }
/-- READY and in P0. -/
def s0Ready : State := { State.reset with ready := true }
/-- A queue as given. -/
def s0Q (x : Queue) : State := { s0Ready with queues := [(131071, x)] }
/-- Its last entry is free. -/
def queue1 : Queue := { base := 0xBFFFFFFF80, en := true, ie := true, vec := 2047, logcap := 1, tail := 0xFFFFFFFF, head := 0xFFFFFFFE }
/-- A card's bytes. -/
def img64 : List Byte := List.replicate 64 7
/-- In another power state. -/
def s0Power (n : BitVec 2) (w : Bool) : State := { s0Ready with pstate := n, waking := w }

theorem wit_DeadlinesAndCheckpoints_slice1 (h : Obligations.DeadlinesAndCheckpoints) : exec (.sliceExpiry 0) (s0Timed 5 1 {}) = .next (s0Timed 5 1 {})
  :=
  ((h.1 (s0Timed 5 1 {}) 0 ({ card0 with slice := 5 }) rfl).1 (Or.inr holds))

theorem wit_DeadlinesAndCheckpoints_slice2 (h : Obligations.DeadlinesAndCheckpoints) : ∃ t, exec (.sliceExpiry 0) ({ s0Timed 5 7 {} with time := 7 })
  = .next t :=
  eqNext ((h.1 ({ s0Timed 5 7 {} with time := 7 }) 0 ({ card0 with slice := 5 }) rfl).2 holds holds holds
    |>.1 rfl rfl)

theorem wit_DeadlinesAndCheckpoints_slice3 (h : Obligations.DeadlinesAndCheckpoints) : ∃ t, exec (.sliceExpiry 0)
  ({ s0Timed 5 7 { deque := [cardW] } with time := 7 }) = .next t :=
  toNext ((h.1 ({ s0Timed 5 7 { deque := [cardW] } with time := 7 }) 0 ({ card0 with slice := 5 }) rfl).2 holds holds
    holds |>.2 ⟨cardW, List.mem_singleton.mpr rfl, holds, holds⟩)

theorem wit_DeadlinesAndCheckpoints_wdog1 (h : Obligations.DeadlinesAndCheckpoints) : exec (.watchdogExpiry 5)
  ({ s0 with entries := [(5, entry0 1)], time := 69 }) = .next ({ s0 with entries := [(5, entry0 1)], time := 69 }) :=
  ((h.2.1 ({ s0 with entries := [(5, entry0 1)], time := 69 }) 5 70 (entry0 1) rfl rfl rfl rfl rfl).1 holds)

theorem wit_DeadlinesAndCheckpoints_wdog2 (h : Obligations.DeadlinesAndCheckpoints) : ∃ t, exec (.watchdogExpiry 5)
  ({ s0 with entries := [(5, entry0 1)], time := 70 }) = .next t :=
  toNext ((h.2.1 ({ s0 with entries := [(5, entry0 1)], time := 70 }) 5 70 (entry0 1) rfl rfl rfl rfl rfl).2 holds)

theorem wit_DeadlinesAndCheckpoints_preempt (h : Obligations.DeadlinesAndCheckpoints) : ∃ t, exec (.preempt 1023 15) s0 = .next t :=
  toNext (h.2.2.1 s0 1023 15 holds)

theorem wit_DeadlinesAndCheckpoints_deadline1 (h : Obligations.DeadlinesAndCheckpoints) : ∃ t, exec (.checkpointDeadline 0)
  ({ s0With fun t => { t with ckptab := 2, deadlineAt := 7 } with time := 7 }) = .next t :=
  eqNext ((h.2.2.2.1 ({ s0With fun t => { t with ckptab := 2, deadlineAt := 7 } with time := 7 }) 0 rfl rfl holds).1 holds
    holds)

theorem wit_DeadlinesAndCheckpoints_deadline2 (h : Obligations.DeadlinesAndCheckpoints) : exec (.checkpointDeadline 0)
  ({ s0With fun t => { t with ckptab := 2, deadlineAt := 7 } with time := 6 }) = .next
  ({ s0With fun t => { t with ckptab := 2, deadlineAt := 7 } with time := 6 }) :=
  ((h.2.2.2.1 ({ s0With fun t => { t with ckptab := 2, deadlineAt := 7 } with time := 6 }) 0 rfl rfl holds).2 (Or.inr
    holds))

theorem wit_DeadlinesAndCheckpoints_evict1 (h : Obligations.DeadlinesAndCheckpoints) : exec (.evict 0 255) (s0Alloc 0 (some cardA)) = .next (s0Alloc 0
  (some cardA)) :=
  ((h.2.2.2.2.1 (s0Alloc 0 (some cardA)) 0 255 alloc0 rfl holds rfl rfl).1 holds)

theorem wit_DeadlinesAndCheckpoints_evict2 (h : Obligations.DeadlinesAndCheckpoints) : ∃ t, exec (.evict 0 255) (s0Alloc 0x8000000010000000 (some
  cardA)) = .next t :=
  toNext ((h.2.2.2.2.1 (s0Alloc 0x8000000010000000 (some cardA)) 0 255 alloc0 rfl holds rfl rfl).2 holds
    holds holds |>.1 holds)

theorem wit_DeadlinesAndCheckpoints_evict3 (h : Obligations.DeadlinesAndCheckpoints) : ∃ t, exec (.evict 0 255) (s0Alloc 0x8000000010000000 none) =
  .next t :=
  toNext2 ((h.2.2.2.2.1 (s0Alloc 0x8000000010000000 none) 0 255 alloc0 rfl holds rfl rfl).2 holds holds holds |>.2
    holds)

theorem wit_DeadlinesAndCheckpoints_ckpt1 (h : Obligations.DeadlinesAndCheckpoints) : ∃ t, exec (.ckpt 5) s0 = .next t :=
  toNext ((h.2.2.2.2.2.1 5 s0 rfl).1 (Or.inl rfl) (canTrapOf holds))

theorem wit_DeadlinesAndCheckpoints_ckpt2 (h : Obligations.DeadlinesAndCheckpoints) : ∃ t, exec (.ckpt 5) s0Ckpt = .next t :=
  toNext2 ((h.2.2.2.2.2.1 5 s0Ckpt rfl).2 card0 rfl rfl rfl rfl holds holds holds rfl rfl
    holds holds rfl rfl)

theorem wit_DeadlinesAndCheckpoints_resume (h : Obligations.DeadlinesAndCheckpoints) : ∃ t, exec (.cardPickup 4095)
  ({ s0Ready with cores := [(1023, { stopped := [saved0] })] }) = .next t :=
  toNext (h.2.2.2.2.2.2.1 ({ s0Ready with cores := [(1023, { stopped := [saved0] })] }) 4095 saved0 rfl rfl holds rfl rfl rfl rfl rfl rfl rfl rfl holds holds holds)

theorem wit_DeadlinesAndCheckpoints_readmit1 (h : Obligations.DeadlinesAndCheckpoints) : ∃ t, exec (.evictionReadmit 5 255)
  ({ s0Ready with evictions := [evicted0] }) = .next t :=
  toNext ((h.2.2.2.2.2.2.2 ({ s0Ready with evictions := [evicted0] }) evicted0 255 [] rfl rfl rfl).2 holds holds)

theorem wit_DeadlinesAndCheckpoints_readmit2 (h : Obligations.DeadlinesAndCheckpoints) : exec (.evictionReadmit 5 255)
  ({ s0Ready with evictions := [evicted0], cores := [(255, { dead := true })] }) = .next
  ({ s0Ready with evictions := [evicted0], cores := [(255, { dead := true })] }) :=
  ((h.2.2.2.2.2.2.2 ({ s0Ready with evictions := [evicted0], cores := [(255, { dead := true })] }) evicted0 255 [] rfl rfl rfl).1 holds)

theorem wit_HostWindows_append1 (h : Obligations.HostWindows) : ∃ t, exec (.hostAppend 0x7FFFC0 img64) (s0Q ({ queue1 with en := false })) = .next t
  :=
  toNext ((h.1 (s0Q ({ queue1 with en := false })) 0x7FFFC0 img64 rfl rfl holds).1 holds)

theorem wit_HostWindows_append2 (h : Obligations.HostWindows) : ∃ t, exec (.hostAppend 0x7FFFC8 img64) (s0Q (queue1)) = .next t :=
  toNext ((h.1 (s0Q (queue1)) 0x7FFFC8 img64 rfl rfl holds).2.1 holds (Or.inr holds))

theorem wit_HostWindows_append3 (h : Obligations.HostWindows) : ∃ t, exec (.hostAppend 0x7FFFC0 img64) (s0Q ({ queue1 with head := 0xFFFFFFFD })) =
  .next t :=
  toNext ((h.1 (s0Q ({ queue1 with head := 0xFFFFFFFD })) 0x7FFFC0 img64 rfl rfl holds).2.2.1 holds holds
    holds holds)

theorem wit_HostWindows_append4 (h : Obligations.HostWindows) : ∃ t, exec (.hostAppend 0x7FFFC0 img64) (s0Q (queue1)) = .next t :=
  toNext ((h.1 (s0Q (queue1)) 0x7FFFC0 img64 rfl rfl holds).2.2.2 holds holds holds
    holds (keepAll rfl) holds)

theorem wit_HostWindows_write1 (h : Obligations.HostWindows) : exec (.hostWrite 0xBFFFFFFFC1 img64) s0Ready = .next s0Ready :=
  ((h.2.1 s0Ready 0xBFFFFFFFC1 img64 rfl rfl).1 holds)

theorem wit_HostWindows_write2 (h : Obligations.HostWindows) : ∃ t, exec (.hostWrite 0xBFFFFFFFC0 img64) s0Ready = .next t :=
  toNext ((h.2.1 s0Ready 0xBFFFFFFFC0 img64 rfl rfl).2.1 holds rfl rfl)

theorem wit_HostWindows_write3 (h : Obligations.HostWindows) : ∃ t, exec (.hostWrite 0xBFFFFEFFC1 img64)
  ({ s0Ready with lockets := [(0, { base := 0xBFFFFF0000, len := 65536, digest := [] })] }) = .next t :=
  toNext ((h.2.1 ({ s0Ready with lockets := [(0, { base := 0xBFFFFF0000, len := 65536, digest := [] })] }) 0xBFFFFEFFC1 img64 rfl rfl).2.2
    holds rfl holds)

theorem wit_HostWindows_read1 (h : Obligations.HostWindows) : ∃ t, exec (.hostRead 4 0 8) State.reset = .next t :=
  eqNext ((h.2.2.1 State.reset 4 0 8).1 rfl holds)

theorem wit_HostWindows_read2 (h : Obligations.HostWindows) : ∃ t, exec (.hostRead 4 0xBFFFFFFFF8 8) s0Ready = .next t :=
  eqNext ((h.2.2.1 s0Ready 4 0xBFFFFFFFF8 8).2.1 rfl rfl |>.1 holds holds rfl)

theorem wit_HostWindows_read3 (h : Obligations.HostWindows) : ∃ t, exec (.hostRead 4 0xBFFFFFFFF9 8) s0Ready = .next t :=
  eqNext ((h.2.2.1 s0Ready 4 0xBFFFFFFFF9 8).2.1 rfl rfl |>.2.1 holds holds)

theorem wit_HostWindows_read4 (h : Obligations.HostWindows) : ∃ t, exec (.hostRead 2 0x7FFFC0 8) s0Ready = .next t :=
  eqNext ((h.2.2.1 s0Ready 2 0x7FFFC0 8).2.1 rfl rfl |>.2.2.1 holds holds holds)

theorem wit_HostWindows_read5 (h : Obligations.HostWindows) : ∃ t, exec (.hostRead 0 4 8) s0Ready = .next t :=
  eqNext ((h.2.2.1 s0Ready 0 4 8).2.1 rfl rfl |>.2.2.2.1 holds (Or.inr holds))

theorem wit_HostWindows_read6 (h : Obligations.HostWindows) : ∃ t, exec (.hostRead 0 0x48 8) s0Ready = .next t :=
  eqNext ((h.2.2.1 s0Ready 0 0x48 8).2.1 rfl rfl |>.2.2.2.2 holds holds (0x48, zext s0Ready.attstat) (by simp) rfl)

theorem wit_HostWindows_read7 (h : Obligations.HostWindows) : ∃ t, exec (.hostRead 4 0 8) (s0Power 3 false) = .next t :=
  eqNext ((h.2.2.1 (s0Power 3 false) 4 0 8).2.2 rfl holds rfl holds)

theorem wit_HostWindows_ctl1 (h : Obligations.HostWindows) : exec (.controlRegisterWrite 0x10 4 5) s0Ready = .next s0Ready :=
  (h.2.2.2.1 s0Ready 5 rfl rfl rfl).1 0x10 4 (Or.inl holds)

theorem wit_HostWindows_ctl2 (h : Obligations.HostWindows) : ∃ t, exec (.controlRegisterWrite 0x10 8 5) s0Ready = .next t :=
  eqNext ((h.2.2.2.1 s0Ready 5 rfl rfl rfl).2.1 (0x10, { s0Ready with ltol := (5 : Word) &&& 0xFFFFFFFF }) (.tail _ (.head _)))

theorem wit_HostWindows_ctl3 (h : Obligations.HostWindows) : ∃ t, exec (.controlRegisterWrite 0x138 8 5) s0Ready = .next t :=
  eqNext ((h.2.2.2.1 s0Ready 5 rfl rfl rfl).2.2.1 7 holds)

theorem wit_HostWindows_ctl4 (h : Obligations.HostWindows) : exec (.controlRegisterWrite 0x40 8 5) s0Ready = exec (.attreq 5) s0Ready :=
  (h.2.2.2.1 s0Ready 5 rfl rfl rfl).2.2.2.1 (0x40, .attreq 5) (by simp)

theorem wit_HostWindows_ctl5 (h : Obligations.HostWindows) : exec (.controlRegisterWrite 0x28 8 2) s0Ready = exec (.lcDeploy 2) s0Ready :=
  (h.2.2.2.1 s0Ready 2 rfl rfl rfl).2.2.2.2.2.1 holds

theorem wit_HostWindows_ctl6 (h : Obligations.HostWindows) : exec (.controlRegisterWrite 0x28 8 3) s0Ready = exec (.lcReturn 3) s0Ready :=
  (h.2.2.2.1 s0Ready 3 rfl rfl rfl).2.2.2.2.2.2.1 holds

theorem wit_HostWindows_ctl7 (h : Obligations.HostWindows) : exec (.controlRegisterWrite 0x130000018 8 5) s0Ready = exec (.evict 3 5) s0Ready :=
  ((h.2.2.2.1 s0Ready 5 rfl rfl rfl).2.2.2.2.2.2.2.1 3 holds).2.2.2.1 rfl

theorem wit_HostWindows_ctl8 (h : Obligations.HostWindows) : exec (.controlRegisterWrite 0x130CFFFF8 8 5) s0Ready = exec (.queueDescriptorWrite 131071
  3 5) s0Ready :=
  ((h.2.2.2.1 s0Ready 5 rfl rfl rfl).2.2.2.2.2.2.2.1 3 holds).2.2.2.2 32767 3 holds

theorem wit_HostWindows_ctl9 (h : Obligations.HostWindows) : exec (.controlRegisterWrite 0x6003FF4F8 8 5) s0Ready = exec (.stwcsrWrite 4095 0xF8 5)
  s0Ready :=
  ((h.2.2.2.1 s0Ready 5 rfl rfl rfl).2.2.2.2.2.2.2.2 1023 holds).2.2 3 0xF8 holds holds holds

theorem wit_HostWindows_wipe (h : Obligations.HostWindows) : exec (.hostWrite 0 img64) State.reset = .next State.reset :=
  ((h.2.2.2.2.1 State.reset 0 8 0 img64).1 rfl rfl).1

theorem wit_HostWindows_held (h : Obligations.HostWindows) : ∃ t, exec (.controlRegisterWrite 8 8 1) (s0Power 1 false) = .next t :=
  eqNext (((h.2.2.2.2.1 (s0Power 1 false) 8 8 1 []).2 rfl holds holds).2.2 holds holds
    holds)

theorem wit_HostWindows_queue (h : Obligations.HostWindows) : ∃ t, exec (.queueDescriptorWrite 131071 0 5) (s0Q queue1) = .next t :=
  toNext2 (h.2.2.2.2.2.1 (s0Q queue1) 131071 5 rfl holds)

theorem wit_HostWindows_hint (h : Obligations.HostWindows) : ∃ t, exec (.hintWrite 63) s0Ready = .next t :=
  eqNext (h.2.2.2.2.2.2.1 s0Ready 63 rfl)

theorem wit_HostWindows_stw1 (h : Obligations.HostWindows) : exec (.stwcsrWrite 0 0x78 5) s0 = .next s0 :=
  (h.2.2.2.2.2.2.2 s0 0 0x78 5).1 (Or.inl holds)

theorem wit_HostWindows_stw2 (h : Obligations.HostWindows) : exec (.stwcsrWrite 0 0 6) s0 = .next s0 :=
  ((h.2.2.2.2.2.2.2 s0 0 0 6).2 rfl).1 holds holds

theorem wit_HostWindows_stw3 (h : Obligations.HostWindows) : ∃ t, exec (.stwcsrWrite 0 0 4) s0 = .next t :=
  eqNext (((h.2.2.2.2.2.2.2 s0 0 0 4).2 rfl).2.1 rfl holds)

theorem wit_HostWindows_stw4 (h : Obligations.HostWindows) : ∃ t, exec (.stwcsrWrite 0 8 4) s0 = .next t :=
  eqNext (((h.2.2.2.2.2.2.2 s0 0 8 4).2 rfl).2.2.1 rfl holds)

theorem wit_HostWindows_stw5 (h : Obligations.HostWindows) : ∃ t, exec (.stwcsrWrite 0 0x58 0xFFFFFFFFF0000) s0 = .next t :=
  eqNext (((h.2.2.2.2.2.2.2 s0 0 0x58 0xFFFFFFFFF0000).2 rfl).2.2.2.1 rfl holds holds)

theorem wit_HostWindows_stw6 (h : Obligations.HostWindows) : ∃ t, exec (.stwcsrWrite 0 0x68 0xFFFFFFFF) s0 = .next t :=
  eqNext (((h.2.2.2.2.2.2.2 s0 0 0x68 0xFFFFFFFF).2 rfl).2.2.2.2 rfl holds)

theorem wit_RootAndColumns_reset (h : Obligations.RootAndColumns) : ∃ t, exec (.packageReset) s0 = .next t :=
  toNext (h.1 s0 1)

theorem wit_RootAndColumns_wiped (h : Obligations.RootAndColumns) : ∃ t, exec (.wipeDone) State.reset = .next t :=
  eqNext ((h.2.1 State.reset).1 rfl)

theorem wit_RootAndColumns_wiped2 (h : Obligations.RootAndColumns) : ∃ t, exec (.wipeDone) ({ State.reset with lcNext := some 2 }) = .next t :=
  toNext ((h.2.1 ({ State.reset with lcNext := some 2 })).2 2 rfl rfl)

theorem wit_RootAndColumns_provision (h : Obligations.RootAndColumns) : ∃ t, exec (.provision) s0 = .next t :=
  eqNext ((h.2.2.1 s0).1 rfl)

theorem wit_RootAndColumns_deploy1 (h : Obligations.RootAndColumns) : ∃ t, exec (.lcDeploy 0x4C43000000000002) ({ s0Ready with lc := 1 }) = .next t :=
  toNext ((h.2.2.2.1 ({ s0Ready with lc := 1 }) 0x4C43000000000002).1 ⟨rfl, holds⟩ rfl holds)

theorem wit_RootAndColumns_return1 (h : Obligations.RootAndColumns) : ∃ t, exec (.lcReturn 0x4C43000000000003) ({ s0Ready with lc := 2 }) = .next t :=
  toNext ((h.2.2.2.1 ({ s0Ready with lc := 2 }) 0x4C43000000000003).2.1 ⟨rfl, holds⟩ (Or.inr rfl) holds)

theorem wit_RootAndColumns_deploy2 (h : Obligations.RootAndColumns) : exec (.lcDeploy 0x4C43000000000002) ({ s0Ready with lc := 2 }) = .next
  ({ s0Ready with lc := 2 }) :=
  (h.2.2.2.1 ({ s0Ready with lc := 2 }) 0x4C43000000000002).2.2.1 (fun k => absurd k.2.1 holds)

theorem wit_RootAndColumns_return2 (h : Obligations.RootAndColumns) : exec (.lcReturn 0x4C43000000000002) ({ s0Ready with lc := 2 }) = .next
  ({ s0Ready with lc := 2 }) :=
  (h.2.2.2.1 ({ s0Ready with lc := 2 }) 0x4C43000000000002).2.2.2 (fun k => absurd k.2.2 holds)

theorem wit_RootAndColumns_att1 (h : Obligations.RootAndColumns) : exec (.attreq 0) s0Ready = .next s0Ready :=
  ((h.2.2.2.2.1 s0Ready 0 rfl).1 (Or.inl rfl))

theorem wit_RootAndColumns_att2 (h : Obligations.RootAndColumns) : ∃ t, exec (.attreq 1) s0Ready = .next t :=
  eqNext ((h.2.2.2.2.1 s0Ready 1 rfl).2 holds rfl |>.1 (Or.inl rfl))

theorem wit_RootAndColumns_att3 (h : Obligations.RootAndColumns) : ∃ t, exec (.attreq 7) ({ s0Ready with lc := 1 }) = .next t :=
  toNext2 ((h.2.2.2.2.1 ({ s0Ready with lc := 1 }) 7 rfl).2 holds rfl |>.2 (Or.inl rfl) (Or.inr (fun _ k => nomatch k)))

theorem wit_RootAndColumns_att4 (h : Obligations.RootAndColumns) : ∃ t, exec (.attestReportDone)
  ({ s0Ready with request := some { nonce := List.replicate 8 0, open_ := [] } }) = .next t :=
  toNext (h.2.2.2.2.2.1 ({ s0Ready with request := some { nonce := List.replicate 8 0, open_ := [] } }) _ rfl)

theorem wit_RootAndColumns_col1 (h : Obligations.RootAndColumns) : exec (.coldomEnable 5) ({ s0Ready with cslots := [(255, coll0)] }) = .next
  ({ s0Ready with cslots := [(255, coll0)] }) :=
  ((h.2.2.2.2.2.2.1 ({ s0Ready with cslots := [(255, coll0)] }) 5).1 holds).1

theorem wit_RootAndColumns_col2 (h : Obligations.RootAndColumns) : ∃ t, exec (.coldomEnable 0xFFFFFFFFFFFFFFFF) s0Ready = .next t :=
  toNext ((h.2.2.2.2.2.2.1 s0Ready 0xFFFFFFFFFFFFFFFF).2.1 rfl |>.1 holds)

theorem wit_RootAndColumns_col3 (h : Obligations.RootAndColumns) : ∃ t, exec (.coldomDisable 5) s0Ready = .next t :=
  toNext ((h.2.2.2.2.2.2.1 s0Ready 5).2.1 rfl |>.2 holds)

/-- Package 2 in a domain, with keys of a newel or standby. -/
def s0Member (dom : Word) : State := { s0Ready with podcfg := 0x8000000000002002, coldom := dom, ckeys := [ckey0], cnext := 7 }

/-- A plain member writes its COLDOM again; then the standby, the newel and a package in no domain. -/
theorem wit_RootAndColumns_col4 (h : Obligations.RootAndColumns) : exec (.coldomEnable 0x8000000000001001) (s0Member 0x8000000000001001) = .next
  (s0Member 0x8000000000001001) :=
  let ⟨_, e, _, _, _, _, _, k⟩ := (h.2.2.2.2.2.2.1 (s0Member 0x8000000000001001) 0x8000000000001001).2.1 rfl |>.1 holds
  k holds holds holds ▸ e

theorem wit_RootAndColumns_col5 (h : Obligations.RootAndColumns) : ∃ t, exec (.coldomEnable 0x8000000000002001) (s0Member 0x8000000000002001) =
  .next t ∧ t.ckeys = [] :=
  let ⟨t, e, _, _, _, _, k, _⟩ := (h.2.2.2.2.2.2.1 (s0Member 0x8000000000002001) 0x8000000000002001).2.1 rfl |>.1 holds
  ⟨t, e, (k holds).1⟩

theorem wit_RootAndColumns_col6 (h : Obligations.RootAndColumns) : ∃ t, exec (.coldomEnable 0x8000000000001002) (s0Member 0x8000000000001002) =
  .next t ∧ t.cnext = 0 :=
  let ⟨t, e, _, _, _, k, _⟩ := (h.2.2.2.2.2.2.1 (s0Member 0x8000000000001002) 0x8000000000001002).2.1 rfl |>.1 holds
  ⟨t, e, (k (Or.inr holds)).2.2.1⟩

theorem wit_RootAndColumns_col7 (h : Obligations.RootAndColumns) : exec (.coldomDisable 5) { s0Ready with coldom := 5, cnext := 7 } = .next
  { s0Ready with coldom := 5, cnext := 7 } :=
  let ⟨_, e, _, _, _, _, k⟩ := (h.2.2.2.2.2.2.1 { s0Ready with coldom := 5, cnext := 7 } 5).2.1 rfl |>.2 holds
  k holds ▸ e

theorem wit_RootAndColumns_pod (h : Obligations.RootAndColumns) : exec (.podcfgWrite 0x8000000000FFFFFF) s0Ready = .next
  { s0Ready with podcfg := 0x8000000000FFFFFF } :=
  ((h.2.2.2.2.2.2.1 s0Ready 0x8000000000FFFFFF).2.2).trans (congrArg _ (if_pos holds))

theorem wit_RootAndColumns_pod2 (h : Obligations.RootAndColumns) : exec (.podcfgWrite 0x8000000001FFFFFF) s0Ready = .next s0Ready :=
  ((h.2.2.2.2.2.2.1 s0Ready 0x8000000001FFFFFF).2.2).trans (congrArg _ (if_neg holds))

theorem wit_RootAndColumns_gcol1 (h : Obligations.RootAndColumns) : exec (.gcolWrite 3 0) s0Ready = .next s0Ready :=
  (h.2.2.2.2.2.2.2.1 s0Ready 3 0 rfl holds).1 (fun k => absurd k.1 holds)

theorem wit_RootAndColumns_gcol2 (h : Obligations.RootAndColumns) : ∃ t, exec (.gcolWrite 3 1) ({ s0Ready with gfold := [(3, 0x8000000000000000)] }) =
  .next t :=
  toNext ((h.2.2.2.2.2.2.2.1 ({ s0Ready with gfold := [(3, 0x8000000000000000)] }) 3 1 rfl holds).2.1 ⟨holds, rfl, Or.inr
    holds⟩)

theorem wit_RootAndColumns_gfold1 (h : Obligations.RootAndColumns) : exec (.gfoldWrite 3 0) ({ s0Ready with gcolNow := [(3, 1)] }) = .next
  ({ s0Ready with gcolNow := [(3, 1)] }) :=
  (h.2.2.2.2.2.2.2.1 ({ s0Ready with gcolNow := [(3, 1)] }) 3 0 rfl holds).2.2.1 holds

theorem wit_RootAndColumns_gfold2 (h : Obligations.RootAndColumns) : ∃ t, exec (.gfoldWrite 3 0x800FFFFFFC000000) s0Ready = .next t :=
  eqNext ((h.2.2.2.2.2.2.2.1 s0Ready 3 0x800FFFFFFC000000 rfl holds).2.2.2.1 rfl holds holds)

theorem wit_RootAndColumns_freplay (h : Obligations.RootAndColumns) : ∃ t, exec (.freplay 3 255) s0Ready = .next t :=
  toNext ((h.2.2.2.2.2.2.2.1 s0Ready 3 255 rfl holds).2.2.2.2)

theorem wit_RootAndColumns_move1 (h : Obligations.RootAndColumns) : exec (.columnMoveDone 3 0)
  ({ s0Ready with gfold := [(3, 0x8000000000000000)], dieMap := [(3, { on := 0x7FFF, moving := true })] }) = .next
  ({ s0Ready with gfold := [(3, 0x8000000000000000)], dieMap := [(3, { on := 0x7FFF, moving := true })] }) :=
  ((h.2.2.2.2.2.2.2.2.1 ({ s0Ready with gfold := [(3, 0x8000000000000000)], dieMap := [(3, { on := 0x7FFF, moving := true })] }) 3 0
    holds holds rfl).1 holds)

theorem wit_RootAndColumns_move2 (h : Obligations.RootAndColumns) : ∃ t, exec (.columnMoveDone 3 15)
  ({ s0Ready with gfold := [(3, 0x8000000000000000)], dieMap := [(3, { on := 0x7FFF, moving := true })] }) = .next t :=
  toNext ((h.2.2.2.2.2.2.2.2.1 ({ s0Ready with gfold := [(3, 0x8000000000000000)], dieMap := [(3, { on := 0x7FFF, moving := true })] }) 3 15
    holds holds rfl).2 holds)

theorem wit_RootAndColumns_niovf1 (h : Obligations.RootAndColumns) : exec (.niovfWrite 1023 0x8000000000000000)
  ({ s0Ready with cores := [(1023, { heap := [pkt 1] })] }) = .next ({ s0Ready with cores := [(1023, { heap := [pkt 1] })] }) :=
  ((h.2.2.2.2.2.2.2.2.2 ({ s0Ready with cores := [(1023, { heap := [pkt 1] })] }) 1023 0x8000000000000000 rfl holds).1
    holds)

theorem wit_RootAndColumns_niovf2 (h : Obligations.RootAndColumns) : ∃ t, exec (.niovfWrite 1023 0x940FFFFFFFFF0000) s0Ready = .next t :=
  eqNext ((h.2.2.2.2.2.2.2.2.2 s0Ready 1023 0x940FFFFFFFFF0000 rfl holds).2 rfl holds holds
    holds holds)

theorem wit_PowerAndErrors_idle1 (h : Obligations.PowerAndErrors) : exec (.idleTimeout) ({ s0Ready with ltol := 4 }) = .next
  ({ s0Ready with ltol := 4 }) :=
  ((h.1 ({ s0Ready with ltol := 4 })).1 (Or.inr (Or.inr (Or.inl holds))))

theorem wit_PowerAndErrors_idle6 (h : Obligations.PowerAndErrors) : exec (.idleTimeout) ({ s0Ready with ltol := 5, idleFor := 1023 }) = .next
  ({ s0Ready with ltol := 5, idleFor := 1023 }) :=
  ((h.1 ({ s0Ready with ltol := 5, idleFor := 1023 })).1 (Or.inr (Or.inr (Or.inr holds))))

theorem wit_PowerAndErrors_idle2 (h : Obligations.PowerAndErrors) : ∃ t, exec (.idleTimeout)
  ({ s0Ready with idleFor := 1024, ltol := 5, gfold := (List.range 4).map fun d => (d, 0x8000000000000000) }) = .next t :=
  toNext ((h.1 ({ s0Ready with idleFor := 1024, ltol := 5, gfold := (List.range 4).map fun d => (d, 0x8000000000000000) })).2 rfl holds
    holds holds)

theorem wit_PowerAndErrors_idle3 (h : Obligations.PowerAndErrors) : ∃ t, exec (.idleTimeout)
  ({ s0Ready with idleFor := 1024, ltol := 200, gfold := (List.range 4).map fun d => (d, 0x8000000000000000) }) = .next t :=
  toNext ((h.1 ({ s0Ready with idleFor := 1024, ltol := 200, gfold := (List.range 4).map fun d => (d, 0x8000000000000000) })).2 rfl holds
    holds holds)

theorem wit_PowerAndErrors_idle4 (h : Obligations.PowerAndErrors) : ∃ t, exec (.idleTimeout)
  ({ s0Ready with idleFor := 1024, ltol := 4999, gfold := (List.range 4).map fun d => (d, 0x8000000000000000) }) = .next t :=
  toNext ((h.1 ({ s0Ready with idleFor := 1024, ltol := 4999, gfold := (List.range 4).map fun d => (d, 0x8000000000000000) })).2 rfl holds
    holds holds)

theorem wit_PowerAndErrors_idle5 (h : Obligations.PowerAndErrors) : ∃ t, exec (.idleTimeout)
  ({ s0Ready with idleFor := 1024, ltol := 5000, gfold := (List.range 4).map fun d => (d, 0x8000000000000000) }) = .next t :=
  toNext ((h.1 ({ s0Ready with idleFor := 1024, ltol := 5000, gfold := (List.range 4).map fun d => (d, 0x8000000000000000) })).2 rfl holds
    holds holds)

theorem wit_PowerAndErrors_wake1 (h : Obligations.PowerAndErrors) : exec (.powerWake) s0Ready = .next s0Ready :=
  ((h.2.1 s0Ready).1 (Or.inl rfl))

theorem wit_PowerAndErrors_wake2 (h : Obligations.PowerAndErrors) : ∃ t, exec (.powerWake) ({ s0Power 3 false with net := [pkt 1] }) = .next t :=
  eqNext ((h.2.1 ({ s0Power 3 false with net := [pkt 1] })).2.1 holds rfl rfl)

theorem wit_PowerAndErrors_wake3 (h : Obligations.PowerAndErrors) : exec (.powerWake) (s0Power 3 false) = .next (s0Power 3 false) :=
  ((h.2.1 (s0Power 3 false)).1 (Or.inr (Or.inr rfl)))

theorem wit_PowerAndErrors_exit1 (h : Obligations.PowerAndErrors) : exec (.powerExitDone) (s0Power 3 false) = .next (s0Power 3 false) :=
  ((h.2.1 (s0Power 3 false)).2.2.1 (Or.inr rfl))

theorem wit_PowerAndErrors_exit2 (h : Obligations.PowerAndErrors) : ∃ t, exec (.powerExitDone) (s0Power 1 true) = .next t :=
  eqNext ((h.2.1 (s0Power 1 true)).2.2.2.1 rfl rfl rfl rfl)

theorem wit_PowerAndErrors_exit3 (h : Obligations.PowerAndErrors) : ∃ t, exec (.powerExitDone) (s0Power 2 true) = .next t :=
  toNext ((h.2.1 (s0Power 2 true)).2.2.2.2 holds rfl rfl)

theorem wit_PowerAndErrors_corrected (h : Obligations.PowerAndErrors) : ∃ t, exec (.correctedError 65535)
  ({ s0Ready with corrections := [(65535, { count := 2, times := [0, 0] })], time := 60480000000000 }) = .next t :=
  toNext2 (h.2.2.1 ({ s0Ready with corrections := [(65535, { count := 2, times := [0, 0] })], time := 60480000000000 }) 65535)

theorem wit_PowerAndErrors_uncorrectable (h : Obligations.PowerAndErrors) : ∃ t, exec (.uncorrectableError 5 64) s0Ready = .next t :=
  toNext2 (h.2.2.2.1 s0Ready 5 64)

theorem wit_PowerAndErrors_link (h : Obligations.PowerAndErrors) : ∃ t, exec (.onDieLinkFailure 5) s0Ready = .next t :=
  toNext2 (h.2.2.2.2.1 s0Ready 5)

theorem wit_PowerAndErrors_report1 (h : Obligations.PowerAndErrors) : exec (.engineTrapReport 0) (s0With fun t =>
  { t with reports := [{ cause := 11, val := 5, hold := 2 }] }) = .next (s0With fun t => { t with reports := [{ cause := 11, val := 5, hold := 2 }] }) :=
  ((h.2.2.2.2.2 (s0With fun t => { t with reports := [{ cause := 11, val := 5, hold := 2 }] }) 0).1 (Or.inl holds))

theorem wit_PowerAndErrors_report2 (h : Obligations.PowerAndErrors) : ∃ t, exec (.engineTrapReport 0) (s0With fun t =>
  { t with reports := [{ cause := 11, val := 6, hold := 1 }, { cause := 11, val := 5, hold := 0 }] }) = .next t :=
  toNext ((h.2.2.2.2.2 (s0With fun t => { t with reports := [{ cause := 11, val := 6, hold := 1 }, { cause := 11, val := 5, hold := 0 }] }) 0).2 _
    [{ cause := 11, val := 6, hold := 1 }] [] rfl holds rfl rfl rfl rfl)


end Sys2Proof.Tests
end

