-- ==== Sys2Proof/Tests/Witness10.lean ====
section
/-! SUPPORT. As Witness1: that the commands go on. -/

namespace Sys2Proof.Tests

set_option Elab.async false

open Sys2Proof Sys2Proof.Machine

theorem wit_NetworkAndBeadCommandsGoOn_msend1 (h : Obligations.NetworkAndBeadCommandsGoOn) : ∃ t, exec (.msend 3 3 7 5 6) (s0X 0xFFF90 0x8E000000003F03FF 0x1000) = .next t :=
  toNext ((h.1 3 3 7 5 6 (s0X 0xFFF90 0x8E000000003F03FF 0x1000) (clearOf holds) holds).1 holds |>.1 holds holds holds holds holds holds holds)

theorem wit_NetworkAndBeadCommandsGoOn_msend2 (h : Obligations.NetworkAndBeadCommandsGoOn) : ∃ t, exec (.msend 0 0 7 5 6) (s0X 0xFFFD0 0x66000000000003FF 0x1000) = .next t :=
  toNext ((h.1 0 0 7 5 6 (s0X 0xFFFD0 0x66000000000003FF 0x1000) (clearOf holds) holds).1 holds |>.1 holds holds holds holds holds holds holds)

theorem wit_NetworkAndBeadCommandsGoOn_rwr (h : Obligations.NetworkAndBeadCommandsGoOn) : ∃ t, exec (.rwr 2 3 5 6) (s0X 0x073F03FF 7 0) = .next t :=
  toNext ((h.1 2 3 7 5 6 (s0X 0x073F03FF 7 0) (clearOf holds) holds).1 holds |>.2 holds holds holds holds holds)

theorem wit_NetworkAndBeadCommandsGoOn_cpy (h : Obligations.NetworkAndBeadCommandsGoOn) : ∃ t, exec (.cpy 0 0 1 5) (block4 0xFFFFFFFFFFF10000 0xFFFFFFFFFFF00000 0xF000000000010000 0x600000010 0) = .next t :=
  toNext ((h.1 0 0 1 5 6 (block4 0xFFFFFFFFFFF10000 0xFFFFFFFFFFF00000 0xF000000000010000 0x600000010 0) (clearOf holds) holds).2.1 holds holds holds holds holds |>.1 holds |>.1 holds holds)

theorem wit_NetworkAndBeadCommandsGoOn_cpym (h : Obligations.NetworkAndBeadCommandsGoOn) : ∃ t, exec (.cpym 0 0 1 5 6) (block4 0xFFFC0 0xFFFFFFFFFFF00000 0xF000000000000040 0x600000010 0xFFFFFFFFFFFFFFFF) = .next t :=
  toNext ((h.1 0 0 1 5 6 (block4 0xFFFC0 0xFFFFFFFFFFF00000 0xF000000000000040 0x600000010 0xFFFFFFFFFFFFFFFF) (clearOf holds) holds).2.1 holds holds holds holds holds |>.1 holds |>.2 holds holds holds holds)

theorem wit_NetworkAndBeadCommandsGoOn_gath (h : Obligations.NetworkAndBeadCommandsGoOn) : ∃ t, exec (.gath 0 0 1 5) (gathBlock) = .next t :=
  toNext ((h.1 0 0 1 5 6 (gathBlock) (clearOf holds) holds).2.1 holds holds holds holds holds |>.2 holds holds holds holds holds holds holds holds holds |>.1)

theorem wit_NetworkAndBeadCommandsGoOn_scat (h : Obligations.NetworkAndBeadCommandsGoOn) : ∃ t, exec (.scat 0 0 1 5) (gathBlock) = .next t :=
  toNext ((h.1 0 0 1 5 6 (gathBlock) (clearOf holds) holds).2.1 holds holds holds holds holds |>.2 holds holds holds holds holds holds holds holds holds |>.2)

theorem wit_NetworkAndBeadCommandsGoOn_boinit (h : Obligations.NetworkAndBeadCommandsGoOn) : ∃ t, exec (.boinit 5 6) (s0X 0xFFFF0 0x7FFFFFFFFFFFFFFF 0) = .next t :=
  toNext ((h.1 0 0 1 5 6 (s0X 0xFFFF0 0x7FFFFFFFFFFFFFFF 0) (clearOf holds) holds).2.2.1 holds holds holds)

theorem wit_NetworkAndBeadCommandsGoOn_bowait (h : Obligations.NetworkAndBeadCommandsGoOn) : ∃ t, exec (.bowait 0 0 1 5) (withSpad (s0X 0xFFFF0 0 0) 0xFFFF0 [1, 0x8000000000000001]) = .next t :=
  toNext ((h.1 0 0 1 5 6 (withSpad (s0X 0xFFFF0 0 0) 0xFFFF0 [1, 0x8000000000000001]) (clearOf holds) holds).2.2.2.1 holds holds)

theorem wit_NetworkAndBeadCommandsGoOn_wptr (h : Obligations.NetworkAndBeadCommandsGoOn) : ∃ t, exec (.wptr 1 5) (s0X 15 0 0) = .next t :=
  toNext ((h.1 0 0 1 5 6 (s0X 15 0 0) (clearOf holds) holds).2.2.2.2 holds)

theorem wit_NetworkAndBeadCommandsGoOn_push (h : Obligations.NetworkAndBeadCommandsGoOn) : ∃ t, exec (.bpush 2 3 1 5 6) (s0X 0xFFFFFFFFFFFFFF8F 0x200000001 0x100000005) = .next t :=
  toNext ((h.2 2 3 1 5 6 (s0X 0xFFFFFFFFFFFFFF8F 0x200000001 0x100000005) (clearOf holds) holds).1 holds holds |>.1)

theorem wit_NetworkAndBeadCommandsGoOn_round (h : Obligations.NetworkAndBeadCommandsGoOn) : ∃ t, exec (.bround 2 3 1 5 6) (s0X 15 0xFFFFFFFF 0x100000005) = .next t :=
  toNext ((h.2 2 3 1 5 6 (s0X 15 0xFFFFFFFF 0x100000005) (clearOf holds) holds).1 holds holds |>.2)

theorem wit_NetworkAndBeadCommandsGoOn_pop (h : Obligations.NetworkAndBeadCommandsGoOn) : ∃ t, exec (.bpop 2 3 1 5) (s0X 0x80 0 0x100000005) = .next t :=
  toNext ((h.2 2 3 1 5 6 (s0X 0x80 0 0x100000005) (clearOf holds) holds).2.1 holds holds |>.1)

theorem wit_NetworkAndBeadCommandsGoOn_back (h : Obligations.NetworkAndBeadCommandsGoOn) : ∃ t, exec (.back 2 3 1 5 6) (s0X 0x80 1 0x100000005) = .next t :=
  toNext ((h.2 2 3 1 5 6 (s0X 0x80 1 0x100000005) (clearOf holds) holds).2.1 holds holds |>.2)

theorem wit_NetworkAndBeadCommandsGoOn_get (h : Obligations.NetworkAndBeadCommandsGoOn) : ∃ t, exec (.bidxget 2 3 1 5 6) (s0X 0x40 1 0x100000005) = .next t :=
  toNext ((h.2 2 3 1 5 6 (s0X 0x40 1 0x100000005) (clearOf holds) holds).2.2.1 holds |>.1)

theorem wit_NetworkAndBeadCommandsGoOn_put (h : Obligations.NetworkAndBeadCommandsGoOn) : ∃ t, exec (.bidxput 2 3 1 5 6) (s0X 0x40 1 0x100000005) = .next t :=
  toNext ((h.2 2 3 1 5 6 (s0X 0x40 1 0x100000005) (clearOf holds) holds).2.2.1 holds |>.2.1)

theorem wit_NetworkAndBeadCommandsGoOn_quiet (h : Obligations.NetworkAndBeadCommandsGoOn) : ∃ t, exec (.bquiet 1 5 6) (s0X 0x40 1 0x100000005) = .next t :=
  toNext ((h.2 2 3 1 5 6 (s0X 0x40 1 0x100000005) (clearOf holds) holds).2.2.1 holds |>.2.2)

theorem wit_NetworkAndBeadCommandsGoOn_cfg1 (h : Obligations.NetworkAndBeadCommandsGoOn) : ∃ t, exec (.bqcfg 1 5 6) (s0X 0x40 0x5000000000000000 0x100000005) = .next t :=
  toNext ((h.2 2 3 1 5 6 (s0X 0x40 0x5000000000000000 0x100000005) (clearOf holds) holds).2.2.2 holds holds)

theorem wit_NetworkAndBeadCommandsGoOn_cfg2 (h : Obligations.NetworkAndBeadCommandsGoOn) : ∃ t, exec (.bqcfg 1 5 6) (s0X 0x80 0x6000000000000000 0x100000005) = .next t :=
  toNext ((h.2 2 3 1 5 6 (s0X 0x80 0x6000000000000000 0x100000005) (clearOf holds) holds).2.2.2 holds holds)

theorem wit_CardAndCrossingCommandsGoOn_prio (h : Obligations.CardAndCrossingCommandsGoOn) : ∃ t, exec (.cardPrio 1 5) (s0Card card0 4 0) = .next t :=
  toNext ((h.1 1 5 6 7 (s0Card card0 4 0) card0 (clearOf holds) rfl).1)

theorem wit_CardAndCrossingCommandsGoOn_self (h : Obligations.CardAndCrossingCommandsGoOn) : ∃ t, exec (.cardSelf 1 5) (s0Card card0 5 0) = .next t :=
  toNext ((h.1 1 5 6 7 (s0Card card0 5 0) card0 (clearOf holds) rfl).2.1)

theorem wit_CardAndCrossingCommandsGoOn_dualsig (h : Obligations.CardAndCrossingCommandsGoOn) : ∃ t, exec (.dualsig 5) (s0Card card0 4 0) = .next t :=
  toNext ((h.1 1 5 6 7 (s0Card card0 4 0) card0 (clearOf holds) rfl).2.2.1)

theorem wit_CardAndCrossingCommandsGoOn_steal (h : Obligations.CardAndCrossingCommandsGoOn) : ∃ t, exec (.cardSteal 1 5) ({ s0Card card0 255 0 with cores := [(0, {}), (255, { deque := victims })] }) = .next t :=
  toNext ((h.1 1 5 6 7 ({ s0Card card0 255 0 with cores := [(0, {}), (255, { deque := victims })] }) card0 (clearOf holds) rfl).2.2.2.1)

theorem wit_CardAndCrossingCommandsGoOn_ptake (h : Obligations.CardAndCrossingCommandsGoOn) : ∃ t, exec (.ptake 1 7) (s0With fun t => { t with card := some card0, pres := 0x80 }) = .next t :=
  toNext ((h.1 1 5 6 7 (s0With fun t => { t with card := some card0, pres := 0x80 }) card0 (clearOf holds) rfl).2.2.2.2.1 holds holds)

theorem wit_CardAndCrossingCommandsGoOn_bind1 (h : Obligations.CardAndCrossingCommandsGoOn) : ∃ t, exec (.cardBind 1 5 6) (s0CardCore card0 63 7 { tags := [(63, 1)] }) = .next t :=
  toNext ((h.1 1 5 6 7 (s0CardCore card0 63 7 { tags := [(63, 1)] }) card0 (clearOf holds) rfl).2.2.2.2.2.1 (Or.inl ⟨1, holds, holds, holds⟩))

theorem wit_CardAndCrossingCommandsGoOn_bind2 (h : Obligations.CardAndCrossingCommandsGoOn) : ∃ t, exec (.cardBind 1 5 6) (s0CardCore card0 64 7 {}) = .next t :=
  toNext ((h.1 1 5 6 7 (s0CardCore card0 64 7 {}) card0 (clearOf holds) rfl).2.2.2.2.2.1 (Or.inr holds))

theorem wit_CardAndCrossingCommandsGoOn_bind3 (h : Obligations.CardAndCrossingCommandsGoOn) : ∃ t, exec (.cardBind 1 5 6) (s0CardCore card0 0xFFFF 7 { tags := [(62, 0)] }) = .next t :=
  toNext ((h.1 1 5 6 7 (s0CardCore card0 0xFFFF 7 { tags := [(62, 0)] }) card0 (clearOf holds) rfl).2.2.2.2.2.1 (Or.inr holds))

theorem wit_CardAndCrossingCommandsGoOn_hdone (h : Obligations.CardAndCrossingCommandsGoOn) : ∃ t, exec .hdone (s0Card cardH 0 0) = .next t :=
  toNext ((h.1 1 5 6 7 (s0Card cardH 0 0) cardH (clearOf holds) rfl).2.2.2.2.2.2.1 rfl rfl holds (fun _ k => nomatch k))

theorem wit_CardAndCrossingCommandsGoOn_post (h : Obligations.CardAndCrossingCommandsGoOn) : ∃ t, exec (.cardPost 1 5 6) (postState 0xFFFF0000 0xFFFFFFFFFFFFFFFF) = .next t :=
  toNext ((h.1 1 5 6 7 (postState 0xFFFF0000 0xFFFFFFFFFFFFFFFF) card0 (clearOf holds) rfl).2.2.2.2.2.2.2.1 holds holds holds (postState 0xFFFF0000 0xFFFFFFFFFFFFFFFF) (spadBase 0 + 0xFFFC0) .own (spadBase 0 + 0xFFFC0) (pairOf holds) holds holds holds)

theorem wit_CardAndCrossingCommandsGoOn_yield1 (h : Obligations.CardAndCrossingCommandsGoOn) : ∃ t, exec .cardYield (s0CardCore card0 0x3FFFFFFFFFFFFC 0 { deque := fullDeque }) = .next t :=
  toNext ((h.1 1 5 6 7 (s0CardCore card0 0x3FFFFFFFFFFFFC 0 { deque := fullDeque }) card0 (clearOf holds) rfl).2.2.2.2.2.2.2.2.1 holds holds |>.1)

theorem wit_CardAndCrossingCommandsGoOn_wfi1 (h : Obligations.CardAndCrossingCommandsGoOn) : ∃ t, exec .wfi (s0CardCore card0 0x3FFFFFFFFFFFFC 0 { deque := fullDeque }) = .next t :=
  toNext ((h.1 1 5 6 7 (s0CardCore card0 0x3FFFFFFFFFFFFC 0 { deque := fullDeque }) card0 (clearOf holds) rfl).2.2.2.2.2.2.2.2.1 holds holds |>.2.1)

theorem wit_CardAndCrossingCommandsGoOn_susp1 (h : Obligations.CardAndCrossingCommandsGoOn) : ∃ t, exec (.cardSusp 5) (s0CardCore card0 0x3FFFFFFFFFFFFC 0 { deque := fullDeque }) = .next t :=
  toNext ((h.1 1 5 6 7 (s0CardCore card0 0x3FFFFFFFFFFFFC 0 { deque := fullDeque }) card0 (clearOf holds) rfl).2.2.2.2.2.2.2.2.1 holds holds |>.2.2 ⟨holds, holds, holds⟩)

theorem wit_CardAndCrossingCommandsGoOn_yield2 (h : Obligations.CardAndCrossingCommandsGoOn) : ∃ t, exec .cardYield (s0CardCore card0 0x3FFFFFFFFFFFFC 0 { deque := fullDeque.drop 1 }) = .next t :=
  toNext ((h.1 1 5 6 7 (s0CardCore card0 0x3FFFFFFFFFFFFC 0 { deque := fullDeque.drop 1 }) card0 (clearOf holds) rfl).2.2.2.2.2.2.2.2.2.1 holds holds holds holds _ (Or.inl rfl))

theorem wit_CardAndCrossingCommandsGoOn_wfi2 (h : Obligations.CardAndCrossingCommandsGoOn) : ∃ t, exec .wfi (s0CardCore card0 0x3FFFFFFFFFFFFC 0 { deque := fullDeque.drop 1 }) = .next t :=
  toNext ((h.1 1 5 6 7 (s0CardCore card0 0x3FFFFFFFFFFFFC 0 { deque := fullDeque.drop 1 }) card0 (clearOf holds) rfl).2.2.2.2.2.2.2.2.2.1 holds holds holds holds _ (Or.inr (Or.inl rfl)))

theorem wit_CardAndCrossingCommandsGoOn_susp2 (h : Obligations.CardAndCrossingCommandsGoOn) : ∃ t, exec (.cardSusp 5) (s0CardCore card0 0x3FFFFFFFFFFFFC 0 { deque := fullDeque.drop 1 }) = .next t :=
  toNext ((h.1 1 5 6 7 (s0CardCore card0 0x3FFFFFFFFFFFFC 0 { deque := fullDeque.drop 1 }) card0 (clearOf holds) rfl).2.2.2.2.2.2.2.2.2.1 holds holds holds holds _ (Or.inr (Or.inr ⟨rfl, holds, holds, holds⟩)))

theorem wit_CardAndCrossingCommandsGoOn_exit (h : Obligations.CardAndCrossingCommandsGoOn) : ∃ t, exec .cardExit (s0Card card0 0 0) = .next t :=
  toNext ((h.1 1 5 6 7 (s0Card card0 0 0) card0 (clearOf holds) rfl).2.2.2.2.2.2.2.2.2.2 holds holds rfl rfl rfl rfl rfl holds)

theorem wit_CardAndCrossingCommandsGoOn_run (h : Obligations.CardAndCrossingCommandsGoOn) : ∃ t, exec (.qrun 2 3 7 5 6) (s0Behind 0xFFFF 0x7FF0000000000000 0 (.stat 0xFFFF 0)) = .next t :=
  toNext ((h.2 2 3 7 5 6 (s0Behind 0xFFFF 0x7FF0000000000000 0 (.stat 0xFFFF 0)) (clearOf holds) rfl holds).1 holds holds |>.1)

theorem wit_CardAndCrossingCommandsGoOn_sample (h : Obligations.CardAndCrossingCommandsGoOn) : ∃ t, exec (.qsample 2 3 7 5 6) (s0Behind 0xFFFF 0x7FF0000000000000 0 (.stat 0xFFFF 0)) = .next t :=
  toNext ((h.2 2 3 7 5 6 (s0Behind 0xFFFF 0x7FF0000000000000 0 (.stat 0xFFFF 0)) (clearOf holds) rfl holds).1 holds holds |>.2)

theorem wit_CardAndCrossingCommandsGoOn_slope (h : Obligations.CardAndCrossingCommandsGoOn) : ∃ t, exec (.qslope 2 3 7 5 6) (s0Behind 0xFFFFFFFFFFFFFFFF 0xFFFFFFFFFFFFFFFF 0 (.stat 0xFFFF 0)) = .next t :=
  toNext ((h.2 2 3 7 5 6 (s0Behind 0xFFFFFFFFFFFFFFFF 0xFFFFFFFFFFFFFFFF 0 (.stat 0xFFFF 0)) (clearOf holds) rfl holds).2.1)

theorem wit_CardAndCrossingCommandsGoOn_inj (h : Obligations.CardAndCrossingCommandsGoOn) : ∃ t, exec (.qinj 2 3 7 5 6) (s0Behind 0xFFFFFFFFF 0x7FF0000000000000 0x7F7FFFFF (.stat 0xFFFF 0)) = .next t :=
  toNext ((h.2 2 3 7 5 6 (s0Behind 0xFFFFFFFFF 0x7FF0000000000000 0x7F7FFFFF (.stat 0xFFFF 0)) (clearOf holds) rfl holds).2.2.1 holds holds holds)

theorem wit_CardAndCrossingCommandsGoOn_vset (h : Obligations.CardAndCrossingCommandsGoOn) : ∃ t, exec (.qvset 7 5 6) (s0Behind 0xFFFFFFFFF 0xFFFF8 0 (.stat 0xFFFF 0)) = .next t :=
  toNext ((h.2 2 3 7 5 6 (s0Behind 0xFFFFFFFFF 0xFFFF8 0 (.stat 0xFFFF 0)) (clearOf holds) rfl holds).2.2.2.1 holds holds)

theorem wit_CardAndCrossingCommandsGoOn_conv (h : Obligations.CardAndCrossingCommandsGoOn) : ∃ t, exec (.qconv 7 5 6) (s0Behind 0xFFFFFFFFF 0x80000000FFFFFFFF 0 (.stat 0xFFFF 0)) = .next t :=
  toNext ((h.2 2 3 7 5 6 (s0Behind 0xFFFFFFFFF 0x80000000FFFFFFFF 0 (.stat 0xFFFF 0)) (clearOf holds) rfl holds).2.2.2.2.1 holds holds)

theorem wit_CardAndCrossingCommandsGoOn_stat (h : Obligations.CardAndCrossingCommandsGoOn) : ∃ t, exec (.qstat 7 5 6) (s0Behind 0xFFFF 0xFFFF 0 (.stat 0xFFFF 0)) = .next t :=
  toNext ((h.2 2 3 7 5 6 (s0Behind 0xFFFF 0xFFFF 0 (.stat 0xFFFF 0)) (clearOf holds) rfl holds).2.2.2.2.2.1 holds)

theorem wit_CardAndCrossingCommandsGoOn_stop (h : Obligations.CardAndCrossingCommandsGoOn) : ∃ t, exec (.qstop 7 5 6) (s0Behind 0xFFFF 1 0 (.stat 0xFFFF 0)) = .next t :=
  toNext ((h.2 2 3 7 5 6 (s0Behind 0xFFFF 1 0 (.stat 0xFFFF 0)) (clearOf holds) rfl holds).2.2.2.2.2.2.1 holds holds)

theorem wit_CardAndCrossingCommandsGoOn_cfg (h : Obligations.CardAndCrossingCommandsGoOn) : ∃ t, exec (.qcfg 7 5 6) (s0Behind 0x80 1 0 (.cfg false 0x100)) = .next t :=
  toNext ((h.2 2 3 7 5 6 (s0Behind 0x80 1 0 (.cfg false 0x100)) (clearOf holds) rfl holds).2.2.2.2.2.2.2 holds holds)

end Sys2Proof.Tests
end

section
/-! PROOFS. What reset leaves, and the worked conversions (R50; the reset columns). -/

namespace Sys2Proof.Proofs

open Sys2Proof Sys2Proof.Machine

/-- The CSRs that the reset statement speaks of: 0x800 to 0x80D, and the steward CSRs (R21, R133). -/
def resetCsrs : List Nat := (List.range 14).map (0x800 + ·) ++ (List.range 17).map (0x5C0 + ·)

theorem reset_csrRead_zero : ∀ n ∈ resetCsrs,
    State.reset.csrRead 0 n = some (if n = 0x801 then 1 else if n = 0x5CD then 0x100000 else 0) := by decide

/-- Right after reset none of these CSRs tells thread sets apart. -/
theorem reset_csrRead_anyThread (tid : Nat) : ∀ n ∈ resetCsrs, State.reset.csrRead tid n = State.reset.csrRead 0 n := by
  intro n hn
  simp only [resetCsrs, List.mem_append, List.mem_map, List.mem_range] at hn
  obtain ⟨i, hi, rfl⟩ | ⟨i, hi, rfl⟩ := hn
  · interval_cases i <;> rfl
  · interval_cases i <;> rfl

/-- Settles O8: every thread set reads its CSRs as thread set 0 does; the rest is the empty state's. -/
theorem resetState : Obligations.ResetState :=
  ⟨fun tid n hn => (reset_csrRead_anyThread tid n hn).trans (reset_csrRead_zero n hn),
    fun _ => ⟨rfl, rfl, rfl, rfl⟩, fun _ => rfl, fun _ => rfl, fun _ => rfl, rfl, rfl⟩

/-- Settles O37, by evaluating the conversions of the table of R50. -/
theorem workedConversions : Obligations.WorkedConversions := by
  unfold Obligations.WorkedConversions
  decide

end Sys2Proof.Proofs
end

section
/-! PROOFS. A vector instruction at issue (R52, R57, R114, R168, R169, R198): nothing stops it, it takes an entry, it retires. -/

namespace Sys2Proof.Proofs

open Sys2Proof Sys2Proof.Machine

/-- Every instruction that the sequencer takes as it stands issues in the same way (R168, R169). -/
theorem exec_sequenced (i : Instr) (s : State) (h : isSequenced i = true) : exec i s = .next (s.vissue i) := by
  cases i with
  | vadd | vsub | vmul | vfma | vmin | vmax | vabs | vneg | vadds | vsubs | vmulh | vmulw | vand | vor | vxor | vshl | vshr | vsra => rfl
  | vaddi | vshli | vshri | vsrai | vdiv | vsqrt | vexp | vsel | vcmpeq | vcmpne | vcmplt | vcmple | vcmpltu | vcmpleu => rfl
  | kand | kor | kxor | kandn | vwhile | kcount | kfirst | vredadd | vredmin | vredmax | vbcast | vmvx | vperm | viota | vmov => rfl
  | smxstep | smxnorm | vpopc | vclz | gaddr | vld | vldc | vst | vstc | vlds | vsts | vldx | vstx | vldb => rfl
  | vcvt | vpvenc | vpvdec | vcompress | vdesc | vwidth => rfl
  | _ => exact absurd h Bool.false_ne_true

/-- An instruction that nothing stops at issue takes an entry of the sequencer, its operands captured. -/
theorem vissue_claims {s : State} {i : Instr} (hl : s.th.vIllegal i = false) (hr : s.th.leased i = none) (hp : s.vPending i = false)
    (ho : s.vOffsetBad i = none) (hh : s.vHeld i = false) :
    s.vissue i = s.claim 1 fun s => (s.enqueue [s.capture i] 1 0 1).retire := by
  unfold State.vissue
  rw [hl, hr, hp, ho, hh]
  rfl

/-- Where entries are free and nobody waits, they are taken at once (R168). -/
theorem claim_free {s : State} {n : Nat} (h : s.SequencerFree n) (k : State → State) :
    s.claim n k = k (s.setCore (coreOf s.cur) (s.core (coreOf s.cur))) := by
  obtain ⟨hw, hn⟩ := h
  have he : n ≤ (s.core (coreOf s.cur)).freeEntries := Nat.le_sub_of_add_le (by omega)
  have hc : ({ s.core (coreOf s.cur) with seqWait := [] } : Core) = s.core (coreOf s.cur) := by rw [← hw]
  simp [State.claim, State.myCore, hw, he, hc]

/-- The format code an instruction takes (R57), as five bits. -/
theorem ofNat_vfmtCode (t : Thread) : BitVec.ofNat 5 t.vfmtCode = if t.pfx then t.pfxv else t.vfmt.extractLsb' 0 5 := by
  unfold Thread.vfmtCode
  split <;> exact BitVec.ofNat_toNat ..

theorem capture_eq (s : State) (i : Instr) : s.capture i =
    { instr := i, fmt := if s.th.pfx then s.th.pfxv else s.th.vfmt.extractLsb' 0 5, rm := s.th.vfmt.extractLsb' 5 3,
      sat := s.th.vfmt.getLsbD 8, chw := s.th.chwin, xa := s.rx (vScalars i).1, xb := s.rx (vScalars i).2,
      dt := s.th.dtbase, user := !s.th.steward } := by
  rw [← ofNat_vfmtCode]
  rfl

/-- Entering the sequencer and retiring has the whole effect that `Sequenced` states. -/
theorem sequenced_enqueue_retire (s : State) (ops : List VOp) (iters : Nat) (step : Word) (n : Nat) :
    Sequenced s ((s.setCore (coreOf s.cur) (s.core (coreOf s.cur))).enqueue ops iters step n).retire ops iters step n (s.th.pc + 4) := by
  let w := s.setCore (coreOf s.cur) (s.core (coreOf s.cur))
  let t := (w.enqueue ops iters step n).retire
  have hw : w.core (coreOf s.cur) = s.core (coreOf s.cur) := State.core_setCore_same ..
  have hth : t.th = s.th.retireTo (s.th.pc + 4) := State.thread_setThread_same ..
  have hcore : t.core (coreOf s.cur) = { w.core (coreOf s.cur) with seq := (w.core (coreOf s.cur)).seq ++
      [{ id := s.nextId, tid := s.cur, ops := ops, iters := iters, j := 0, at_ := 0, step := step, entries := n }] } :=
    State.core_setCore_same ..
  refine ⟨?_, fun r => congrArg (·.rx r) hth, ?_, ?_, fun k hk => State.thread_setThread_other _ _ _ _ hk, fun _ => rfl, fun c hc => ?_, rfl⟩
  · rw [hw] at hcore
    exact hcore
  · unfold Retired
    rw [hth]
    exact ⟨rfl, rfl, rfl, rfl, rfl⟩
  · rw [hth]
    rfl
  · calc t.core c = w.core c := State.core_setCore_other _ _ _ _ hc
      _ = s.core c := State.core_setCore_other _ _ _ _ hc

/-- Settles O31: the checks at issue pass, the claim is met at once, and the captured instruction enters and retires. -/
theorem vectorIssue : Obligations.VectorIssue := by
  intro i s hi hl hr hp ho ha hf
  have hvp : s.vPending i = false := List.any_eq_false.mpr fun r h => by simp [hp r h]
  have hvh : s.vHeld i = false := by simp [State.vHeld, ha]
  refine ⟨_, ?_, sequenced_enqueue_retire s _ 1 0 1⟩
  rw [exec_sequenced i s hi, vissue_claims hl hr hvp ho hvh, claim_free hf, ← capture_eq]
  rfl

end Sys2Proof.Proofs
end

section
/-! PROOFS. Lanes: joined elements read back, and what a lane operation and a comparison leave in each lane (R40, R165, R166). -/

namespace Sys2Proof.Proofs

open Sys2Proof Sys2Proof.Machine

theorem lane_lt {n : Nat} (v : BitVec n) (w i : Nat) : lane v w i < 2 ^ w := Nat.mod_lt _ (Nat.two_pow_pos w)

theorem joinLanes_lt (w : Nat) (l : List Nat) : joinLanes w l < 2 ^ (w * l.length) := by
  induction l with
  | nil => exact Nat.one_pos
  | cons a r ih =>
    have ha : a % 2 ^ w < 2 ^ w := Nat.mod_lt _ (Nat.two_pow_pos w)
    calc joinLanes w (a :: r) < 2 ^ w + 2 ^ w * joinLanes w r := Nat.add_lt_add_right ha _
      _ = 2 ^ w * (joinLanes w r + 1) := by ring
      _ ≤ 2 ^ w * 2 ^ (w * r.length) := Nat.mul_le_mul_left _ ih
      _ = 2 ^ (w * (a :: r).length) := by rw [← pow_add, List.length_cons]; congr 1; ring

theorem joinLanes_lt_of_le {w n : Nat} {l : List Nat} (h : w * l.length ≤ n) : joinLanes w l < 2 ^ n :=
  (joinLanes_lt w l).trans_le (Nat.pow_le_pow_right Nat.two_pos h)

/-- Element `i` of joined elements is the `i`-th, taken to its width. -/
theorem joinLanes_lane (w : Nat) (l : List Nat) : ∀ i, joinLanes w l / 2 ^ (w * i) % 2 ^ w = l.getD i 0 % 2 ^ w := by
  induction l with
  | nil => intro i; simp [joinLanes]
  | cons a r ih =>
    have ha : a % 2 ^ w < 2 ^ w := Nat.mod_lt _ (Nat.two_pow_pos w)
    intro i
    cases i with
    | zero => simp [joinLanes]
    | succ i =>
      have hd : (a % 2 ^ w + 2 ^ w * joinLanes w r) / 2 ^ w = joinLanes w r := by
        rw [Nat.add_mul_div_left _ _ (Nat.two_pow_pos w), Nat.div_eq_of_lt ha, Nat.zero_add]
      rw [joinLanes, Nat.mul_succ, Nat.add_comm (w * i) w, pow_add, ← Nat.div_div_eq_div_mul, hd, ih i]
      rfl

theorem joinLanes_testBit {w : Nat} (l : List Nat) (i : Nat) {b : Nat} (hb : b < w) :
    (joinLanes w l).testBit (i * w + b) = (l.getD i 0).testBit b := by
  have h := congrArg (Nat.testBit · b) (joinLanes_lane w l i)
  simpa [Nat.testBit_mod_two_pow, Nat.testBit_div_two_pow, hb, Nat.mul_comm, Nat.add_comm] using h

theorem lane_ofNat_joinLanes {w n : Nat} {l : List Nat} (h : w * l.length ≤ n) (i : Nat) :
    lane (BitVec.ofNat n (joinLanes w l)) w i = l.getD i 0 % 2 ^ w := by
  rw [lane, BitVec.toNat_ofNat, Nat.mod_eq_of_lt (joinLanes_lt_of_le h), joinLanes_lane]

theorem lane_ofLanes {w : Nat} {l : List Nat} (h : w * l.length ≤ 1024) (i : Nat) : lane (ofLanes w l) w i = l.getD i 0 % 2 ^ w :=
  lane_ofNat_joinLanes h i

theorem getD_map_range {α : Type} {n i : Nat} (f : Nat → α) (d : α) (hi : i < n) : ((List.range n).map f).getD i d = f i := by
  simp [List.getD_eq_getElem?_getD, hi]

/-- Each lane after a lane operation (R166). -/
theorem lane_mapLanes {w i : Nat} (k : KWord) (old : VWord) (f : Nat → Nat × Flags) (hi : i < 1024 / w) :
    lane (mapLanes w k old f).1 w i = if active k w i then (f i).1 % 2 ^ w else lane old w i := by
  rw [mapLanes, lane_ofLanes (by simpa using Nat.mul_div_le 1024 w), List.map_map, getD_map_range _ _ hi, Function.comp_apply]
  split
  · rfl
  · exact Nat.mod_eq_of_lt (lane_lt old w i)

theorem foldl_or_flags_zero {α : Type} (l : List α) (g : α → Flags) (h : ∀ a ∈ l, g a = 0) : l.foldl (fun f a => f ||| g a) 0 = 0 := by
  induction l with
  | nil => rfl
  | cons a r ih =>
    rw [List.foldl_cons, h a List.mem_cons_self]
    exact ih fun b hb => h b (List.mem_cons_of_mem _ hb)

/-- A lane operation whose elements set no flag sets none. -/
theorem mapLanes_noFlags (w : Nat) (k : KWord) (old : VWord) (f : Nat → Nat) : (mapLanes w k old fun i => (f i, 0)).2 = 0 := by
  refine foldl_or_flags_zero _ _ fun p hp => ?_
  obtain ⟨i, -, rfl⟩ := List.mem_map.mp hp
  split <;> rfl

/-- The lanes of a width lie within the 128 bits of a predicate (R10, R165). -/
theorem predBit_lt {w i b : Nat} (hi : i < 1024 / w) (hb : b < w / 8) : i * (w / 8) + b < 128 := by
  have hn : (1024 / w) * (w / 8) * 8 ≤ 1024 := by
    calc (1024 / w) * (w / 8) * 8 = (1024 / w) * (w / 8 * 8) := Nat.mul_assoc ..
      _ ≤ (1024 / w) * w := Nat.mul_le_mul_left _ (Nat.div_mul_le_self w 8)
      _ ≤ 1024 := Nat.div_mul_le_self 1024 w
  have hs : (i + 1) * (w / 8) ≤ (1024 / w) * (w / 8) := Nat.mul_le_mul_right _ hi
  rw [Nat.succ_mul] at hs
  omega

/-- Every bit of a lane of a predicate made from the truth of active lanes (R166). -/
theorem predLanes_getLsbD {w i b : Nat} (k : KWord) (f : Nat → Bool) (hi : i < 1024 / w) (hb : b < w / 8) :
    (predLanes w k f).getLsbD (i * (w / 8) + b) = (active k w i && f i) := by
  rw [predLanes, BitVec.getLsbD_ofNat, joinLanes_testBit _ _ hb, getD_map_range _ _ hi, decide_eq_true (predBit_lt hi hb), Bool.true_and]
  cases active k w i && f i
  · simp
  · simp [Nat.testBit_two_pow_sub_one, hb]

end Sys2Proof.Proofs
end

section
/-! PROOFS. Integer elements: the model's lane operations and comparisons against the functions over the integers in which the statements
speak (R39, R43, R173, R178). -/

namespace Sys2Proof.Proofs

open Sys2Proof Sys2Proof.Machine

theorem codeSigned_iff (code : Nat) : codeSigned code = true ↔ code ≠ 6 := bne_iff_ne

theorem elemInt_eq_elemOf : elemInt = elemOf := by
  funext code a
  simp only [elemInt, elemOf, Bool.and_eq_true, decide_eq_true_eq, codeSigned_iff]
  by_cases h6 : code = 6
  · simp [h6]
  · by_cases ha : a < 2 ^ (codeWidth code - 1)
    · simp [h6, ha, Nat.not_le.mpr ha]
    · simp [h6, ha, Nat.not_lt.mp ha]

theorem clampInt_eq_clampTo : clampInt = clampTo := by
  funext code z
  have hp : (0 : Int) < 2 ^ (codeWidth code - 1) := by positivity
  unfold clampInt clampTo codeMin codeMax
  by_cases h6 : code = 6
  · subst h6
    simp only [codeSigned_iff, codeWidth]
    norm_num
    omega
  · simp only [codeSigned_iff, h6, ne_eq, not_false_eq_true, if_true, if_false]
    split_ifs <;> omega

theorem wrapTo_natCast (w n : Nat) : wrapTo w n = n % 2 ^ w := by
  rw [wrapTo, ← Int.toNat_natCast (n % 2 ^ w)]
  push_cast
  rfl

theorem wrapTo_lt (w : Nat) (z : Int) : wrapTo w z < 2 ^ w := by
  have hlt := Int.emod_lt_of_pos z (b := 2 ^ w) (by positivity)
  have hnn := Int.emod_nonneg z (b := 2 ^ w) (by positivity)
  rw [wrapTo, Int.toNat_lt hnn]
  exact_mod_cast hlt

/-- An element's number, wrapped, is the element. -/
theorem wrapTo_elemOf (code : Nat) {a : Nat} (h : a < 2 ^ codeWidth code) : wrapTo (codeWidth code) (elemOf code a) = a := by
  have hn : wrapTo (codeWidth code) a = a := (wrapTo_natCast _ a).trans (Nat.mod_eq_of_lt h)
  unfold elemOf
  split
  · exact hn
  · split
    · exact hn
    · rw [wrapTo, Int.sub_emod_right]
      exact hn

/-- A lane operation gives, under every integer code, the elements that a function over the integers gives. -/
def Computes (op : LaneOp) (f : Nat → Nat → Nat → Int) : Prop :=
  ∀ code d a b, a < 2 ^ codeWidth code → b < 2 ^ codeWidth code →
    intLane code op d a b % 2 ^ codeWidth code = wrapTo (codeWidth code) (f code a b)

/-- An operation that wraps a function `g` of its elements' integers, perhaps clamped, computes that function. -/
theorem computes_of_wrapped {op : LaneOp} (g : (Nat → Nat → Int) → (Nat → Int → Int) → Nat → Nat → Nat → Int)
    (h : ∀ code d a b, intLane code op d a b = wrapInt (codeWidth code) (g elemInt clampInt code a b)) : Computes op (g elemOf clampTo) := by
  intro code d a b _ _
  rw [h, elemInt_eq_elemOf, clampInt_eq_clampTo]
  exact Nat.mod_eq_of_lt (wrapTo_lt ..)

theorem computes_min : Computes .min fun c a b => min (elemOf c a) (elemOf c b) := by
  intro code d a b ha hb
  have h : intLane code .min d a b = if elemOf code a < elemOf code b then a else b := by
    rw [← elemInt_eq_elemOf]
    rfl
  dsimp only
  rw [h]
  split
  · next hl => rw [min_eq_left hl.le, wrapTo_elemOf code ha, Nat.mod_eq_of_lt ha]
  · next hl => rw [min_eq_right (not_lt.mp hl), wrapTo_elemOf code hb, Nat.mod_eq_of_lt hb]

theorem computes_max : Computes .max fun c a b => max (elemOf c a) (elemOf c b) := by
  intro code d a b ha hb
  have h : intLane code .max d a b = if elemOf code a < elemOf code b then b else a := by
    rw [← elemInt_eq_elemOf]
    rfl
  dsimp only
  rw [h]
  split
  · next hl => rw [max_eq_right hl.le, wrapTo_elemOf code hb, Nat.mod_eq_of_lt hb]
  · next hl => rw [max_eq_left (not_lt.mp hl), wrapTo_elemOf code ha, Nat.mod_eq_of_lt ha]

theorem computes_shl : Computes .shl fun c a b => a * 2 ^ (b % codeWidth c) := by
  intro code d a b _ _
  have h := wrapTo_natCast (codeWidth code) (a * 2 ^ (b % codeWidth code))
  push_cast at h
  rw [h]
  exact Nat.mod_mod ..

theorem computes_shr : Computes .shr fun c a b => a / 2 ^ (b % codeWidth c) := by
  intro code d a b _ _
  have h := wrapTo_natCast (codeWidth code) (a / 2 ^ (b % codeWidth code))
  push_cast at h
  exact h.symm

theorem codeFmt_integer {code : Nat} (h : code ∈ [5, 6, 7, 8, 9]) : codeFmt code = none := by
  simp only [List.mem_cons, List.not_mem_nil, or_false] at h
  obtain rfl | rfl | rfl | rfl | rfl := h <;> rfl

theorem laneOp_integer {code : Nat} (h : code ∈ [5, 6, 7, 8, 9]) (op : LaneOp) (rm : Nat) (sat : Bool) (d a b : Nat) :
    laneOp code op rm sat d a b = (intLane code op d a b, 0) := by
  rw [laneOp, codeFmt_integer h]

theorem compareLane_noFlags {code : Nat} (h : code ∈ [5, 6, 7, 8, 9]) (op : CmpOp) (a b : Nat) : (compareLane code op a b).2 = 0 := by
  rw [compareLane, codeFmt_integer h]

end Sys2Proof.Proofs
end

section
/-! PROOFS. The oldest item of the sequencer where its one operation changes registers and flags of its thread set alone (R168, R200): integer
lane operations and compares. -/

namespace Sys2Proof.Proofs

open Sys2Proof Sys2Proof.Machine

/-- A thread set differs from another in its vector and predicate registers and its flags at most. -/
def SameButVector (u v : Thread) : Prop := ({ v with v := u.v, k := u.k, vflags := u.vflags } : Thread) = u

theorem sameButVector_wvf (u : Thread) (d : BitVec 5) (r : VWord × Flags) : SameButVector u (u.wvf d r) := rfl

theorem sameButVector_wk_flagged (u : Thread) (d : BitVec 3) (p : KWord) (f : Flags) : SameButVector u ((u.wk d p).flagged f) := by
  unfold SameButVector Thread.flagged Thread.wk
  split <;> rfl

/-- A change of one thread set's vector registers, predicates and flags leaves what an engine's step may not touch. -/
theorem sameControl_of_sameButVector {s t : State} {tid : Nat} (hu : SameButVector (s.thread tid) (t.thread tid))
    (ho : ∀ k, k ≠ tid → t.thread k = s.thread k) : SameControl s t := by
  intro k
  by_cases hk : k = tid
  · subst hk
    rw [← hu]
    exact ⟨rfl, rfl, rfl, rfl, rfl, rfl, rfl, rfl, rfl⟩
  · rw [ho k hk]
    exact ⟨rfl, rfl, rfl, rfl, rfl, rfl, rfl, rfl, rfl⟩

/-- The oldest item's one operation, once it is done, leaves the sequencer. -/
theorem exec_oldest_done {s u : State} {tid : Nat} {it : SeqItem} {o : VOp} (h : s.OldestIs tid it o)
    (hr : ∀ add, s.seqRun tid it.id { o with part := it.part, got := it.got } add = .done u) :
    exec (.vectorSequencerExecute tid) s = .next (u.seqLeave (coreOf tid) it.id) := by
  obtain ⟨hready, hhead, -, hpark, hops, hiters, hj, hat, -, -, hheld, -⟩ := h
  obtain ⟨l, hl⟩ := List.head?_eq_some_iff.mp hhead
  have hadv : u.seqAdvance (coreOf tid) it = u.seqLeave (coreOf tid) it.id := by
    simp [State.seqAdvance, hops, hiters, hj, hat]
  have hstep : s.seqStep tid = some (u.seqLeave (coreOf tid) it.id) := by
    simp [State.seqStep, hl, hready, hpark, hops, hiters, hj, hat, hheld, hr, hadv]
  exact event_some hstep

/-- The sequencer's execution of an instruction, no source of it a channel, is a change of its thread set alone. -/
def RunsAs (i : Instr) (f : Thread → VOp → Thread) : Prop :=
  ∀ (s : State) (tid id : Nat) (o : VOp) (add : Word),
    s.seqRun tid id { o with instr := i, chw := false } add = .done (s.setThread tid (f (s.thread tid) o))

/-- The effect of the sequencer's step on such an instruction, with its frame. -/
theorem exec_oldest_runsAs {s : State} {tid : Nat} {it : SeqItem} {o : VOp} {i : Instr} {f : Thread → VOp → Thread} (h : s.OldestIs tid it o)
    (hi : o.instr = i) (hr : RunsAs i f) (hu : ∀ u p, SameButVector u (f u p)) :
    ∃ t, exec (.vectorSequencerExecute tid) s = .next t ∧ LeftSequencer s t it ∧ SameControl s t ∧ SameMemory s t ∧
      t.thread tid = f (s.thread tid) { o with part := it.part, got := it.got } ∧ ∀ k, k ≠ tid → t.thread k = s.thread k := by
  let p : VOp := { o with part := it.part, got := it.got }
  let u := s.setThread tid (f (s.thread tid) p)
  have hown : (u.seqLeave (coreOf tid) it.id).thread tid = f (s.thread tid) p := State.thread_setThread_same ..
  have hothers : ∀ k, k ≠ tid → (u.seqLeave (coreOf tid) it.id).thread k = s.thread k := fun k hk => State.thread_setThread_other _ _ _ _ hk
  have hex := exec_oldest_done (u := u) h
  obtain ⟨-, -, htid, -, -, -, -, -, -, -, -, hchw⟩ := h
  have hp : p = { p with instr := i, chw := false } := by rw [← hi, ← hchw]
  refine ⟨_, hex fun add => ?_, ?_, sameControl_of_sameButVector (by rw [hown]; exact hu ..) hothers, fun _ => rfl, hown, hothers⟩
  · exact (congrArg (s.seqRun tid it.id · add) hp).trans (hr ..)
  · unfold LeftSequencer
    rw [htid]
    exact congrArg Core.seq (State.core_setCore_same ..)

theorem flagged_zero (t : Thread) : t.flagged 0 = t := by simp [Thread.flagged]

/-! Lane operations. -/

/-- What a lane operation on two vector registers writes. -/
def laneResult (op : LaneOp) (vd vs1 vs2 : BitVec 5) (kg : BitVec 3) (t : Thread) (o : VOp) : VWord × Flags :=
  let w := codeWidth o.fmt.toNat
  mapLanes w (t.rk kg) (t.rv vd) fun i =>
    laneOp o.fmt.toNat op o.rm.toNat o.sat (lane (t.rv vd) w i) (lane (t.rv vs1) w i) (lane (t.rv vs2) w i)

/-- Every row of the table of lane operations is run as a lane operation that computes the row's function. -/
theorem laneRows_spec : ∀ row ∈ laneRows, ∃ op,
    (∀ vd vs1 vs2 kg, RunsAs (row.1 vd vs1 vs2 kg) fun t o => t.wvf vd (laneResult op vd vs1 vs2 kg t o)) ∧ Computes op row.2 := by
  intro row h
  simp only [laneRows, List.mem_cons, List.not_mem_nil, or_false] at h
  obtain rfl | rfl | rfl | rfl | rfl | rfl | rfl | rfl | rfl | rfl | rfl := h
  · exact ⟨.add, fun _ _ _ _ _ _ _ _ _ => rfl, computes_of_wrapped (fun e _ c a b => e c a + e c b) fun _ _ _ _ => rfl⟩
  · exact ⟨.sub, fun _ _ _ _ _ _ _ _ _ => rfl, computes_of_wrapped (fun e _ c a b => e c a - e c b) fun _ _ _ _ => rfl⟩
  · exact ⟨.mul, fun _ _ _ _ _ _ _ _ _ => rfl, computes_of_wrapped (fun e _ c a b => e c a * e c b) fun _ _ _ _ => rfl⟩
  · exact ⟨.min, fun _ _ _ _ _ _ _ _ _ => rfl, computes_min⟩
  · exact ⟨.max, fun _ _ _ _ _ _ _ _ _ => rfl, computes_max⟩
  · exact ⟨.adds, fun _ _ _ _ _ _ _ _ _ => rfl, computes_of_wrapped (fun e cl c a b => cl c (e c a + e c b)) fun _ _ _ _ => rfl⟩
  · exact ⟨.subs, fun _ _ _ _ _ _ _ _ _ => rfl, computes_of_wrapped (fun e cl c a b => cl c (e c a - e c b)) fun _ _ _ _ => rfl⟩
  · exact ⟨.mulh, fun _ _ _ _ _ _ _ _ _ => rfl, computes_of_wrapped (fun e _ c a b => e c a * e c b / 2 ^ codeWidth c) fun _ _ _ _ => rfl⟩
  · exact ⟨.shl, fun _ _ _ _ _ _ _ _ _ => rfl, computes_shl⟩
  · exact ⟨.shr, fun _ _ _ _ _ _ _ _ _ => rfl, computes_shr⟩
  · exact ⟨.sra, fun _ _ _ _ _ _ _ _ _ => rfl, computes_of_wrapped (fun e _ c a b => e c a / 2 ^ (b % codeWidth c)) fun _ _ _ _ => rfl⟩

section
variable {o : VOp} (hc : o.fmt.toNat ∈ [5, 6, 7, 8, 9]) (vs1 vs2 : BitVec 5) (kg : BitVec 3) (t : Thread)
include hc

/-- Under an integer format a lane operation sets no flag (R173). -/
theorem wvf_laneResult (op : LaneOp) (vd : BitVec 5) :
    t.wvf vd (laneResult op vd vs1 vs2 kg t o) = t.wv vd (laneResult op vd vs1 vs2 kg t o).1 := by
  have hf : (laneResult op vd vs1 vs2 kg t o).2 = 0 := by
    simp only [laneResult, laneOp_integer hc]
    exact mapLanes_noFlags ..
  rw [Thread.wvf, hf, flagged_zero]

/-- Each lane of what a lane operation writes under an integer format. -/
theorem lane_laneResult {op : LaneOp} {f : Nat → Nat → Nat → Int} (hf : Computes op f) (vd : BitVec 5) {i : Nat}
    (hi : i < 1024 / codeWidth o.fmt.toNat) :
    lane (laneResult op vd vs1 vs2 kg t o).1 (codeWidth o.fmt.toNat) i =
      if active (t.rk kg) (codeWidth o.fmt.toNat) i then
        wrapTo (codeWidth o.fmt.toNat) (f o.fmt.toNat (lane (t.rv vs1) (codeWidth o.fmt.toNat) i) (lane (t.rv vs2) (codeWidth o.fmt.toNat) i))
      else lane (t.rv vd) (codeWidth o.fmt.toNat) i := by
  rw [laneResult, lane_mapLanes _ _ _ hi, laneOp_integer hc, hf _ _ _ _ (lane_lt ..) (lane_lt ..)]

end

/-- Settles O33: the row's lane operation is read back lane by lane. -/
theorem integerLanes : Obligations.IntegerLanes := by
  intro row hrow vd vs1 vs2 kg s tid it o h hi hc _
  obtain ⟨op, hruns, hcomp⟩ := laneRows_spec row hrow
  obtain ⟨t, hex, hleft, hctl, hmem, hown, hothers⟩ := exec_oldest_runsAs h hi (hruns vd vs1 vs2 kg) fun _ _ => sameButVector_wvf ..
  have hown : t.thread tid = (s.thread tid).wv vd (laneResult op vd vs1 vs2 kg (s.thread tid) o).1 :=
    hown.trans (wvf_laneResult hc ..)
  refine ⟨t, hex, hleft, hctl, hmem, ?_, ?_, fun r hr => ?_, hothers, fun i hlt => ?_⟩
  · rw [hown, Thread.wv_vflags]
  · rw [hown, Thread.wv_k]
  · rw [hown, Thread.rv_wv, if_neg hr]
  · rw [hown, Thread.rv_wv, if_pos rfl]
    exact lane_laneResult hc vs1 vs2 kg _ hcomp vd hlt

/-! Compares. -/

/-- A comparison of lane `i` of two vector registers. -/
def compareResult (op : CmpOp) (vs1 vs2 : BitVec 5) (t : Thread) (o : VOp) (i : Nat) : Bool × Flags :=
  compareLane o.fmt.toNat op (lane (t.rv vs1) (codeWidth o.fmt.toNat) i) (lane (t.rv vs2) (codeWidth o.fmt.toNat) i)

/-- The predicate that a comparison writes. -/
def comparePred (op : CmpOp) (vs1 vs2 : BitVec 5) (kg : BitVec 3) (t : Thread) (o : VOp) : KWord :=
  predLanes (codeWidth o.fmt.toNat) (t.rk kg) fun i => (compareResult op vs1 vs2 t o i).1

/-- The flags that a comparison sets. -/
def compareFlags (op : CmpOp) (vs1 vs2 : BitVec 5) (kg : BitVec 3) (t : Thread) (o : VOp) : Flags :=
  (List.range (1024 / codeWidth o.fmt.toNat)).foldl (fun f i =>
    if active (t.rk kg) (codeWidth o.fmt.toNat) i then f ||| (compareResult op vs1 vs2 t o i).2 else f) 0

/-- Every row of the table of compares is run as a comparison that holds of integer elements where the row's relation does. -/
theorem compareRows_spec : ∀ row ∈ compareRows, ∃ op,
    (∀ kd vs1 vs2 kg, RunsAs (row.1 kd vs1 vs2 kg) fun t o =>
      (t.wk kd (comparePred op vs1 vs2 kg t o)).flagged (compareFlags op vs1 vs2 kg t o)) ∧
    ∀ code ∈ [5, 6, 7, 8, 9], ∀ a b, (compareLane code op a b).1 = true ↔ row.2 code a b := by
  intro row h
  simp only [compareRows, List.mem_cons, List.not_mem_nil, or_false] at h
  obtain rfl | rfl | rfl | rfl | rfl | rfl := h
  · exact ⟨.eq, fun _ _ _ _ _ _ _ _ _ => rfl, fun code hc a b => by simp [compareLane, codeFmt_integer hc]⟩
  · exact ⟨.ne, fun _ _ _ _ _ _ _ _ _ => rfl, fun code hc a b => by simp [compareLane, codeFmt_integer hc]⟩
  · exact ⟨.lt, fun _ _ _ _ _ _ _ _ _ => rfl, fun code hc a b => by simp [compareLane, codeFmt_integer hc, elemInt_eq_elemOf]⟩
  · exact ⟨.le, fun _ _ _ _ _ _ _ _ _ => rfl, fun code hc a b => by simp [compareLane, codeFmt_integer hc, elemInt_eq_elemOf]⟩
  · exact ⟨.ltu, fun _ _ _ _ _ _ _ _ _ => rfl, fun code hc a b => by simp [compareLane, codeFmt_integer hc]⟩
  · exact ⟨.leu, fun _ _ _ _ _ _ _ _ _ => rfl, fun code hc a b => by simp [compareLane, codeFmt_integer hc]⟩

/-- Under an integer format a comparison sets no flag (R173). -/
theorem compareFlags_integer {o : VOp} (hc : o.fmt.toNat ∈ [5, 6, 7, 8, 9]) (op : CmpOp) (vs1 vs2 : BitVec 5) (kg : BitVec 3) (t : Thread) :
    compareFlags op vs1 vs2 kg t o = 0 := by
  have hf : ∀ i, (compareResult op vs1 vs2 t o i).2 = 0 := fun i => compareLane_noFlags hc ..
  simp [compareFlags, hf]

/-- Settles O34: the predicate that the row's comparison writes is read back bit by bit. -/
theorem integerCompares : Obligations.IntegerCompares := by
  intro row hrow kd vs1 vs2 kg s tid it o h hi hc hkd
  obtain ⟨op, hruns, hdec⟩ := compareRows_spec row hrow
  obtain ⟨t, hex, hleft, hctl, hmem, hown, -⟩ :=
    exec_oldest_runsAs h hi (hruns kd vs1 vs2 kg) fun _ _ => sameButVector_wk_flagged ..
  have hown : t.thread tid = (s.thread tid).wk kd (comparePred op vs1 vs2 kg (s.thread tid) o) := by
    rw [← flagged_zero (Thread.wk ..), ← compareFlags_integer hc op vs1 vs2 kg (s.thread tid)]
    exact hown
  refine ⟨t, hex, hleft, hctl, hmem, ?_, ?_, fun q hq => ?_, fun i b hlt hb => ?_⟩
  · rw [hown, Thread.wk_vflags]
  · rw [hown, Thread.wk_v]
  · rw [hown, Thread.rk_wk, if_neg hq]
    split
    · next h0 => rw [h0]; rfl
    · rfl
  · rw [hown, Thread.rk_wk, if_neg hkd, if_pos rfl, comparePred, predLanes_getLsbD _ _ hlt hb, Bool.and_eq_true]
    exact and_congr_right fun _ => hdec _ hc _ _

end Sys2Proof.Proofs
end

section
/-! PROOFS. Bytes: what a write of memory leaves, and what it reads back (R40, R271, R276, R298). -/

namespace Sys2Proof.Proofs

open Sys2Proof Sys2Proof.Machine

/-- Two states keep the same bytes in the same places. -/
def SameBytes (s t : State) : Prop := t.mem = s.mem ∧ t.vague = s.vague ∧ t.gcolNow = s.gcolNow ∧ t.gfold = s.gfold

theorem keep_of_columns {s t : State} (hc : t.gcolNow = s.gcolNow) (hf : t.gfold = s.gfold) : t.keep = s.keep := by
  funext a
  unfold State.keep State.columns State.foldBase
  rw [hc, hf]

theorem SameBytes.readByte {s t : State} (h : SameBytes s t) (a : Nat) : t.readByte a = s.readByte a := by
  obtain ⟨hm, hv, hc, hf⟩ := h
  unfold State.readByte
  rw [hm, hv, keep_of_columns hc hf]

theorem SameBytes.memory {s t : State} (h : SameBytes s t) : SameMemory s t := h.readByte

theorem sameMemory_trans {s t u : State} (a : SameMemory s t) (b : SameMemory t u) : SameMemory s u := fun x => (b x).trans (a x)

theorem readBytes_congr {s t : State} {a n : Nat} (h : ∀ i, i < n → t.readByte (a + i) = s.readByte (a + i)) : t.readBytes a n = s.readBytes a n := by
  induction n generalizing a with
  | zero => rfl
  | succ n ih =>
    have h0 : t.readByte a = s.readByte a := h 0 (Nat.succ_pos n)
    have hr : t.readBytes (a + 1) n = s.readBytes (a + 1) n := ih fun i hi => by
      have hx := h (i + 1) (Nat.succ_lt_succ hi)
      rwa [Nat.add_comm i 1, ← Nat.add_assoc] at hx
    rw [State.readBytes, h0, hr, State.readBytes]

@[simp] theorem readBytes_length (s : State) (n : Nat) : ∀ a, (s.readBytes a n).length = n := by
  induction n with
  | zero => exact fun _ => rfl
  | succ n ih => exact fun a => congrArg Nat.succ (ih (a + 1))

theorem readBytes_append (s : State) (m n : Nat) : ∀ a, s.readBytes a (m + n) = s.readBytes a m ++ s.readBytes (a + m) n := by
  induction m with
  | zero => intro a; simp [State.readBytes]
  | succ m ih =>
    intro a
    have h := ih (a + 1)
    rw [Nat.succ_add, State.readBytes, h, State.readBytes, List.cons_append, Nat.add_assoc a 1 m, Nat.add_comm 1 m]

/-- A part of bytes read is the bytes read there. -/
theorem readBytes_part (s : State) (a k m n : Nat) (h : k + m ≤ n) : ((s.readBytes a n).drop k).take m = s.readBytes (a + k) m := by
  obtain ⟨r, rfl⟩ := Nat.exists_eq_add_of_le h
  rw [Nat.add_assoc, readBytes_append s k, List.drop_left' (readBytes_length ..), readBytes_append s m, List.take_left' (readBytes_length ..)]

theorem vague_has_punch (v : Vague) (a b : Nat) : (v.punch a).has b = (v.has b && (b != a)) := by
  unfold Vague.punch
  split
  · by_cases h : b = a
    · simp [Vague.has, h]
    · simp [Vague.has, h]
  · next h =>
    by_cases hb : b = a
    · subst hb
      simpa using h
    · simp [hb]

theorem vague_punch_epoch (v : Vague) (a : Nat) : (v.punch a).epoch = v.epoch := by
  unfold Vague.punch
  split <;> rfl

/-- The arrangement of a byte as given or not, once another has been written plainly. -/
theorem find_punch_other {a b : Nat} (h : b ≠ a) (l : List Vague) :
    ((l.map (·.punch a)).find? (·.has b)).map (·.epoch) = (l.find? (·.has b)).map (·.epoch) := by
  induction l with
  | nil => rfl
  | cons v l ih =>
    have hv : (v.punch a).has b = v.has b := by simp [vague_has_punch, h]
    rw [List.map_cons, List.find?_cons, List.find?_cons, hv]
    split
    · exact congrArg some (vague_punch_epoch v a)
    · exact ih

theorem find_punch_same (a : Nat) (l : List Vague) : (l.map (·.punch a)).find? (·.has a) = none := by
  simp [List.find?_eq_none, vague_has_punch]

theorem readByte_eq (s : State) (a : Nat) : s.readByte a = match (s.vague.find? (·.has a)).map (·.epoch) with
    | some e => Config.freeByte e a
    | none => mread s.mem (s.keep a) := by
  unfold State.readByte
  cases s.vague.find? (·.has a) <;> rfl

theorem readByte_writeByte_same (s : State) (a : Nat) (b : Byte) : (s.writeByte a b).readByte a = b := by
  rw [readByte_eq]
  have hf : ((s.writeByte a b).vague.find? (·.has a)) = none := find_punch_same a s.vague
  rw [hf]
  exact mread_mwrite_same ..

theorem readByte_writeByte_other {s : State} {a c : Nat} (b : Byte) (h : s.keep c ≠ s.keep a) : (s.writeByte a b).readByte c = s.readByte c := by
  have hne : c ≠ a := fun hc => h (congrArg s.keep hc)
  have hf : ((s.writeByte a b).vague.find? (·.has c)).map (·.epoch) = (s.vague.find? (·.has c)).map (·.epoch) := find_punch_other hne s.vague
  have hm : mread (s.writeByte a b).mem ((s.writeByte a b).keep c) = mread s.mem (s.keep c) := mread_mwrite_other _ _ _ _ h
  rw [readByte_eq, readByte_eq, hf, hm]

/-- Writing bytes changes memory, marks and arrangements alone. -/
theorem writeBytes_frame (d : List Byte) : ∀ (s : State) (a : Nat), ∃ m p v, s.writeBytes a d = { s with mem := m, poison := p, vague := v } := by
  induction d with
  | nil => exact fun s _ => ⟨s.mem, s.poison, s.vague, rfl⟩
  | cons b d ih =>
    intro s a
    obtain ⟨m, p, v, h⟩ := ih (s.writeByte a b) (a + 1)
    exact ⟨m, p, v, h⟩

theorem readByte_writeBytes_other (d : List Byte) : ∀ (s : State) (a c : Nat), Apart s c a d.length → (s.writeBytes a d).readByte c = s.readByte c := by
  induction d with
  | nil => exact fun _ _ _ _ => rfl
  | cons b d ih =>
    intro s a c h
    have hr : Apart (s.writeByte a b) c (a + 1) d.length := fun i hi => by
      have hx := h (i + 1) (Nat.succ_lt_succ hi)
      rwa [Nat.add_comm i 1, ← Nat.add_assoc] at hx
    exact (ih (s.writeByte a b) (a + 1) c hr).trans (readByte_writeByte_other b (h 0 (Nat.succ_pos _)))

/-- Bytes are kept in places of their own. -/
def KeptApart (s : State) (a n : Nat) : Prop := ∀ i j, i < j → j < n → s.keep (a + i) ≠ s.keep (a + j)

theorem keptApart_of_id {s : State} {a n : Nat} (h : ∀ i, i < n → s.keep (a + i) = a + i) : KeptApart s a n := fun i j hij hj => by
  rw [h i (hij.trans hj), h j hj]
  omega

theorem readBytes_writeBytes (d : List Byte) : ∀ (s : State) (a : Nat), KeptApart s a d.length → (s.writeBytes a d).readBytes a d.length = d := by
  induction d with
  | nil => exact fun _ _ _ => rfl
  | cons b d ih =>
    intro s a h
    have hr : KeptApart (s.writeByte a b) (a + 1) d.length := fun i j hij hj => by
      have hx := h (i + 1) (j + 1) (Nat.succ_lt_succ hij) (Nat.succ_lt_succ hj)
      rwa [Nat.add_comm i 1, ← Nat.add_assoc, Nat.add_comm j 1, ← Nat.add_assoc] at hx
    have h0 : ((s.writeByte a b).writeBytes (a + 1) d).readByte a = b := by
      rw [readByte_writeBytes_other d _ _ _ fun i hi => ?_]
      · exact readByte_writeByte_same s a b
      · have hx := h 0 (i + 1) (Nat.succ_pos i) (Nat.succ_lt_succ hi)
        rwa [Nat.add_comm i 1, ← Nat.add_assoc] at hx
    change ((s.writeByte a b).writeBytes (a + 1) d).readByte a :: ((s.writeByte a b).writeBytes (a + 1) d).readBytes (a + 1) d.length = b :: d
    rw [h0, ih _ _ hr]

/-! A write by a party (R16, R71). -/

/-- A write changes memory, marks, arrangements and thread sets alone. -/
theorem store_frame (s : State) (w : Writer) (a : Nat) (d : List Byte) :
    ∃ m p v th, s.store w a d = { s with mem := m, poison := p, vague := v, threads := th } := by
  obtain ⟨m, p, v, h⟩ := writeBytes_frame d s a
  refine ⟨m, p, v, (s.store w a d).threads, ?_⟩
  unfold State.store
  rw [h]

theorem loseReservation_frame (t : Thread) (own : Bool) (a n : Nat) (r : Option Nat) :
    ({ t.loseReservation own a n with resv := r } : Thread) = { t with resv := r } := by
  unfold Thread.loseReservation
  split
  · split <;> rfl
  · rfl

theorem outdate_early (t : Thread) (tid : Nat) (w : Writer) (die pa n : Nat) (e : List Early) :
    ({ t.outdate tid w die pa n with early := e } : Thread) = { t with early := e } := by
  unfold Thread.outdate
  split
  · rfl
  · rw [Thread.share_early]

/-- Of a thread set a write touches its reservation and its early values alone. -/
theorem store_thread (s : State) (w : Writer) (a : Nat) (d : List Byte) (k : Nat) :
    ({ (s.store w a d).thread k with resv := (s.thread k).resv, early := (s.thread k).early } : Thread) = s.thread k := by
  obtain ⟨m, p, v, h⟩ := writeBytes_frame d s a
  unfold State.store
  rw [h]
  refine aget_mapThreads (R := fun t u => ({ t with resv := u.resv, early := u.early } : Thread) = u)
    (fun p => (p.2.loseReservation (w.scalarOf p.1) a d.length).outdate p.1 w (dieOfAddr a) (s.chipno * 2 ^ 40 + a) d.length) rfl
    (fun q => ?_) s.threads k
  have ho := congrArg (fun u : Thread => ({ u with resv := q.2.resv } : Thread))
    (outdate_early (q.2.loseReservation (w.scalarOf q.1) a d.length) q.1 w (dieOfAddr a) (s.chipno * 2 ^ 40 + a) d.length q.2.early)
  have hl := congrArg (fun u : Thread => ({ u with early := q.2.early } : Thread))
    (loseReservation_frame q.2 (w.scalarOf q.1) a d.length q.2.resv)
  exact ho.trans hl

theorem store_samePcs (s : State) (w : Writer) (a : Nat) (d : List Byte) : SamePcs s (s.store w a d) := fun k => by
  have hx := congrArg Thread.x (store_thread s w a d k)
  have hp := congrArg Thread.pc (store_thread s w a d k)
  have hs := congrArg Thread.steward (store_thread s w a d k)
  exact ⟨hx, hp, hs⟩

theorem store_readByte (s : State) (w : Writer) (a : Nat) (d : List Byte) (c : Nat) :
    (s.store w a d).readByte c = (s.writeBytes a d).readByte c := rfl

/-- Bytes written are stored (R40). -/
theorem store_stored (s : State) (w : Writer) {a : Nat} {d : List Byte} (h : KeptApart s a d.length) : Stored s (s.store w a d) a d :=
  ⟨(readBytes_congr fun _ _ => store_readByte s w a d _).trans (readBytes_writeBytes d s a h),
    fun b hb => (store_readByte s w a d b).trans (readByte_writeBytes_other d s a b hb)⟩

/-- A later step that changes no byte leaves stored bytes stored. -/
theorem stored_of_stored {s t u : State} {a : Nat} {d : List Byte} (h : Stored s t a d) (hm : SameMemory t u) : Stored s u a d :=
  ⟨(readBytes_congr fun _ _ => hm _).trans h.1, fun b hb => (hm b).trans (h.2 b hb)⟩

/-- Bytes of HBM lie where their addresses say. -/
theorem keep_hbm (s : State) {a : Nat} (h : a < 0xC000000000) : s.keep a = a := by
  have hg : inGallery a = false := decide_eq_false fun hb => by
    unfold galleryBase at hb
    omega
  unfold State.keep
  rw [if_neg (by rw [hg]; exact Bool.false_ne_true)]

theorem keptApart_hbm (s : State) {a n : Nat} (h : a + n ≤ 0xC000000000) : KeptApart s a n :=
  keptApart_of_id fun i hi => keep_hbm s (by omega)

theorem keptApart_of_plain {s : State} (h : ∀ b, s.keep b = b) (a n : Nat) : KeptApart s a n := keptApart_of_id fun i _ => h (a + i)

end Sys2Proof.Proofs
end

section
/-! PROOFS. The host's queues, hints and error log: what each change of them is (R91, R94, R382, R393). -/

namespace Sys2Proof.Proofs

open Sys2Proof Sys2Proof.Machine

@[simp] theorem queue_setQueue_same (s : State) (q : Nat) (x : Queue) : (s.setQueue q x).queue q = x := aget_aput_same ..
theorem queue_setQueue_other (s : State) {q k : Nat} (x : Queue) (h : k ≠ q) : (s.setQueue q x).queue k = s.queue k := aget_aput_other _ _ _ _ _ h

theorem raised_eq (s : State) (c : Bool) (v : Nat) : (if c then s.raise v else s) = { s with msix := s.msix ++ if c then [v] else [] } := by
  cases c
  · simp
  · rfl

theorem queueError_eq (s : State) (q : Nat) (code : BitVec 8) : s.queueError q code =
    { s.setQueue q { s.queue q with err := (s.queue q).err + 1, last := code } with
      msix := s.msix ++ if (s.queue q).ie then [(s.queue q).vec.toNat] else [] } := raised_eq ..

theorem queueDone_eq (s : State) (q : Nat) : s.queueDone q =
    { s.setQueue q { s.queue q with done := (s.queue q).done + 1 } with
      msix := s.msix ++ if (s.queue q).ie then [(s.queue q).vec.toNat] else [] } := raised_eq ..

theorem setHint_eq (s : State) (n : Nat) : s.setHint n = { s with
    hint := s.hint ||| ((1 : BitVec 6) <<< n)
    msix := s.msix ++ if !s.hint.getLsbD n && s.hintv.getLsbD 63 then [(s.hintv.extractLsb' 0 11).toNat] else [] } := raised_eq ..

/-- A write that a locket drops is reported (R389): HINT bit 3 and an entry of the error log. -/
theorem reported_frame (s : State) (loc : Nat) : ∃ h m, ((s.setHint 3).logError 5 loc 0) = { s with
    hint := h, msix := m, errNext := s.errNext + 1
    errlog := aput s.errlog (s.errNext % 4096) { time := s.time, loc := loc, kind := 5, count := 0 } } ∧ h.getLsbD 3 = true := by
  unfold State.logError
  simp only [setHint_eq]
  exact ⟨_, _, rfl, by simp⟩

end Sys2Proof.Proofs
end

section
/-! PROOFS. The host's windows (R91, R92, R379, R385, R386, R389). -/

namespace Sys2Proof.Proofs

open Sys2Proof Sys2Proof.Machine

/-- In P0 a host write is performed as it arrives. -/
theorem hostWrite_performed {s : State} (hr : s.ready = true) (hp : s.pstate = 0) (w : HostWrite) :
    s.hostWrite w = some (({ s with idleFor := 0 } : State).hostPerform w) :=
  (if_neg (by simp [hr])).trans (if_pos (by simp [hp]))

/-- During the wipe a host write does what the wipe lets it. -/
theorem hostWrite_wiping {s : State} (hr : s.ready = false) (w : HostWrite) : s.hostWrite w = some (({ s with idleFor := 0 } : State).hostAct w) :=
  if_pos (by simp [hr])

/-- Outside P0 a host write waits, and the exit begins. -/
theorem hostWrite_held {s : State} (hr : s.ready = true) (hp : s.pstate ≠ 0) (hl : s.hostHeld.length < 256) (w : HostWrite)
    (hq : ∀ off n v, w = .ctl off n v → quiet off = false) :
    s.hostWrite w = some { s with idleFor := 0, hostHeld := s.hostHeld ++ [w], waking := true } := by
  have hp0 : (s.pstate == 0) = false := beq_false_of_ne hp
  have hc : ∀ calm : Bool, calm = false → (if (!s.ready) = true then some (({ s with idleFor := 0 } : State).hostAct w)
      else if (s.pstate == 0 || (calm && s.hostHeld.isEmpty)) = true then some (({ s with idleFor := 0 } : State).hostPerform w)
      else if 256 ≤ s.hostHeld.length then none
      else some { s with idleFor := 0, hostHeld := s.hostHeld ++ [w], waking := s.waking || !calm }) =
        some { s with idleFor := 0, hostHeld := s.hostHeld ++ [w], waking := true } := fun calm h => by
    rw [if_neg (by simp [hr]), if_neg (by rw [hp0, h]; exact Bool.false_ne_true), if_neg (Nat.not_le.mpr hl), h, Bool.not_false, Bool.or_true]
  cases w with
  | ctl off n v => exact hc _ (hq off n v rfl)
  | append off d => exact hc false rfl
  | mem off d => exact hc false rfl

/-! Appends. -/

section
variable (s : State) (off : Nat) (d : List Byte) (hq : off / 64 < 131072)
include hq

theorem append_disabled (h : (s.queue (off / 64)).en = false) : s.append off d = s.queueError (off / 64) 3 :=
  (if_neg (Nat.not_le.mpr hq)).trans (if_pos (by simp [h]))

variable (hen : (s.queue (off / 64)).en = true)
include hen

theorem append_partial (h : d.length ≠ 64 ∨ off % 64 ≠ 0) : s.append off d = s.queueError (off / 64) 2 :=
  (if_neg (Nat.not_le.mpr hq)).trans ((if_neg (by simp [hen])).trans (if_pos h))

variable (hd : d.length = 64) (ha : off % 64 = 0)
include hd ha

theorem append_full (h : ((s.queue (off / 64)).tail - (s.queue (off / 64)).head).toNat = 2 ^ (s.queue (off / 64)).logcap.toNat) :
    s.append off d = s.queueError (off / 64) 1 :=
  (if_neg (Nat.not_le.mpr hq)).trans ((if_neg (by simp [hen])).trans ((if_neg (by simp [hd, ha])).trans (if_pos h)))

end

/-- The local address at which a queue's next entry is stored (R90). -/
def entryAt (x : Queue) : Nat := (x.base.extractLsb' 0 40).toNat + 64 * (x.tail.toNat % 2 ^ x.logcap.toNat)

theorem entryAt_eq (x : Queue) : entryAt x = x.base.toNat % 2 ^ 40 + 64 * (x.tail.toNat % 2 ^ x.logcap.toNat) := by
  simp [entryAt, BitVec.extractLsb'_toNat]

/-- An entry written where its ring lies in service: a locket drops it, a held line refuses it (R160, R298, R389). -/
def landEntry (s : State) (a : Nat) (d : List Byte) : State :=
  if s.inLocket a 64 then (s.setHint 3).logError 5 (s.chipno * 2 ^ 40 + a) 0
  else if s.isHeld a 64 then s else s.store (.outside 4097) a d

/-- The queue once an entry has been appended, and its order's release (R92). -/
def appended (q : Nat) (x : Queue) (u : State) : State :=
  (u.releaseIn (.outside 4097) (some 3) (appendOrder q)).setQueue q { x with tail := x.tail + 1, stamps := x.stamps ++ [u.time] }

theorem append_room (s : State) (off : Nat) (d : List Byte) (hq : off / 64 < 131072) (hen : (s.queue (off / 64)).en = true) (hd : d.length = 64)
    (ha : off % 64 = 0) (h : ((s.queue (off / 64)).tail - (s.queue (off / 64)).head).toNat ≠ 2 ^ (s.queue (off / 64)).logcap.toNat)
    (ho : s.outOfService (entryAt (s.queue (off / 64))) 64 = false) :
    s.append off d = appended (off / 64) (s.queue (off / 64)) (landEntry s (entryAt (s.queue (off / 64))) d) := by
  have hu : (if s.outOfService (entryAt (s.queue (off / 64))) 64 = true then s.blur (entryAt (s.queue (off / 64))) 64
      else landEntry s (entryAt (s.queue (off / 64))) d) = landEntry s (entryAt (s.queue (off / 64))) d := if_neg (by simp [ho])
  have hr : s.append off d = _ :=
    (if_neg (Nat.not_le.mpr hq)).trans ((if_neg (by simp [hen])).trans ((if_neg (by simp [hd, ha])).trans (if_neg h)))
  exact hr.trans (congrArg (appended (off / 64) (s.queue (off / 64))) hu)

/-- What writing the entry leaves: in a locket its report, else the entry stored. -/
theorem landEntry_spec (s : State) (a : Nat) (d : List Byte) (hk : ∀ b, s.keep b = b) :
    SamePcs s (landEntry s a d) ∧ (landEntry s a d).cores = s.cores ∧
    (s.inLocket a 64 = false → s.isHeld a 64 = false → Stored s (landEntry s a d) a d) ∧
    (s.inLocket a 64 = true → SameMemory s (landEntry s a d) ∧ (landEntry s a d).hint.getLsbD 3 = true) := by
  unfold landEntry
  by_cases hl : s.inLocket a 64 = true
  · obtain ⟨h, m, he, h3⟩ := reported_frame s (s.chipno * 2 ^ 40 + a)
    rw [if_pos hl, he]
    exact ⟨fun _ => ⟨rfl, rfl, rfl⟩, rfl, fun hf => absurd (hl.symm.trans hf) Bool.noConfusion, fun _ => ⟨fun _ => rfl, h3⟩⟩
  · rw [if_neg hl]
    by_cases hh : s.isHeld a 64 = true
    · rw [if_pos hh]
      exact ⟨fun _ => ⟨rfl, rfl, rfl⟩, rfl, fun _ hf => absurd (hh.symm.trans hf) Bool.noConfusion, fun h => absurd h hl⟩
    · rw [if_neg hh]
      obtain ⟨m, p, v, th, hs⟩ := store_frame s (.outside 4097) a d
      exact ⟨store_samePcs s _ a d, by rw [hs], fun _ _ => store_stored s _ (keptApart_of_plain hk a _), fun h => absurd h hl⟩

theorem appended_spec (q : Nat) (x : Queue) (s : State) : SamePcs s (appended q x s) ∧ (appended q x s).cores = s.cores ∧
    SameMemory s (appended q x s) ∧ ((appended q x s).queue q).tail = x.tail + 1 ∧ ((appended q x s).queue q).head = x.head ∧
    (appended q x s).hint = s.hint := by
  have he := releaseIn_sameButEarly s (.outside 4097) (some 3) (appendOrder q)
  have hq : (appended q x s).queue q = _ := queue_setQueue_same ..
  refine ⟨fun k => ?_, rfl, fun _ => rfl, by rw [hq], by rw [hq], rfl⟩
  have hx := congrArg Thread.steward (he.2 k)
  exact ⟨he.notes.x k, he.notes.pc k, hx⟩

theorem samePcs_trans {s t u : State} (a : SamePcs s t) (b : SamePcs t u) : SamePcs s u := fun k => by
  obtain ⟨x1, p1, s1⟩ := a k
  obtain ⟨x2, p2, s2⟩ := b k
  exact ⟨x2.trans x1, p2.trans p1, s2.trans s1⟩

/-- An error of a queue that the step of an append answers with (R91). -/
theorem append_refused (s : State) (off : Nat) (d : List Byte) (hr : s.ready = true) (hp : s.pstate = 0) (code : BitVec 8)
    (h : ({ s with idleFor := 0 } : State).append off d = ({ s with idleFor := 0 } : State).queueError (off / 64) code) :
    let x := s.queue (off / 64)
    ∃ t, exec (.hostAppend off d) s = .next t ∧ (SamePcs s t ∧ t.cores = s.cores) ∧ SameMemory s t ∧
      t.queue (off / 64) = { x with err := x.err + 1, last := code } ∧ t.msix = s.msix ++ (if x.ie then [x.vec.toNat] else []) :=
  ⟨_, event_some ((hostWrite_performed hr hp _).trans (congrArg some (h.trans (queueError_eq ..)))),
    ⟨fun _ => ⟨rfl, rfl, rfl⟩, rfl⟩, fun _ => rfl, queue_setQueue_same .., rfl⟩

/-- The host's appends: disabled, partial, full, or stored (R91, R92). -/
theorem hostAppends (s : State) (off : Nat) (d : List Byte) (hr : s.ready = true) (hp : s.pstate = 0) (ho : off < 0x800000) :
    let q := off / 64
    let x := s.queue q
    let fails (code : BitVec 8) := ∃ t, exec (.hostAppend off d) s = .next t ∧ (SamePcs s t ∧ t.cores = s.cores) ∧ SameMemory s t ∧
      t.queue q = { x with err := x.err + 1, last := code } ∧ t.msix = s.msix ++ (if x.ie then [x.vec.toNat] else [])
    (x.en = false → fails 3) ∧ (x.en = true → (d.length ≠ 64 ∨ off % 64 ≠ 0) → fails 2) ∧
    (x.en = true → d.length = 64 → off % 64 = 0 → (x.tail - x.head).toNat = 2 ^ x.logcap.toNat → fails 1) ∧
    (x.en = true → d.length = 64 → off % 64 = 0 → (x.tail - x.head).toNat ≠ 2 ^ x.logcap.toNat → (∀ b, s.keep b = b) →
      let a := x.base.toNat % 2 ^ 40 + 64 * (x.tail.toNat % 2 ^ x.logcap.toNat)
      s.outOfService a 64 = false →
      ∃ t, exec (.hostAppend off d) s = .next t ∧ (SamePcs s t ∧ t.cores = s.cores) ∧ (t.queue q).tail = x.tail + 1 ∧ (t.queue q).head = x.head ∧
        (s.inLocket a 64 = false → s.isHeld a 64 = false → Stored s t a d) ∧ (s.inLocket a 64 = true → SameMemory s t ∧ t.hint.getLsbD 3 = true)) := by
  have hq : off / 64 < 131072 := by omega
  let i : State := { s with idleFor := 0 }
  refine ⟨fun hen => append_refused s off d hr hp 3 (append_disabled i off d hq hen),
    fun hen hb => append_refused s off d hr hp 2 (append_partial i off d hq hen hb),
    fun hen hd ha hf => append_refused s off d hr hp 1 (append_full i off d hq hen hd ha hf), fun hen hd ha hf hk hout => ?_⟩
  have hat := entryAt_eq (s.queue (off / 64))
  rw [← hat] at hout ⊢
  obtain ⟨hpcs, hcores, hst, hlk⟩ := landEntry_spec i (entryAt (s.queue (off / 64))) d hk
  obtain ⟨rpcs, rcores, rmem, rtail, rhead, rhint⟩ :=
    appended_spec (off / 64) (s.queue (off / 64)) (landEntry i (entryAt (s.queue (off / 64))) d)
  exact ⟨_, event_some ((hostWrite_performed hr hp _).trans (congrArg some (append_room i off d hq hen hd ha hf hout))),
    ⟨samePcs_trans hpcs rpcs, rcores.trans hcores⟩, rtail, rhead, fun hl hh => stored_of_stored (hst hl hh) rmem,
    fun hl => ⟨sameMemory_trans (hlk hl).1 rmem, (congrArg (·.getLsbD 3) rhint).trans (hlk hl).2⟩⟩

/-! Writes of HBM. -/

theorem hostWrites (s : State) (off : Nat) (d : List Byte) (hr : s.ready = true) (hp : s.pstate = 0) :
    (0xC000000000 < off + d.length → exec (.hostWrite off d) s = .next { s with idleFor := 0 }) ∧
    (off + d.length ≤ 0xC000000000 → s.withdrawn = [] → s.inLocket off d.length = false →
      ∃ t, exec (.hostWrite off d) s = .next t ∧ (SamePcs s t ∧ t.cores = s.cores) ∧ Stored s t off d) ∧
    (off + d.length ≤ 0xC000000000 → s.withdrawn = [] → s.inLocket off d.length = true →
      ∃ t, exec (.hostWrite off d) s = .next t ∧ (SamePcs s t ∧ t.cores = s.cores) ∧ SameMemory s t ∧ t.hint.getLsbD 3 = true ∧
        afind t.errlog (s.errNext % 4096) = some { time := s.time, loc := s.chipno * 2 ^ 40 + off, kind := 5, count := 0 }) := by
  let i : State := { s with idleFor := 0 }
  have hex : exec (.hostWrite off d) s = .next (i.hostStore off d) := event_some (hostWrite_performed hr hp (.mem off d))
  refine ⟨fun hout => ?_, fun hin hw hl => ?_, fun hin hw hl => ?_⟩
  · rw [hex]
    unfold State.hostStore
    rw [if_pos (.inl hout)]
  · have hs : i.hostStore off d = i.store (.outside 4097) off d := by
      unfold State.hostStore
      rw [if_neg (by simp [i, hw, Nat.not_lt.mpr hin]), if_neg (by rw [show i.inLocket off d.length = false from hl]; exact Bool.false_ne_true)]
    obtain ⟨m, p, v, th, he⟩ := store_frame i (.outside 4097) off d
    rw [hex, hs]
    exact ⟨_, rfl, ⟨store_samePcs i _ off d, by rw [he]⟩, store_stored i _ (keptApart_hbm i hin)⟩
  · have hs : i.hostStore off d = (i.setHint 3).logError 5 (s.chipno * 2 ^ 40 + off) 0 := by
      unfold State.hostStore
      rw [if_neg (by simp [i, hw, Nat.not_lt.mpr hin]), if_pos (show i.inLocket off d.length = true from hl)]
      rfl
    obtain ⟨h, m, he, h3⟩ := reported_frame i (s.chipno * 2 ^ 40 + off)
    rw [hex, hs, he]
    exact ⟨_, rfl, ⟨fun _ => ⟨rfl, rfl, rfl⟩, rfl⟩, fun _ => rfl, h3, by rw [afind_aput, if_pos rfl]⟩

/-! Reads. -/

/-- A read that is not held is answered. -/
theorem hostRead_answered {s : State} {bar off n : Nat} (h : s.ready = false ∨ s.pstate = 0) {d : List Byte} {p : Bool}
    (ha : ({ s with idleFor := 0 } : State).hostAnswer bar off n = ({ s with idleFor := 0 }, d, p)) :
    exec (.hostRead bar off n) s = .next { s with idleFor := 0, hostOut := s.hostOut ++ [{ bar := bar, off := off, data := d, poisoned := p }] } := by
  have hc : (s.ready && s.pstate != 0) = false := by
    obtain h | h := h <;> simp [h]
  refine event_some ((if_neg ?_).trans ?_)
  · change ¬ ((s.ready && s.pstate != 0) && _) = true
    rw [hc]
    exact Bool.false_ne_true
  · rw [ha]

/-- What a read answers (R91, R379, R386): ones during the wipe, HBM, ones beyond it, a window, and no register in another width. -/
theorem hostAnswer_wiping {s : State} (hr : s.ready = false) (off n : Nat) : s.hostAnswer 4 off n = (s, List.replicate n 0xFF, false) :=
  (if_neg (by decide)).trans (if_pos (by simp [hr]))

section
variable {s : State} (hr : s.ready = true) {off n : Nat}
include hr

theorem hostAnswer_hbm (hin : off + n ≤ 0xC000000000) (hw : s.withdrawn = []) : s.hostAnswer 4 off n = (s, s.readBytes off n, s.isPoisoned off n) :=
  (if_neg (by decide)).trans ((if_neg (by simp [hr])).trans ((if_neg (by decide)).trans (if_neg (by simp [hw, Nat.not_lt.mpr hin]))))

theorem hostAnswer_beyond (hout : 0xC000000000 < off + n) : s.hostAnswer 4 off n = (s, List.replicate n 0xFF, false) :=
  (if_neg (by decide)).trans ((if_neg (by simp [hr])).trans ((if_neg (by decide)).trans (if_pos (.inl hout))))

theorem hostAnswer_window (ha : off % 64 = 0) :
    s.hostAnswer 2 off 8 = (s, leBytes ((s.queue (off / 64)).tail.toNat + 2 ^ 32 * (s.queue (off / 64)).head.toNat) 8, false) := by
  refine (if_neg (by decide)).trans ((if_neg (by simp [hr])).trans ((if_pos rfl).trans ?_))
  simp only [ha]
  rfl

theorem hostAnswer_register : s.hostAnswer 0 off 8 = ((s.ctlRead off 8).1, leBytes (s.ctlRead off 8).2.toNat 8, false) :=
  (if_pos rfl).trans ((if_pos (by simp [hr])).trans (if_pos rfl))

theorem hostAnswer_noRegister (h : n ≠ 8 ∨ off % 8 ≠ 0) : s.hostAnswer 0 off n = (s, List.replicate n 0, false) := by
  by_cases h8 : n = 8
  · subst h8
    have hc : s.ctlRead off 8 = (s, 0) := if_neg (by simpa using h)
    have h0 : leBytes (0 : Word).toNat 8 = List.replicate 8 0 := by decide
    rw [hostAnswer_register hr, hc, h0]
  · exact (if_pos rfl).trans ((if_pos (by simp [hr])).trans (if_neg h8))

end

/-- The registers of the package that the host reads as they stand (R381, R382). -/
theorem ctlRead_pkgReg (s : State) : ∀ p ∈ ([(0x00, s.pkgstat), (0x10, s.ltol), (0x18, zext s.hint), (0x20, s.hintv), (0x30, s.coldom),
    (0x38, s.podcfg), (0x48, zext s.attstat), (0x08, 0), (0x28, 0), (0x40, 0)] : List (Nat × Word)), s.ctlRead p.1 8 = (s, p.2) := by
  intro p hp
  simp only [List.mem_cons, List.not_mem_nil, or_false] at hp
  obtain rfl | rfl | rfl | rfl | rfl | rfl | rfl | rfl | rfl | rfl := hp <;> simp [State.ctlRead, State.ctlReg, State.pkgReg]

theorem hostReads (s : State) (bar off n : Nat) :
    let answers (d : List Byte) (poisoned : Bool) := exec (.hostRead bar off n) s =
      .next { s with idleFor := 0, hostOut := s.hostOut ++ [{ bar := bar, off := off, data := d, poisoned := poisoned }] }
    (s.ready = false → bar = 4 → answers (List.replicate n 0xFF) false) ∧
    (s.ready = true → s.pstate = 0 →
      (bar = 4 → off + n ≤ 0xC000000000 → s.withdrawn = [] → answers (s.readBytes off n) (s.isPoisoned off n)) ∧
      (bar = 4 → 0xC000000000 < off + n → answers (List.replicate n 0xFF) false) ∧
      (bar = 2 → off % 64 = 0 → n = 8 →
        answers (leBytes ((s.queue (off / 64)).tail.toNat + 2 ^ 32 * (s.queue (off / 64)).head.toNat) 8) false) ∧
      (bar = 0 → (n ≠ 8 ∨ off % 8 ≠ 0) → answers (List.replicate n 0) false) ∧
      (bar = 0 → n = 8 → ∀ p ∈ ([(0x00, s.pkgstat), (0x10, s.ltol), (0x18, zext s.hint), (0x20, s.hintv), (0x30, s.coldom), (0x38, s.podcfg),
        (0x48, zext s.attstat), (0x08, 0), (0x28, 0), (0x40, 0)] : List (Nat × Word)), off = p.1 → answers (leBytes p.2.toNat 8) false)) ∧
    (s.ready = true → s.pstate ≠ 0 → s.waking = false → bar = 4 → exec (.hostRead bar off n) s = .next { s with idleFor := 0, waking := true }) := by
  let i : State := { s with idleFor := 0 }
  have hbytes : i.readBytes off n = s.readBytes off n := readBytes_congr fun _ _ => rfl
  refine ⟨fun hr hb => ?_, fun hr hp => ⟨fun hb hin hw => ?_, fun hb hout => ?_, fun hb ha hn => ?_, fun hb hn => ?_, fun hb hn p hm ho => ?_⟩,
    fun hr hp hw hb => ?_⟩
  · subst hb
    exact hostRead_answered (.inl hr) (hostAnswer_wiping (s := i) hr off n)
  · subst hb
    rw [← hbytes]
    exact hostRead_answered (.inr hp) (hostAnswer_hbm (s := i) hr hin hw)
  · subst hb
    exact hostRead_answered (.inr hp) (hostAnswer_beyond (s := i) hr hout)
  · subst hb hn
    exact hostRead_answered (.inr hp) (hostAnswer_window (s := i) hr ha)
  · subst hb
    exact hostRead_answered (.inr hp) (hostAnswer_noRegister (s := i) hr hn)
  · subst hb hn ho
    refine hostRead_answered (.inr hp) ((hostAnswer_register (s := i) hr).trans ?_)
    rw [ctlRead_pkgReg i p hm]
  · subst hb
    have hp' : (s.pstate != 0) = true := bne_iff_ne.mpr hp
    exact event_some ((if_pos (by simp only [hr, hp']; rfl)).trans (if_neg (by simp [hw])))

end Sys2Proof.Proofs
end

section
/-! PROOFS. The registers of control space (R90, R135, R381, R382): what a write of each does. -/

namespace Sys2Proof.Proofs

open Sys2Proof Sys2Proof.Machine

/-- A life-cycle request is ignored unless its target may be reached. -/
theorem lcWrite_of_target_none {s : State} {v : Word} (h : s.lcTarget v = none) : s.lcWrite v = s := by
  unfold State.lcWrite
  rw [h]

theorem lcTarget_some {s : State} {v : Word} {t : BitVec 2} (h : s.lcTarget v = some t) : t = v.extractLsb' 0 2 := by
  unfold State.lcTarget at h
  dsimp only at h
  split at h
  · exact (Option.some.inj h).symm
  · exact absurd h nofun

section
variable {s : State} (hr : s.ready = true) (hp : s.pstate = 0) (hi : s.idleFor = 0)
include hr hp hi

/-- In P0 a write of control space is performed as it arrives; nothing else is touched. -/
theorem exec_ctl (off n : Nat) (v : Word) : exec (.controlRegisterWrite off n v) s = .next (s.ctlWrite off n v) := by
  have he : ({ s with idleFor := 0 } : State) = s := by rw [← hi]
  have h := hostWrite_performed hr hp (.ctl off n v)
  rw [he] at h
  exact event_some h

/-- A write of a register's width and alignment. -/
theorem exec_ctl_register {off : Nat} (h8 : off % 8 = 0) (v : Word) : exec (.controlRegisterWrite off 8 v) s = .next (s.putCtl off v) := by
  rw [exec_ctl hr hp hi]
  exact congrArg _ (if_pos ⟨rfl, h8⟩)

theorem exec_ctl_package {off : Nat} (hb : off < 0x100000000) (h8 : off % 8 = 0) (v : Word) :
    exec (.controlRegisterWrite off 8 v) s = .next (s.putPkgReg off v) := by
  rw [exec_ctl_register hr hp hi h8]
  exact congrArg _ (if_pos hb)

theorem exec_ctl_die {d o : Nat} (hd : d < 4) (ho : o < 0x10000000) (h8 : o % 8 = 0) (v : Word) :
    exec (.controlRegisterWrite (0x100000000 + 0x10000000 * d + o) 8 v) s = .next (s.putDieReg d o v) := by
  have hdie : (0x100000000 + 0x10000000 * d + o - 0x100000000) / 0x10000000 = d := by omega
  have hoff : (0x100000000 + 0x10000000 * d + o) % 0x10000000 = o := by omega
  rw [exec_ctl_register hr hp hi (by omega)]
  refine congrArg _ ((if_neg (by omega)).trans ((if_pos (by omega)).trans ?_))
  rw [hdie, hoff]

theorem exec_ctl_core {n o : Nat} (hn : n < 1024) (ho : o < 0x1000) (h8 : o % 8 = 0) (v : Word) :
    exec (.controlRegisterWrite (0x600000000 + 0x1000 * n + o) 8 v) s = .next (s.putCoreReg n o v) := by
  have hcore : (0x600000000 + 0x1000 * n + o - 0x600000000) / 0x1000 = n := by omega
  have hoff : (0x600000000 + 0x1000 * n + o) % 0x1000 = o := by omega
  rw [exec_ctl_register hr hp hi (by omega)]
  refine congrArg _ ((if_neg (by omega)).trans ((if_neg (by omega)).trans ((if_pos (by omega)).trans ?_)))
  rw [hcore, hoff]

/-- The registers of the package that hold what is written, as far as they are writable (R381, R382). -/
theorem ctl_plain (v : Word) : ∀ p ∈ ([(0x00, s), (0x10, { s with ltol := v &&& 0xFFFFFFFF }),
    (0x20, { s with hintv := v &&& 0x80000000000007FF }), (0x48, s)] : List (Nat × State)), exec (.controlRegisterWrite p.1 8 v) s = .next p.2 := by
  intro p hm
  simp only [List.mem_cons, List.not_mem_nil, or_false] at hm
  obtain rfl | rfl | rfl | rfl := hm
  · exact exec_ctl_package hr hp hi (off := 0x00) (by decide) (by decide) v
  · exact exec_ctl_package hr hp hi (off := 0x10) (by decide) (by decide) v
  · exact exec_ctl_package hr hp hi (off := 0x20) (by decide) (by decide) v
  · exact exec_ctl_package hr hp hi (off := 0x48) (by decide) (by decide) v

theorem ctl_nonce (v : Word) (i : Nat) (h : i < 8) :
    exec (.controlRegisterWrite (0x100 + 8 * i) 8 v) s = .next { s with attnonce := aput s.attnonce i v } := by
  rw [exec_ctl_package hr hp hi (by omega) (by omega)]
  interval_cases i <;> rfl

/-- The registers of the package whose write is a step of the part. -/
theorem ctl_steps (v : Word) : ∀ p ∈ ([(0x08, .rst v), (0x18, .hintWrite v), (0x38, .podcfgWrite v), (0x40, .attreq v)] : List (Nat × Instr)),
    exec (.controlRegisterWrite p.1 8 v) s = exec p.2 s := by
  have hh : exec (.hintWrite v) s = .next (s.clearHint v) := event_some (if_pos hr)
  have ha : exec (.attreq v) s = .next (s.attWrite v) := event_some (if_pos hr)
  intro p hm
  simp only [List.mem_cons, List.not_mem_nil, or_false] at hm
  obtain rfl | rfl | rfl | rfl := hm
  · exact exec_ctl_package hr hp hi (off := 0x08) (by decide) (by decide) v
  · exact (exec_ctl_package hr hp hi (off := 0x18) (by decide) (by decide) v).trans hh.symm
  · exact exec_ctl_package hr hp hi (off := 0x38) (by decide) (by decide) v
  · exact (exec_ctl_package hr hp hi (off := 0x40) (by decide) (by decide) v).trans ha.symm

theorem ctl_coldom (v : Word) :
    exec (.controlRegisterWrite 0x30 8 v) s = exec (if v.getLsbD 63 then .coldomEnable v else .coldomDisable v) s := by
  have hw : exec (.controlRegisterWrite 0x30 8 v) s = .next (s.setColdom v) := exec_ctl_package hr hp hi (by decide) (by decide) v
  rw [hw]
  by_cases h : v.getLsbD 63 = true
  · rw [if_pos h]
    exact (event_some (if_pos h)).symm
  · rw [if_neg h]
    exact (event_some (if_neg h)).symm

/-- A write of LCREQ is the step for its target (R388). -/
theorem ctl_lifeCycle {v : Word} (t : BitVec 2) (h : v.extractLsb' 0 2 = t) :
    exec (.controlRegisterWrite 0x28 8 v) s = event s (if s.lcTarget v = some t then some (s.lcWrite v) else none) := by
  have hw : exec (.controlRegisterWrite 0x28 8 v) s = .next (s.lcWrite v) := exec_ctl_package hr hp hi (by decide) (by decide) v
  rw [hw]
  by_cases hl : s.lcTarget v = some t
  · rw [if_pos hl]
    rfl
  · have hn : s.lcTarget v = none := by
      cases hc : s.lcTarget v with
      | none => rfl
      | some u => exact absurd (hc.trans (congrArg some ((lcTarget_some hc).trans h))) hl
    rw [if_neg hl, lcWrite_of_target_none hn]
    rfl

theorem ctl_die (v : Word) (d : Nat) (hd : d < 4) :
    exec (.controlRegisterWrite (0x100000000 + 0x10000000 * d) 8 v) s = exec (.gcolWrite d v) s ∧
    exec (.controlRegisterWrite (0x100000008 + 0x10000000 * d) 8 v) s = exec (.gfoldWrite d v) s ∧
    exec (.controlRegisterWrite (0x100000010 + 0x10000000 * d) 8 v) s = exec (.freplay d v) s ∧
    (s.halted = false → exec (.controlRegisterWrite (0x100000018 + 0x10000000 * d) 8 v) s = exec (.evict d v) s) ∧
    ∀ q : Nat, ∀ i : BitVec 2, q < 32768 → exec (.controlRegisterWrite (0x100C00000 + 0x10000000 * d + 32 * q + 8 * i.toNat) 8 v) s =
      exec (.queueDescriptorWrite (32768 * d + q) i v) s := by
  have hdie : decide (d < 4) = true := decide_eq_true hd
  refine ⟨?_, ?_, ?_, fun hh => ?_, fun q i hq => ?_⟩
  · exact (exec_ctl_die hr hp hi hd (o := 0) (by decide) (by decide) v).trans (event_some (if_pos (by rw [hr, hdie]; rfl))).symm
  · have he : 0x100000008 + 0x10000000 * d = 0x100000000 + 0x10000000 * d + 8 := by omega
    rw [he]
    exact (exec_ctl_die hr hp hi hd (o := 8) (by decide) (by decide) v).trans (event_some (if_pos (by rw [hr, hdie]; rfl))).symm
  · have he : 0x100000010 + 0x10000000 * d = 0x100000000 + 0x10000000 * d + 0x10 := by omega
    rw [he]
    exact (exec_ctl_die hr hp hi hd (o := 0x10) (by decide) (by decide) v).trans (event_some (if_pos hdie)).symm
  · have he : 0x100000018 + 0x10000000 * d = 0x100000000 + 0x10000000 * d + 0x18 := by omega
    have hlive : s.live = true := by simp [State.live, hr, hp, hh]
    rw [he]
    exact (exec_ctl_die hr hp hi hd (o := 0x18) (by decide) (by decide) v).trans (event_some (if_pos (by rw [hlive, hdie]; rfl))).symm
  · have hi4 := i.isLt
    have he : 0x100C00000 + 0x10000000 * d + 32 * q + 8 * i.toNat = 0x100000000 + 0x10000000 * d + (0xC00000 + 32 * q + 8 * i.toNat) := by omega
    have hqueue : (0xC00000 + 32 * q + 8 * i.toNat - 0xC00000) / 32 = q := by omega
    have hidx : (0xC00000 + 32 * q + 8 * i.toNat - 0xC00000) / 8 % 4 = i.toNat := by omega
    have hput : s.putDieReg d (0xC00000 + 32 * q + 8 * i.toNat) v = s.putQueue (32768 * d + q) i.toNat v := by
      refine (if_pos (by omega)).trans ?_
      dsimp only
      rw [hqueue, hidx, Nat.mul_comm]
    rw [he, exec_ctl_die hr hp hi hd (by omega) (by omega), hput]
    exact (event_some (if_pos hr)).symm

theorem ctl_core (v : Word) (core : Nat) (hc : core < 1024) :
    exec (.controlRegisterWrite (0x600000000 + 0x1000 * core) 8 v) s = exec (.niovfWrite core v) s ∧
    exec (.controlRegisterWrite (0x600000008 + 0x1000 * core) 8 v) s = exec (.preempt core v) s ∧
    ∀ k o, k < 4 → o < 0x100 → o % 8 = 0 → exec (.controlRegisterWrite (0x600000100 + 0x1000 * core + 0x100 * k + o) 8 v) s =
      exec (.stwcsrWrite (4 * core + k) o v) s := by
  have hcore : decide (core < 1024) = true := decide_eq_true hc
  refine ⟨?_, ?_, fun k o hk ho h8 => ?_⟩
  · exact (exec_ctl_core hr hp hi hc (o := 0) (by decide) (by decide) v).trans (event_some (if_pos (by rw [hr, hcore]; rfl))).symm
  · have he : 0x600000008 + 0x1000 * core = 0x600000000 + 0x1000 * core + 8 := by omega
    rw [he]
    exact (exec_ctl_core hr hp hi hc (o := 8) (by decide) (by decide) v).trans (event_some (if_pos hcore)).symm
  · have he : 0x600000100 + 0x1000 * core + 0x100 * k + o = 0x600000000 + 0x1000 * core + (0x100 + 0x100 * k + o) := by omega
    have htid : (0x100 + 0x100 * k + o - 0x100) / 0x100 = k := by omega
    have hoff : (0x100 + 0x100 * k + o - 0x100) % 0x100 = o := by omega
    rw [he, exec_ctl_core hr hp hi hc (by omega) (by omega)]
    refine congrArg _ ((if_neg (by omega)).trans ((if_neg (by omega)).trans ((if_pos (by omega)).trans ?_)))
    rw [htid, hoff]

end

/-- A write of control space in P0, register by register (R381). -/
theorem hostControls (s : State) (v : Word) (hr : s.ready = true) (hp : s.pstate = 0) (hi : s.idleFor = 0) :
    (∀ off n, (n ≠ 8 ∨ off % 8 ≠ 0) → exec (.controlRegisterWrite off n v) s = .next s) ∧
    (v.toNat % 4 = 2 → exec (.controlRegisterWrite 0x28 8 v) s = exec (.lcDeploy v) s) ∧
    (v.toNat % 4 = 3 → exec (.controlRegisterWrite 0x28 8 v) s = exec (.lcReturn v) s) := by
  have hx : ∀ t : BitVec 2, v.toNat % 4 = t.toNat → v.extractLsb' 0 2 = t := fun t h =>
    BitVec.eq_of_toNat_eq (by simpa [BitVec.extractLsb'_toNat] using h)
  refine ⟨fun off n h => ?_, fun h => ctl_lifeCycle hr hp hi 2 (hx 2 h), fun h => ctl_lifeCycle hr hp hi 3 (hx 3 h)⟩
  rw [exec_ctl hr hp hi]
  exact congrArg _ (if_neg (by omega))

/-! Outside P0 and during the wipe. -/

theorem hostWaits (s : State) (off n : Nat) (v : Word) (d : List Byte) :
    (s.ready = false → s.idleFor = 0 → exec (.hostWrite off d) s = .next s ∧ exec (.hostAppend off d) s = .next s ∧
      ((off ≠ 8 ∨ n ≠ 8) → exec (.controlRegisterWrite off n v) s = .next s) ∧ exec (.controlRegisterWrite 8 8 v) s = exec (.rst v) s) ∧
    (s.ready = true → s.pstate ≠ 0 → s.hostHeld.length < 256 →
      exec (.hostWrite off d) s = .next { s with idleFor := 0, hostHeld := s.hostHeld ++ [.mem off d], waking := true } ∧
      exec (.hostAppend off d) s = .next { s with idleFor := 0, hostHeld := s.hostHeld ++ [.append off d], waking := true } ∧
      (off ≠ 0 → off ≠ 0x10 → off ≠ 0x18 →
        exec (.controlRegisterWrite off n v) s = .next { s with idleFor := 0, hostHeld := s.hostHeld ++ [.ctl off n v], waking := true })) := by
  refine ⟨fun hr hi => ?_, fun hr hp hl => ⟨event_some (hostWrite_held hr hp hl _ nofun), event_some (hostWrite_held hr hp hl _ nofun),
    fun h0 h1 h2 => event_some (hostWrite_held hr hp hl _ fun o m w he => ?_)⟩⟩
  · have he : ({ s with idleFor := 0 } : State) = s := by rw [← hi]
    have hw : ∀ w, s.hostWrite w = some (s.hostAct w) := fun w => by
      have h := hostWrite_wiping hr w
      rwa [he] at h
    have hn : ¬ s.ready = true := by simp [hr]
    refine ⟨event_some ((hw _).trans (congrArg some (if_neg hn))), event_some ((hw _).trans (congrArg some (if_neg hn))), fun ho => ?_,
      event_some ((hw _).trans (congrArg some (if_neg hn)))⟩
    refine event_some ((hw _).trans (congrArg some ((if_neg hn).trans ?_)))
    split
    · next hc =>
      obtain ⟨rfl, rfl, -⟩ := HostWrite.ctl.inj hc
      exact absurd ho (by decide)
    · rfl
  · obtain ⟨rfl, -, -⟩ := HostWrite.ctl.inj he
    simp [quiet, h0, h1, h2]

/-! Queue descriptors (R90), HINT (R382) and the steward CSR windows (R135). -/

theorem exec_queueDescriptorWrite {s : State} (hr : s.ready = true) {q : Nat} (hq : q < 131072) (i : BitVec 2) (v : Word) :
    exec (.queueDescriptorWrite q i v) s = .next (s.setQueue q ((s.queue q).put i.toNat v)) :=
  event_some ((if_pos hr).trans (congrArg some (if_pos hq)))

/-- The control doubleword of a descriptor on an enabled queue, and on a disabled one. -/
theorem put_control (x : Queue) (v : Word) : let u := x.put 1 v
    u.en = v.getLsbD 5 ∧ u.ie = v.getLsbD 7 ∧ u.vec = v.extractLsb' 8 11 ∧ u.base = x.base ∧
    (x.en = true → u.logcap = x.logcap ∧ u.kind = x.kind ∧ u.home = x.home ∧ u.tail = x.tail ∧ u.head = x.head ∧ u.done = x.done ∧ u.err = x.err) ∧
    (x.en = false → u.logcap = v.extractLsb' 0 5 ∧ u.kind = v.getLsbD 6 ∧ u.home = v.extractLsb' 19 8 ∧
      (v.getLsbD 5 = true → u.tail = 0 ∧ u.head = 0 ∧ u.done = 0 ∧ u.err = 0)) := by
  unfold Queue.put
  cases hx : x.en <;> cases hv : v.getLsbD 5 <;> simp

theorem queueDescriptors (s : State) (q : Nat) (v : Word) (hr : s.ready = true) (hq : q < 131072) :
    let x := s.queue q
    ∃ t u, exec (.queueDescriptorWrite q 0 v) s = .next t ∧ t.queue q = (if x.en then x else { x with base := v }) ∧
      exec (.queueDescriptorWrite q 1 v) s = .next u ∧ (u.queue q).en = v.getLsbD 5 ∧ (u.queue q).ie = v.getLsbD 7 ∧
      (u.queue q).vec = v.extractLsb' 8 11 ∧ (u.queue q).base = x.base ∧
      (x.en = true → (u.queue q).logcap = x.logcap ∧ (u.queue q).kind = x.kind ∧ (u.queue q).home = x.home ∧ (u.queue q).tail = x.tail ∧
        (u.queue q).head = x.head ∧ (u.queue q).done = x.done ∧ (u.queue q).err = x.err) ∧
      (x.en = false → (u.queue q).logcap = v.extractLsb' 0 5 ∧ (u.queue q).kind = v.getLsbD 6 ∧ (u.queue q).home = v.extractLsb' 19 8 ∧
        (v.getLsbD 5 = true → (u.queue q).tail = 0 ∧ (u.queue q).head = 0 ∧ (u.queue q).done = 0 ∧ (u.queue q).err = 0)) ∧
      ({ t with queues := s.queues } : State) = s ∧ ({ u with queues := s.queues } : State) = s ∧
      ∀ k, k ≠ q → t.queue k = s.queue k ∧ u.queue k = s.queue k := by
  have hu := queue_setQueue_same s q ((s.queue q).put 1 v)
  have hspec := put_control (s.queue q) v
  dsimp only at hspec
  rw [← hu] at hspec
  obtain ⟨hen, hie, hvec, hbase, hon, hoff⟩ := hspec
  exact ⟨_, _, exec_queueDescriptorWrite hr hq 0 v, queue_setQueue_same .., exec_queueDescriptorWrite hr hq 1 v, hen, hie, hvec, hbase, hon, hoff,
    rfl, rfl, fun k hk => ⟨queue_setQueue_other s _ hk, queue_setQueue_other s _ hk⟩⟩

/-- A write of a steward CSR window of a thread set that no handler of its first bank runs on, where the CSR takes the value. -/
theorem windowWrite_put {s : State} {tid off : Nat} {v : Word} (ho : off ∈ [0x00, 0x08, 0x58, 0x60, 0x68, 0x70]) (ha : (s.thread tid).bank0.act = false)
    (hv : s.csrOk (0x5C0 + off / 8) v = true) : s.windowWrite tid off v = s.csrPut tid (0x5C0 + off / 8) v := by
  simp only [List.mem_cons, List.not_mem_nil, or_false] at ho
  unfold State.windowWrite
  rcases ho with rfl | rfl | rfl | rfl | rfl | rfl <;> simp [ha, hv]

theorem zeroAt_iff (v : Word) (lo len : Nat) : zeroAt v lo len = true ↔ v.toNat / 2 ^ lo % 2 ^ len = 0 := by
  unfold zeroAt
  rw [beq_iff_eq, ← BitVec.toNat_inj]
  simp [BitVec.extractLsb'_toNat, Nat.shiftRight_eq_div_pow]

theorem stewardWindows (s : State) (tid off : Nat) (v : Word) :
    (off ∉ [0x00, 0x08, 0x58, 0x60, 0x68, 0x70, 0x80] ∨ (s.thread tid).bank0.act = true → exec (.stwcsrWrite tid off v) s = .next s) ∧
    ((s.thread tid).bank0.act = false →
      (off ∈ [0x00, 0x08] → v.toNat % 4 ≠ 0 → exec (.stwcsrWrite tid off v) s = .next s) ∧
      (off = 0x00 → v.toNat % 4 = 0 → exec (.stwcsrWrite tid off v) s = .next (s.modThread tid fun t => { t with tvec0 := v })) ∧
      (off = 0x08 → v.toNat % 4 = 0 → exec (.stwcsrWrite tid off v) s = .next (s.modThread tid fun t => { t with tvec1 := v })) ∧
      (off = 0x58 → v.toNat % 2 ^ 16 = 0 → v.toNat < 2 ^ 52 →
        exec (.stwcsrWrite tid off v) s = .next (s.modThread tid fun t => { t with savearea := v })) ∧
      (off = 0x68 → v.toNat < 2 ^ 32 → exec (.stwcsrWrite tid off v) s = .next (s.modThread tid fun t => { t with ckptmax := v }))) := by
  have hv := v.isLt
  have hz : zeroAt v 0 2 = true ↔ v.toNat % 4 = 0 := by simpa using zeroAt_iff v 0 2
  have hw : ∀ u, s.windowWrite tid off v = u → exec (.stwcsrWrite tid off v) s = .next u := fun u h => congrArg _ h
  refine ⟨fun h => hw s ?_, fun ha => ⟨fun ho h4 => hw s ?_, fun ho h4 => hw _ ?_, fun ho h4 => hw _ ?_, fun ho h16 h52 => hw _ ?_,
    fun ho h32 => hw _ ?_⟩⟩
  · unfold State.windowWrite
    obtain h | h := h
    · exact if_pos (.inr (by simpa using h))
    · dsimp only
      rw [if_pos h]
      split <;> rfl
  · have hbad : zeroAt v 0 2 = false := by simpa [Bool.eq_false_iff, hz] using h4
    have hok : (!s.csrOk (0x5C0 + off / 8) v) = true := by
      simp only [List.mem_cons, List.not_mem_nil, or_false] at ho
      obtain rfl | rfl := ho
      · exact congrArg (!·) hbad
      · exact congrArg (!·) hbad
    unfold State.windowWrite
    split
    · rfl
    · exact (if_neg (by simp [ha])).trans (if_pos hok)
  · subst ho
    exact windowWrite_put (by decide) ha (hz.mpr h4)
  · subst ho
    exact windowWrite_put (by decide) ha (hz.mpr h4)
  · subst ho
    refine windowWrite_put (by decide) ha (Bool.and_eq_true_iff.mpr ⟨(zeroAt_iff v 52 12).mpr ?_, (zeroAt_iff v 0 16).mpr ?_⟩) <;> omega
  · subst ho
    refine windowWrite_put (by decide) ha ((zeroAt_iff v 32 32).mpr ?_)
    omega

/-- Settles O56, window by window: appends, writes and reads, then the registers of control space, what waits, and the descriptors, HINT and the
steward CSR windows. -/
theorem hostWindows : Obligations.HostWindows := by
  refine ⟨hostAppends, hostWrites, hostReads, fun s v hr hp hi => ?_, hostWaits, queueDescriptors,
    fun s v hr => event_some (if_pos hr), stewardWindows⟩
  obtain ⟨hodd, hdeploy, hreturn⟩ := hostControls s v hr hp hi
  exact ⟨hodd, ctl_plain hr hp hi v, ctl_nonce hr hp hi v, ctl_steps hr hp hi v, ctl_coldom hr hp hi v, hdeploy, hreturn,
    ctl_die hr hp hi v, ctl_core hr hp hi v⟩

end Sys2Proof.Proofs
end

section
/-! PROOFS. A card taken up by a thread set (R81, R93, R95, R101, R111, R113): what its start leaves alone, and the thread set that it makes. -/

namespace Sys2Proof.Proofs

open Sys2Proof Sys2Proof.Machine

/-- Two states differ in thread sets and cores at most. -/
def SameOutside (s t : State) : Prop := ({ t with threads := s.threads, cores := s.cores } : State) = s

/-- Two states differ in thread sets, cores, the entries in the books and the counter that names cards at most. -/
def SameButCards (s t : State) : Prop :=
  ({ t with threads := s.threads, cores := s.cores, entries := s.entries, nextId := s.nextId } : State) = s

theorem SameOutside.trans {s t u : State} (a : SameOutside s t) (b : SameOutside t u) : SameOutside s u := by
  have h := congrArg (fun x : State => ({ x with threads := s.threads, cores := s.cores } : State)) b
  exact h.trans a

theorem SameOutside.butCards {s t : State} (a : SameOutside s t) : SameButCards s t := by
  have h := congrArg (fun x : State => ({ x with entries := s.entries, nextId := s.nextId } : State)) a
  exact h

theorem SameOutside.entries {s t : State} (a : SameOutside s t) : t.entries = s.entries := by
  have h := congrArg State.entries a
  exact h

theorem SameButCards.trans {s t u : State} (a : SameButCards s t) (b : SameButCards t u) : SameButCards s u := by
  have h := congrArg (fun x : State =>
    ({ x with threads := s.threads, cores := s.cores, entries := s.entries, nextId := s.nextId } : State)) b
  exact h.trans a

theorem SameButCards.bytes {s t : State} (a : SameButCards s t) : SameBytes s t := by
  have hm := congrArg State.mem a
  have hv := congrArg State.vague a
  have hc := congrArg State.gcolNow a
  have hf := congrArg State.gfold a
  exact ⟨hm, hv, hc, hf⟩

theorem SameButCards.memory {s t : State} (a : SameButCards s t) : SameMemory s t := a.bytes.memory

theorem SameButCards.queue {s t : State} (a : SameButCards s t) (q : Nat) : t.queue q = s.queue q := by
  have h := congrArg (fun x : State => x.queue q) a
  exact h

theorem SameButCards.groups {s t : State} (a : SameButCards s t) : t.groups = s.groups := by
  have h := congrArg State.groups a
  exact h

theorem SameButCards.launches {s t : State} (a : SameButCards s t) : t.launches = s.launches := by
  have h := congrArg State.launches a
  exact h

/-- Every thread set but one is as before but for its early values. -/
def OthersButEarly (s t : State) (tid : Nat) : Prop := ∀ k, k ≠ tid → ({ t.thread k with early := (s.thread k).early } : Thread) = s.thread k

theorem early_trans {u v w : Thread} (a : ({ v with early := u.early } : Thread) = u) (b : ({ w with early := v.early } : Thread) = v) :
    ({ w with early := u.early } : Thread) = u := by
  have h := congrArg (fun x : Thread => ({ x with early := u.early } : Thread)) b
  exact h.trans a

theorem OthersButEarly.trans {s t u : State} {tid : Nat} (a : OthersButEarly s t tid) (b : OthersButEarly t u tid) : OthersButEarly s u tid :=
  fun k hk => early_trans (a k hk) (b k hk)

theorem OthersButEarly.notes {s t : State} {tid : Nat} (a : OthersButEarly s t tid) : OthersOfButNotes s t tid := fun k hk => by
  have h := congrArg (fun x : Thread => ({ x with seen := (s.thread k).seen } : Thread)) (a k hk)
  exact h

/-- What a step for the card of one thread set leaves alone: everything outside thread sets and cores, of a core all but its steal scan and its
inbox, of other thread sets all but early values. -/
structure PickFrame (s t : State) (tid : Nat) : Prop where
  outside : SameOutside s t
  cores : ∀ c, ({ t.core c with scan := (s.core c).scan, inbox := (s.core c).inbox } : Core) = s.core c
  others : OthersButEarly s t tid

theorem PickFrame.refl (s : State) (tid : Nat) : PickFrame s s tid := ⟨rfl, fun _ => rfl, fun _ _ => rfl⟩

theorem PickFrame.trans {s t u : State} {tid : Nat} (a : PickFrame s t tid) (b : PickFrame t u tid) : PickFrame s u tid :=
  ⟨a.outside.trans b.outside, fun c => by
    have h := congrArg (fun x : Core => ({ x with scan := (s.core c).scan, inbox := (s.core c).inbox } : Core)) (b.cores c)
    exact h.trans (a.cores c), a.others.trans b.others⟩

theorem PickFrame.deque {s t : State} {tid : Nat} (a : PickFrame s t tid) (c : Nat) : (t.core c).deque = (s.core c).deque := by
  have h := congrArg Core.deque (a.cores c)
  exact h

/-- The thread set `v` with the registers, channels and requests of `u`. -/
def withStartOf (u v : Thread) : Thread :=
  { v with x := u.x, chans := u.chans, landed := u.landed, pres := u.pres, early := u.early, ckptab := u.ckptab, deadlineAt := u.deadlineAt,
           preempts := u.preempts }

/-- Of two thread sets registers, channels and requests may differ, not what a card's start has set beside them. -/
def SameStart (u v : Thread) : Prop := withStartOf u v = u

theorem SameStart.trans {u v w : Thread} (a : SameStart u v) (b : SameStart v w) : SameStart u w := by
  have h := congrArg (withStartOf u) b
  exact h.trans a

theorem SameStart.card {u v : Thread} (a : SameStart u v) : v.card = u.card := by
  have h := congrArg Thread.card a
  exact h

theorem SameStart.pc {u v : Thread} (a : SameStart u v) : v.pc = u.pc := by
  have h := congrArg Thread.pc a
  exact h

theorem SameStart.steward {u v : Thread} (a : SameStart u v) : v.steward = u.steward := by
  have h := congrArg Thread.steward a
  exact h

theorem sameStart_wx (t : Thread) (r : BitVec 5) (v : Word) : SameStart t (t.wx r v) := by
  unfold SameStart withStartOf Thread.wx
  split <;> rfl

theorem sameStart_of_early {u v : Thread} (h : ({ v with early := u.early } : Thread) = u) : SameStart u v := by
  have hw := congrArg (withStartOf u) h
  exact hw

/-- A step for the card that a thread set already runs. -/
structure ForCard (s t : State) (tid : Nat) : Prop where
  frame : PickFrame s t tid
  own : SameStart (s.thread tid) (t.thread tid)

theorem ForCard.refl (s : State) (tid : Nat) : ForCard s s tid := ⟨.refl s tid, rfl⟩

theorem ForCard.trans {s t u : State} {tid : Nat} (a : ForCard s t tid) (b : ForCard t u tid) : ForCard s u tid :=
  ⟨a.frame.trans b.frame, a.own.trans b.own⟩

theorem pickFrame_setThread (s : State) (tid : Nat) (t : Thread) : PickFrame s (s.setThread tid t) tid :=
  ⟨rfl, fun _ => rfl, fun k hk => by rw [State.thread_setThread_other _ _ _ _ hk]⟩

theorem forCard_setThread {s : State} {tid : Nat} {t : Thread} (h : SameStart (s.thread tid) t) : ForCard s (s.setThread tid t) tid :=
  ⟨pickFrame_setThread .., by rw [State.thread_setThread_same]; exact h⟩

theorem forCard_of_sameButEarly {s t : State} (h : SameButEarly s t) (tid : Nat) : ForCard s t tid := by
  obtain ⟨hs, hk⟩ := h
  have hout := congrArg (fun x : State => ({ x with cores := s.cores } : State)) hs
  have hcores := congrArg State.cores hs
  refine ⟨⟨hout, fun c => ?_, fun k _ => hk k⟩, sameStart_of_early (hk tid)⟩
  have hc : t.core c = s.core c := by
    unfold State.core
    rw [show t.cores = s.cores from hcores]
  rw [hc]

/-- A core whose steal scan or inbox alone changes. -/
theorem forCard_setCore {s : State} {c : Nat} {k : Core} (h : ({ k with scan := (s.core c).scan, inbox := (s.core c).inbox } : Core) = s.core c)
    (tid : Nat) : ForCard s (s.setCore c k) tid := by
  refine ⟨⟨rfl, fun d => ?_, fun _ _ => rfl⟩, rfl⟩
  by_cases hd : d = c
  · subst hd
    rw [State.core_setCore_same]
    exact h
  · rw [State.core_setCore_other _ _ _ _ hd]

theorem forCard_modCore {s : State} {c : Nat} {f : Core → Core}
    (h : ({ f (s.core c) with scan := (s.core c).scan, inbox := (s.core c).inbox } : Core) = s.core c) (tid : Nat) :
    ForCard s (s.modCore c f) tid := forCard_setCore h tid

theorem forCard_modThread {s : State} {tid : Nat} {f : Thread → Thread} (h : SameStart (s.thread tid) (f (s.thread tid))) :
    ForCard s (s.modThread tid f) tid := forCard_setThread h

/-! Held packets (R113, R116). -/

theorem deliverTo_forCard {s t : State} {tid : Nat} {p : Packet} (h : s.deliverTo tid p = some t) : ForCard s t tid := by
  unfold State.deliverTo at h
  dsimp only at h
  split at h
  · exact absurd h nofun
  · split at h
    · split at h
      · exact absurd h nofun
      · rw [← Option.some.inj h]
        exact forCard_setThread ((sameStart_wx (s.thread tid) _ _).trans rfl)
    · split at h
      · exact absurd h nofun
      · rw [← Option.some.inj h]
        exact forCard_setThread rfl

theorem pumpFrom_forCard (core tid tag : Nat) (l : List Packet) : ∀ s : State, ForCard s (s.pumpFrom core tid tag l) tid := by
  induction l with
  | nil => exact fun s => .refl s tid
  | cons p l ih =>
    intro s
    unfold State.pumpFrom
    dsimp only
    refine ForCard.trans ?_ (ih _)
    split
    · split
      · next u hu => exact (deliverTo_forCard hu).trans (forCard_modCore rfl tid)
      · exact .refl s tid
    · exact .refl s tid

theorem pump_forCard (s : State) (tid : Nat) : ForCard s (s.pump tid) tid := by
  unfold State.pump
  dsimp only
  split
  · exact pumpFrom_forCard ..
  · exact .refl s tid

/-- A card that holds no tag has no packets held for it. -/
theorem pump_of_noTag {s : State} {tid : Nat} {c : Card} (hc : (s.thread tid).card = some c) (ht : s.tagOf (coreOf tid) c.id = none) :
    s.pump tid = s := by
  unfold State.pump
  simp only [hc, Option.bind_some, ht]

/-! Starting a card (R81). -/

theorem askedLate_forCard (s : State) (tid : Nat) (c : Card) : ForCard s (s.askedLate tid c) tid := by
  unfold State.askedLate
  dsimp only
  split
  · exact forCard_setThread rfl
  · exact .refl s tid

theorem askedDead_forCard (s : State) (tid : Nat) (c : Card) : ForCard s (s.askedDead tid c) tid := by
  unfold State.askedDead
  split
  · refine forCard_modThread ?_
    split <;> rfl
  · exact .refl s tid

theorem acquirePick_sameButEarly (s : State) (tid : Nat) (c : Card) : SameButEarly s (s.acquirePick tid c) := by
  have h0 := acquireCard_sameButEarly s tid c.id
  have hpost (u : State) (o : Option (BitVec 2 × Nat)) :
      SameButEarly u (match o with | some m => u.acquireFrom (.thread tid) m.1 m.2 | none => u) := by
    cases o with
    | none => exact .refl u
    | some m => exact acquireFrom_sameButEarly ..
  have hent (u : State) (o : Option Entry) :
      SameButEarly u (match o with | some e => u.acquireIn (.thread tid) 3 (appendOrder e.queue) | none => u) := by
    cases o with
    | none => exact .refl u
    | some e => exact acquireIn_sameButEarly ..
  unfold State.acquirePick
  dsimp only
  split
  · exact h0
  · exact (h0.trans (hpost _ _)).trans (hent _ _)

/-- The entry of a card learns of its pick-up: nothing else changes. -/
theorem entryStarts_eq (s : State) (c : Card) : s.entryStarts c = { s with entries := (s.entryStarts c).entries } := by
  unfold State.entryStarts
  split
  · rfl
  · split <;> rfl

theorem entryStarts_ran (s : State) {c : Card} (h : c.ran = true) : s.entryStarts c = s := if_pos h

/-- At the first pick-up the entry counts one card less to be picked up (R93). -/
theorem entryStarts_unpicked {s : State} {c : Card} {id : Nat} {e : Entry} (hr : c.ran = false) (hc : c.entry = some id) (he : afind s.entries id = some e) :
    ∃ w, afind (s.entryStarts c).entries id = some { e with unpicked := e.unpicked - 1, wdogAt := w } := by
  unfold State.entryStarts
  rw [if_neg (by simp [hr])]
  simp only [hc, Option.bind_some, he, Option.map_some]
  exact ⟨_, by rw [afind_aput, if_pos rfl]⟩

/-- The thread set that takes a card up, before the packets held for it come. -/
def startedThread (s : State) (tid : Nat) (c : Card) : Thread :=
  let t := (s.thread tid).start { c with home := coreOf tid, ran := true, aged := false, hdr0 := c.hdr, deliver := none }
    (if c.slice = 0 then 0 else s.cycle (coreOf tid) + c.slice)
  match c.deliver with
  | some d => t.wx d.rd d.val
  | none => t

/-- The core that takes a card up starts its steal scan again (log 76). -/
def startedState (s : State) (tid : Nat) (c : Card) : State :=
  ((s.entryStarts c).setThread tid (startedThread (s.entryStarts c) tid c)).modCore (coreOf tid) fun k => { k with scan := 0 }

theorem startCard_eq (s : State) (tid : Nat) (c : Card) : s.startCard tid c =
    ((((startedState s tid c).askedLate tid { c with home := coreOf tid, ran := true, aged := false, hdr0 := c.hdr, deliver := none }).askedDead
      tid c).acquirePick tid c).pump tid := rfl

theorem startedState_thread (s : State) (tid : Nat) (c : Card) : (startedState s tid c).thread tid = startedThread (s.entryStarts c) tid c :=
  State.thread_setThread_same ..

theorem startedState_frame (s : State) (tid : Nat) (c : Card) : PickFrame (s.entryStarts c) (startedState s tid c) tid :=
  (pickFrame_setThread ..).trans (forCard_modCore rfl tid).frame

/-- What follows the start leaves the started thread set running its card. -/
theorem startCard_forCard (s : State) (tid : Nat) (c : Card) : ForCard (startedState s tid c) (s.startCard tid c) tid := by
  rw [startCard_eq]
  exact ((askedLate_forCard ..).trans (askedDead_forCard ..)).trans
    ((forCard_of_sameButEarly (acquirePick_sameButEarly ..) tid).trans (pump_forCard ..))

theorem startCard_frame (s : State) (tid : Nat) (c : Card) : PickFrame (s.entryStarts c) (s.startCard tid c) tid :=
  (startedState_frame s tid c).trans (startCard_forCard s tid c).frame

theorem startCard_own (s : State) (tid : Nat) (c : Card) : SameStart (startedThread (s.entryStarts c) tid c) ((s.startCard tid c).thread tid) := by
  have h := (startCard_forCard s tid c).own
  rwa [startedState_thread] at h

theorem startedThread_sameStart (s : State) (tid : Nat) (c : Card) : SameStart ((s.thread tid).start
    { c with home := coreOf tid, ran := true, aged := false, hdr0 := c.hdr, deliver := none }
    (if c.slice = 0 then 0 else s.cycle (coreOf tid) + c.slice)) (startedThread s tid c) := by
  unfold startedThread
  cases c.deliver with
  | none => rfl
  | some d => exact sameStart_wx ..

/-- The thread set runs the card, in user mode, from the card's pc. -/
theorem startCard_runs (s : State) (tid : Nat) (c : Card) : let u := (s.startCard tid c).thread tid
    u.pc = c.pc ∧ u.steward = false ∧
    u.card = some { c with home := coreOf tid, ran := true, aged := false, hdr0 := c.hdr, deliver := none } := by
  have h := (startedThread_sameStart (s.entryStarts c) tid c).trans (startCard_own s tid c)
  exact ⟨h.pc, h.steward, h.card⟩

theorem startCard_sameButCards (s : State) (tid : Nat) (c : Card) : SameButCards s (s.startCard tid c) := by
  refine SameButCards.trans (t := s.entryStarts c) ?_ (startCard_frame s tid c).outside.butCards
  rw [entryStarts_eq]
  rfl

theorem entryStarts_thread (s : State) (c : Card) (k : Nat) : (s.entryStarts c).thread k = s.thread k := by rw [entryStarts_eq]; rfl
theorem entryStarts_core (s : State) (c : Card) (k : Nat) : (s.entryStarts c).core k = s.core k := by rw [entryStarts_eq]; rfl

theorem startCard_others (s : State) (tid : Nat) (c : Card) : OthersButEarly s (s.startCard tid c) tid := fun k hk => by
  have h := (startCard_frame s tid c).others k hk
  rwa [entryStarts_thread] at h

theorem startCard_entries (s : State) (tid : Nat) (c : Card) : (s.startCard tid c).entries = (s.entryStarts c).entries :=
  (startCard_frame s tid c).outside.entries

theorem startCard_deque (s : State) (tid : Nat) (c : Card) (k : Nat) : ((s.startCard tid c).core k).deque = (s.core k).deque := by
  rw [(startCard_frame s tid c).deque, entryStarts_core]

/-- A card that is no dual-run card yet to be copied starts alone (R101). -/
theorem startCopies_single (s : State) (tid : Nat) {c : Card} (h : ¬ (c.dual = true ∧ c.copy = none)) : s.startCopies tid c = some (s.startCard tid c) :=
  if_neg (by simpa using h)

end Sys2Proof.Proofs
end

section
/-! PROOFS. The fields of HDR, and the choices of dispatch and of a free thread set (R79, R93, R95, R96, R97). -/

namespace Sys2Proof.Proofs

open Sys2Proof Sys2Proof.Machine

/-! Fields of HDR (R79). -/

theorem getLsbD_setBits (h : Word) (lo len v i : Nat) (hi : i < 64) :
    (setBits h lo len v).getLsbD i = if lo ≤ i ∧ i < lo + len then v.testBit (i - lo) else h.getLsbD i := by
  have h64 : i - lo < 64 := by omega
  unfold setBits
  simp only [BitVec.getLsbD_or, BitVec.getLsbD_and, BitVec.getLsbD_not, BitVec.getLsbD_shiftLeft, BitVec.getLsbD_ofNat, Nat.testBit_two_pow_sub_one,
    hi, h64, decide_true, Bool.true_and]
  by_cases hin : lo ≤ i ∧ i < lo + len
  · have h1 : i - lo < len := by omega
    simp [hin, h1, show ¬ i < lo by omega]
  · rw [if_neg hin]
    by_cases hlo : i < lo
    · simp [hlo]
    · simp [hlo, show ¬ i - lo < len by omega]

/-- A field apart from the one that is set. -/
theorem extract_setBits_other {h : Word} {lo len v a n : Nat} (hn : a + n ≤ 64) (hd : a + n ≤ lo ∨ lo + len ≤ a) :
    (setBits h lo len v).extractLsb' a n = h.extractLsb' a n := by
  refine BitVec.eq_of_getLsbD_eq fun i hi => ?_
  simp only [BitVec.getLsbD_extractLsb', hi, decide_true, Bool.true_and]
  rw [getLsbD_setBits _ _ _ _ _ (by omega), if_neg (by omega)]

/-- The field that is set. -/
theorem extract_setBits_same {h : Word} {lo len v : Nat} (hn : lo + len ≤ 64) : (setBits h lo len v).extractLsb' lo len = BitVec.ofNat len v := by
  refine BitVec.eq_of_getLsbD_eq fun i hi => ?_
  simp only [BitVec.getLsbD_extractLsb', hi, decide_true, Bool.true_and, BitVec.getLsbD_ofNat]
  rw [getLsbD_setBits _ _ _ _ _ (by omega), if_pos (by omega), Nat.add_sub_cancel_left]

/-- A bit apart from the field that is set. -/
theorem getLsbD_setBits_other {h : Word} {lo len v i : Nat} (hi : i < 64) (hd : i < lo ∨ lo + len ≤ i) :
    (setBits h lo len v).getLsbD i = h.getLsbD i := by
  rw [getLsbD_setBits _ _ _ _ _ hi, if_neg (by omega)]

/-! Placement (R93). -/

/-- The placement keeps the first of the least loaded cores. -/
theorem least_of_foldl (f : Nat → Nat) (l : List Nat) : ∀ (o : Option Nat) (b : Nat), l.Pairwise (· < ·) → (∀ x ∈ o, ∀ c ∈ l, x < c) →
    l.foldl (fun m c => match m with | none => some c | some x => if f c < f x then some c else some x) o = some b →
    (b ∈ l ∨ o = some b) ∧ ∀ c, (c ∈ l ∨ o = some c) → f b < f c ∨ (f b = f c ∧ b ≤ c) := by
  induction l with
  | nil =>
    intro o b _ _ h
    simp only [List.foldl_nil] at h
    subst h
    exact ⟨.inr rfl, fun c hc => by
      obtain h | h := hc
      · exact absurd h (by simp)
      · rw [Option.some.inj h]; exact .inr ⟨rfl, Nat.le_refl _⟩⟩
  | cons a l ih =>
    intro o b hp hlt h
    obtain ⟨ha, hl⟩ := List.pairwise_cons.1 hp
    rw [List.foldl_cons] at h
    cases o with
    | none =>
      obtain ⟨hb, hmin⟩ := ih (some a) b hl (fun x hx c hc => by cases hx; exact ha c hc) h
      refine ⟨.inl ?_, fun c hc => hmin c ?_⟩
      · obtain hb | hb := hb
        · exact .tail _ hb
        · cases hb; exact .head _
      · obtain hc | hc := hc
        · obtain rfl | hc := List.mem_cons.1 hc
          · exact .inr rfl
          · exact .inl hc
        · exact absurd hc nofun
    | some x =>
      have hxa := hlt x rfl a (.head _)
      dsimp only at h
      split at h
      · next hf =>
        obtain ⟨hb, hmin⟩ := ih (some a) b hl (fun y hy c hc => by cases hy; exact ha c hc) h
        refine ⟨.inl ?_, fun c hc => ?_⟩
        · obtain hb | hb := hb
          · exact .tail _ hb
          · cases hb; exact .head _
        · obtain hc | hc := hc
          · obtain rfl | hc := List.mem_cons.1 hc
            · exact hmin _ (.inr rfl)
            · exact hmin c (.inl hc)
          · cases hc
            have := hmin a (.inr rfl)
            omega
      · next hf =>
        obtain ⟨hb, hmin⟩ := ih (some x) b hl (fun y hy c hc => by cases hy; exact hlt x rfl c (.tail _ hc)) h
        refine ⟨?_, fun c hc => ?_⟩
        · obtain hb | hb := hb
          · exact .inl (.tail _ hb)
          · exact .inr hb
        · obtain hc | hc := hc
          · obtain rfl | hc := List.mem_cons.1 hc
            · have := hmin x (.inr rfl)
              omega
            · exact hmin c (.inl hc)
          · exact hmin c (.inr hc)

theorem placeCard_least (s : State) (home aff : Nat) (dies : BitVec 4) (dual : Bool) (cls core : Nat) (h : s.placeCard home aff dies dual cls = some core) :
    core < 1024 ∧ affAdmits aff home core = true ∧ dieAdmits dies core = true ∧ 0 < s.spare core cls ∧
    (dual = true → 0 < s.spare (twinCore core) cls) ∧
    ∀ c, c < 1024 → affAdmits aff home c = true → dieAdmits dies c = true → 0 < s.spare c cls → (dual = true → 0 < s.spare (twinCore c) cls) →
      s.running core < s.running c ∨ (s.running core = s.running c ∧ core ≤ c) := by
  unfold State.placeCard at h
  obtain ⟨hin, hmin⟩ := least_of_foldl s.running _ none core (List.Pairwise.filter _ List.pairwise_lt_range) (by simp) h
  have hcore := hin.resolve_right nofun
  simp only [List.mem_filter, List.mem_range, Bool.and_eq_true, Bool.or_eq_true, Bool.not_eq_true', decide_eq_true_eq] at hcore hmin
  obtain ⟨hlt, ⟨⟨haff, hdie⟩, hspare⟩, htwin⟩ := hcore
  refine ⟨hlt, haff, hdie, hspare, fun hd => htwin.resolve_left (by simp [hd]), fun c h1 h2 h3 h4 h5 => hmin c (.inl ⟨h1, ⟨⟨h2, h3⟩, h4⟩, ?_⟩)⟩
  cases dual with
  | false => exact .inl rfl
  | true => exact .inr (h5 rfl)

/-- A core on which a card is placed has an idle thread set. -/
theorem idleOn_of_spare {s : State} {core cls : Nat} (h : 0 < s.spare core cls) : ∃ tid rest, s.idleOn core = tid :: rest := by
  have hlen : s.idleOn core ≠ [] := fun h0 => by
    unfold State.spare at h
    simp [h0] at h
  exact List.exists_cons_of_ne_nil hlen

/-! The choice of a free thread set (R96). -/

/-- The choice is one of the list and no other has a higher class. -/
theorem bestPick_highest (s : State) (l : List Pick) : ∀ p : Pick, s.bestPick l = some p → p ∈ l ∧ ∀ q ∈ l, s.pickClass q ≤ s.pickClass p := by
  induction l with
  | nil => exact fun p h => absurd h nofun
  | cons a l ih =>
    intro p h
    unfold State.bestPick at h
    cases hb : s.bestPick l with
    | none =>
      rw [hb] at h
      cases h
      cases l with
      | nil => simp
      | cons b l =>
        unfold State.bestPick at hb
        split at hb
        · split at hb <;> exact absurd hb nofun
        · exact absurd hb nofun
    | some d =>
      rw [hb] at h
      obtain ⟨hd, hmax⟩ := ih d hb
      dsimp only at h
      split at h
      · next hlt =>
        cases h
        exact ⟨.tail _ hd, List.forall_mem_cons.2 ⟨Nat.le_of_lt hlt, hmax⟩⟩
      · next hlt =>
        cases h
        exact ⟨.head _, List.forall_mem_cons.2 ⟨Nat.le_refl _, fun q hq => (hmax q hq).trans (Nat.not_lt.1 hlt)⟩⟩

/-! The victims of a steal scan (R97). -/

/-- The step from one digit to another, at base 4 and at base 8, whatever the higher digits of the step. -/
theorem digit4_reaches (x y : Nat) : ∃ d, d < 4 ∧ ∀ k, (x + (4 * k + d)) % 4 = y % 4 :=
  ⟨(y % 4 + 4 - x % 4) % 4, Nat.mod_lt _ (by decide), fun k => by omega⟩

theorem digit8_reaches (x y : Nat) : ∃ d, d < 8 ∧ ∀ k, (x + (8 * k + d)) % 8 = y % 8 :=
  ⟨(y % 8 + 8 - x % 8) % 8, Nat.mod_lt _ (by decide), fun k => by omega⟩

/-- The victim of the step with digits `a`, `b`, `c` and `d`. -/
theorem victimAt_digits {a b c d i : Nat} (core : Nat) (hb : b < 4) (hc : c < 8) (hd : d < 8) (hi : i + 1 = a * 256 + b * 64 + c * 8 + d) :
    victimAt core i = (core / 256 + a) % 4 * 256 + (core / 64 + (4 * a + b)) % 4 * 64 + (core / 8 + (8 * (4 * a + b) + c)) % 8 * 8 +
      (core + (8 * (8 * (4 * a + b) + c) + d)) % 8 := by
  have ha : (i + 1) / 256 = a := by omega
  have hab : (i + 1) / 64 = 4 * a + b := by omega
  have habc : (i + 1) / 8 = 8 * (4 * a + b) + c := by omega
  have habcd : i + 1 = 8 * (8 * (4 * a + b) + c) + d := by omega
  unfold victimAt
  dsimp only
  rw [ha, hab, habc, habcd]

theorem digits_of_core {v : Nat} (hv : v < 1024) : v / 256 % 4 * 256 + v / 64 % 4 * 64 + v / 8 % 8 * 8 + v % 8 = v := by omega

/-- Every other core is a victim of the scan. -/
theorem victimAt_reaches (core v : Nat) (hc : core < 1024) (hv : v < 1024) (hne : v ≠ core) : ∃ i, i < 1023 ∧ victimAt core i = v := by
  obtain ⟨a, ha4, ha⟩ := digit4_reaches (core / 256) (v / 256)
  obtain ⟨b, hb4, hb⟩ := digit4_reaches (core / 64) (v / 64)
  obtain ⟨c, hc8, hcc⟩ := digit8_reaches (core / 8) (v / 8)
  obtain ⟨d, hd8, hd⟩ := digit8_reaches core v
  have ha0 : (core / 256 + a) % 4 = v / 256 % 4 := by simpa using ha 0
  have hj : a * 256 + b * 64 + c * 8 + d ≠ 0 := fun h0 => hne <| by
    have hz : a = 0 ∧ b = 0 ∧ c = 0 ∧ d = 0 := by omega
    obtain ⟨rfl, rfl, rfl, rfl⟩ := hz
    have hb0 := hb 0
    have hc0 := hcc 0
    have hd0 := hd 0
    simp only [Nat.mul_zero, Nat.add_zero] at ha0 hb0 hc0 hd0
    rw [← digits_of_core hv, ← digits_of_core hc, ha0, hb0, hc0, hd0]
  refine ⟨a * 256 + b * 64 + c * 8 + d - 1, by omega, ?_⟩
  rw [victimAt_digits core hb4 hc8 hd8 (Nat.sub_add_cancel (Nat.pos_of_ne_zero hj)), ha0, hb, hcc, hd, digits_of_core hv]

end Sys2Proof.Proofs
end

section
/-! PROOFS. The dispatch of a queue's head entry (R93, R96, R101). -/

namespace Sys2Proof.Proofs

open Sys2Proof Sys2Proof.Machine

/-- A thread set has taken a card up, in user mode at its pc, or copy A of a dual-run card (R81, R101), and the card's entry knows. -/
structure TakenUp (s t : State) (tid : Nat) (c : Card) : Prop where
  frame : SameButCards s t
  runs : ∃ k, (t.thread tid).card = some k ∧ (t.thread tid).pc = k.pc ∧ (t.thread tid).steward = false ∧ k.pc = c.pc ∧ k.xs = c.xs ∧
    k.group = c.group ∧ k.asid = c.asid ∧ k.entry = c.entry
  entry : ∀ id e, c.ran = false → c.entry = some id → afind s.entries id = some e →
    ∃ w, afind t.entries id = some { e with unpicked := e.unpicked - 1, wdogAt := w }

theorem startCard_takenUp (s : State) (tid : Nat) (c : Card) : TakenUp s (s.startCard tid c) tid c := by
  obtain ⟨hpc, hst, hc⟩ := startCard_runs s tid c
  refine ⟨startCard_sameButCards s tid c, ⟨_, hc, hpc, hst, rfl, rfl, rfl, rfl, rfl⟩, fun id e hr hi he => ?_⟩
  rw [startCard_entries]
  exact entryStarts_unpicked hr hi he

/-- A copy of a dual-run card (R101). -/
def copyOf (c : Card) (i : Nat) (b : Bool) : Card := { c with id := i, copy := some b, twin := c.id, sig := 0, hdr := setBits c.hdr 2 2 0 }

theorem copyOf_group (c : Card) (i : Nat) (b : Bool) : (copyOf c i b).group = c.group :=
  congrArg BitVec.toNat (extract_setBits_other (by decide) (by decide))

theorem copyOf_asid (c : Card) (i : Nat) (b : Bool) : (copyOf c i b).asid = c.asid := extract_setBits_other (by decide) (by decide)

/-- Copy B, as it starts: its entry has already counted the pick-up. -/
def twinCopy (s : State) (b : Nat) (c : Card) : Card := { copyOf c s.nextId true with ran := true, seat := c.seat.map fun _ => b }

theorem startBoth_eq (s : State) (tid b : Nat) (c : Card) : s.startBoth tid b c =
    ((({ s with nextId := s.nextId + 1 } : State).startCard tid (copyOf c c.id false)).startCard b (twinCopy s b c)).acquirePick b
      { c with ran := false } := rfl

theorem sameButEarly_butCards {s t : State} (h : SameButEarly s t) : SameButCards s t := by
  have hs := congrArg (fun x : State => ({ x with cores := s.cores, entries := s.entries, nextId := s.nextId } : State)) h.1
  exact hs

/-- What a thread set keeps that loses early values at most. -/
theorem early_runs {u v : Thread} (h : ({ v with early := u.early } : Thread) = u) : v.card = u.card ∧ v.pc = u.pc ∧ v.steward = u.steward := by
  have hc := congrArg Thread.card h
  have hp := congrArg Thread.pc h
  have hs := congrArg Thread.steward h
  exact ⟨hc, hp, hs⟩

theorem startBoth_takenUp (s : State) (tid b : Nat) (c : Card) (hb : tid ≠ b) : TakenUp s (s.startBoth tid b c) tid c := by
  have hA := startCard_takenUp { s with nextId := s.nextId + 1 } tid (copyOf c c.id false)
  have hB := startCard_takenUp (({ s with nextId := s.nextId + 1 } : State).startCard tid (copyOf c c.id false)) b (twinCopy s b c)
  have hBo := startCard_others (({ s with nextId := s.nextId + 1 } : State).startCard tid (copyOf c c.id false)) b (twinCopy s b c) tid hb
  have hBe := startCard_entries (({ s with nextId := s.nextId + 1 } : State).startCard tid (copyOf c c.id false)) b (twinCopy s b c)
  rw [entryStarts_ran _ rfl] at hBe
  have hP := acquirePick_sameButEarly ((({ s with nextId := s.nextId + 1 } : State).startCard tid (copyOf c c.id false)).startCard b
    (twinCopy s b c)) b { c with ran := false }
  rw [← startBoth_eq] at hP
  obtain ⟨hfA, ⟨k, hk, hpc, hst, hkp, hkx, hkg, hka, hke⟩, hent⟩ := hA
  have hP2 := hP.2 tid
  generalize hu : ({ s with nextId := s.nextId + 1 } : State).startCard tid (copyOf c c.id false) = u at *
  generalize hv : u.startCard b (twinCopy s b c) = v at *
  obtain ⟨hcard, hpc', hst'⟩ := early_runs (early_trans hBo hP2)
  have hents := congrArg State.entries hP.1
  replace hents : (s.startBoth tid b c).entries = v.entries := hents
  have hid : SameButCards s { s with nextId := s.nextId + 1 } := rfl
  refine ⟨((hid.trans hfA).trans hB.frame).trans (sameButEarly_butCards hP),
    ⟨k, hcard.trans hk, hpc'.trans hpc, hst'.trans hst, hkp, hkx, hkg.trans (copyOf_group ..), hka.trans (copyOf_asid ..), hke⟩, fun id e hr hi he => ?_⟩
  rw [hents, hBe]
  exact hent id e hr hi he

theorem mem_tidsOf {tid core : Nat} (h : tid ∈ tidsOf core) : coreOf tid = core := by
  simp only [tidsOf, List.mem_cons, List.not_mem_nil, or_false] at h
  unfold coreOf
  omega

theorem coreOf_idle {s : State} {tid core : Nat} (h : tid ∈ s.idleOn core) : coreOf tid = core := mem_tidsOf (List.mem_of_mem_filter h)

theorem twinCore_ne (core : Nat) : twinCore core ≠ core := by
  unfold twinCore
  omega

/-- A card starts on its thread set, a dual-run card also on one of the twin core (R101). -/
theorem startCopies_takenUp {s : State} {tid : Nat} {c : Card} (h : (c.dual && c.copy.isNone) = true → s.idleOn (twinCore (coreOf tid)) ≠ []) :
    ∃ t, s.startCopies tid c = some t ∧ TakenUp s t tid c ∧ (c.dual = false → OthersButEarly s t tid) := by
  unfold State.startCopies
  cases hd : (c.dual && c.copy.isNone) with
  | false => exact ⟨_, rfl, startCard_takenUp .., fun _ => startCard_others s tid c⟩
  | true =>
    obtain ⟨b, rest, hb⟩ := List.exists_cons_of_ne_nil (h hd)
    have hne : tid ≠ b := fun he => twinCore_ne (coreOf tid) <| by
      have := coreOf_idle (s := s) (tid := b) (core := twinCore (coreOf tid)) (by simp [hb])
      rw [← this, he]
    refine ⟨s.startBoth tid b c, ?_, startBoth_takenUp s tid b c hne, fun hc => ?_⟩
    · rw [hb]; rfl
    · simp [hc] at hd

/-! A queue's head (R93). -/

theorem field_toNat (h : Word) (lo n : Nat) : (h.extractLsb' lo n).toNat = h.toNat / 2 ^ lo % 2 ^ n := by
  rw [BitVec.extractLsb'_toNat, Nat.shiftRight_eq_div_pow]

/-- Without a launch in hand and without an entry a queue does nothing. -/
theorem plan_idle {s : State} {q : Nat} (hl : s.launchIn q = none) (h : (s.queue q).en = false ∨ (s.queue q).head = (s.queue q).tail) :
    s.plan q = none := by
  have hb : s.headBytes q = none := if_neg (by
    obtain h | h := h
    · simp [h]
    · simp [h])
  unfold State.plan
  dsimp only
  rw [hl, hb]

/-- What a card entry at the head of a queue that may begin does. -/
theorem plan_card {s : State} {q : Nat} {img : List Byte} (hl : s.launchIn q = none) (hb : s.headBytes q = some img)
    (hk : (s.queue q).kind = false) (hm : s.mayBegin q ((cardWords img).getD 1 0) = true) :
    let w := cardWords img
    let hdr := w.getD 1 0
    let cls := if s.headAged q then 3 else hdr.toNat % 4
    s.plan q = if s.cardOk (w.headD 0) hdr then (s.placeCard (s.queueHome q) (hdr.toNat / 4 % 4) 0 (hdr.getLsbD 5) cls).map fun c => .card c cls w
      else some .fail := by
  have h0 : (((cardWords img).getD 1 0).extractLsb' 0 2).toNat = ((cardWords img).getD 1 0).toNat % 4 := by
    exact (field_toNat ..).trans (congrArg (· % 4) (Nat.div_one _))
  have h2 : (((cardWords img).getD 1 0).extractLsb' 2 2).toNat = ((cardWords img).getD 1 0).toNat / 4 % 4 := field_toNat ..
  unfold State.plan
  dsimp only
  rw [hl, hb]
  dsimp only
  rw [if_neg (by rw [hm]; exact nofun), if_neg (by rw [hk]; exact nofun), h0, h2]
  cases s.cardOk ((cardWords img).headD 0) ((cardWords img).getD 1 0) <;> rfl

/-- An entry that forms no card fails (R90). -/
theorem queueDispatch_fails {s : State} {q : Nat} (hp : s.plan q = some .fail) (hlive : s.live = true) :
    exec (.queueDispatch q) s = .next ((s.advanceHead q).queueError q 4) := by
  refine event_some ?_
  unfold State.queueDispatch
  rw [hp]
  exact if_neg (by simp [hlive, State.outranked, Plan.claim])

/-- A card entry goes to the lowest idle thread set of its core. -/
theorem queueDispatch_card {s : State} {q core cls tid : Nat} {w : List Word} {rest : List Nat} (hp : s.plan q = some (.card core cls w))
    (hlive : s.live = true) (ho : s.outranked q (.card core cls w) = false) (hi : s.idleOn core = tid :: rest) :
    s.queueDispatch q = s.dispatchCard q tid w := by
  unfold State.queueDispatch
  rw [hp]
  refine (if_neg (by simp [hlive, ho])).trans ?_
  show (s.idleOn core).head?.bind _ = _
  rw [hi]
  rfl

/-- The card of an entry: no tag, no group, and its place in the books (R93). -/
def headCard (s : State) (tid : Nat) (w : List Word) : Card :=
  { newCard s.nextId w (setBits (w.getD 1 0) 32 16 0xFFFF) (coreOf tid) 0 s.time with entry := some (s.nextId + 1) }

/-- A card entry as the books hold it. -/
def cardEntry (q : Nat) (c : Card) : Entry :=
  { queue := q, left := if c.dual then 2 else 1, unpicked := 1, wdog := 0, wdogAt := none, bad := false, sigs := [], dead := false }

/-- HEAD has gone on and the entry is in the books. -/
def booked (s : State) (q : Nat) (c : Card) : State :=
  { ({ s with nextId := s.nextId + 1 + 1 } : State).advanceHead q with entries := aput s.entries (s.nextId + 1) (cardEntry q c) }

theorem dispatchCard_eq (s : State) (q tid : Nat) (w : List Word) : s.dispatchCard q tid w =
    (booked s q (headCard s tid w)).startCopies tid (headCard s tid w) := rfl

theorem booked_queue (s : State) (q : Nat) (c : Card) : ((booked s q c).queue q).head = (s.queue q).head + 1 := by
  have h : (booked s q c).queue q = { s.queue q with head := (s.queue q).head + 1, stamps := (s.queue q).stamps.drop 1 } := queue_setQueue_same ..
  rw [h]

theorem headCard_dual (s : State) (tid : Nat) (w : List Word) : (headCard s tid w).dual = (w.getD 1 0).getLsbD 5 :=
  getLsbD_setBits_other (by decide) (by decide)

theorem headCard_group (s : State) (tid : Nat) (w : List Word) : (headCard s tid w).group = 0xFFFF := by
  have h : (headCard s tid w).hdr.extractLsb' 32 16 = BitVec.ofNat 16 0xFFFF := extract_setBits_same (by decide)
  unfold Card.group
  rw [h]
  rfl

theorem headCard_asid (s : State) (tid : Nat) (w : List Word) : (headCard s tid w).asid.toNat = (w.getD 1 0).toNat / 2 ^ 48 := by
  have h : (headCard s tid w).asid = (w.getD 1 0).extractLsb' 48 16 := extract_setBits_other (by decide) (by decide)
  rw [h, field_toNat]
  exact Nat.mod_eq_of_lt (by have := (w.getD 1 0).isLt; omega)

/-- The entry that begins, its card taken up and HEAD one further (R93). -/
theorem dispatchCard_starts {s : State} {q tid : Nat} {w : List Word}
    (h : (w.getD 1 0).getLsbD 5 = true → s.idleOn (twinCore (coreOf tid)) ≠ []) :
    ∃ t k id e, s.dispatchCard q tid w = some t ∧ SameMemory s t ∧
      ((w.getD 1 0).getLsbD 5 = false → OthersOfButNotes s t tid) ∧ (t.thread tid).card = some k ∧ (t.thread tid).pc = k.pc ∧
      (t.thread tid).steward = false ∧ k.pc = w.headD 0 ∧ k.xs = w.drop 2 ∧ k.group = 0xFFFF ∧ k.asid.toNat = (w.getD 1 0).toNat / 2 ^ 48 ∧
      k.entry = some id ∧ afind t.entries id = some e ∧ e.queue = q ∧ e.unpicked = 0 ∧
      e.left = (if (w.getD 1 0).getLsbD 5 then 2 else 1) ∧ (t.queue q).head = (s.queue q).head + 1 := by
  obtain ⟨t, ht, ⟨hf, ⟨k, hk, hpc, hst, hkp, hkx, hkg, hka, hke⟩, hent⟩, hoth⟩ :=
    startCopies_takenUp (s := booked s q (headCard s tid w)) (tid := tid) (c := headCard s tid w) (fun hd => h (by
      rw [← headCard_dual s tid w]; exact (Bool.and_eq_true .. ▸ hd).1))
  obtain ⟨wd, hwd⟩ := hent (s.nextId + 1) (cardEntry q (headCard s tid w)) rfl rfl (by
    unfold booked
    rw [afind_aput, if_pos rfl])
  have hb : SameBytes s (booked s q (headCard s tid w)) := ⟨rfl, rfl, rfl, rfl⟩
  refine ⟨t, k, s.nextId + 1, _, ht, sameMemory_trans hb.memory hf.memory, fun hd => ?_, hk, hpc, hst, hkp, hkx,
    hkg.trans (headCard_group ..), ?_, hke, hwd, rfl, rfl, ?_, ?_⟩
  · exact (hoth ((headCard_dual ..).trans hd)).notes
  · rw [hka, headCard_asid]
  · show (if (headCard s tid w).dual then 2 else 1) = _
    rw [headCard_dual]
  · rw [hf.queue, booked_queue]

/-- The head entries of card queues (R90, R93, R96). -/
theorem headDispatches (s : State) (q : Nat) (img : List Byte) (hlive : s.live = true) (hl : s.launchIn q = none) (hb : s.headBytes q = some img)
    (hk : (s.queue q).kind = false) :
    let w := cardWords img
    let hdr := w.getD 1 0
    s.mayBegin q hdr = true →
    (s.cardOk (w.headD 0) hdr = false → ∃ t, exec (.queueDispatch q) s = .next t ∧ SamePcs s t ∧ SameMemory s t ∧ t.cores = s.cores ∧
      t.queue q = { s.queue q with head := (s.queue q).head + 1, err := (s.queue q).err + 1, last := 4, stamps := (s.queue q).stamps.drop 1 } ∧
      t.msix = s.msix ++ (if (s.queue q).ie then [(s.queue q).vec.toNat] else [])) ∧
    (s.cardOk (w.headD 0) hdr = true → ∀ core,
      let cls := if s.headAged q then 3 else hdr.toNat % 4
      s.placeCard (s.queueHome q) (hdr.toNat / 4 % 4) 0 (hdr.getLsbD 5) cls = some core → s.outranked q (.card core cls w) = false →
      ∃ t tid rest k id e, exec (.queueDispatch q) s = .next t ∧ SameMemory s t ∧ s.idleOn core = tid :: rest ∧
        (hdr.getLsbD 5 = false → OthersOfButNotes s t tid) ∧ (t.thread tid).card = some k ∧ (t.thread tid).pc = k.pc ∧
        (t.thread tid).steward = false ∧ k.pc = w.headD 0 ∧ k.xs = w.drop 2 ∧ k.group = 0xFFFF ∧ k.asid.toNat = hdr.toNat / 2 ^ 48 ∧
        k.entry = some id ∧ afind t.entries id = some e ∧ e.queue = q ∧ e.unpicked = 0 ∧ e.left = (if hdr.getLsbD 5 then 2 else 1) ∧
        (t.queue q).head = (s.queue q).head + 1) := by
  intro w hdr hm
  have hplan := plan_card hl hb hk hm
  dsimp only at hplan
  refine ⟨fun hbad => ?_, fun hok core => ?_⟩
  · rw [if_neg (by rw [hbad]; exact nofun)] at hplan
    refine ⟨_, queueDispatch_fails hplan hlive, ?_⟩
    have hq : (s.advanceHead q).queue q = { s.queue q with head := (s.queue q).head + 1, stamps := (s.queue q).stamps.drop 1 } :=
      queue_setQueue_same ..
    rw [queueError_eq, hq]
    exact ⟨fun _ => ⟨rfl, rfl, rfl⟩, SameBytes.memory ⟨rfl, rfl, rfl, rfl⟩, rfl, queue_setQueue_same .., rfl⟩
  · intro cls hplace ho
    rw [if_pos hok, hplace] at hplan
    obtain ⟨-, -, -, hspare, htwin, -⟩ := placeCard_least _ _ _ _ _ _ _ hplace
    obtain ⟨tid, rest, hi⟩ := idleOn_of_spare hspare
    have hcore : coreOf tid = core := coreOf_idle (s := s) (by simp [hi])
    obtain ⟨t, k, id, e, ht, hmem, hrest⟩ := dispatchCard_starts (s := s) (q := q) (tid := tid) (w := w) (fun hd => by
      obtain ⟨b, r, hbr⟩ := idleOn_of_spare (htwin hd)
      rw [hcore, hbr]
      exact nofun)
    exact ⟨t, tid, rest, k, id, e, event_some ((queueDispatch_card hplan hlive ho hi).trans ht), hmem, hi, hrest⟩

end Sys2Proof.Proofs
end

section
/-! PROOFS. The admission of a group of a launch (R88, R89). -/

namespace Sys2Proof.Proofs

open Sys2Proof Sys2Proof.Machine

/-! The shape of a placement. -/

theorem firstN_spec {α : Type} {n : Nat} {l r : List α} (h : firstN n l = some r) : r.length = n ∧ ∀ x ∈ r, x ∈ l := by
  unfold firstN at h
  split at h
  · exact absurd h nofun
  · next hn =>
    rw [← Option.some.inj h, List.length_take]
    exact ⟨Nat.min_eq_left (Nat.not_lt.1 hn), fun x hx => List.mem_of_mem_take hx⟩

/-- The placement has the launch's die groups, row groups and core groups, and every core of it can be used. -/
def Shaped (l : Launch) (ok : Nat → Bool) (shape : List (List (List Nat))) : Prop :=
  shape.length = l.dgp + 1 ∧ ∀ d ∈ shape, d.length = l.rgd + 1 ∧ ∀ r ∈ d, r.length = l.cgr + 1 ∧ ∀ c ∈ r, ok c = true

theorem shapeOn_shaped {l : Launch} {ok : Nat → Bool} {shape : List (List (List Nat))} (h : shapeOn l ok = some shape) : Shaped l ok shape := by
  unfold shapeOn at h
  obtain ⟨hlen, hmem⟩ := firstN_spec h
  refine ⟨hlen, fun d hd => ?_⟩
  obtain ⟨i, -, hi⟩ := List.mem_filterMap.1 (hmem d hd)
  obtain ⟨hrlen, hrmem⟩ := firstN_spec hi
  refine ⟨hrlen, fun r hr => ?_⟩
  obtain ⟨j, -, hj⟩ := List.mem_filterMap.1 (hrmem r hr)
  obtain ⟨hclen, hcmem⟩ := firstN_spec hj
  exact ⟨hclen, fun c hc => (List.mem_filter.1 (hcmem c hc)).2⟩

theorem groupFits_shaped {s : State} {l : Launch} {shape : List (List (List Nat))} (h : s.groupFits l = some shape) (hd : l.dual = false) :
    Shaped l (s.suits l) shape ∧ ∃ n, n < 0xFFFF ∧ afind s.groups n = none := by
  unfold State.groupFits at h
  split at h
  · exact absurd h nofun
  · next hall =>
    rw [hd, if_neg Bool.false_ne_true] at h
    refine ⟨shapeOn_shaped h, ?_⟩
    simpa using hall

/-- The seats of a number of places with as many seats each. -/
theorem length_flatMap_of_const {α β : Type} {l : List α} {f : α → List β} {n : Nat} (h : ∀ x ∈ l, (f x).length = n) :
    (l.flatMap f).length = l.length * n := by
  rw [List.length_flatMap, List.map_eq_replicate_iff.2 h, List.sum_const_nat]

theorem suits_idle {s : State} {l : Launch} {core : Nat} (h : s.suits l core = true) : l.cpc + 1 ≤ (s.idleOn core).length := by
  unfold State.suits at h
  have h1 := of_decide_eq_true (Bool.and_eq_true .. ▸ h).1
  rwa [Nat.one_mul] at h1

theorem coreSeats_length {s : State} {l : Launch} {core : Nat} (h : s.suits l core = true) (slot dg rg cg : Nat) :
    (s.coreSeats l slot dg rg cg core 0).length = l.cpc + 1 := by
  unfold State.coreSeats
  rw [List.length_map, List.drop_zero, List.length_take]
  exact Nat.min_eq_left (suits_idle h)

theorem seatsOf_eq (s : State) (l : Launch) (slot : Nat) (shape : List (List (List Nat))) : s.seatsOf l slot shape =
    (shape.zipIdx).flatMap fun d => (d.1.zipIdx).flatMap fun r => (r.1.zipIdx).flatMap fun c => s.coreSeats l slot d.2 r.2 c.2 c.1 0 := rfl

/-- A group has a seat for each of its cards (R88). -/
theorem seatsOf_length {s : State} {l : Launch} {shape : List (List (List Nat))} (h : Shaped l (s.suits l) shape) (slot : Nat) :
    (s.seatsOf l slot shape).length = l.perGroup := by
  obtain ⟨hlen, hdie⟩ := h
  have hcalc : l.perGroup = (l.dgp + 1) * ((l.rgd + 1) * ((l.cgr + 1) * (l.cpc + 1))) := by
    unfold Launch.perGroup
    ring
  rw [seatsOf_eq, hcalc, ← hlen, ← List.length_zipIdx (l := shape) (i := 0)]
  refine length_flatMap_of_const fun d hd => ?_
  obtain ⟨hrlen, hrow⟩ := hdie d.1 (List.fst_mem_of_mem_zipIdx hd)
  rw [← hrlen, ← List.length_zipIdx (l := d.1) (i := 0)]
  refine length_flatMap_of_const fun r hr => ?_
  obtain ⟨hclen, hcore⟩ := hrow r.1 (List.fst_mem_of_mem_zipIdx hr)
  rw [← hclen, ← List.length_zipIdx (l := r.1) (i := 0)]
  exact length_flatMap_of_const fun c hc => coreSeats_length (hcore c.1 (List.fst_mem_of_mem_zipIdx hc)) ..

/-- The seats of a group are idle thread sets. -/
theorem seatsOf_idle {s : State} {l : Launch} {slot : Nat} {shape : List (List (List Nat))} {x : Seat} (h : x ∈ s.seatsOf l slot shape) :
    s.isIdle x.tid = true := by
  rw [seatsOf_eq] at h
  simp only [List.mem_flatMap] at h
  obtain ⟨d, -, r, -, c, -, hx⟩ := h
  obtain ⟨tid, htid, rfl⟩ := List.mem_map.1 hx
  exact (List.mem_filter.1 (List.mem_of_mem_drop (List.mem_of_mem_take htid))).2

/-! The cards of a group start (R88). -/

/-- A thread set runs a card of a launch in a group slot, at its own place. -/
def Seated (l : Launch) (slot : Nat) (t : State) (tid : Nat) : Prop :=
  (t.thread tid).pc = l.pc ∧ (t.thread tid).steward = false ∧
  ∃ k, (t.thread tid).card = some k ∧ k.seat = some tid ∧ k.group = slot ∧ k.pc = l.pc

theorem Seated.of_early {l : Launch} {slot tid : Nat} {s t : State} (h : Seated l slot s tid)
    (he : ({ t.thread tid with early := (s.thread tid).early } : Thread) = s.thread tid) : Seated l slot t tid := by
  obtain ⟨hpc, hst, k, hk⟩ := h
  obtain ⟨hc, hp, hs⟩ := early_runs he
  exact ⟨hp.trans hpc, hs.trans hst, k, by rw [hc]; exact hk⟩

theorem launchCard_group {slot : Nat} (hslot : slot < 0xFFFF) (l : Launch) (id number time home : Nat) (x : Word) (seat : Option Nat) :
    (l.card id number slot time home x seat).group = slot := by
  have h : (l.card id number slot time home x seat).hdr.extractLsb' 32 16 = BitVec.ofNat 16 slot := extract_setBits_same (by decide)
  unfold Card.group
  rw [h, BitVec.toNat_ofNat]
  omega

/-- The thread sets of the seats run the group's cards; all others are left alone. -/
theorem startSeats_seated {slot : Nat} (hslot : slot < 0xFFFF) (l : Launch) (top : Nat) (xs : List Seat) : ∀ (s : State) (i : Nat),
    let t := s.startSeats l top slot (xs.map fun x => (x, none)) i
    SameButCards s t ∧ (∀ j, (∀ x ∈ xs, x.tid ≠ j) → ({ t.thread j with early := (s.thread j).early } : Thread) = s.thread j) ∧
    ∀ x ∈ xs, Seated l slot t x.tid := by
  induction xs with
  | nil => exact fun s i => ⟨rfl, fun _ _ => rfl, nofun⟩
  | cons x xs ih =>
    intro s i
    rw [List.map_cons]
    unfold State.startSeats
    dsimp only
    generalize hc : l.card s.newId.1 (top * l.perGroup + i) slot s.time (coreOf x.tid) _ (some x.tid) = c
    have hgrp : c.group = slot := by rw [← hc]; exact launchCard_group hslot ..
    have hseat : c.seat = some x.tid := by rw [← hc]; rfl
    have hcpc : c.pc = l.pc := by rw [← hc]; rfl
    have hframe := startCard_sameButCards s.newId.2 x.tid c
    have hothers := startCard_others s.newId.2 x.tid c
    obtain ⟨hpc, hst, hcard⟩ := startCard_runs s.newId.2 x.tid c
    generalize s.newId.2.startCard x.tid c = u at hframe hothers hpc hst hcard
    obtain ⟨hf, ho, hs⟩ := ih u (i + 1)
    have hid : SameButCards s s.newId.2 := rfl
    have hx : Seated l slot u x.tid := ⟨hpc.trans hcpc, hst, _, hcard, hseat, hgrp, hcpc⟩
    refine ⟨(hid.trans hframe).trans hf, fun j hj => ?_, fun y hy => ?_⟩
    · exact early_trans (hothers j (Ne.symm (hj x (.head _)))) (ho j fun y hy => hj y (.tail _ hy))
    · obtain rfl | hy := List.mem_cons.1 hy
      · by_cases hin : ∀ y' ∈ xs, y'.tid ≠ y.tid
        · exact hx.of_early (ho _ hin)
        · push Not at hin
          obtain ⟨z, hz, he⟩ := hin
          exact he ▸ hs z hz
      · exact hs y hy

/-! The group enters its slot (R89). -/

/-- What allocations change is in cores alone. -/
theorem foldl_modCore_frame (f : Core → Core) (l : List Nat) : ∀ s : State, ∃ c, l.foldl (fun s core => s.modCore core f) s = { s with cores := c } := by
  induction l with
  | nil => exact fun s => ⟨s.cores, rfl⟩
  | cons a l ih =>
    intro s
    obtain ⟨c, hc⟩ := ih (s.modCore a f)
    exact ⟨c, hc⟩

/-- The group of a launch at seats. -/
def groupOf (l : Launch) (seats : List Seat) : Group :=
  { level := l.level, cpc := l.cpc, cgr := l.cgr, rgd := l.rgd, dgp := l.dgp, pkgs := l.pkgs, podkey := l.podkey, entry := l.entry, seats := seats }

/-- The lowest free group slot. -/
def openSlot (s : State) : Nat := ((List.range 0xFFFF).find? fun n => (afind s.groups n).isNone).getD 0

theorem openSlot_free {s : State} (h : ∃ n, n < 0xFFFF ∧ afind s.groups n = none) :
    afind s.groups (openSlot s) = none ∧ (openSlot s) < 0xFFFF ∧ ∀ n, n < (openSlot s) → (afind s.groups n).isSome = true := by
  obtain ⟨n, hn, hfree⟩ := h
  unfold openSlot
  cases hf : (List.range 0xFFFF).find? fun n => (afind s.groups n).isNone with
  | none => exact absurd (List.find?_eq_none.1 hf n (List.mem_range.2 hn)) (by simp [hfree])
  | some m =>
    obtain ⟨hm, hlt, hlow⟩ := List.find?_range_eq_some.1 hf
    refine ⟨Option.isNone_iff_eq_none.1 hm, List.mem_range.1 hlt, fun k hk => ?_⟩
    have := hlow k hk
    rwa [Bool.not_eq_true', Option.isNone_eq_false_iff] at this

/-- The group that enters, before its cards start; the allocations are in cores. -/
theorem enterGroup_eq (s : State) (l : Launch) (shape : List (List (List Nat))) (hd : l.dual = false) :
    let seats := s.seatsOf l (openSlot s) shape
    ∃ c, s.enterGroup l shape = (({ s with groups := aput s.groups (openSlot s) (groupOf l seats), cores := c } : State).launchNext l).startSeats l l.next
      (openSlot s) (seats.map fun x => (x, none)) 0 := by
  intro seats
  unfold State.enterGroup
  dsimp only
  rw [hd, if_neg Bool.false_ne_true, if_neg Bool.false_ne_true, List.append_nil]
  split
  · exact ⟨s.cores, rfl⟩
  · obtain ⟨c, hc⟩ := foldl_modCore_frame _ ((seats.map fun x => coreOf x.tid).eraseDups)
      { s with groups := aput s.groups (openSlot s) (groupOf l seats) }
    exact ⟨c, congrArg (fun u : State => (u.launchNext l).startSeats l l.next (openSlot s) (seats.map fun x => (x, none)) 0) hc⟩

theorem launchNext_frame (s : State) (l : Launch) : s.launchNext l = { s with launches := (s.launchNext l).launches } := by
  unfold State.launchNext
  split <;> rfl

/-- The next group of a launch that fits is admitted (R88, R89). -/
theorem gangAdmits (s : State) (id : Nat) (l : Launch) (shape : List (List (List Nat))) (hl : afind s.launches id = some l) (hlev : l.level ≠ 0)
    (hlive : s.live = true) (hd : l.dual = false) (hfit : s.groupFits l = some shape) :
    ∃ t slot g, exec (.gangAdmit id) s = .next t ∧ SameMemory s t ∧ afind s.groups slot = none ∧ slot < 0xFFFF ∧
      (∀ n, n < slot → (afind s.groups n).isSome = true) ∧ afind t.groups slot = some g ∧ g.entry = l.entry ∧ g.level = l.level ∧
      g.seats.length = l.perGroup ∧
      (∀ x ∈ g.seats, s.isIdle x.tid = true ∧ (t.thread x.tid).pc = l.pc ∧ (t.thread x.tid).steward = false ∧
        ∃ k, (t.thread x.tid).card = some k ∧ k.seat = some x.tid ∧ k.group = slot ∧ k.pc = l.pc) ∧
      (∀ j, (∀ x ∈ g.seats, x.tid ≠ j) → ({ t.thread j with early := (s.thread j).early } : Thread) = s.thread j) ∧
      (l.next + 1 = l.count → afind t.launches l.entry = none) ∧
      (l.next + 1 ≠ l.count → (afind t.launches l.entry).map (·.next) = some (l.next + 1)) := by
  obtain ⟨hshape, hfree⟩ := groupFits_shaped hfit hd
  obtain ⟨hnone, hslot, hlow⟩ := openSlot_free hfree
  have hexec : s.gangAdmit id = some (s.enterGroup l shape) := by
    unfold State.gangAdmit
    rw [hl]
    exact (if_neg (by simp [hlev, hlive])).trans (congrArg (Option.map _) hfit)
  obtain ⟨c, henter⟩ := enterGroup_eq s l shape hd
  generalize hseats : s.seatsOf l (openSlot s) shape = seats at henter
  have hlen : seats.length = l.perGroup := hseats ▸ seatsOf_length hshape _
  have hidle : ∀ x ∈ seats, s.isIdle x.tid = true := fun x hx => seatsOf_idle (hseats ▸ hx)
  obtain ⟨hf, ho, hs⟩ := startSeats_seated hslot l l.next seats
    (({ s with groups := aput s.groups (openSlot s) (groupOf l seats), cores := c } : State).launchNext l) 0
  rw [← henter] at hf ho hs
  have hlaunch := hf.launches
  have hgroups := hf.groups
  have hmem := hf.memory
  rw [launchNext_frame] at hgroups ho hmem
  refine ⟨_, (openSlot s), groupOf l seats, event_some hexec, hmem, hnone, hslot, hlow, ?_, rfl, rfl, hlen,
    fun x hx => ⟨hidle x hx, hs x hx⟩, ho, fun hlast => ?_, fun hmore => ?_⟩
  · rw [hgroups, afind_aput, if_pos rfl]
  · rw [hlaunch, State.launchNext, if_pos hlast]
    exact afind_adel_same ..
  · rw [hlaunch, State.launchNext, if_neg hmore, afind_aput, if_pos rfl]
    rfl

end Sys2Proof.Proofs
end

section
/-! PROOFS. Pick-up, posted cards, steal scans and ageing (R81, R95, R96, R97, R106, R110); what the scheduler's steps do. -/

namespace Sys2Proof.Proofs

open Sys2Proof Sys2Proof.Machine

/-! The registers of a started card (R81). -/

theorem aget_foldl_zipIdx (l : List Word) : ∀ (n j : Nat) (m : AMap Word),
    aget 0 ((l.zipIdx n).foldl (fun m p => aput m (10 + p.2) p.1) m) j = if 10 + n ≤ j ∧ j < 10 + n + l.length then l.getD (j - (10 + n)) 0 else aget 0 m j := by
  induction l with
  | nil =>
    intro n j m
    rw [if_neg (by simp)]
    rfl
  | cons w l ih =>
    intro n j m
    rw [List.zipIdx_cons, List.foldl_cons, ih, List.length_cons]
    by_cases hin : 10 + (n + 1) ≤ j ∧ j < 10 + (n + 1) + l.length
    · rw [if_pos hin, if_pos (by omega)]
      have hj : j - (10 + n) = j - (10 + (n + 1)) + 1 := by omega
      rw [hj, List.getD_cons_succ]
    · rw [if_neg hin]
      by_cases hn : j = 10 + n
      · subst hn
        rw [if_pos (by omega), Nat.sub_self]
        exact aget_aput_same ..
      · rw [if_neg (by omega)]
        exact aget_aput_other _ _ _ _ _ hn

theorem start_rx (t : Thread) (c : Card) (n : Nat) (hx : c.xs.length = 6) (r : BitVec 5) :
    (t.start c n).rx r = if 10 ≤ r.toNat ∧ r.toNat < 16 then c.xs.getD (r.toNat - 10) 0 else 0 := by
  unfold Thread.rx
  by_cases hr : r = 0
  · subst hr; rfl
  · rw [if_neg hr]
    refine (aget_foldl_zipIdx c.xs 0 r.toNat []).trans ?_
    rw [hx]
    rfl

theorem rx_congr {u v : Thread} (h : v.x = u.x) (r : BitVec 5) : v.rx r = u.rx r := by
  unfold Thread.rx
  rw [h]

theorem askedLate_x (s : State) (tid : Nat) (c : Card) : ((s.askedLate tid c).thread tid).x = (s.thread tid).x := by
  unfold State.askedLate State.modThread
  dsimp only
  split
  · rw [State.thread_setThread_same]
  · rfl

theorem askedDead_x (s : State) (tid : Nat) (c : Card) : ((s.askedDead tid c).thread tid).x = (s.thread tid).x := by
  unfold State.askedDead State.modThread
  split
  · rw [State.thread_setThread_same]
    dsimp only
    split <;> rfl
  · rfl

theorem sameButEarly_x {s t : State} (h : SameButEarly s t) (k : Nat) : (t.thread k).x = (s.thread k).x := by
  have hx := congrArg Thread.x (h.2 k)
  exact hx

theorem tagOf_congr {s t : State} {core : Nat} (h : (t.core core).tags = (s.core core).tags) (id : Nat) : t.tagOf core id = s.tagOf core id := by
  unfold State.tagOf
  rw [h]

theorem PickFrame.tags {s t : State} {tid : Nat} (a : PickFrame s t tid) (c : Nat) : (t.core c).tags = (s.core c).tags := by
  have h := congrArg Core.tags (a.cores c)
  exact h

theorem startedThread_plain {s : State} {tid : Nat} {c : Card} (h : c.deliver = none) : startedThread s tid c = (s.thread tid).start
    { c with home := coreOf tid, ran := true, aged := false, hdr0 := c.hdr, deliver := none }
    (if c.slice = 0 then 0 else s.cycle (coreOf tid) + c.slice) := by
  unfold startedThread
  rw [h]

/-- Without a tag the card starts with the registers of its image alone. -/
theorem startCard_rx {s : State} {tid : Nat} {c : Card} (ht : s.tagOf (coreOf tid) c.id = none) (hd : c.deliver = none) (hx : c.xs.length = 6)
    (r : BitVec 5) : ((s.startCard tid c).thread tid).rx r = if 10 ≤ r.toNat ∧ r.toNat < 16 then c.xs.getD (r.toNat - 10) 0 else 0 := by
  rw [startCard_eq]
  have hfor := ((askedLate_forCard (startedState s tid c) tid
    { c with home := coreOf tid, ran := true, aged := false, hdr0 := c.hdr, deliver := none }).trans (askedDead_forCard _ tid c)).trans
      (forCard_of_sameButEarly (acquirePick_sameButEarly _ tid c) tid)
  have hcard := hfor.own.card
  have hown := (startedThread_sameStart (s.entryStarts c) tid c).card
  rw [startedState_thread, hown] at hcard
  have htags := ((startedState_frame s tid c).trans hfor.frame).tags (coreOf tid)
  rw [entryStarts_core] at htags
  rw [pump_of_noTag hcard ((tagOf_congr htags c.id).trans ht)]
  have hxs := ((sameButEarly_x (acquirePick_sameButEarly _ tid c) tid).trans (askedDead_x _ tid c)).trans (askedLate_x (startedState s tid c) tid
    { c with home := coreOf tid, ran := true, aged := false, hdr0 := c.hdr, deliver := none })
  rw [rx_congr hxs, startedState_thread, startedThread_plain hd]
  exact start_rx _ _ _ (by exact hx) r

/-! Pick-up (R96). -/

theorem takeFrom_deque (s : State) (core id : Nat) : ((s.takeFrom core id).core core).deque = (s.core core).deque.filter (fun d => d.id != id) := by
  unfold State.takeFrom State.modCore
  rw [State.core_setCore_same]

theorem takeFrom_tags (s : State) (core id : Nat) : ((s.takeFrom core id).core core).tags = (s.core core).tags := by
  unfold State.takeFrom State.modCore
  rw [State.core_setCore_same]

theorem takeFrom_butCards (s : State) (core id : Nat) : SameButCards s (s.takeFrom core id) := rfl

theorem startCard_start (s : State) (tid : Nat) (c : Card) : SameStart ((s.thread tid).start
    { c with home := coreOf tid, ran := true, aged := false, hdr0 := c.hdr, deliver := none }
    (if c.slice = 0 then 0 else s.cycle (coreOf tid) + c.slice)) ((s.startCard tid c).thread tid) := by
  have h := (startedThread_sameStart (s.entryStarts c) tid c).trans (startCard_own s tid c)
  rw [entryStarts_thread] at h
  have hc : (s.entryStarts c).cycle (coreOf tid) = s.cycle (coreOf tid) := by rw [entryStarts_eq]; rfl
  rwa [hc] at h

/-- What a start sets beside card, pc and mode. -/
theorem SameStart.fields {u v : Thread} (h : SameStart u v) : v.v = u.v ∧ v.k = u.k ∧ v.vfmt = u.vfmt ∧ v.mfmt = u.mfmt ∧ v.vflags = u.vflags ∧
    v.bank0 = u.bank0 ∧ v.instret = u.instret := by
  have h1 := congrArg Thread.v h
  have h2 := congrArg Thread.k h
  have h3 := congrArg Thread.vfmt h
  have h4 := congrArg Thread.mfmt h
  have h5 := congrArg Thread.vflags h
  have h6 := congrArg Thread.bank0 h
  have h7 := congrArg Thread.instret h
  exact ⟨h1, h2, h3, h4, h5, h6, h7⟩

theorem pickups (s : State) (tid : Nat) : (s.picks tid = [] → exec (.cardPickup tid) s = .next s) ∧
    (s.live = true → s.isFree tid = true → ∀ c : Card, s.bestPick (s.picks tid) = some (.ready c) →
      ¬ (c.dual = true ∧ c.copy = none) → s.tagOf (coreOf tid) c.id = none → c.deliver = none → c.xs.length = 6 →
      ∃ t, exec (.cardPickup tid) s = .next t ∧ SameMemory s t ∧ OthersOfButNotes s t tid ∧
        (t.thread tid).pc = c.pc ∧ (t.thread tid).steward = false ∧
        (∀ r : BitVec 5, (t.thread tid).rx r = if 10 ≤ r.toNat ∧ r.toNat < 16 then c.xs.getD (r.toNat - 10) 0 else 0) ∧
        (t.thread tid).v = [] ∧ (t.thread tid).k = [] ∧ (t.thread tid).vfmt = 0 ∧ (t.thread tid).mfmt = 1 ∧ (t.thread tid).vflags = 0 ∧
        (t.thread tid).bank0 = (s.thread tid).bank0 ∧ (t.thread tid).instret = (s.thread tid).instret ∧
        ((t.thread tid).card.map fun d => (d.id, d.pc, d.hdr, d.xs)) = some (c.id, c.pc, c.hdr, c.xs) ∧
        (t.core (coreOf tid)).deque = (s.core (coreOf tid)).deque.filter (fun d => d.id != c.id) ∧
        ∀ id e, c.ran = false → c.entry = some id → afind s.entries id = some e →
          (afind t.entries id).map (·.unpicked) = some (e.unpicked - 1)) := by
  refine ⟨fun h => event_none ?_, fun hlive hfree c hpick hsingle htag hdel hx => ?_⟩
  · unfold State.pickup
    rw [h]
    exact ite_self _
  · have hstep : s.pickup tid = some ((s.takeFrom (coreOf tid) c.id).startCard tid c) := by
      unfold State.pickup
      rw [if_neg (by simp [hlive, hfree]), hpick]
      exact startCopies_single _ tid hsingle
    have hb := takeFrom_butCards s (coreOf tid) c.id
    obtain ⟨hpc, hst, hcard⟩ := startCard_runs (s.takeFrom (coreOf tid) c.id) tid c
    obtain ⟨hv, hk, hvf, hmf, hvl, hb0, hret⟩ := (startCard_start (s.takeFrom (coreOf tid) c.id) tid c).fields
    refine ⟨_, event_some hstep, (hb.trans (startCard_sameButCards ..)).memory, (startCard_others (s.takeFrom (coreOf tid) c.id) tid c).notes,
      hpc, hst, startCard_rx ((tagOf_congr (takeFrom_tags ..) c.id).trans htag) hdel hx, hv, hk, hvf, hmf, hvl, hb0, hret, ?_, ?_, ?_⟩
    · rw [hcard]
      rfl
    · rw [startCard_deque, takeFrom_deque]
    · intro id e hr hi he
      obtain ⟨w, hw⟩ := entryStarts_unpicked (s := s.takeFrom (coreOf tid) c.id) hr hi he
      rw [startCard_entries, hw]
      rfl

/-! A posted card at its deque (R110). -/

theorem pushAs_room {s : State} {core : Nat} (h : (s.core core).deque.length < 256) (c : Card) :
    s.pushAs core c = some (s.modCore core fun k => k.withDeque (k.deque ++ [{ c with home := core }])) := if_neg (Nat.not_le.2 h)

theorem pushAs_full {s : State} {core : Nat} (h : 256 ≤ (s.core core).deque.length) (c : Card) : s.pushAs core c = none := if_pos h

theorem giveOut_answered (s : State) (tid id : Nat) (vals : List Word) : Answered s (s.giveOut tid id vals) tid id vals := by
  unfold Answered State.giveOut State.modThread
  rw [State.thread_setThread_same]

theorem giveOut_others (s : State) (tid id : Nat) (vals : List Word) : OthersOf s (s.giveOut tid id vals) tid := fun k hk =>
  State.thread_setThread_other _ k _ _ hk

theorem postedCards (s : State) (p : Push) (hp : s.pushes.find? (fun q => q.id == p.id) = some p) :
    ((s.core p.core).deque.length < 256 → ∃ t k, exec (.dequePush p.id) s = .next t ∧ Answered s t p.tid p.out [0] ∧ OthersOf s t p.tid ∧
      SameMemory s t ∧ t.pushes = s.pushes.filter (fun q => q.id != p.id) ∧ (t.core p.core).deque = (s.core p.core).deque ++ [k] ∧
      k.pc = p.card.pc ∧ k.hdr = p.card.hdr ∧ k.xs = p.card.xs) ∧
    (256 ≤ (s.core p.core).deque.length → ∃ t, exec (.dequePush p.id) s = .next t ∧ Answered s t p.tid p.out [1] ∧ OthersOf s t p.tid ∧
      SameMemory s t ∧ t.pushes = s.pushes.filter (fun q => q.id != p.id) ∧ t.cores = s.cores) := by
  refine ⟨fun hroom => ?_, fun hfull => ?_⟩
  · have hpush := pushAs_room (s := { s with pushes := s.pushes.filter fun q => q.id != p.id }) hroom { p.card with since := s.time, aged := false }
    generalize hu : ({ s with pushes := s.pushes.filter fun q => q.id != p.id } : State).modCore p.core _ = u at hpush
    have hstep : s.dequePush p.id = some (u.giveOut p.tid p.out [0]) := by
      unfold State.dequePush State.pushDeque
      rw [hp]
      dsimp only
      rw [hpush]
    refine ⟨_, { p.card with since := s.time, aged := false, home := p.core }, event_some hstep, ?_⟩
    subst hu
    refine ⟨giveOut_answered .., giveOut_others _ _ _ _, SameBytes.memory ⟨rfl, rfl, rfl, rfl⟩, rfl, ?_, rfl, rfl, rfl⟩
    exact congrArg Core.deque (State.core_setCore_same _ _ _)
  · have hpush := pushAs_full (s := { s with pushes := s.pushes.filter fun q => q.id != p.id }) hfull { p.card with since := s.time, aged := false }
    have hstep : s.dequePush p.id = some (({ s with pushes := s.pushes.filter fun q => q.id != p.id } : State).giveOut p.tid p.out [1]) := by
      unfold State.dequePush State.pushDeque
      rw [hp]
      dsimp only
      rw [hpush]
    exact ⟨_, event_some hstep, giveOut_answered .., giveOut_others _ _ _ _, SameBytes.memory ⟨rfl, rfl, rfl, rfl⟩, rfl, rfl⟩

/-! Steal scans (R97). -/

theorem stealSteps (s : State) (core : Nat) (hcore : core < 1024) (hlive : s.live = true) (hpause : (s.core core).pause = none)
    (hidle : s.idleOn core ≠ []) (hnone : s.findsCard core = false) :
    let v := victimAt core (s.core core).scan
    (∀ k, s.wins v core = some k → k.dual = false → ∃ t tid rest d, exec (.stealScanStep core) s = .next t ∧ s.idleOn core = tid :: rest ∧
      OthersOfButNotes s t tid ∧ SameMemory s t ∧ (t.core v).deque = (s.core v).deque.filter (fun c => c.id != k.id) ∧ (t.thread tid).card = some d ∧
      d.id = k.id ∧ d.pc = k.pc ∧ d.hdr = k.hdr ∧ d.xs = k.xs ∧ d.home = core) ∧
    (s.wins v core = none → ∃ t, exec (.stealScanStep core) s = .next t ∧ t.threads = s.threads ∧ SameMemory s t ∧
      ((s.core core).scan = 1022 → (t.core core).pause = some (s.cycle core + 64)) ∧
      ((s.core core).scan < 1022 → (t.core core).pause = none ∧ (t.core core).scan = (s.core core).scan + 1)) := by
  intro v
  obtain ⟨tid, rest, hi⟩ := List.exists_cons_of_ne_nil hidle
  have hguard : ¬ (!s.live || decide (1024 ≤ core) || (s.core core).pause.isSome || (s.idleOn core).isEmpty) = true := by
    simp [hlive, hpause, hidle, hcore]
  refine ⟨fun k hw hdual => ?_, fun hw => ?_⟩
  · have hstart : (s.takeFrom v k.id).startCopies tid { k with home := core } = some ((s.takeFrom v k.id).startCard tid { k with home := core }) :=
      startCopies_single _ tid fun h => Bool.false_ne_true (hdual.symm.trans h.1)
    have hstep : s.stealStep core = some ((s.takeFrom v k.id).startCard tid { k with home := core }) := by
      unfold State.stealStep
      refine (if_neg hguard).trans ((if_neg (by simp [hnone])).trans ?_)
      dsimp only
      rw [hw, Option.bind_some, hi, List.head?_cons, Option.bind_some, hstart]
    have hb := takeFrom_butCards s v k.id
    obtain ⟨-, -, hcard⟩ := startCard_runs (s.takeFrom v k.id) tid { k with home := core }
    refine ⟨_, tid, rest, _, event_some hstep, hi, (startCard_others (s.takeFrom v k.id) tid { k with home := core }).notes,
      (hb.trans (startCard_sameButCards ..)).memory, ?_, hcard, rfl, rfl, rfl, rfl, coreOf_idle (s := s) (by simp [hi])⟩
    rw [startCard_deque, takeFrom_deque]
  · have hstep : s.stealStep core = if (s.core core).scan = 1022 then
        some (s.setCore core { s.core core with scan := 0, pause := some (s.cycle core + 64) })
      else some (s.setCore core { s.core core with scan := (s.core core).scan + 1 }) := by
      unfold State.stealStep
      refine (if_neg hguard).trans ((if_neg (by simp [hnone])).trans ?_)
      dsimp only
      rw [hw]
      rfl
    by_cases hlast : (s.core core).scan = 1022
    · rw [if_pos hlast] at hstep
      refine ⟨_, event_some hstep, rfl, SameBytes.memory ⟨rfl, rfl, rfl, rfl⟩, fun _ => by rw [State.core_setCore_same], fun h => by omega⟩
    · rw [if_neg hlast] at hstep
      refine ⟨_, event_some hstep, rfl, SameBytes.memory ⟨rfl, rfl, rfl, rfl⟩, fun h => absurd h hlast, fun _ => ?_⟩
      rw [State.core_setCore_same]
      exact ⟨hpause, rfl⟩

theorem pausesEnd (s : State) (core n : Nat) (hp : (s.core core).pause = some n) (hlive : s.live = true) :
    (n ≤ s.cycle core → ∃ t, exec (.stealPauseEnd core) s = .next t ∧ (t.core core).pause = none ∧ (t.core core).scan = 0 ∧
      t.threads = s.threads ∧ SameMemory s t) ∧
    (s.cycle core < n → exec (.stealPauseEnd core) s = .next s) := by
  have hstep : s.stealPauseEnd core = if s.live && decide (n ≤ s.cycle core) then some (s.setCore core { s.core core with pause := none, scan := 0 })
      else none := by
    unfold State.stealPauseEnd
    dsimp only
    rw [hp]
  refine ⟨fun h => ⟨_, event_some (hstep.trans (if_pos (by simp [hlive, h]))), ?_, ?_, rfl, SameBytes.memory ⟨rfl, rfl, rfl, rfl⟩⟩,
    fun h => event_none (hstep.trans (if_neg (by simp [h])))⟩
  · rw [State.core_setCore_same]
  · rw [State.core_setCore_same]

/-! Ageing (R95). -/

theorem cardsAge (s : State) (id core : Nat) (k : Core)
    (hf : s.cores.find? (fun p => p.2.deque.any fun c => c.id == id && !c.aged && decide (c.since + 2 ^ 20 < s.time)) = some (core, k))
    (hk : s.core core = k) :
    ∃ t, exec (.ageing id) s = .next t ∧ t.threads = s.threads ∧ SameMemory s t ∧
      (t.core core).deque = k.deque.map (fun c => if c.id = id then { c with aged := true } else c) ∧ (∀ c, c ≠ core → t.core c = s.core c) ∧
      ∀ c ∈ (t.core core).deque, c.id = id → c.agedClass = 3 := by
  have hstep : s.age id = some (s.modCore core fun k => { k with deque := k.deque.map fun c => if c.id = id then { c with aged := true } else c }) := by
    have hage : s.cores.find? (fun p => p.2.deque.any fun c => c.id == id && !c.aged && s.agedSince c.since) = some (core, k) := hf
    unfold State.age
    rw [hage]
  have hdeque : ((s.modCore core fun k => { k with deque := k.deque.map fun c => if c.id = id then { c with aged := true } else c }).core core).deque =
      k.deque.map (fun c => if c.id = id then { c with aged := true } else c) := by
    unfold State.modCore
    rw [State.core_setCore_same, hk]
  refine ⟨_, event_some hstep, rfl, SameBytes.memory ⟨rfl, rfl, rfl, rfl⟩, hdeque, fun c hc => State.core_setCore_other _ _ _ _ hc, fun c hc hid => ?_⟩
  rw [hdeque] at hc
  obtain ⟨d, -, hd⟩ := List.mem_map.1 hc
  by_cases hdi : d.id = id
  · rw [if_pos hdi] at hd
    rw [← hd]
    rfl
  · rw [if_neg hdi] at hd
    exact absurd (hd ▸ hid) hdi

/-- Settles O54, clause by clause: dispatch, placement, admission, pick-up, the choice of a thread set, posted cards, steal scans and ageing. -/
theorem schedulerSteps : Obligations.SchedulerSteps := by
  unfold Obligations.SchedulerSteps
  exact ⟨fun s q hl h => event_none (by unfold State.queueDispatch; rw [plan_idle hl h]),
    fun s q img hlive hl hb hk => headDispatches s q img hlive hl hb hk, placeCard_least, gangAdmits, pickups, bestPick_highest, postedCards, stealSteps,
    victimAt_reaches, pausesEnd, cardsAge⟩

end Sys2Proof.Proofs
end

section
/-! PROOFS. Cards that end (R94, R100, R102, R113): what the books, the groups and the tags that learn of it leave alone. -/

namespace Sys2Proof.Proofs

open Sys2Proof Sys2Proof.Machine

/-- A map whose values all change as one function says, which keeps the default value. -/
theorem aget_mapValues {α : Type} (f : α → α) (d : α) (hd : f d = d) (m : AMap α) (k : Nat) :
    aget d (m.map fun p => (p.1, f p.2)) k = f (aget d m k) := by
  induction m with
  | nil => exact hd.symm
  | cons p m ih =>
    rw [List.map_cons]
    unfold aget
    split
    · rfl
    · exact ih

/-- What the end of a card changes: books, host queues, group slots; of cores tags, packets and allocations. -/
structure EndFrame (s t : State) : Prop where
  outside : ({ t with entries := s.entries, queues := s.queues, msix := s.msix, groups := s.groups, cores := s.cores } : State) = s
  cores : ∀ c, ({ t.core c with tags := (s.core c).tags, inbox := (s.core c).inbox, heap := (s.core c).heap, allocs := (s.core c).allocs } : Core) = s.core c

theorem EndFrame.refl (s : State) : EndFrame s s := ⟨rfl, fun _ => rfl⟩

theorem EndFrame.trans {s t u : State} (a : EndFrame s t) (b : EndFrame t u) : EndFrame s u := by
  refine ⟨?_, fun c => ?_⟩
  · have h := congrArg (fun w : State =>
      ({ w with entries := s.entries, queues := s.queues, msix := s.msix, groups := s.groups, cores := s.cores } : State)) b.outside
    exact h.trans a.outside
  · have h := congrArg (fun w : Core =>
      ({ w with tags := (s.core c).tags, inbox := (s.core c).inbox, heap := (s.core c).heap, allocs := (s.core c).allocs } : Core)) (b.cores c)
    exact h.trans (a.cores c)

theorem EndFrame.bytes {s t : State} (a : EndFrame s t) : SameBytes s t := by
  have hm := congrArg State.mem a.outside
  have hv := congrArg State.vague a.outside
  have hc := congrArg State.gcolNow a.outside
  have hf := congrArg State.gfold a.outside
  exact ⟨hm, hv, hc, hf⟩

theorem EndFrame.threads {s t : State} (a : EndFrame s t) : t.threads = s.threads := by
  have h := congrArg State.threads a.outside
  exact h

theorem EndFrame.launches {s t : State} (a : EndFrame s t) : t.launches = s.launches := by
  have h := congrArg State.launches a.outside
  exact h

theorem EndFrame.waitingOf {s t : State} (a : EndFrame s t) (c id : Nat) : (t.core c).waitingOf id = (s.core c).waitingOf id := by
  have h := congrArg (Core.waitingOf · id) (a.cores c)
  exact h

/-- Only the books, the host queues and what they raise have changed. -/
def BooksOnly (s t : State) : Prop := ({ t with entries := s.entries, queues := s.queues, msix := s.msix } : State) = s

theorem BooksOnly.refl (s : State) : BooksOnly s s := rfl

theorem BooksOnly.trans {s t u : State} (a : BooksOnly s t) (b : BooksOnly t u) : BooksOnly s u := by
  have h := congrArg (fun w : State => ({ w with entries := s.entries, queues := s.queues, msix := s.msix } : State)) b
  exact h.trans a

theorem BooksOnly.cores {s t : State} (a : BooksOnly s t) : t.cores = s.cores := by
  have h := congrArg State.cores a
  exact h

theorem BooksOnly.endFrame {s t : State} (h : BooksOnly s t) : EndFrame s t := by
  have hg := congrArg (fun w : State => ({ w with groups := s.groups, cores := s.cores } : State)) h
  refine ⟨hg, fun c => ?_⟩
  have hcc : t.core c = s.core c := by
    unfold State.core
    rw [h.cores]
  rw [hcc]

theorem endFrame_modCore {s : State} {c : Nat} {f : Core → Core}
    (h : ({ f (s.core c) with tags := (s.core c).tags, inbox := (s.core c).inbox, heap := (s.core c).heap, allocs := (s.core c).allocs } : Core) = s.core c) :
    EndFrame s (s.modCore c f) := by
  refine ⟨rfl, fun d => ?_⟩
  unfold State.modCore
  by_cases hd : d = c
  · subst hd
    rw [State.core_setCore_same]
    exact h
  · rw [State.core_setCore_other _ _ _ _ hd]

theorem releaseTag_endFrame (s : State) (core card : Nat) : EndFrame s (s.releaseTag core card) := by
  unfold State.releaseTag
  split
  · exact .refl s
  · exact (endFrame_modCore rfl).trans (endFrame_modCore rfl)

theorem queueError_books (s : State) (q : Nat) (code : BitVec 8) : BooksOnly s (s.queueError q code) := by
  rw [queueError_eq]
  rfl

theorem queueDone_books (s : State) (q : Nat) : BooksOnly s (s.queueDone q) := by
  rw [queueDone_eq]
  rfl

theorem finishEntry_books (s : State) (id : Nat) (e : Entry) : BooksOnly s (s.finishEntry id e) := by
  have h : BooksOnly s { s with entries := adel s.entries id } := rfl
  unfold State.finishEntry
  dsimp only
  split
  · exact h.trans (queueError_books _ _ _)
  · split
    · exact h
    · exact h.trans (queueDone_books _ _)

theorem compareCopies_books (s : State) (q : Nat) (a b : Option Word) : BooksOnly s (s.compareCopies q a b).1 := by
  unfold State.compareCopies
  split
  · exact .refl s
  · rfl

/-- What an entry hears of a card that ends: of a dual-run card the signature, compared once both copies have ended (R102). -/
def heardEnd (s : State) (e : Entry) (dual : Option Nat) (sig : Option Word) (reset : Bool) : State × Entry :=
  match dual with
  | none => (s, { e with bad := e.bad || reset })
  | some k => match e.sigs.find? fun p => p.1 == k with
    | none => (s, { e with sigs := e.sigs ++ [(k, sig)] })
    | some p => ((s.compareCopies e.queue p.2 sig).1,
        { e with sigs := e.sigs.filter fun q => q.1 != k, bad := e.bad || !(s.compareCopies e.queue p.2 sig).2 })

/-- An entry has one card less; with the last one it leaves the books. -/
def entryLess (s : State) (id : Nat) (e : Entry) : State :=
  if e.left - 1 = 0 then s.finishEntry id { e with left := e.left - 1 } else { s with entries := aput s.entries id { e with left := e.left - 1 } }

theorem entryCardEnds_none {s : State} {id : Nat} (h : afind s.entries id = none) (dual : Option Nat) (sig : Option Word) (reset : Bool) :
    s.entryCardEnds id dual sig reset = s := by
  unfold State.entryCardEnds
  rw [h]

theorem entryCardEnds_some {s : State} {id : Nat} {e : Entry} (h : afind s.entries id = some e) (dual : Option Nat) (sig : Option Word) (reset : Bool) :
    s.entryCardEnds id dual sig reset = entryLess (heardEnd s e dual (if e.dead then none else sig) reset).1 id
      (heardEnd s e dual (if e.dead then none else sig) reset).2 := by
  unfold State.entryCardEnds
  rw [h]
  rfl

theorem heardEnd_books (s : State) (e : Entry) (dual : Option Nat) (sig : Option Word) (reset : Bool) : BooksOnly s (heardEnd s e dual sig reset).1 := by
  unfold heardEnd
  split
  · exact .refl s
  · split
    · exact .refl s
    · exact compareCopies_books _ _ _ _

theorem entryLess_books (s : State) (id : Nat) (e : Entry) : BooksOnly s (entryLess s id e) := by
  unfold entryLess
  split
  · exact finishEntry_books _ _ _
  · rfl

theorem entryCardEnds_books (s : State) (id : Nat) (dual : Option Nat) (sig : Option Word) (reset : Bool) :
    BooksOnly s (s.entryCardEnds id dual sig reset) := by
  cases h : afind s.entries id with
  | none => rw [entryCardEnds_none h]; exact .refl s
  | some e => rw [entryCardEnds_some h]; exact (heardEnd_books _ _ _ _ _).trans (entryLess_books _ _ _)

theorem freeGroup_endFrame (s : State) (slot : Nat) : EndFrame s (s.freeGroup slot) := by
  refine ⟨rfl, fun c => ?_⟩
  have hc : (s.freeGroup slot).core c = { s.core c with allocs := (s.core c).allocs.filter fun a => a.slot != slot } :=
    aget_mapValues (fun k : Core => { k with allocs := k.allocs.filter fun a => a.slot != slot }) {} rfl s.cores c
  rw [hc]

theorem seatEnds_endFrame (s : State) (slot tid : Nat) : EndFrame s (s.seatEnds slot tid) := by
  unfold State.seatEnds
  split
  · exact .refl s
  · dsimp only
    split
    · refine EndFrame.trans ?_ (freeGroup_endFrame _ _)
      exact ⟨rfl, fun _ => rfl⟩
    · exact ⟨rfl, fun _ => rfl⟩

theorem endCard_endFrame (s : State) (c : Card) (exited reset : Bool) : EndFrame s (s.endCard c exited reset) := by
  have hentry (u : State) (o : Option Nat) : EndFrame u (match o with
      | some id => u.entryCardEnds id (c.copy.map fun _ => c.twin) (if exited then some c.sig else none) reset
      | none => u) := by
    cases o with
    | none => exact .refl u
    | some id => exact (entryCardEnds_books _ _ _ _ _).endFrame
  have hseat (u : State) (o : Option Nat) : EndFrame u (match o with | some tid => u.seatEnds c.group tid | none => u) := by
    cases o with
    | none => exact .refl u
    | some tid => exact seatEnds_endFrame ..
  unfold State.endCard
  exact (hentry ..).trans (hseat ..)

theorem discardCard_endFrame (s : State) (core : Nat) (c : Card) : EndFrame s (s.discardCard core c) :=
  (releaseTag_endFrame ..).trans (endCard_endFrame ..)

theorem discardCards_endFrame (l : List (Nat × Card)) : ∀ s : State, EndFrame s (l.foldl (fun s p => s.discardCard p.1 p.2) s) := by
  induction l with
  | nil => exact .refl
  | cons p l ih => exact fun s => (discardCard_endFrame ..).trans (ih _)

end Sys2Proof.Proofs
end

section
/-! PROOFS. Slices, watchdogs, requests for pre-emption and deadlines (R99, R100, R143, R145, R381). -/

namespace Sys2Proof.Proofs

open Sys2Proof Sys2Proof.Machine

/-! Slices (R99). -/

section
variable {s : State} {tid : Nat} {c : Card} (hc : (s.thread tid).card = some c)
include hc

/-- A slice that does not run, or has not run out. -/
theorem sliceExpiry_early (h : c.slice = 0 ∨ s.cycle (coreOf tid) < (s.thread tid).sliceAt) : s.sliceExpiry tid = none := by
  unfold State.sliceExpiry
  dsimp only
  rw [hc]
  exact if_pos (h.imp id .inr)

variable (h0 : c.slice ≠ 0) (ha : (s.thread tid).sliceAt ≠ 0) (hd : (s.thread tid).sliceAt ≤ s.cycle (coreOf tid))
include h0 ha hd

theorem sliceExpiry_due : s.sliceExpiry tid =
    if (s.core (coreOf tid)).deque.any (fun k => decide (s.effClass c ≤ s.effClass k) && s.mayTake tid k) ||
      (!s.reserved tid && s.queueWaits tid (s.effClass c)) then
      some (s.setThread tid { s.thread tid with preempts := (s.thread tid).preempts ++ [0], sliceAt := 0 })
    else some (s.setThread tid { s.thread tid with sliceAt := s.cycle (coreOf tid) + c.slice }) := by
  unfold State.sliceExpiry
  dsimp only
  rw [hc]
  exact if_neg (by simp [h0, ha, Nat.not_lt.2 hd])

theorem sliceExpiry_alone (hq : (s.core (coreOf tid)).deque = []) (hn : s.queues = []) :
    s.sliceExpiry tid = some (s.modThread tid fun t => { t with sliceAt := s.cycle (coreOf tid) + c.slice }) := by
  have hw : s.queueWaits tid (s.effClass c) = false := by
    unfold State.queueWaits
    dsimp only
    rw [hn]
    rfl
  rw [sliceExpiry_due hc h0 ha hd, hq, hw, Bool.and_false]
  rfl

theorem sliceExpiry_asks (hk : ∃ k ∈ (s.core (coreOf tid)).deque, s.mayTake tid k = true ∧ s.effClass c ≤ s.effClass k) :
    s.sliceExpiry tid = some (s.setThread tid { s.thread tid with preempts := (s.thread tid).preempts ++ [0], sliceAt := 0 }) := by
  obtain ⟨k, hin, ht, hle⟩ := hk
  have hany : (s.core (coreOf tid)).deque.any (fun k => decide (s.effClass c ≤ s.effClass k) && s.mayTake tid k) = true :=
    List.any_eq_true.2 ⟨k, hin, by simp [hle, ht]⟩
  rw [sliceExpiry_due hc h0 ha hd, hany, Bool.true_or]
  rfl

end

theorem slices (s : State) (tid : Nat) (c : Card) (hc : (s.thread tid).card = some c) :
    let asks (t : State) (n : BitVec 2) := t.thread tid = { s.thread tid with preempts := (s.thread tid).preempts ++ [n], sliceAt := (t.thread tid).sliceAt }
    (c.slice = 0 ∨ s.cycle (coreOf tid) < (s.thread tid).sliceAt → exec (.sliceExpiry tid) s = .next s) ∧
    (c.slice ≠ 0 → (s.thread tid).sliceAt ≠ 0 → (s.thread tid).sliceAt ≤ s.cycle (coreOf tid) →
      ((s.core (coreOf tid)).deque = [] → s.queues = [] → exec (.sliceExpiry tid) s =
        .next (s.modThread tid fun t => { t with sliceAt := s.cycle (coreOf tid) + c.slice })) ∧
      ((∃ k ∈ (s.core (coreOf tid)).deque, s.mayTake tid k = true ∧ s.effClass c ≤ s.effClass k) →
        ∃ t, exec (.sliceExpiry tid) s = .next t ∧ asks t 0 ∧ OthersOf s t tid ∧ SameMemory s t)) := by
  intro asks
  refine ⟨fun h => event_none (sliceExpiry_early hc h), fun h0 ha hd => ⟨fun hq hn => event_some (sliceExpiry_alone hc h0 ha hd hq hn), fun hk => ?_⟩⟩
  refine ⟨_, event_some (sliceExpiry_asks hc h0 ha hd hk), ?_, fun k hne => State.thread_setThread_other _ _ _ _ hne,
    SameBytes.memory ⟨rfl, rfl, rfl, rfl⟩⟩
  show State.thread _ tid = _
  rw [State.thread_setThread_same]

/-! Watchdogs (R100). -/

/-- What runs of an entry is asked to end. -/
def askedToEnd (id : Nat) (t : Thread) : Thread :=
  match t.card with
  | some c => if c.ofEntry id then { t with preempts := t.preempts ++ [2] } else t
  | none => t

theorem askedToEnd_of {id : Nat} {t : Thread} (h : ∀ c, t.card = some c → c.entry = some id) (hc : t.card ≠ none) :
    askedToEnd id t = { t with preempts := t.preempts ++ [2] } := by
  obtain ⟨c, hc⟩ := Option.ne_none_iff_exists'.1 hc
  unfold askedToEnd
  rw [hc]
  exact if_pos (by simp [Card.ofEntry, h c hc])

theorem askedToEnd_other {id : Nat} {t : Thread} (h : ∀ c, t.card = some c → c.entry ≠ some id) : askedToEnd id t = t := by
  unfold askedToEnd
  split
  · next c hc => exact if_neg (by simp [Card.ofEntry, h c hc])
  · rfl

/-- The state in which the watchdog has asked what runs to end. -/
def askedState (s : State) (id : Nat) (e : Entry) : State :=
  { s with entries := aput s.entries id { e with dead := true }, threads := s.threads.map fun p => (p.1, askedToEnd id p.2) }

theorem askedState_thread (s : State) (id : Nat) (e : Entry) (k : Nat) : (askedState s id e).thread k = askedToEnd id (s.thread k) :=
  aget_mapValues (f := askedToEnd id) (d := ({} : Thread)) rfl s.threads k

/-- The state in which the entry has nothing left that waits, before its cards end. -/
def cleared (s : State) (id : Nat) : State :=
  { s with
    launches := adel s.launches id
    evictions := s.evictions.map fun (e : Eviction) =>
      { e with cards := e.cards.filter (fun v => !v.card.ofEntry id), ready := e.ready.filter (fun c => !c.ofEntry id) }
    cores := s.cores.map fun p => (p.1, p.2.discard id)
    entries := s.entries.map fun p => if p.1 = id then (p.1, { p.2 with
      left := p.2.left - (match afind s.launches id with
        | some l => (l.count - l.next) * l.perGroup * l.copies
        | none => 0)
      unpicked := 0 }) else p }

theorem discardEntry_endFrame (s : State) (id : Nat) : EndFrame (cleared s id) (s.discardEntry id) := by
  have hlast (u : State) (o : Option Entry) : EndFrame u (match o with | some e => if e.left = 0 then u.finishEntry id e else u | none => u) := by
    cases o with
    | none => exact .refl u
    | some e =>
      dsimp only
      split
      · exact (finishEntry_books _ _ _).endFrame
      · exact .refl u
  unfold State.discardEntry
  exact (discardCards_endFrame _ (cleared s id)).trans (hlast _ _)

/-- A core without an entry's waiting cards has none. -/
theorem discard_waitingOf (k : Core) (id : Nat) : (k.discard id).waitingOf id = [] := by
  unfold Core.waitingOf Core.discard
  simp only [List.filter_eq_nil_iff, List.mem_append, List.mem_map, List.mem_filter]
  rintro c ((⟨-, h⟩ | ⟨-, h⟩) | ⟨v, ⟨-, h⟩, rfl⟩)
  · simpa using h
  · simpa using h
  · simpa using h

theorem cleared_waitingOf (s : State) (id c : Nat) : ((cleared s id).core c).waitingOf id = [] := by
  have hc : (cleared s id).core c = (s.core c).discard id := aget_mapValues (f := fun k : Core => k.discard id) (d := ({} : Core)) rfl s.cores c
  rw [hc, discard_waitingOf]

theorem watchdog_early {s : State} {id at_ : Nat} {e : Entry} (he : afind s.entries id = some e) (ha : e.wdogAt = some at_) (h : s.time < at_) :
    s.watchdog id = none := by
  unfold State.watchdog
  rw [he]
  dsimp only
  rw [ha]
  exact if_pos (by simp [h])

theorem watchdog_due {s : State} {id at_ : Nat} {e : Entry} (he : afind s.entries id = some e) (ha : e.wdogAt = some at_) (hd : e.dead = false)
    (hr : s.ready = true) (hp : s.pstate = 0) (h : at_ ≤ s.time) : s.watchdog id = some ((askedState s id e).discardEntry id) := by
  have hthreads : askedState s id e = { s with
      entries := aput s.entries id { e with dead := true }
      threads := s.threads.map fun p => match p.2.card with
        | some c => if c.ofEntry id then (p.1, { p.2 with preempts := p.2.preempts ++ [2] }) else p
        | none => p } := by
    have hmap (p : Nat × Thread) : (p.1, askedToEnd id p.2) = match p.2.card with
        | some c => if c.ofEntry id then (p.1, { p.2 with preempts := p.2.preempts ++ [2] }) else p
        | none => p := by
      unfold askedToEnd
      dsimp only
      cases p.2.card with
      | none => rfl
      | some c =>
        by_cases ho : c.ofEntry id = true
        · dsimp only
          rw [if_pos ho, if_pos ho]
        · dsimp only
          rw [if_neg ho, if_neg ho]
    exact congrArg (fun f => ({ s with entries := aput s.entries id { e with dead := true }, threads := s.threads.map f } : State)) (funext hmap)
  rw [hthreads]
  unfold State.watchdog
  rw [he]
  dsimp only
  rw [ha]
  exact (if_neg (by simp [hd, hr, h])).trans (if_neg (by simp [hp]))

theorem watchdogs (s : State) (id at_ : Nat) (e : Entry) (he : afind s.entries id = some e) (ha : e.wdogAt = some at_) (hd : e.dead = false)
    (hr : s.ready = true) (hp : s.pstate = 0) :
    (s.time < at_ → exec (.watchdogExpiry id) s = .next s) ∧
    (at_ ≤ s.time → ∃ t, exec (.watchdogExpiry id) s = .next t ∧ SameMemory s t ∧
      (∀ core, (t.core core).waitingOf id = []) ∧ afind t.launches id = none ∧
      ∀ k, (∀ c, (s.thread k).card = some c → c.entry = some id → t.thread k = { s.thread k with preempts := (s.thread k).preempts ++ [2] }) ∧
        ((∀ c, (s.thread k).card = some c → c.entry ≠ some id) → t.thread k = s.thread k)) := by
  refine ⟨fun h => event_none (watchdog_early he ha h), fun h => ⟨_, event_some (watchdog_due he ha hd hr hp h), ?_⟩⟩
  have hend := discardEntry_endFrame (askedState s id e) id
  have hbytes : SameBytes s (cleared (askedState s id e) id) := ⟨rfl, rfl, rfl, rfl⟩
  have hthread (k : Nat) : ((askedState s id e).discardEntry id).thread k = askedToEnd id (s.thread k) := by
    have hk : ((askedState s id e).discardEntry id).thread k = (askedState s id e).thread k := by
      unfold State.thread
      rw [hend.threads]
      rfl
    exact hk.trans (askedState_thread ..)
  refine ⟨sameMemory_trans hbytes.memory hend.bytes.memory, fun core => (hend.waitingOf core id).trans (cleared_waitingOf ..), ?_,
    fun k => ⟨fun c hc hid => ?_, fun hne => (hthread k).trans (askedToEnd_other hne)⟩⟩
  · rw [hend.launches]
    exact afind_adel_same ..
  · rw [hthread, askedToEnd_of (fun d hd => by rw [hc] at hd; cases hd; exact hid) (by simp [hc])]

/-! A step for each thread set of a list (R145, R381). -/

/-- A step that acts on one thread set at a time, for every thread set of a list. -/
theorem foldl_threads {s : State} {step : State → Nat → State} {f : Nat → Thread → Thread}
    (hstep : ∀ (u : State) (tid : Nat), ({ u with threads := s.threads } : State) = s →
      ({ step u tid with threads := s.threads } : State) = s ∧ ∀ k, (step u tid).thread k = if k = tid then f k (u.thread k) else u.thread k)
    (l : List Nat) : ∀ u : State, l.Nodup → ({ u with threads := s.threads } : State) = s →
      ({ l.foldl step u with threads := s.threads } : State) = s ∧
      ∀ k, (l.foldl step u).thread k = if k ∈ l then f k (u.thread k) else u.thread k := by
  induction l with
  | nil => exact fun u _ hu => ⟨hu, fun k => by simp⟩
  | cons a l ih =>
    intro u hn hu
    obtain ⟨ha, hl⟩ := List.nodup_cons.1 hn
    obtain ⟨hf, ht⟩ := hstep u a hu
    obtain ⟨hf', ht'⟩ := ih (step u a) hl hf
    refine ⟨hf', fun k => (ht' k).trans ?_⟩
    rw [ht]
    by_cases hk : k = a
    · subst hk
      simp [ha]
    · simp [hk]

/-- A thread set that has a card takes a requested pre-emption, once (R381). -/
def askedOnce (asked : Bool) (t : Thread) : Thread :=
  if asked && t.card.isSome && !t.preempts.contains 3 then { t with preempts := t.preempts ++ [3] } else t

theorem nodup_tidsOf (core : Nat) : (tidsOf core).Nodup := by simp [tidsOf]

theorem preempt_eq (s : State) (core : Nat) (val : Word) : s.preempt core val = (tidsOf core).foldl (fun u tid =>
    if val.getLsbD (tid - 4 * core) && (u.thread tid).card.isSome && !(u.thread tid).preempts.contains 3 then
      u.modThread tid fun t => { t with preempts := t.preempts ++ [3] }
    else u) s := by
  have hl : tidsOf core = (List.range 4).map (4 * core + ·) := rfl
  unfold State.preempt
  rw [hl, List.foldl_map]
  simp only [Nat.add_sub_cancel_left]

theorem preempts (s : State) (core : Nat) (val : Word) (hc : core < 1024) : ∃ t, exec (.preempt core val) s = .next t ∧ SameMemory s t ∧ t.cores = s.cores ∧
    ∀ k, t.thread k = if k / 4 = core ∧ val.getLsbD (k % 4) = true ∧ (s.thread k).card ≠ none ∧ 3 ∉ (s.thread k).preempts
      then { s.thread k with preempts := (s.thread k).preempts ++ [3] } else s.thread k := by
  obtain ⟨hframe, hthread⟩ := foldl_threads (s := s) (f := fun k t => askedOnce (val.getLsbD (k - 4 * core)) t)
    (step := fun u tid => if val.getLsbD (tid - 4 * core) && (u.thread tid).card.isSome && !(u.thread tid).preempts.contains 3 then
      u.modThread tid fun t => { t with preempts := t.preempts ++ [3] } else u) (fun u tid hu => by
      split
      · next h =>
        refine ⟨hu, fun k => ?_⟩
        by_cases hk : k = tid
        · subst hk
          rw [if_pos rfl]
          exact (State.thread_setThread_same ..).trans (if_pos h).symm
        · rw [if_neg hk]
          exact State.thread_setThread_other _ _ _ _ hk
      · next h =>
        refine ⟨hu, fun k => ?_⟩
        by_cases hk : k = tid
        · subst hk
          rw [if_pos rfl]
          exact (if_neg h).symm
        · rw [if_neg hk]) (tidsOf core) s (nodup_tidsOf core) rfl
  rw [← preempt_eq] at hframe hthread
  have hm := congrArg State.mem hframe
  have hv := congrArg State.vague hframe
  have hg := congrArg State.gcolNow hframe
  have hf := congrArg State.gfold hframe
  have hcores := congrArg State.cores hframe
  refine ⟨_, event_some (if_pos (by simp [hc])), SameBytes.memory ⟨hm, hv, hg, hf⟩, hcores, fun k => (hthread k).trans ?_⟩
  by_cases hk : k / 4 = core
  · have hin : k ∈ tidsOf core := by
      simp only [tidsOf, List.mem_cons, List.not_mem_nil, or_false]
      omega
    have hmod : k - 4 * core = k % 4 := by omega
    rw [if_pos hin, hmod]
    unfold askedOnce
    simp [hk, Option.isSome_iff_ne_none, and_assoc]
  · rw [if_neg (fun hin => hk (mem_tidsOf hin)), if_neg (fun h => hk h.1)]

/-! Deadlines (R145). -/

theorem deadlines (s : State) (tid : Nat) (hc : (s.thread tid).card.isSome = true) (hd : (s.thread tid).deadlineHit = false)
    (hp : 1 ∉ (s.thread tid).preempts) :
    ((s.thread tid).ckptab.getLsbD 1 = true → (s.thread tid).deadlineAt ≤ s.cycle (coreOf tid) →
      exec (.checkpointDeadline tid) s = .next (s.modThread tid fun t => { t with preempts := t.preempts ++ [1] })) ∧
    ((s.thread tid).ckptab.getLsbD 1 = false ∨ s.cycle (coreOf tid) < (s.thread tid).deadlineAt → exec (.checkpointDeadline tid) s = .next s) := by
  refine ⟨fun hb hle => event_some (if_pos ?_), fun h => event_none (if_neg ?_)⟩
  · have hp1 : (s.thread tid).preempts.contains 1 = false := by simpa using hp
    simp only [hc, hb, hd, hp1, hle, Bool.not_false, decide_true, Bool.and_self]
  · obtain h | h := h
    · simp only [h, Bool.and_false, Bool.false_and]
      exact nofun
    · simp [Nat.not_le.2 h]

end Sys2Proof.Proofs
end

section
/-! PROOFS. Eviction and re-admission of an allocation (R145, R147, R149, R150, R381). -/

namespace Sys2Proof.Proofs

open Sys2Proof Sys2Proof.Machine

/-! The request (R145). -/

theorem low_toNat (h : Word) (n : Nat) : (h.extractLsb' 0 n).toNat = h.toNat % 2 ^ n :=
  (field_toNat h 0 n).trans (congrArg (· % 2 ^ n) (Nat.div_one _))

/-- A thread set that is asked to checkpoint: PEND, and its deadline counter loaded. -/
def askedToCkpt (n : Nat) (t : Thread) : Thread := { t with ckptab := t.ckptab ||| 2, deadlineAt := n + (t.ckptmax.extractLsb' 0 32).toNat }

/-- The core whose allocation is asked for. -/
def coreAsked (s : State) (core slot : Nat) : State :=
  s.modCore core fun c => { c with allocs := c.allocs.map fun a => if a.slot = slot then { a with evicting := true } else a }

theorem coreAsked_same (s : State) (core slot : Nat) : (coreAsked s core slot).core core =
    { s.core core with allocs := (s.core core).allocs.map fun a => if a.slot = slot then { a with evicting := true } else a } :=
  State.core_setCore_same ..

theorem coreAsked_cycle (s : State) (core slot : Nat) : (coreAsked s core slot).cycle core = s.cycle core := by
  unfold State.cycle
  rw [coreAsked_same]
  rfl

theorem markEvict_threads (s : State) (core slot : Nat) :
    ({ s.markEvict core slot with threads := s.threads } : State) = coreAsked s core slot ∧
    ∀ k, (s.markEvict core slot).thread k = if k ∈ s.allocTids core slot then askedToCkpt (s.cycle core) (s.thread k) else s.thread k := by
  have h := foldl_threads (s := coreAsked s core slot) (f := fun _ => askedToCkpt (s.cycle core))
    (step := fun u tid => u.modThread tid fun t => { t with
      ckptab := t.ckptab ||| 2, deadlineAt := u.cycle core + (t.ckptmax.extractLsb' 0 32).toNat }) (fun u tid hu => by
      have hcyc : u.cycle core = s.cycle core := by
        have h := congrArg (State.cycle · core) hu
        exact h.trans (coreAsked_cycle ..)
      refine ⟨hu, fun k => ?_⟩
      by_cases hk : k = tid
      · subst hk
        rw [if_pos rfl, hcyc]
        exact State.thread_setThread_same ..
      · rw [if_neg hk]
        exact State.thread_setThread_other _ _ _ _ hk)
    (s.allocTids core slot) (coreAsked s core slot) ((nodup_tidsOf core).filter _) rfl
  exact h

theorem markEvict_frame (s : State) (core slot : Nat) : ({ s.markEvict core slot with threads := s.threads, cores := s.cores } : State) = s := by
  have h := congrArg (fun u : State => ({ u with cores := s.cores } : State)) (markEvict_threads s core slot).1
  exact h

theorem markEvict_core (s : State) (core slot c : Nat) : (s.markEvict core slot).core c = (coreAsked s core slot).core c := by
  have h := congrArg (State.core · c) (markEvict_threads s core slot).1
  exact h

/-- What of a thread set a request leaves alone. -/
theorem markEvict_thread (s : State) (core slot k : Nat) : let u := (s.markEvict core slot).thread k
    u.card = (s.thread k).card ∧ u.gang = (s.thread k).gang ∧ u.x = (s.thread k).x ∧ u.pc = (s.thread k).pc ∧ u.steward = (s.thread k).steward := by
  dsimp only
  rw [(markEvict_threads s core slot).2 k]
  split <;> exact ⟨rfl, rfl, rfl, rfl, rfl⟩

theorem markEvict_allocTids (s : State) (core slot c n : Nat) : (s.markEvict core slot).allocTids c n = s.allocTids c n := by
  unfold State.allocTids
  simp only [(markEvict_thread s core slot _).1]

theorem markEvict_stopped (s : State) (core slot c : Nat) : ((s.markEvict core slot).core c).stopped = (s.core c).stopped ∧
    ((s.markEvict core slot).core c).deque = (s.core c).deque := by
  rw [markEvict_core]
  by_cases hc : c = core
  · subst hc
    rw [coreAsked_same]
    exact ⟨rfl, rfl⟩
  · have h : (coreAsked s core slot).core c = s.core c := State.core_setCore_other _ _ _ _ hc
    rw [h]
    exact ⟨rfl, rfl⟩

theorem markEvict_gangOn (s : State) (core slot c n : Nat) : (s.markEvict core slot).gangOn c n = s.gangOn c n := by
  unfold State.gangOn
  rw [markEvict_allocTids, (markEvict_stopped s core slot c).1]
  simp only [(markEvict_thread s core slot _).2.1]

/-! The eviction (R147). -/

/-- The allocation of a slot that a core evicts, if one is asked for. -/
def asksFor (s : State) (slot c : Nat) : Bool :=
  match (s.core c).allocOf slot with
  | some a => a.evicting
  | none => false

theorem rowCores_self (core : Nat) : core ∈ rowCores core := by
  simp only [rowCores, List.mem_map, List.mem_range]
  exact ⟨core % 8, by omega, by omega⟩

theorem nodup_rowCores (core : Nat) : (rowCores core).Nodup := List.Nodup.map (fun _ _ h => Nat.add_left_cancel h) List.nodup_range

theorem filter_eq_single {l : List Nat} {a : Nat} {p : Nat → Bool} (hn : l.Nodup) (ha : a ∈ l) (h : ∀ x ∈ l, p x = (x == a)) : l.filter p = [a] := by
  rw [List.filter_congr h, List.filter_beq, List.count_eq_one_of_mem hn ha]
  rfl

/-- One core of a row alone asks, without gang mode. -/
theorem settleSlot_alone {s : State} {core slot : Nat} {a : Alloc} (hself : (s.core core).allocOf slot = some a) (ha : a.evicting = true)
    (hother : ∀ c ∈ rowCores core, c ≠ core → asksFor s slot c = false) (hgang : s.gangOn core slot = false) :
    s.settleSlot core slot = if (s.allocTids core slot).isEmpty then s.evictNow core a false else s := by
  have hasks : asksFor s slot core = true := by
    unfold asksFor
    rw [hself]
    exact ha
  have hrow : ((rowCores core).any fun c => asksFor s slot c && s.gangOn c slot) = false := List.any_eq_false.2 fun c hc => by
    by_cases he : c = core
    · simp [he, hgang]
    · simp [hother c hc he]
  have hfilter : ((rowCores core).filter fun c => asksFor s slot c && (s.allocTids c slot).isEmpty) =
      if (s.allocTids core slot).isEmpty then [core] else [] := by
    split
    · next he =>
      refine filter_eq_single (nodup_rowCores core) (rowCores_self core) fun c hc => ?_
      by_cases h : c = core
      · simp [h, hasks, he]
      · simp [h, hother c hc h]
    · next he =>
      refine List.filter_eq_nil_iff.2 fun c hc => ?_
      by_cases h : c = core
      · simp [h, he]
      · simp [hother c hc h]
  unfold State.settleSlot
  refine (if_neg (by rw [Bool.not_eq_true]; exact hrow)).trans ?_
  refine (congrArg (List.foldl _ s) hfilter).trans ?_
  split
  · show (match (s.core core).allocOf slot with | some a => s.evictNow core a false | none => s) = _
    rw [hself]
  · rfl

theorem evictNow_spec (s : State) (core : Nat) (a : Alloc) : ∃ e, let t := s.evictNow core a false
    t.threads = s.threads ∧ t.core core = (s.core core).giveUp a ∧ t.evictions = s.evictions ++ [e] ∧ e.core = core ∧
    e.alloc = { a with evicting := false } ∧ e.ready = (s.core core).deque.filter (·.inGroup a.slot) := by
  refine ⟨s.image core a s.nextId false, ?_⟩
  have hc : (s.newId.2.modCore core (·.giveUp a)).core core = (s.core core).giveUp a := State.core_setCore_same ..
  unfold State.evictNow
  dsimp only
  split
  · exact ⟨rfl, hc, rfl, rfl, rfl, rfl⟩
  · exact ⟨rfl, hc, rfl, rfl, rfl, rfl⟩

theorem evict_ignored {s : State} {d : Nat} {val : Word} {a : Alloc} (hal : (s.core (d * 256 + val.toNat % 256)).allocs = [a]) (ha : a.evicting = false)
    (hp : s.poolRoom d a = false) : s.evict d val = s := by
  have hcore : d * 256 + (val.extractLsb' 0 8).toNat = d * 256 + val.toNat % 256 :=
    congrArg (d * 256 + ·) (low_toNat val 8)
  unfold State.evict
  dsimp only
  rw [hcore, hal]
  simp [ha, hp]

theorem evict_asks {s : State} {d : Nat} {val : Word} {a : Alloc} (hal : (s.core (d * 256 + val.toNat % 256)).allocs = [a]) (ha : a.evicting = false)
    (hp : s.poolRoom d a = true) (hw : s.evictedWith (d * 256 + val.toNat % 256) a.slot = [d * 256 + val.toNat % 256]) :
    s.evict d val = (s.markEvict (d * 256 + val.toNat % 256) a.slot).settleSlot (d * 256 + val.toNat % 256) a.slot := by
  have hcore : d * 256 + (val.extractLsb' 0 8).toNat = d * 256 + val.toNat % 256 :=
    congrArg (d * 256 + ·) (low_toNat val 8)
  have hal1 : ((s.markEvict (d * 256 + val.toNat % 256) a.slot).core (d * 256 + val.toNat % 256)).allocs = [{ a with evicting := true }] := by
    rw [markEvict_core, coreAsked_same, hal]
    simp
  have hsettle : (s.markEvict (d * 256 + val.toNat % 256) a.slot).settleEvict (d * 256 + val.toNat % 256) =
      (s.markEvict (d * 256 + val.toNat % 256) a.slot).settleSlot (d * 256 + val.toNat % 256) a.slot := by
    unfold State.settleEvict
    rw [hal1]
    rfl
  have hfind : [a].find? (fun a => !a.evicting) = some a := by simp [ha]
  unfold State.evict
  dsimp only
  rw [hcore, hal, hfind]
  dsimp only
  rw [if_pos hp, hw]
  exact hsettle

/-- EVICT (R145, R381). -/
theorem evictions (s : State) (d : Nat) (val : Word) (a : Alloc) (hlive : s.live = true) (hd : d < 4) :
    let core := d * 256 + val.toNat % 256
    (s.core core).allocs = [a] → a.evicting = false →
    (s.poolRoom d a = false → exec (.evict d val) s = .next s) ∧
    (s.poolRoom d a = true → s.evictedWith core a.slot = [core] →
      (∀ c ∈ rowCores core, c ≠ core → ∀ o ∈ (s.core c).allocs, o.slot = a.slot → o.evicting = false) →
      (s.allocTids core a.slot ≠ [] → ∃ t, exec (.evict d val) s = .next t ∧ SameMemory s t ∧ t.evictions = s.evictions ∧
        (t.core core).allocs = [{ a with evicting := true }] ∧
        ∀ k, k ∈ s.allocTids core a.slot → (t.thread k).ckptab.getLsbD 1 = true ∧
          (t.thread k).deadlineAt = s.cycle core + (s.thread k).ckptmax.toNat % 2 ^ 32 ∧ (t.thread k).pc = (s.thread k).pc) ∧
      (s.allocTids core a.slot = [] → ∃ t e, exec (.evict d val) s = .next t ∧ SamePcs s t ∧ (t.core core).allocs = [] ∧
        t.evictions = s.evictions ++ [e] ∧ e.core = core ∧ e.alloc = a ∧ e.ready = (s.core core).deque.filter (·.inGroup a.slot) ∧
        (t.core core).deque = (s.core core).deque.filter fun k => !k.inGroup a.slot)) := by
  intro core hal ha
  have hexec (t : State) (h : s.evict d val = t) : exec (.evict d val) s = .next t :=
    event_some ((if_pos (by simp [hlive, hd])).trans (congrArg some h))
  refine ⟨fun hp => hexec _ (evict_ignored hal ha hp), fun hp hw hrow => ?_⟩
  have hasks := evict_asks hal ha hp hw
  have hgang : s.gangOn core a.slot = false := by
    unfold State.evictedWith at hw
    split at hw
    · exact absurd (congrArg List.length hw) (by simp [rowCores])
    · next h => exact Bool.eq_false_iff.2 h
  have hal1 : ((s.markEvict core a.slot).core core).allocs = [{ a with evicting := true }] := by
    rw [markEvict_core, coreAsked_same, hal]
    simp
  have hself : ((s.markEvict core a.slot).core core).allocOf a.slot = some { a with evicting := true } := by
    unfold Core.allocOf
    rw [hal1]
    simp
  have hother : ∀ c ∈ rowCores core, c ≠ core → asksFor (s.markEvict core a.slot) a.slot c = false := fun c hc hne => by
    have hk : (s.markEvict core a.slot).core c = s.core c := (markEvict_core ..).trans (State.core_setCore_other _ _ _ _ hne)
    unfold asksFor
    rw [hk]
    cases ho : (s.core c).allocOf a.slot with
    | none => rfl
    | some o => exact hrow c hc hne o (List.mem_of_find?_eq_some ho) (by simpa using List.find?_some ho)
  have hsettle := settleSlot_alone hself rfl hother ((markEvict_gangOn ..).trans hgang)
  rw [markEvict_allocTids] at hsettle
  refine ⟨fun hruns => ?_, fun hnone => ?_⟩
  · rw [if_neg (by simpa using hruns)] at hsettle
    have hframe := markEvict_frame s core a.slot
    have hm := congrArg State.mem hframe
    have hv := congrArg State.vague hframe
    have hg := congrArg State.gcolNow hframe
    have hf := congrArg State.gfold hframe
    have he := congrArg State.evictions hframe
    refine ⟨_, hexec _ (hasks.trans hsettle), SameBytes.memory ⟨hm, hv, hg, hf⟩, he, hal1, fun k hk => ?_⟩
    rw [(markEvict_threads s core a.slot).2 k, if_pos hk]
    refine ⟨?_, ?_, rfl⟩
    · simp [askedToCkpt]
    · show s.cycle core + ((s.thread k).ckptmax.extractLsb' 0 32).toNat = _
      rw [low_toNat]
  · rw [if_pos (by simp [hnone])] at hsettle
    obtain ⟨e, hth, hcore, hev, hec, heal, her⟩ := evictNow_spec (s.markEvict core a.slot) core { a with evicting := true }
    have hev0 := congrArg State.evictions (markEvict_frame s core a.slot)
    replace hev0 : (s.markEvict core a.slot).evictions = s.evictions := hev0
    have hdq := (markEvict_stopped s core a.slot core).2
    refine ⟨_, e, hexec _ (hasks.trans hsettle), fun k => ?_, ?_, ?_, hec, ?_, ?_, ?_⟩
    · obtain ⟨-, -, hx, hpc, hst⟩ := markEvict_thread s core a.slot k
      unfold State.thread at hx hpc hst ⊢
      rw [hth]
      exact ⟨hx, hpc, hst⟩
    · rw [hcore]
      show ((s.markEvict core a.slot).core core).allocs.filter (fun b => b.slot != a.slot) = []
      rw [hal1]
      simp
    · rw [hev, hev0]
    · rw [heal, ← ha]
    · rw [her, hdq]
    · rw [hcore]
      show ((s.markEvict core a.slot).core core).deque.filter (fun k => !k.inGroup a.slot) = _
      rw [hdq]

/-! Re-admission (R149). -/

/-- Stores of a list of ranges change memory, reservations and values read early alone. -/
theorem foldl_store_frame (w : Writer) (b : Nat) (l : List (Nat × List Byte)) : ∀ s : State,
    SamePcs s (l.foldl (fun s p => s.store w (b + p.1) p.2) s) ∧
    ∃ m p v th, l.foldl (fun s p => s.store w (b + p.1) p.2) s = { s with mem := m, poison := p, vague := v, threads := th } := by
  induction l with
  | nil => exact fun s => ⟨fun _ => ⟨rfl, rfl, rfl⟩, s.mem, s.poison, s.vague, s.threads, rfl⟩
  | cons x l ih =>
    intro s
    obtain ⟨hpcs, m, p, v, th, h⟩ := ih (s.store w (b + x.1) x.2)
    obtain ⟨m', p', v', th', h'⟩ := store_frame s w (b + x.1) x.2
    refine ⟨samePcs_trans (store_samePcs _ _ _ _) hpcs, m, p, v, th, ?_⟩
    rw [List.foldl_cons, h, h']

/-- The state before the bytes come back. -/
def takenBack (s : State) (e : Eviction) (core : Nat) (m : List (Nat × Nat)) : State :=
  State.modCore { s with
      evictions := s.evictions.filter (fun x => x.id != e.id)
      groups := s.groups.map fun (p : Nat × Group) => if p.1 = e.alloc.slot then (p.1, p.2.moved m) else p } core
    fun c => c.takeBack e core m

theorem readmitOn_eq (s : State) (e : Eviction) (core : Nat) (m : List (Nat × Nat)) : s.readmitOn e core m =
    e.bytes.foldl (fun s p => s.store (.unit_ (dieOf core)) (spadBase core + p.1) p.2) (takenBack s e core m) := rfl

theorem takenBack_core (s : State) (e : Eviction) (core : Nat) (m : List (Nat × Nat)) :
    (takenBack s e core m).core core = (s.core core).takeBack e core m := State.core_setCore_same ..

theorem readmit_eq {s : State} {e : Eviction} (core : Nat) (hlive : s.live = true) (hf : s.evictions.find? (fun x => x.id == e.id) = some e)
    (hg : e.gang = false) : s.readmit e.id core =
      if s.takesEviction e core then (s.moveTids e core).map fun m => s.readmitOn e core m else none := by
  have hset : s.readmitSet e core = [(e, core)] := if_neg (by simp [hg])
  unfold State.readmit
  rw [hf]
  dsimp only
  rw [hset]
  exact if_neg (by simp [hlive, hg])

/-- A store that begins from the same bytes. -/
theorem stored_of_bytes {s t u : State} {a : Nat} {d : List Byte} (hb : SameBytes s t) (h : Stored t u a d) : Stored s u a d := by
  obtain ⟨hr, ho⟩ := h
  refine ⟨hr, fun b hap => (ho b fun i hi => ?_).trans (hb.readByte b)⟩
  obtain ⟨-, -, hc, hf⟩ := hb
  rw [keep_of_columns hc hf]
  exact hap i hi

theorem readmissions (s : State) (e : Eviction) (core : Nat) (m : List (Nat × Nat)) (hlive : s.live = true)
    (hfind : s.evictions.find? (fun x => x.id == e.id) = some e) (hg : e.gang = false) :
    (s.takesEviction e core = false → exec (.evictionReadmit e.id core) s = .next s) ∧
    (s.takesEviction e core = true → s.moveTids e core = some m → ∃ t, exec (.evictionReadmit e.id core) s = .next t ∧ SamePcs s t ∧
      t.evictions = s.evictions.filter (fun x => x.id != e.id) ∧ (t.core core).allocs = (s.core core).allocs ++ [e.alloc] ∧
      ((t.core core).stopped.map fun v => (v.card.id, v.evicted)) =
        ((s.core core).stopped.map fun v => (v.card.id, v.evicted)) ++ (e.cards.map fun v => (v.card.id, true)) ∧
      ∀ off d, e.bytes = [(off, d)] → (∀ b, s.keep b = b) → Stored s t (spadBase core + off) d) := by
  have hstep := readmit_eq core hlive hfind hg
  refine ⟨fun h => event_none (hstep.trans (if_neg (by simp [h]))), fun h hm => ⟨s.readmitOn e core m, ?_, ?_⟩⟩
  · exact event_some (hstep.trans ((if_pos h).trans (by rw [hm]; rfl)))
  · obtain ⟨hpcs, mem, p, v, th, hstore⟩ := foldl_store_frame (.unit_ (dieOf core)) (spadBase core) e.bytes (takenBack s e core m)
    rw [← readmitOn_eq] at hpcs hstore
    have hcore : (s.readmitOn e core m).core core = (s.core core).takeBack e core m := by
      rw [hstore]
      exact takenBack_core ..
    refine ⟨samePcs_trans (fun _ => ⟨rfl, rfl, rfl⟩) hpcs, ?_, ?_, ?_, fun off d hbytes hkeep => ?_⟩
    · rw [hstore]
      rfl
    · rw [hcore]
      rfl
    · rw [hcore]
      show ((s.core core).stopped ++ e.cards.map fun v => v.moved m e.core core).map (fun v => (v.card.id, v.evicted)) = _
      rw [List.map_append, List.map_map]
      rfl
    · rw [readmitOn_eq, hbytes]
      exact stored_of_bytes (⟨rfl, rfl, rfl, rfl⟩ : SameBytes s (takenBack s e core m))
        (store_stored (takenBack s e core m) _ (keptApart_of_plain (s := takenBack s e core m) hkeep _ _))

end Sys2Proof.Proofs
end

section
/-! PROOFS. CKPT: what it saves, what it stores in the context buffer, the thread set that it frees (R144, R147). -/

namespace Sys2Proof.Proofs

open Sys2Proof Sys2Proof.Machine

/-! The bytes of words. -/

theorem leBytes_words_part (l : List Word) (i : Nat) (h : i < l.length) :
    ((l.flatMap fun w => leBytes w.toNat 8).drop (8 * i)).take 8 = leBytes (l[i].toNat) 8 := by
  induction l generalizing i with
  | nil => exact absurd h (Nat.not_lt_zero _)
  | cons w l ih =>
    rw [List.flatMap_cons]
    cases i with
    | zero => exact List.take_left' (leBytes_length ..)
    | succ i =>
      have h8 : 8 * (i + 1) = (leBytes w.toNat 8).length + 8 * i := by rw [leBytes_length]; omega
      rw [h8, List.drop_length_add_append]
      exact ih i (Nat.lt_of_succ_lt_succ h)

theorem leNat_leBytes_word (w : Word) : leNat (leBytes w.toNat 8) = w.toNat := by
  rw [leNat_leBytes]
  exact Nat.mod_eq_of_lt w.isLt

theorem snapshot_length (t : Thread) (pc : Word) : (t.snapshot pc).length = 64 := by simp [Thread.snapshot]

/-- The bytes of the snapshot. -/
def snapshotBytes (t : Thread) (pc : Word) : List Byte := (t.snapshot pc).flatMap fun w => leBytes w.toNat 8

theorem snapshotBytes_length (t : Thread) (pc : Word) : (snapshotBytes t pc).length = 512 := by
  unfold snapshotBytes
  rw [length_flatMap_of_const (n := 8) (fun w _ => leBytes_length ..), snapshot_length]

theorem snapshot_x (t : Thread) (pc : Word) {i : Nat} (h : i < 31) :
    (t.snapshot pc)[i]'(by rw [snapshot_length]; omega) = t.rx (BitVec.ofNat 5 (i + 1)) := by
  simp [Thread.snapshot, h]

theorem snapshot_pc (t : Thread) (pc : Word) : (t.snapshot pc)[31]'(by rw [snapshot_length]; omega) = pc := by simp [Thread.snapshot]

/-- A word of a stored snapshot. -/
theorem readVal_snapshot {s : State} {a : Nat} {th : Thread} {pc : Word} (h : s.readBytes a (snapshotBytes th pc).length = snapshotBytes th pc)
    (i : Nat) (hi : i < 64) : s.readVal (a + 8 * i) 8 = ((th.snapshot pc)[i]'(by rw [snapshot_length]; exact hi)).toNat := by
  have hpart := readBytes_part s a (8 * i) 8 (snapshotBytes th pc).length (by rw [snapshotBytes_length]; omega)
  have hword := leBytes_words_part (th.snapshot pc) i (by rw [snapshot_length]; exact hi)
  rw [h] at hpart
  unfold State.readVal
  rw [← hpart]
  exact (congrArg leNat hword).trans (leNat_leBytes_word _)

/-- The registers and the resume address of a stored snapshot. -/
theorem stored_snapshot {s : State} {a : Nat} {th : Thread} {pc : Word} (h : s.readBytes a (snapshotBytes th pc).length = snapshotBytes th pc) :
    (∀ r : BitVec 5, r ≠ 0 → s.readVal (a + 8 * (r.toNat - 1)) 8 = (th.rx r).toNat) ∧ s.readVal (a + 248) 8 = pc.toNat := by
  refine ⟨fun r hr => ?_, ?_⟩
  · have hr0 : r.toNat ≠ 0 := fun h => hr (BitVec.eq_of_toNat_eq h)
    have hlt := r.isLt
    have hv := readVal_snapshot h (r.toNat - 1) (by omega)
    rwa [snapshot_x _ _ (by omega), Nat.sub_add_cancel (by omega), BitVec.ofNat_toNat, BitVec.setWidth_eq] at hv
  · have hv := readVal_snapshot h 31 (by omega)
    rwa [snapshot_pc] at hv

/-! The steps of CKPT (R147). -/

/-- Of a card with no packets and no stopped copies the context buffer takes the snapshot alone. -/
theorem spillBuffer_snapshot (s : State) (v : Saved) (pc : Word) (hc : v.chans = []) (hu : v.unread = []) (hs : v.copies = []) :
    s.spillBuffer v pc = s.putBuffer v.buffer 0x9000 (snapshotBytes (s.thread v.tid) pc) := by
  unfold State.spillBuffer
  dsimp only
  rw [hc, hu, hs]
  exact if_neg (by simp)

/-- What bytes written change of the machine and of the thread sets. -/
structure BytesOnly (s t : State) : Prop where
  outside : ({ t with mem := s.mem, poison := s.poison, vague := s.vague, threads := s.threads } : State) = s
  threads : ∀ k, ({ t.thread k with resv := (s.thread k).resv, early := (s.thread k).early } : Thread) = s.thread k

theorem BytesOnly.cur {s t : State} (h : BytesOnly s t) : t.cur = s.cur := by
  have hc := congrArg State.cur h.outside
  exact hc

theorem BytesOnly.core {s t : State} (h : BytesOnly s t) (c : Nat) : t.core c = s.core c := by
  have hc := congrArg (State.core · c) h.outside
  exact hc

theorem store_bytesOnly (s : State) (w : Writer) (a : Nat) (d : List Byte) : BytesOnly s (s.store w a d) := by
  obtain ⟨m, p, v, th, h⟩ := store_frame s w a d
  refine ⟨?_, store_thread s w a d⟩
  rw [h]

theorem putBuffer_bytesOnly (s : State) (b off : Nat) (d : List Byte) : BytesOnly s (s.putBuffer b off d) := by
  unfold State.putBuffer
  split
  · exact store_bytesOnly ..
  · exact ⟨rfl, fun _ => rfl⟩

theorem SameBytes.trans {s t u : State} (a : SameBytes s t) (b : SameBytes t u) : SameBytes s u := by
  obtain ⟨hm, hv, hc, hf⟩ := a
  obtain ⟨hm', hv', hc', hf'⟩ := b
  exact ⟨hm'.trans hm, hv'.trans hv, hc'.trans hc, hf'.trans hf⟩

/-- The pre-empted card has left its thread set. -/
def freedState (u : State) (v : Saved) : State :=
  (u.withdraw v).retire.modTh fun t => { t.release with preempts := t.preempts.filter (· == 3) }

/-- It stands among those stopped (R147). -/
def stoppedState (u : State) (v : Saved) : State :=
  (freedState u v).modCore (freedState u v).myCore fun k => { k with stopped := k.stopped ++ [v] }

theorem preempted_eq (s : State) (v : Saved) : s.preempted v =
    (stoppedState (s.spillBuffer v (s.th.pc + 4)) v).settleEvict (stoppedState (s.spillBuffer v (s.th.pc + 4)) v).myCore := by
  unfold State.preempted stoppedState freedState
  rfl

theorem withdraw_cur (u : State) (v : Saved) : (u.withdraw v).cur = u.cur := rfl

theorem retire_cur (s : State) : s.retire.cur = s.cur := rfl

theorem modTh_cur (s : State) (f : Thread → Thread) : (s.modTh f).cur = s.cur := rfl

theorem freedState_cur (u : State) (v : Saved) : (freedState u v).cur = u.cur :=
  ((modTh_cur ..).trans (retire_cur ..)).trans (withdraw_cur ..)

theorem freedState_myCore (u : State) (v : Saved) : (freedState u v).myCore = u.myCore := congrArg coreOf (freedState_cur u v)

theorem withdraw_core {u : State} {v : Saved} (hv : v.tid = u.cur) : ((u.withdraw v).core u.myCore).stopped = (u.core u.myCore).stopped ∧
    ((u.withdraw v).core u.myCore).allocs = (u.core u.myCore).allocs := by
  have h (w : State) (c tid : Nat) (f : Core → Core) (g : Thread → Thread) : ((w.modCore c f).modThread tid g).core c = f (w.core c) :=
    State.core_setCore_same ..
  unfold State.withdraw
  dsimp only
  rw [hv]
  exact ⟨(congrArg Core.stopped (h _ _ _ _ _)).trans rfl, (congrArg Core.allocs (h _ _ _ _ _)).trans rfl⟩

theorem stoppedState_core {u : State} {v : Saved} (hv : v.tid = u.cur) :
    ((stoppedState u v).core u.myCore).stopped = (u.core u.myCore).stopped ++ [v] ∧
    ((stoppedState u v).core u.myCore).allocs = (u.core u.myCore).allocs := by
  obtain ⟨hs, ha⟩ := withdraw_core hv
  have h : (stoppedState u v).core u.myCore = { (u.withdraw v).core u.myCore with stopped := ((u.withdraw v).core u.myCore).stopped ++ [v] } := by
    unfold stoppedState State.modCore
    rw [freedState_myCore, State.core_setCore_same]
    rfl
  rw [h]
  exact ⟨congrArg (· ++ [v]) hs, ha⟩

theorem stoppedState_myCore (u : State) (v : Saved) : (stoppedState u v).myCore = u.myCore := freedState_myCore u v

theorem stoppedState_bytes (u : State) (v : Saved) : SameBytes u (stoppedState u v) := by
  have hw : SameBytes u (u.withdraw v) := ⟨rfl, rfl, rfl, rfl⟩
  have hf (w : State) (f : Thread → Thread) (c : Nat) (g : Core → Core) : SameBytes w ((w.retire.modTh f).modCore c g) := ⟨rfl, rfl, rfl, rfl⟩
  exact hw.trans (hf ..)

theorem stoppedState_th (u : State) (v : Saved) : (stoppedState u v).th.card = none := by
  have h : (stoppedState u v).th = { ((u.withdraw v).retire.th).release with preempts := ((u.withdraw v).retire.th).preempts.filter (· == 3) } :=
    State.thread_setThread_same ..
  rw [h]
  rfl

theorem stoppedState_other {u : State} {v : Saved} (hv : v.tid = u.cur) {k : Nat} (hk : k ≠ u.cur) : (stoppedState u v).thread k = u.thread k := by
  have hw : (u.withdraw v).thread k = u.thread k := State.thread_setThread_other _ _ _ _ (hv ▸ hk)
  have hr : (u.withdraw v).retire.thread k = (u.withdraw v).thread k := State.thread_setThread_other _ _ _ _ hk
  have hs : (stoppedState u v).thread k = (u.withdraw v).retire.thread k := State.thread_setThread_other _ _ _ _ hk
  exact hs.trans (hr.trans hw)

/-- No eviction takes place where none is asked for. -/
theorem settleEvict_none {s : State} {core : Nat} (h : (s.core core).allocs.all (fun a => !a.evicting) = true) : s.settleEvict core = s := by
  have hn : (s.core core).allocs.filter (·.evicting) = [] := by simpa [List.filter_eq_nil_iff] using h
  unfold State.settleEvict
  rw [hn]
  rfl

/-- A card with no packets and no stopped copies is pre-empted, and no eviction waits for it. -/
theorem preempted_plain {s : State} {v : Saved} (hv : v.tid = s.cur) (hc : v.chans = []) (hu : v.unread = []) (hs : v.copies = [])
    (ha : (s.core s.myCore).allocs.all (fun a => !a.evicting) = true) :
    s.preempted v = stoppedState (s.putBuffer v.buffer 0x9000 (snapshotBytes (s.thread v.tid) (s.th.pc + 4))) v := by
  have hb := putBuffer_bytesOnly s v.buffer 0x9000 (snapshotBytes (s.thread v.tid) (s.th.pc + 4))
  have hmy : (s.putBuffer v.buffer 0x9000 (snapshotBytes (s.thread v.tid) (s.th.pc + 4))).myCore = s.myCore := congrArg coreOf hb.cur
  rw [preempted_eq, spillBuffer_snapshot s v _ hc hu hs]
  refine settleEvict_none ?_
  have hsame := (stoppedState_core (hv.trans hb.cur.symm)).2
  rw [stoppedState_myCore, hsame, hmy, hb.core]
  exact ha

/-! CKPT. -/

/-- What of a thread set loses early values at most. -/
theorem early_saved {u v : Thread} (h : ({ v with early := u.early } : Thread) = u) : v.chans = u.chans ∧ v.landed = u.landed ∧ v.outs = u.outs ∧
    v.jobs = u.jobs ∧ v.ckptab = u.ckptab ∧ v.savearea = u.savearea ∧ v.x = u.x ∧ v.pc = u.pc := by
  have h1 := congrArg Thread.chans h
  have h2 := congrArg Thread.landed h
  have h3 := congrArg Thread.outs h
  have h4 := congrArg Thread.jobs h
  have h5 := congrArg Thread.ckptab h
  have h6 := congrArg Thread.savearea h
  have h7 := congrArg Thread.x h
  have h8 := congrArg Thread.pc h
  exact ⟨h1, h2, h3, h4, h5, h6, h7, h8⟩

theorem clear_single {s : State} {r : BitVec 5} (hp : s.th.pfx = false) (h : s.pending s.cur r = false) : s.Clear [r] :=
  ⟨hp, List.forall_mem_singleton.2 h⟩

/-- The release of CKPT. -/
def ckptReleased (s : State) (c : Card) : State := (s.publish s.cur 2).releaseCard (.thread s.cur) c.id

theorem ckptReleased_early (s : State) (c : Card) : SameButEarly s (ckptReleased s c) :=
  (publish_sameButEarly s s.cur 2 false).trans (releaseCard_sameButEarly _ _ _)

theorem ckpt_steps {rs1 : BitVec 5} {s : State} {c : Card} (h : s.Clear [rs1]) (hs : s.th.steward = true) (ha : s.th.bank0.act = true)
    (hc : s.th.card = some c) (hw : s.ckptWaits s.cur = false) (hp : (ckptReleased s c).th.ckptab.getLsbD 1 = false) :
    exec (.ckpt rs1) s = .next ((ckptReleased s c).preempted ((ckptReleased s c).savedOf c [])) := by
  show execCkpt rs1 s = _
  unfold execCkpt
  rw [stewardOnly_runs h hs, ha, hc]
  dsimp only
  rw [if_neg (by simp [hw])]
  unfold ckptReleased at hp
  rw [hp]
  rfl

theorem savearea_buffer (w : Word) : (w.extractLsb' 16 36).toNat * 2 ^ 16 = w.toNat / 2 ^ 16 % 2 ^ 36 * 2 ^ 16 := by rw [field_toNat]

/-- Illegal outside a handler (R147). -/
theorem ckpt_illegal (rs1 : BitVec 5) (s : State) (hpfx : s.th.pfx = false)
    (h : s.th.steward = false ∨ (s.pending s.cur rs1 = false ∧ s.th.bank0.act = false)) (ht : s.CanTrap) :
    ∃ t, exec (.ckpt rs1) s = .next t ∧ TrapTaken s t 0 (s.ir.zeroExtend 64) := by
  refine ⟨s.illegal, ?_, trapHere_taken ht 0 _⟩
  cases hs : s.th.steward with
  | false =>
    show execCkpt rs1 s = _
    unfold execCkpt
    exact stewardOnly_user hs
  | true =>
    obtain ⟨hp, ha⟩ := h.resolve_left (by simp [hs, -State.th_eq])
    show execCkpt rs1 s = _
    unfold execCkpt
    rw [stewardOnly_runs (clear_single hpfx hp) hs, ha]

theorem ckpts (rs1 : BitVec 5) (s : State) (hpfx : s.th.pfx = false) :
    ((s.th.steward = false ∨ (s.pending s.cur rs1 = false ∧ s.th.bank0.act = false)) → s.CanTrap →
      ∃ t, exec (.ckpt rs1) s = .next t ∧ TrapTaken s t 0 (s.ir.zeroExtend 64)) ∧
    ∀ c, s.th.steward = true → s.pending s.cur rs1 = false → s.th.bank0.act = true → s.th.card = some c → s.ckptWaits s.cur = false →
      s.th.ckptab.getLsbD 1 = false → (s.core (coreOf s.cur)).allocs.all (fun a => !a.evicting) = true →
      s.th.chans = [] → s.th.landed = [] → s.tagOf (coreOf s.cur) c.id = none → s.stopping s.cur = [] → s.th.outs = [] → s.th.jobs = [] →
      let buffer := s.th.savearea.toNat / 2 ^ 16 % 2 ^ 36 * 2 ^ 16
      ∃ t v, exec (.ckpt rs1) s = .next t ∧ t.th.card = none ∧ OthersButReservations s t ∧
        (t.core (coreOf s.cur)).stopped = (s.core (coreOf s.cur)).stopped ++ [v] ∧ v.card.id = c.id ∧ v.card.hdr = c.hdr ∧ v.tid = s.cur ∧
        v.buffer = buffer ∧
        (buffer / 2 ^ 40 = s.chipno → buffer % 2 ^ 40 + 0x10000 ≤ 0xC000000000 → s.inLocket (buffer % 2 ^ 40 + 0x9000) 512 = false →
          s.vague = [] →
          (∀ r : BitVec 5, r ≠ 0 → t.readVal (buffer % 2 ^ 40 + 0x9000 + 8 * (r.toNat - 1)) 8 = (s.rx r).toNat) ∧
          t.readVal (buffer % 2 ^ 40 + 0x9000 + 248) 8 = (s.th.pc + 4).toNat) := by
  refine ⟨ckpt_illegal rs1 s hpfx, fun c hst hpend hact hcard hwait hask halloc hchans hland htag hstop houts hjobs => ?_⟩
  intro buffer
  have he := ckptReleased_early s c
  generalize hs1 : ckptReleased s c = s1 at he
  have hcur : s1.cur = s.cur := he.notes.cur
  have hcore : s1.core (coreOf s.cur) = s.core (coreOf s.cur) := by
    unfold State.core
    rw [he.notes.cores]
  have hth : s1.th = s1.thread s.cur := congrArg s1.thread hcur
  have hmy : s1.myCore = coreOf s.cur := congrArg coreOf hcur
  obtain ⟨h1, h2, h3, h4, h5, h6, h7, h8⟩ := early_saved (he.2 s.cur)
  rw [← hth] at h1 h2 h3 h4 h5 h6 h7 h8
  have hexec := ckpt_steps (clear_single hpfx hpend) hst hact hcard hwait (by rw [hs1, h5]; exact hask)
  rw [hs1] at hexec
  have htag1 : s1.tagOf s1.myCore c.id = none := by
    rw [hmy]
    exact (tagOf_congr (congrArg Core.tags hcore) c.id).trans htag
  have hstop1 : s1.stopping s1.cur = [] := by
    have h := congrArg (State.stopping · s.cur) he.1
    rw [hcur]
    exact h.trans hstop
  have hvc : (s1.savedOf c []).chans = [] := h1.trans hchans
  have hvu : (s1.savedOf c []).unread = [] := by
    unfold State.savedOf
    dsimp only
    rw [htag1, h2.trans hland]
    rfl
  have hbuf : (s1.savedOf c []).buffer = buffer := (savearea_buffer s1.th.savearea).trans (by rw [h6]; rfl)
  rw [preempted_plain (v := s1.savedOf c []) rfl hvc hvu hstop1 (by rw [hmy, hcore]; exact halloc)] at hexec
  generalize hd : snapshotBytes (s1.thread (s1.savedOf c []).tid) (s1.th.pc + 4) = d at hexec
  have hput := putBuffer_bytesOnly s1 (s1.savedOf c []).buffer 0x9000 d
  refine ⟨_, s1.savedOf c [], hexec, stoppedState_th .., fun k hk => ?_, ?_, rfl, rfl, hcur, hbuf, fun hpkg hhbm hlock _ => ?_⟩
  · rw [stoppedState_other hput.cur.symm (by rw [hput.cur, hcur]; exact hk)]
    have ha := congrArg (fun t : Thread => ({ t with resv := (s.thread k).resv, early := (s.thread k).early, seen := (s.thread k).seen } : Thread))
      (hput.threads k)
    have hb := congrArg (fun t : Thread => ({ t with resv := (s.thread k).resv, seen := (s.thread k).seen } : Thread)) (he.2 k)
    exact ha.trans hb
  · have hmy2 : (s1.putBuffer (s1.savedOf c []).buffer 0x9000 d).myCore = coreOf s.cur := congrArg coreOf (hput.cur.trans hcur)
    have hsc := (stoppedState_core (v := s1.savedOf c []) hput.cur.symm).1
    rw [hmy2, hput.core, hcore] at hsc
    exact hsc
  · have hchip := congrArg State.chipno he.1
    replace hchip : s1.chipno = s.chipno := hchip
    have hlocket := congrArg (fun u : State => u.inLocket (buffer % 2 ^ 40 + 0x9000) 512) he.1
    replace hlocket : s1.inLocket (buffer % 2 ^ 40 + 0x9000) 512 = s.inLocket (buffer % 2 ^ 40 + 0x9000) 512 := hlocket
    have hlen : d.length = 512 := hd ▸ snapshotBytes_length ..
    have hstore : s1.putBuffer (s1.savedOf c []).buffer 0x9000 d = s1.store (.unit_ (dieOf s1.myCore)) (buffer % 2 ^ 40 + 0x9000) d := by
      unfold State.putBuffer State.bufferOk bufferAt
      rw [hbuf, hlen, hlocket, hlock, hchip]
      exact if_pos ((Bool.and_eq_true ..).mpr ⟨decide_eq_true ⟨hpkg, hhbm⟩, rfl⟩)
    obtain ⟨hread, -⟩ := store_stored s1 (.unit_ (dieOf s1.myCore)) (a := buffer % 2 ^ 40 + 0x9000) (d := d)
      (keptApart_hbm s1 (by rw [hlen]; omega))
    rw [← hstore] at hread
    have hmem := stoppedState_bytes (s1.putBuffer (s1.savedOf c []).buffer 0x9000 d) (s1.savedOf c [])
    replace hread := (readBytes_congr fun i _ => hmem.readByte _).trans hread
    generalize stoppedState (s1.putBuffer (s1.savedOf c []).buffer 0x9000 d) (s1.savedOf c []) = t at hread
    rw [← hd] at hread
    obtain ⟨hregs, hpc⟩ := stored_snapshot hread
    have htid : (s1.savedOf c []).tid = s.cur := hcur
    rw [htid] at hregs
    rw [hth] at h7
    exact ⟨fun r hr => (hregs r hr).trans (congrArg BitVec.toNat (rx_congr h7 r)), hpc.trans (congrArg (fun w : Word => (w + 4).toNat) h8)⟩

end Sys2Proof.Proofs
end

section
/-! PROOFS. The pick-up of a pre-empted card (R149). -/

namespace Sys2Proof.Proofs

open Sys2Proof Sys2Proof.Machine

/-! The steps of a resumption. -/

/-- The card is no longer among those stopped. -/
def resumeBegun (s : State) (tid : Nat) (v : Saved) : State :=
  s.modCore (coreOf tid) fun k => { k with stopped := k.stopped.filter fun x => x.card.id != v.card.id }

/-- The thread set in the state of R81, with the register writes that the card had not taken. -/
def resumeStarted (s : State) (tid : Nat) (v : Saved) : State :=
  s.modThread tid fun t => { t.start { v.card with ran := true } (if v.card.slice = 0 then 0 else s.cycle (coreOf tid) + v.card.slice) with
    landed := s.rereadHeld v.buffer 0 v.unread }

/-- What CKPT saved of the thread set beside its snapshot; `old` is the thread set before the pick-up. -/
def resumedThread (v : Saved) (chans : List (Nat × List Packet)) (old t : Thread) : Thread :=
  { t with
    chans := chans, gang := v.gang, mflags := if v.evicted then v.mflags else if old.mcard == some v.card.id then old.mflags else 0
    reports := v.reports, preempts := v.preempts ++ t.preempts, lost := v.lost
    jobs := v.jobs.map fun (j : LaneJob) => j
    outs := v.outs ++ v.copies.map fun (c : Nat × CopyCmd) => { id := c.2.id, kind := .ni, regs := [], vals := none, acq := none } }

/-- The commands that CKPT stopped or withdrew go on. -/
def resumeQueued (s : State) (tid : Nat) (v : Saved) : State :=
  let s := (v.copies.map fun (c : Nat × CopyCmd) => (c.1, { c.2 with tid := tid })).foldl (fun s c => s.rejoin (coreOf tid) c) s
  let s : State := { s with
    bank := s.bank ++ v.bank.map fun (o : BankOp) => { o with tid := tid }
    beadOps := s.beadOps ++ v.beadOps.map fun (o : BeadOp) => { o with tid := tid }
    xops := s.xops ++ v.xops.map fun (o : CrossOp) => { o with tid := tid } }
  s.modCore (coreOf tid) fun k => { k with seq := k.seq ++ v.seq.map fun (i : SeqItem) => { i with tid := tid } }

/-- The words of bytes. -/
def wordsOf (b : List Byte) : List Word := (List.range 64).map fun i => word (leNat ((b.drop (8 * i)).take 8))

/-- The snapshot comes back from the context buffer. -/
def resumeRestored (s : State) (tid : Nat) (v : Saved) : State :=
  let r := s.getBuffer v.buffer 0x9000 512
  let later := (s.thread tid).landed.filter fun p => !v.unread.any fun q => q.id == p.id
  r.1.modThread tid fun t => later.foldl (fun t p => t.wx (BitVec.ofNat 5 (24 + p.reg)) p.value) (t.restore (wordsOf r.2))

/-- The steal scan starts again, and the pick-up acquires. -/
def resumeEnded (s : State) (tid : Nat) (v : Saved) : State :=
  ((s.modCore (coreOf tid) fun k => { k with scan := 0 }).askedDead tid v.card).acquireCard tid v.card.id

theorem resume_eq (s : State) (tid : Nat) (v : Saved) : s.resume tid v =
    resumeEnded (resumeRestored ((resumeQueued (((resumeStarted (resumeBegun s tid v) tid v).giveBack tid).modThread tid
      (resumedThread v (v.chans.map ((resumeBegun s tid v).refill v.buffer)) (s.thread tid))) tid v).pump tid) tid v) tid v := rfl

/-- What a resumption leaves alone once the card is no longer among those stopped. -/
structure ResumeFrame (s t : State) (tid : Nat) : Prop where
  outside : ({ t with threads := s.threads, cores := s.cores, bank := s.bank, beadOps := s.beadOps, xops := s.xops } : State) = s
  cores : ∀ c, ({ t.core c with inbox := (s.core c).inbox, seq := (s.core c).seq, scan := (s.core c).scan } : Core) = s.core c
  others : OthersButEarly s t tid

theorem ResumeFrame.refl (s : State) (tid : Nat) : ResumeFrame s s tid := ⟨rfl, fun _ => rfl, fun _ _ => rfl⟩

theorem ResumeFrame.trans {s t u : State} {tid : Nat} (a : ResumeFrame s t tid) (b : ResumeFrame t u tid) : ResumeFrame s u tid := by
  refine ⟨?_, fun c => ?_, a.others.trans b.others⟩
  · have h := congrArg (fun w : State =>
      ({ w with threads := s.threads, cores := s.cores, bank := s.bank, beadOps := s.beadOps, xops := s.xops } : State)) b.outside
    exact h.trans a.outside
  · have h := congrArg (fun w : Core => ({ w with inbox := (s.core c).inbox, seq := (s.core c).seq, scan := (s.core c).scan } : Core)) (b.cores c)
    exact h.trans (a.cores c)

theorem ResumeFrame.tags {s t : State} {tid : Nat} (a : ResumeFrame s t tid) (c : Nat) : (t.core c).tags = (s.core c).tags := by
  have h := congrArg Core.tags (a.cores c)
  exact h

theorem ResumeFrame.stopped {s t : State} {tid : Nat} (a : ResumeFrame s t tid) (c : Nat) : (t.core c).stopped = (s.core c).stopped := by
  have h := congrArg Core.stopped (a.cores c)
  exact h

theorem ResumeFrame.lists {s t : State} {tid : Nat} (a : ResumeFrame s t tid) (c : Nat) : (t.core c).deque = (s.core c).deque ∧
    (t.core c).asleep = (s.core c).asleep ∧ (t.core c).allocs = (s.core c).allocs := by
  have h1 := congrArg Core.deque (a.cores c)
  have h2 := congrArg Core.asleep (a.cores c)
  have h3 := congrArg Core.allocs (a.cores c)
  exact ⟨h1, h2, h3⟩

theorem ResumeFrame.bytes {s t : State} {tid : Nat} (a : ResumeFrame s t tid) : SameBytes s t := by
  have hm := congrArg State.mem a.outside
  have hv := congrArg State.vague a.outside
  have hc := congrArg State.gcolNow a.outside
  have hf := congrArg State.gfold a.outside
  exact ⟨hm, hv, hc, hf⟩

theorem resumeFrame_modThread (s : State) (tid : Nat) (f : Thread → Thread) : ResumeFrame s (s.modThread tid f) tid :=
  ⟨rfl, fun _ => rfl, fun k hk => by unfold State.modThread; rw [State.thread_setThread_other _ _ _ _ hk]⟩

theorem resumeFrame_modCore (s : State) (tid c : Nat) (f : Core → Core)
    (h : ({ f (s.core c) with inbox := (s.core c).inbox, seq := (s.core c).seq, scan := (s.core c).scan } : Core) = s.core c) :
    ResumeFrame s (s.modCore c f) tid := by
  refine ⟨rfl, fun d => ?_, fun _ _ => rfl⟩
  unfold State.modCore
  by_cases hd : d = c
  · subst hd
    rw [State.core_setCore_same]
    exact h
  · rw [State.core_setCore_other _ _ _ _ hd]

theorem resumeFrame_early {s t : State} (h : SameButEarly s t) (tid : Nat) : ResumeFrame s t tid := by
  have hout := congrArg (fun u : State => ({ u with cores := s.cores, bank := s.bank, beadOps := s.beadOps, xops := s.xops } : State)) h.1
  have hcore (c : Nat) : t.core c = s.core c := by
    unfold State.core
    rw [h.notes.cores]
  exact ⟨hout, fun c => by rw [hcore], fun k _ => h.2 k⟩

/-! What is unread goes back to an inbox with room (R113). -/

theorem heapFront_nil (s : State) (core : Nat) : s.heapFront core [] = s := rfl

/-- A thread set that holds nothing unread. -/
def emptied (t : Thread) : Thread := { t with chans := [], landed := [], pres := 0 }

/-- A core whose inbox has taken packets back, in arrival order. -/
def inboxWith (l : List Packet) (c : Core) : Core := { c with inbox := (c.inbox ++ l).mergeSort fun a b => decide (a.arr ≤ b.arr) }

theorem giveBack_fits {s : State} {tid : Nat}
    (h : fitting (s.core (coreOf tid)).free (s.thread tid).unread = (s.thread tid).unread.length) :
    s.giveBack tid = (s.modThread tid emptied).modCore (coreOf tid) (inboxWith (s.thread tid).unread) := by
  have hc : (s.modThread tid fun t => { t with chans := [], landed := [], pres := 0 }).core (coreOf tid) = s.core (coreOf tid) := rfl
  unfold State.giveBack
  dsimp only
  rw [hc, h, List.take_length, List.drop_length, heapFront_nil]
  rfl

theorem modCore_thread (s : State) (c : Nat) (g : Core → Core) (k : Nat) : (s.modCore c g).thread k = s.thread k := rfl

theorem modThread_same (s : State) (tid : Nat) (f : Thread → Thread) : (s.modThread tid f).thread tid = f (s.thread tid) :=
  State.thread_setThread_same ..

theorem giveBack_spec {s : State} {tid : Nat}
    (h : fitting (s.core (coreOf tid)).free (s.thread tid).unread = (s.thread tid).unread.length) :
    ResumeFrame s (s.giveBack tid) tid ∧ (s.giveBack tid).thread tid = emptied (s.thread tid) := by
  rw [giveBack_fits h]
  refine ⟨(resumeFrame_modThread s tid emptied).trans (resumeFrame_modCore _ tid _ (inboxWith _) rfl), ?_⟩
  rw [modCore_thread, modThread_same]

theorem giveBack_others {s : State} {tid : Nat}
    (h : fitting (s.core (coreOf tid)).free (s.thread tid).unread = (s.thread tid).unread.length) : OthersOf s (s.giveBack tid) tid := fun k hk => by
  rw [giveBack_fits h, modCore_thread]
  exact State.thread_setThread_other _ _ _ _ hk

/-! The snapshot comes back (R144, R149). -/

theorem aget_foldl_range (f : Nat → Word) (n j : Nat) : aget 0 ((List.range n).foldl (fun m i => aput m (i + 1) (f i)) []) (j + 1) =
    if j < n then f j else 0 := by
  induction n with
  | zero => rfl
  | succ n ih =>
    rw [List.range_succ, List.foldl_append]
    show aget 0 (aput _ (n + 1) (f n)) (j + 1) = _
    by_cases hj : j = n
    · subst hj
      rw [if_pos (Nat.lt_succ_self _)]
      exact aget_aput_same ..
    · rw [aget_aput_other _ _ _ _ _ (by omega), ih]
      exact if_congr (by omega) rfl rfl

theorem restore_x (t : Thread) (w : List Word) : (t.restore w).x = (List.range 31).foldl (fun m n => aput m (n + 1) (w.getD n 0)) [] := by
  unfold Thread.restore
  dsimp only

theorem restore_rx (t : Thread) (w : List Word) (r : BitVec 5) (hr : r ≠ 0) : (t.restore w).rx r = w.getD (r.toNat - 1) 0 := by
  have hr0 : r.toNat ≠ 0 := fun h => hr (BitVec.eq_of_toNat_eq h)
  have hlt := r.isLt
  obtain ⟨j, hj⟩ := Nat.exists_eq_succ_of_ne_zero hr0
  unfold Thread.rx
  rw [if_neg hr, hj, restore_x, aget_foldl_range, if_pos (by omega)]
  rfl

theorem wordsOf_getD (s : State) (a i : Nat) (hi : i < 64) : (wordsOf (s.readBytes a 512)).getD i 0 = word (s.readVal (a + 8 * i) 8) := by
  unfold wordsOf State.readVal
  rw [List.getD_eq_getElem _ _ (by simpa using hi), List.getElem_map, List.getElem_range, readBytes_part _ _ _ _ _ (by omega)]

/-- The bytes of a context buffer in local HBM, for a thread set with nothing landed. -/
theorem resumeRestored_plain {s : State} {tid : Nat} {v : Saved} (hb : s.bufferOk v.buffer = true) (hl : (s.thread tid).landed = []) :
    resumeRestored s tid v = s.modThread tid fun t => t.restore (wordsOf (s.readBytes (v.buffer % 2 ^ 40 + 0x9000) 512)) := by
  unfold resumeRestored State.getBuffer
  rw [if_pos hb, hl]
  rfl

/-- What of a thread set the end of a pick-up leaves alone. -/
theorem resumeEnded_spec (s : State) (tid : Nat) (v : Saved) : ResumeFrame s (resumeEnded s tid v) tid ∧
    ({ (resumeEnded s tid v).thread tid with preempts := (s.thread tid).preempts, early := (s.thread tid).early } : Thread) = s.thread tid := by
  have ha := acquireCard_sameButEarly ((s.modCore (coreOf tid) fun k => { k with scan := 0 }).askedDead tid v.card) tid v.card.id
  have hd : ResumeFrame (s.modCore (coreOf tid) fun k => { k with scan := 0 })
      ((s.modCore (coreOf tid) fun k => { k with scan := 0 }).askedDead tid v.card) tid := by
    unfold State.askedDead
    split
    · exact resumeFrame_modThread ..
    · exact .refl ..
  have hdt : ({ ((s.modCore (coreOf tid) fun k => { k with scan := 0 }).askedDead tid v.card).thread tid with preempts := (s.thread tid).preempts }
      : Thread) = s.thread tid := by
    unfold State.askedDead State.modThread
    split
    · rw [State.thread_setThread_same]
      dsimp only
      split <;> rfl
    · rfl
  refine ⟨((resumeFrame_modCore _ _ _ _ rfl).trans hd).trans (resumeFrame_early ha tid), ?_⟩
  have he := congrArg (fun t : Thread => ({ t with preempts := (s.thread tid).preempts, early := (s.thread tid).early } : Thread)) (ha.2 tid)
  have hp := congrArg (fun t : Thread => ({ t with early := (s.thread tid).early } : Thread)) hdt
  exact he.trans hp

theorem resumeQueued_spec {s : State} {tid : Nat} {v : Saved} (h : v.copies = []) : ResumeFrame s (resumeQueued s tid v) tid ∧
    (resumeQueued s tid v).thread tid = s.thread tid := by
  unfold resumeQueued
  rw [h]
  have hq (b : List BankOp) (o : List BeadOp) (x : List CrossOp) : ResumeFrame s { s with bank := b, beadOps := o, xops := x } tid :=
    ⟨rfl, fun _ => rfl, fun _ _ => rfl⟩
  exact ⟨(hq _ _ _).trans (resumeFrame_modCore _ _ _ _ rfl), rfl⟩

theorem resumeBegun_spec (s : State) (tid : Nat) (v : Saved) : SameBytes s (resumeBegun s tid v) ∧ (resumeBegun s tid v).threads = s.threads ∧
    ((resumeBegun s tid v).core (coreOf tid)).tags = (s.core (coreOf tid)).tags ∧
    ((resumeBegun s tid v).core (coreOf tid)).stopped = (s.core (coreOf tid)).stopped.filter (fun x => x.card.id != v.card.id) ∧
    (resumeBegun s tid v).chipno = s.chipno := by
  unfold resumeBegun State.modCore
  rw [State.core_setCore_same]
  exact ⟨⟨rfl, rfl, rfl, rfl⟩, rfl, rfl, rfl, rfl⟩

end Sys2Proof.Proofs
end

section
/-! PROOFS. What slices, watchdogs, checkpoints and evictions do (R99, R100, R143 to R150). -/

namespace Sys2Proof.Proofs

open Sys2Proof Sys2Proof.Machine

/-- The thread set just started by a resumption. -/
def restarted (s : State) (tid : Nat) (v : Saved) : Thread :=
  { (s.thread tid).start { v.card with ran := true } (if v.card.slice = 0 then 0 else s.cycle (coreOf tid) + v.card.slice) with landed := [] }

theorem restarted_unread (s : State) (tid : Nat) (v : Saved) : (restarted s tid v).unread = [] := by
  unfold Thread.unread
  exact List.mergeSort_nil

/-- Up to the snapshot: the thread set runs the card with nothing landed. -/
theorem resumed_held {s : State} {tid : Nat} {v : Saved} (hu : v.unread = []) (hs : v.copies = []) (chans : List (Nat × List Packet)) (old : Thread) :
    let t := resumeQueued (((resumeStarted s tid v).giveBack tid).modThread tid (resumedThread v chans old)) tid v
    ResumeFrame s t tid ∧ (t.thread tid).card = some { v.card with ran := true } ∧ (t.thread tid).landed = [] := by
  have hstart : (resumeStarted s tid v).thread tid = restarted s tid v := by
    unfold resumeStarted
    rw [modThread_same, hu]
    rfl
  have hnone : ((resumeStarted s tid v).thread tid).unread = [] := by rw [hstart, restarted_unread]
  obtain ⟨hgf, hgt⟩ := giveBack_spec (s := resumeStarted s tid v) (tid := tid) (by rw [hnone]; rfl)
  obtain ⟨hqf, hqt⟩ := resumeQueued_spec (s := ((resumeStarted s tid v).giveBack tid).modThread tid (resumedThread v chans old)) (tid := tid) hs
  refine ⟨(((resumeFrame_modThread s tid _).trans hgf).trans (resumeFrame_modThread ..)).trans hqf, ?_, ?_⟩
  · rw [hqt, modThread_same, hgt, hstart]
    rfl
  · rw [hqt, modThread_same, hgt]
    rfl

/-- What of a thread set a pick-up's requests and early values leave alone. -/
theorem ended_runs {u v : Thread} (h : ({ v with preempts := u.preempts, early := u.early } : Thread) = u) : v.x = u.x ∧ v.pc = u.pc ∧
    v.steward = u.steward ∧ v.tvec0 = u.tvec0 ∧ v.tvec1 = u.tvec1 ∧ v.bank0 = u.bank0 ∧ v.bank1 = u.bank1 ∧ v.card = u.card := by
  have h1 := congrArg Thread.x h
  have h2 := congrArg Thread.pc h
  have h3 := congrArg Thread.steward h
  have h4 := congrArg Thread.tvec0 h
  have h5 := congrArg Thread.tvec1 h
  have h6 := congrArg Thread.bank0 h
  have h7 := congrArg Thread.bank1 h
  have h8 := congrArg Thread.card h
  exact ⟨h1, h2, h3, h4, h5, h6, h7, h8⟩

/-- What a snapshot holds of a thread set beside its registers. -/
theorem restore_fields (t : Thread) (w : List Word) : let u := t.restore w
    u.pc = w.getD 31 0 ∧ u.steward = (w.getD 32 0).getLsbD 0 ∧ u.tvec0 = w.getD 33 0 ∧ u.tvec1 = w.getD 34 0 ∧
    u.bank0.tepc = w.getD 35 0 &&& ~~~3 ∧ u.bank1.tepc = w.getD 36 0 &&& ~~~3 ∧ u.card = t.card := by
  unfold Thread.restore bankOf
  exact ⟨rfl, rfl, rfl, rfl, rfl, rfl, rfl⟩

theorem resumptions (s : State) (tid : Nat) (v : Saved) (hlive : s.live = true) (hfree : s.isFree tid = true)
    (hpick : s.bestPick (s.picks tid) = some (.stopped v)) (hu : v.unread = []) (hs : v.copies = [])
    (ht : s.tagOf (coreOf tid) v.card.id = none) (hpkg : v.buffer / 2 ^ 40 = s.chipno) (hhbm : v.buffer % 2 ^ 40 + 0x10000 ≤ 0xC000000000) :
    let word8 (i : Nat) : Word := word (s.readVal (v.buffer % 2 ^ 40 + 0x9000 + 8 * i) 8)
    ∃ t, exec (.cardPickup tid) s = .next t ∧ SameMemory s t ∧ OthersOfButNotes s t tid ∧
      (∀ r : BitVec 5, r ≠ 0 → (t.thread tid).rx r = word8 (r.toNat - 1)) ∧ (t.thread tid).pc = word8 31 ∧
      (t.thread tid).steward = (word8 32).getLsbD 0 ∧ (t.thread tid).tvec0 = word8 33 ∧ (t.thread tid).tvec1 = word8 34 ∧
      (t.thread tid).bank0.tepc = word8 35 &&& ~~~3 ∧ (t.thread tid).bank1.tepc = word8 36 &&& ~~~3 ∧
      ((t.thread tid).card.map (·.id)) = some v.card.id ∧
      (t.core (coreOf tid)).stopped = (s.core (coreOf tid)).stopped.filter fun x => x.card.id != v.card.id := by
  intro word8
  have hstep : s.pickup tid = some (s.resume tid v) := by
    unfold State.pickup
    rw [if_neg (by simp [hlive, hfree]), hpick]
  obtain ⟨hbytes, hthreads, htags, hstopped, hchip⟩ := resumeBegun_spec s tid v
  obtain ⟨hheld, hcard, hland⟩ := resumed_held (s := resumeBegun s tid v) (tid := tid) hu hs (v.chans.map ((resumeBegun s tid v).refill v.buffer))
    (s.thread tid)
  have heq := resume_eq s tid v
  generalize hq : resumeQueued (((resumeStarted (resumeBegun s tid v) tid v).giveBack tid).modThread tid
    (resumedThread v (v.chans.map ((resumeBegun s tid v).refill v.buffer)) (s.thread tid))) tid v = q at *
  have hqtags := (hheld.tags (coreOf tid)).trans htags
  rw [pump_of_noTag hcard ((tagOf_congr hqtags v.card.id).trans ht)] at heq
  have hqchip := congrArg State.chipno hheld.outside
  replace hqchip : q.chipno = s.chipno := hqchip.trans hchip
  have hbuf : q.bufferOk v.buffer = true := by
    unfold State.bufferOk
    rw [hqchip]
    exact decide_eq_true ⟨hpkg, hhbm⟩
  have hread : q.readBytes (v.buffer % 2 ^ 40 + 0x9000) 512 = s.readBytes (v.buffer % 2 ^ 40 + 0x9000) 512 :=
    readBytes_congr fun i _ => (hheld.bytes.readByte _).trans (hbytes.readByte _)
  rw [resumeRestored_plain hbuf hland, hread] at heq
  have hwords (i : Nat) (hi : i < 64) : (wordsOf (s.readBytes (v.buffer % 2 ^ 40 + 0x9000) 512)).getD i 0 = word8 i := wordsOf_getD s _ i hi
  generalize wordsOf (s.readBytes (v.buffer % 2 ^ 40 + 0x9000) 512) = ws at heq hwords
  obtain ⟨hend, hrun⟩ := resumeEnded_spec (q.modThread tid fun t => t.restore ws) tid v
  rw [← heq, modThread_same] at hrun
  rw [← heq] at hend
  have hframe := (hheld.trans (resumeFrame_modThread q tid fun t => t.restore ws)).trans hend
  obtain ⟨hrx, hpc, hst, hv0, hv1, hb0, hb1, hk⟩ := ended_runs hrun
  obtain ⟨rpc, rst, rv0, rv1, rb0, rb1, rk⟩ := restore_fields (q.thread tid) ws
  refine ⟨_, event_some hstep, sameMemory_trans hbytes.memory hframe.bytes.memory, fun k hk => ?_, fun r hr => ?_, ?_, ?_, ?_, ?_, ?_, ?_, ?_, ?_⟩
  · have h := hframe.others.notes k hk
    have hsame : (resumeBegun s tid v).thread k = s.thread k := by
      unfold State.thread
      rw [hthreads]
    rwa [hsame] at h
  · have hlt := r.isLt
    rw [rx_congr hrx, restore_rx _ _ _ hr, hwords _ (by omega)]
  · rw [hpc, rpc, hwords _ (by decide)]
  · rw [hst, rst, hwords _ (by decide)]
  · rw [hv0, rv0, hwords _ (by decide)]
  · rw [hv1, rv1, hwords _ (by decide)]
  · rw [hb0, rb0, hwords _ (by decide)]
  · rw [hb1, rb1, hwords _ (by decide)]
  · rw [hk, rk, hcard]
    rfl
  · rw [hframe.stopped, hstopped]

/-- Settles O55, clause by clause: slices, watchdogs, requests, deadlines, EVICT, CKPT, the pick-up of a pre-empted card and re-admission. -/
theorem deadlinesAndCheckpoints : Obligations.DeadlinesAndCheckpoints := by
  unfold Obligations.DeadlinesAndCheckpoints
  exact ⟨slices, watchdogs, preempts, deadlines, evictions, ckpts,
    fun s tid v hlive hfree hpick _ hu hs _ _ _ _ _ ht hpkg hhbm => resumptions s tid v hlive hfree hpick hu hs ht hpkg hhbm, readmissions⟩

end Sys2Proof.Proofs
end

section
/-! PROOFS. Card instructions that act at issue (R112, R117, R119, R121, R122). -/

namespace Sys2Proof.Proofs

open Sys2Proof Sys2Proof.Machine

/-! What an instruction that retires has done. -/

theorem retired_of {s t : State} {u : Thread} {pc : Word} (ht : t.th = u.retireTo pc) (hi : u.instret = s.th.instret) : Retired s t pc := by
  unfold Retired
  rw [ht]
  exact ⟨rfl, congrArg (· + 1) hi, rfl, rfl, rfl⟩

theorem sameRegisters_of {s t : State} (h : t.th.x = s.th.x) : SameRegisters s t := rx_congr h

theorem wx_x_congr {u v : Thread} (h : v.x = u.x) (r : BitVec 5) (w : Word) : (v.wx r w).x = (u.wx r w).x := by
  unfold Thread.wx
  split
  · exact h
  · exact congrArg (aput · r.toNat w) h

/-- Retiring with the registers of the issuing thread set but rd. -/
theorem acts_of {s t : State} {u : Thread} {rd : BitVec 5} {v : Word} (ht : t.th = u.retireTo (s.th.pc + 4)) (hx : u.x = (s.th.wx rd v).x)
    (hi : u.instret = s.th.instret) (hm : SameMemory s t) : Acts s t rd v := by
  have hr (r : BitVec 5) : t.rx r = if r = 0 then 0 else if r = rd then v else s.rx r := by
    unfold State.rx
    rw [ht, Thread.rx_retireTo, rx_congr hx, Thread.rx_wx]
  refine ⟨?_, fun r hne => ?_, retired_of ht hi, hm⟩
  · rw [hr]
    by_cases h : rd = 0
    · rw [if_pos h, if_pos h]
    · rw [if_neg h, if_neg h, if_pos rfl]
  · rw [hr]
    by_cases h : r = 0
    · subst h; rfl
    · rw [if_neg h, if_neg hne]

theorem modTh_th (s : State) (f : Thread → Thread) : (s.modTh f).th = f s.th := State.thread_setThread_same ..

theorem retire_th (s : State) : s.retire.th = s.th.retireTo (s.th.pc + 4) := State.thread_setThread_same ..

theorem wx_th (s : State) (rd : BitVec 5) (v : Word) : (s.wx rd v).th = s.th.wx rd v := State.thread_setThread_same ..

theorem wx_retire (s : State) (rd : BitVec 5) (v : Word) : (s.wx rd v).retire = (s.wx rd v).retireTo (s.th.pc + 4) := by
  unfold State.retire
  rw [wx_th, Thread.wx_pc]

theorem writes_retire (s : State) (rd : BitVec 5) (v : Word) : Writes s (s.wx rd v).retire rd v (s.th.pc + 4) := by
  rw [wx_retire]
  exact writes_retireTo ..

theorem retire_other (s : State) {k : Nat} (h : k ≠ s.cur) : s.retire.thread k = s.thread k := State.thread_setThread_other _ _ _ _ h

theorem modTh_other (s : State) (f : Thread → Thread) {k : Nat} (h : k ≠ s.cur) : (s.modTh f).thread k = s.thread k :=
  State.thread_setThread_other _ _ _ _ h

theorem wx_other (s : State) (rd : BitVec 5) (v : Word) {k : Nat} (h : k ≠ s.cur) : (s.wx rd v).thread k = s.thread k :=
  State.thread_setThread_other _ _ _ _ h

/-- A change of the issuing thread set beside its registers, then rd. -/
theorem modTh_wx_retire_acts (s : State) (f : Thread → Thread) (rd : BitVec 5) (v : Word) (hx : (f s.th).x = s.th.x) (hi : (f s.th).instret = s.th.instret)
    (hp : (f s.th).pc = s.th.pc) : let t := ((s.modTh f).wx rd v).retire
    t.th = ((f s.th).wx rd v).retireTo (s.th.pc + 4) ∧ Acts s t rd v ∧ OnlyThread s t := by
  have ht : ((s.modTh f).wx rd v).retire.th = ((f s.th).wx rd v).retireTo (s.th.pc + 4) := by
    rw [retire_th, wx_th, modTh_th, Thread.wx_pc, hp]
  exact ⟨ht, acts_of ht (wx_x_congr hx rd v) ((Thread.wx_instret ..).trans hi) fun _ => rfl, fun k hk =>
    (retire_other ((s.modTh f).wx rd v) hk).trans ((wx_other (s.modTh f) rd v hk).trans (modTh_other s f hk)), rfl⟩

/-! CARD.PRIO, CARD.SELF and DUALSIG (R119, R121, R122). -/

/-- HDR with another CLASS. -/
theorem setBits_class_toNat (h : Word) {n : Nat} (hn : n < 4) : (setBits h 0 2 n).toNat = h.toNat / 4 * 4 + n := by
  have hlow : ((setBits h 0 2 n).extractLsb' 0 2).toNat = n := by
    rw [extract_setBits_same (by decide), BitVec.toNat_ofNat]
    exact Nat.mod_eq_of_lt hn
  have hhigh : ((setBits h 0 2 n).extractLsb' 2 62).toNat = (h.extractLsb' 2 62).toNat := by rw [extract_setBits_other (by decide) (by decide)]
  rw [low_toNat] at hlow
  rw [field_toNat, field_toNat] at hhigh
  have h1 := (setBits h 0 2 n).isLt
  have h2 := h.isLt
  omega

theorem cardPrios {rd rs1 : BitVec 5} {s : State} {c : Card} (hcl : s.Clear [rd, rs1]) (hc : s.th.card = some c) :
    ∃ t h, exec (.cardPrio rd rs1) s = .next t ∧ Acts s t rd (word (c.hdr.toNat % 4)) ∧ OnlyThread s t ∧ t.th.card = some { c with hdr := h } ∧
      h.toNat = c.hdr.toNat / 4 * 4 + min (s.rx rs1).toNat 3 := by
  have hstep : exec (.cardPrio rd rs1) s = .next ((s.modTh fun t =>
      { t with card := some { c with hdr := setBits c.hdr 0 2 (min (s.rx rs1).toNat 3) } }).wx rd (word c.cls)).retire := by
    show execCardPrio rd rs1 s = _
    unfold execCardPrio
    rw [plain_runs hcl, hc]
  have hcls : c.cls = c.hdr.toNat % 4 := low_toNat c.hdr 2
  obtain ⟨ht, ha, ho⟩ := modTh_wx_retire_acts s (fun t => { t with card := some { c with hdr := setBits c.hdr 0 2 (min (s.rx rs1).toNat 3) } }) rd
    (word c.cls) rfl rfl rfl
  rw [hcls] at ht ha ho hstep
  refine ⟨_, _, hstep, ha, ho, ?_, setBits_class_toNat c.hdr (by omega)⟩
  rw [ht]
  exact Thread.wx_card ..

theorem coreWord_eq (n : Nat) (h : n < 4096) : word (coreOf n) ||| (word (n % 4) <<< 16) = word (coreOf n + 65536 * (n % 4)) := by
  have hc : coreOf n < 2 ^ 16 := by unfold coreOf; omega
  have hm : n % 4 < 4 := Nat.mod_lt _ (by decide)
  refine BitVec.eq_of_toNat_eq ?_
  have h1 : (word (coreOf n)).toNat = coreOf n := Nat.mod_eq_of_lt (by omega)
  have h2 : (word (n % 4)).toNat = n % 4 := Nat.mod_eq_of_lt (by omega)
  have h3 : (word (coreOf n + 65536 * (n % 4))).toNat = coreOf n + 65536 * (n % 4) := Nat.mod_eq_of_lt (by omega)
  rw [BitVec.toNat_or, BitVec.toNat_shiftLeft, h1, h2, h3, Nat.or_comm, Nat.shiftLeft_eq, Nat.mod_eq_of_lt (by omega), ← Nat.shiftLeft_eq,
    ← Nat.shiftLeft_add_eq_or_of_lt hc, Nat.shiftLeft_eq]
  omega

theorem selfValue_eq {s : State} (c : Card) (w : Word) (h : s.cur < 4096) : s.selfValue c w.toNat =
    if w = 0 then c.hdr else if w = 1 then (if c.copy = some true then 1 else 0)
      else if w = 2 then word (coreOf s.cur + 65536 * (s.cur % 4))
      else if w = 3 then (if c.slice = 0 then 0 else word (s.th.sliceAt - s.cycle (coreOf s.cur)))
      else if w = 4 then word (c.home % 256) else 0 := by
  by_cases h0 : w = 0
  · subst h0; rfl
  by_cases h1 : w = 1
  · subst h1
    show truth (c.copy == some true) = _
    unfold truth
    simp
  by_cases h2 : w = 2
  · subst h2
    exact coreWord_eq s.cur h
  by_cases h3 : w = 3
  · subst h3; rfl
  by_cases h4 : w = 4
  · subst h4; rfl
  rw [if_neg h0, if_neg h1, if_neg h2, if_neg h3, if_neg h4]
  have hne (n : Nat) (hn : n < 5) : w.toNat ≠ n := fun he => by
    have hw : w = BitVec.ofNat 64 n := BitVec.eq_of_toNat_eq (by rw [he, BitVec.toNat_ofNat]; omega)
    interval_cases n
    · exact h0 hw
    · exact h1 hw
    · exact h2 hw
    · exact h3 hw
    · exact h4 hw
  unfold State.selfValue
  split
  · next he => exact absurd he (hne 0 (by decide))
  · next he => exact absurd he (hne 1 (by decide))
  · next he => exact absurd he (hne 2 (by decide))
  · next he => exact absurd he (hne 3 (by decide))
  · next he => exact absurd he (hne 4 (by decide))
  · rfl

theorem cardSelfs {rd rs1 : BitVec 5} {s : State} {c : Card} (hcl : s.Clear [rd, rs1]) (hc : s.th.card = some c) :
    exec (.cardSelf rd rs1) s = .next (s.wx rd (s.selfValue c (s.rx rs1).toNat)).retire := by
  show execCardSelf rd rs1 s = _
  unfold execCardSelf
  rw [plain_runs hcl, hc]

theorem describes (rd rs1 : BitVec 5) (s : State) (c : Card) (hcl : s.Clear [rd, rs1]) (hc : s.th.card = some c) :
    (∃ t h, exec (.cardPrio rd rs1) s = .next t ∧ Acts s t rd (word (c.hdr.toNat % 4)) ∧ OnlyThread s t ∧ t.th.card = some { c with hdr := h } ∧
      h.toNat = c.hdr.toNat / 4 * 4 + min (s.rx rs1).toNat 3) ∧
    (s.cur < 4096 → ∃ t, exec (.cardSelf rd rs1) s = .next t ∧ Writes s t rd
      (if s.rx rs1 = 0 then c.hdr else if s.rx rs1 = 1 then (if c.copy = some true then 1 else 0)
        else if s.rx rs1 = 2 then word (coreOf s.cur + 65536 * (s.cur % 4))
        else if s.rx rs1 = 3 then (if c.slice = 0 then 0 else word (s.th.sliceAt - s.cycle (coreOf s.cur)))
        else if s.rx rs1 = 4 then word (c.home % 256) else 0) (s.th.pc + 4)) := by
  refine ⟨cardPrios hcl hc, fun h => ⟨_, cardSelfs hcl hc, ?_⟩⟩
  rw [← selfValue_eq c (s.rx rs1) h]
  exact writes_retire ..

theorem dualsigs (rs1 : BitVec 5) (s : State) (c : Card) (hcl : s.Clear [rs1]) (hc : s.th.card = some c) :
    ∃ t, exec (.dualsig rs1) s = .next t ∧ SameRegisters s t ∧ Retired s t (s.th.pc + 4) ∧ OnlyThread s t ∧ SameMemory s t ∧
      t.th.card = some (if c.dual then { c with sig := c.sig.rotateLeft 1 ^^^ s.rx rs1 } else c) := by
  have hstep : exec (.dualsig rs1) s = .next (s.modTh fun t => { t with card := t.card.map fun c =>
      if c.dual then { c with sig := c.sig.rotateLeft 1 ^^^ s.rx rs1 } else c }).retire := by
    show execDualsig rs1 s = _
    unfold execDualsig
    rw [plain_runs hcl]
  have ht := (retire_th (s.modTh fun t => { t with card := t.card.map fun c =>
      if c.dual then { c with sig := c.sig.rotateLeft 1 ^^^ s.rx rs1 } else c })).trans (by rw [modTh_th])
  refine ⟨_, hstep, sameRegisters_of ?_, retired_of ht rfl, ⟨fun k hk => ?_, rfl⟩, fun _ => rfl, ?_⟩
  · rw [ht]
    rfl
  · exact (retire_other (s.modTh _) hk).trans (modTh_other s _ hk)
  · rw [ht]
    show s.th.card.map _ = _
    rw [hc]
    rfl

/-! PTAKE (R117). -/

theorem early_issue {u v : Thread} (h : ({ v with early := u.early } : Thread) = u) : v.x = u.x ∧ v.pc = u.pc ∧ v.instret = u.instret ∧ v.pres = u.pres := by
  have h1 := congrArg Thread.x h
  have h2 := congrArg Thread.pc h
  have h3 := congrArg Thread.instret h
  have h4 := congrArg Thread.pres h
  exact ⟨h1, h2, h3, h4⟩

/-- The thread set without the packet in a register of its window. -/
def takenThread (n : BitVec 3) (t : Thread) : Thread :=
  { t with pres := t.pres &&& ~~~((1 : BitVec 8) <<< n.toNat), landed := t.landed.filter fun p => p.reg != n.toNat }

theorem takenThread_pres (n : BitVec 3) (t : Thread) (j : Nat) (hj : j < 8) :
    (takenThread n t).pres.getLsbD j = (t.pres.getLsbD j && decide (j ≠ n.toNat)) := by
  have hn := n.isLt
  have hbit : ((1 : BitVec 8) <<< n.toNat).getLsbD j = decide (j = n.toNat) := by
    simp only [BitVec.getLsbD_shiftLeft, hj, decide_true, Bool.true_and]
    by_cases h : j = n.toNat
    · simp [h]
    · simp [h]
      omega
  unfold takenThread
  simp only [BitVec.getLsbD_and, BitVec.getLsbD_not, hbit, hj, decide_true, Bool.true_and, decide_not]

/-- With an empty inbox there is nothing to deliver. -/
theorem pump_emptyInbox {s : State} {tid : Nat} (h : (s.core (coreOf tid)).inbox = []) : s.pump tid = s := by
  unfold State.pump
  dsimp only
  split
  · rw [h]
    rfl
  · rfl

theorem ptake_waits {rd : BitVec 5} {n : BitVec 3} {s : State} (hcl : s.Clear [rd, 3#2 ++ n]) (hp : s.th.pres.getLsbD n.toNat = false) :
    exec (.ptake rd n) s = .next s := by
  show execPtake rd n s = _
  unfold execPtake
  rw [plain_runs hcl]
  exact congrArg _ (if_pos (by rw [hp]; rfl))

theorem ptake_takes {rd : BitVec 5} {n : BitVec 3} {s : State} (hcl : s.Clear [rd, 3#2 ++ n]) (hp : s.th.pres.getLsbD n.toNat = true)
    (hi : (s.core (coreOf s.cur)).inbox = []) : ∃ u, SameButEarly ((s.modTh (takenThread n)).wx rd (s.rx (3#2 ++ n))) u ∧
      exec (.ptake rd n) s = .next u.retire := by
  have hpump : ((s.modTh (takenThread n)).wx rd (s.rx (3#2 ++ n))).pump s.cur = (s.modTh (takenThread n)).wx rd (s.rx (3#2 ++ n)) :=
    pump_emptyInbox hi
  have hacq (w : State) (o : Option (BitVec 2 × Nat)) :
      SameButEarly w (match o with | some r => w.acquireFrom (.thread w.cur) r.1 r.2 | none => w) := by
    cases o with
    | none => exact .refl w
    | some r => exact acquireFrom_sameButEarly ..
  refine ⟨_, hacq _ ((s.th.landed.find? fun p => p.reg == n.toNat).bind fun p => p.rel.map fun sc => (sc, p.id)), ?_⟩
  show execPtake rd n s = _
  unfold execPtake
  rw [plain_runs hcl]
  refine congrArg _ ((if_neg (by rw [hp]; exact nofun)).trans ?_)
  dsimp only
  refine (congrArg (fun w : State => State.retire (match (s.th.landed.find? fun p => p.reg == n.toNat).bind fun p => p.rel.map fun sc => (sc, p.id) with
    | some r => w.acquireFrom (.thread w.cur) r.1 r.2
    | none => w)) hpump).trans ?_
  rfl

theorem ptakes (rd : BitVec 5) (n : BitVec 3) (s : State) (hcl : s.Clear [rd, 3#2 ++ n]) :
    (s.th.pres.getLsbD n.toNat = false → exec (.ptake rd n) s = .next s) ∧
    (s.th.pres.getLsbD n.toNat = true → (s.core (coreOf s.cur)).inbox = [] →
      ∃ t, exec (.ptake rd n) s = .next t ∧ Acts s t rd (s.rx (3#2 ++ n)) ∧ OthersButNotes s t ∧
        ∀ j, j < 8 → t.th.pres.getLsbD j = (s.th.pres.getLsbD j && decide (j ≠ n.toNat))) := by
  refine ⟨ptake_waits hcl, fun hp hi => ?_⟩
  obtain ⟨u, hu, hstep⟩ := ptake_takes hcl hp hi
  have hcur : u.cur = s.cur := hu.notes.cur
  have hwx : ((s.modTh (takenThread n)).wx rd (s.rx (3#2 ++ n))).thread s.cur = (takenThread n s.th).wx rd (s.rx (3#2 ++ n)) :=
    (wx_th (s.modTh (takenThread n)) rd _).trans (by rw [modTh_th])
  have huth : u.th = u.thread s.cur := congrArg u.thread hcur
  obtain ⟨hx, hpc, hinst, hpres⟩ := early_issue (hu.2 s.cur)
  rw [← huth, hwx] at hx hpc hinst hpres
  have ht := retire_th u
  rw [hpc, Thread.wx_pc] at ht
  refine ⟨_, hstep, acts_of ht (hx.trans (wx_x_congr (show (takenThread n s.th).x = s.th.x from rfl) rd _)) (hinst.trans (Thread.wx_instret ..)) fun a => ?_, fun k hk => ?_, fun j hj => ?_⟩
  · exact (sameButEarly_butCards hu).memory a
  · have ho := hu.notes.2 k
    rw [(wx_other (s.modTh (takenThread n)) rd _ hk).trans (modTh_other s _ hk)] at ho
    rw [retire_other u (hcur ▸ hk)]
    exact ho
  · rw [ht]
    show u.th.pres.getLsbD j = _
    rw [hpres, Thread.wx_pres, takenThread_pres n s.th j hj]

end Sys2Proof.Proofs
end

section
/-! PROOFS. Cards that suspend: CARD.YIELD, WFI and CARD.SUSP (R16, R19, R106, R107, R113). -/

namespace Sys2Proof.Proofs

open Sys2Proof Sys2Proof.Machine

/-! The resume address (R9, R107). -/

theorem isVa_iff (a : Word) : isVa a = true ↔ -2 ^ 54 ≤ a.toInt ∧ a.toInt < 2 ^ 54 := by
  have hlow : (sext (a.extractLsb' 0 55)).toInt = (a.extractLsb' 0 55).toInt := BitVec.toInt_signExtend_of_le (by decide)
  have hl : (a.extractLsb' 0 55).toNat = a.toNat % 2 ^ 55 := low_toNat a 55
  have ha := BitVec.toInt_eq_toNat_cond a
  have hb := BitVec.toInt_eq_toNat_cond (a.extractLsb' 0 55)
  have hlt := a.isLt
  unfold isVa
  rw [beq_iff_eq, ← BitVec.toInt_inj, hlow, hb, ha, hl]
  split <;> split <;> omega

theorem lowBits_ne {a : Word} : (a.extractLsb' 0 2 != 0) = true ↔ a.toNat % 4 ≠ 0 := by
  have h := low_toNat a 2
  rw [bne_iff_ne, ne_eq, ← BitVec.toNat_inj, h]
  rfl

theorem goodTarget_iff (a : Word) : GoodTarget a ↔ a.toNat % 4 = 0 ∧ isVa a = true := by
  unfold GoodTarget
  rw [isVa_iff]

/-- CARD.SUSP to an address that a card may not have. -/
theorem cardSusp_traps (rs1 : BitVec 5) (s : State) (hcl : s.Clear [rs1]) (ht : s.CanTrap) (hbad : ¬ GoodTarget (s.rx rs1)) :
    ∃ t, exec (.cardSusp rs1) s = .next t ∧ TrapTaken s t (targetCause (s.rx rs1)) (s.rx rs1) := by
  refine ⟨s.trapHere (targetCause (s.rx rs1)) (s.rx rs1), ?_, trapHere_taken ht _ _⟩
  show execCardSusp rs1 s = _
  unfold execCardSusp targetCause
  rw [plain_runs hcl]
  dsimp only
  by_cases ha : (s.rx rs1).toNat % 4 = 0
  · have hva : ¬ isVa (s.rx rs1) = true := fun h => hbad ((goodTarget_iff _).2 ⟨ha, h⟩)
    rw [if_neg (fun h => lowBits_ne.1 h ha), if_pos (by simpa using hva), if_pos ha]
  · rw [if_pos (lowBits_ne.2 ha), if_neg ha]

/-- The three instructions that suspend, at their resume addresses. -/
theorem suspends {i : Instr} {pc : Word} {s : State} {rs1 : BitVec 5} (hcl : s.Clear [rs1])
    (hi : i = .cardYield ∧ pc = s.th.pc + 4 ∨ i = .wfi ∧ pc = s.th.pc + 4 ∨ i = .cardSusp rs1 ∧ pc = s.rx rs1 ∧ GoodTarget pc) :
    exec i s = .next (s.suspendTo pc) := by
  have hnil : s.Clear [] := ⟨hcl.1, nofun⟩
  obtain ⟨rfl, rfl⟩ | ⟨rfl, rfl⟩ | ⟨rfl, rfl, hg⟩ := hi
  · show execCardYield s = _
    exact plain_runs hnil
  · show execWfi s = _
    exact plain_runs hnil
  · obtain ⟨ha, hva⟩ := (goodTarget_iff _).1 hg
    show execCardSusp rs1 s = _
    unfold execCardSusp
    rw [plain_runs hcl]
    dsimp only
    rw [if_neg (fun h => lowBits_ne.1 h ha), if_neg (by simp [hva])]

/-! With a full deque the card goes on (R106, log 19). -/

theorem suspendTo_full {s : State} {c : Card} (hc : s.th.card = some c) (hm : s.maySuspend = true) (hf : 256 ≤ (s.core (coreOf s.cur)).deque.length)
    (pc : Word) : s.suspendTo pc = ((s.publish s.cur 2).retireTo pc).modTh fun t => { t with resv := none } := by
  have hpush : s.pushDeque s.myCore (s.th.image c pc) = none := pushAs_full hf _
  unfold State.suspendTo
  rw [hc]
  dsimp only
  rw [if_neg (by simp [hm]), hpush]

theorem retireTo_th (s : State) (pc : Word) : (s.retireTo pc).th = s.th.retireTo pc := State.thread_setThread_same ..

theorem retireTo_other (s : State) (pc : Word) {k : Nat} (h : k ≠ s.cur) : (s.retireTo pc).thread k = s.thread k :=
  State.thread_setThread_other _ _ _ _ h

/-- The thread set `v` with what retirement and a lost reservation change of `u`. -/
def restedAs (u v : Thread) : Thread :=
  { v with x := u.x, pc := u.pc, instret := u.instret, pfx := u.pfx, park := u.park, mark := u.mark, openAt := u.openAt, waits := u.waits,
           early := u.early, seen := u.seen, resv := u.resv }

theorem suspendTo_full_spec (s : State) (pc : Word) : let t := ((s.publish s.cur 2).retireTo pc).modTh fun t => { t with resv := none }
    SameRegisters s t ∧ Retired s t pc ∧ t.th.resv = none ∧ SameRest s.th { t.th with resv := s.th.resv } ∧ OnlyThreadButNotes s t ∧ SameMemory s t := by
  have he := publish_sameButEarly s s.cur 2 false
  have hth : (((s.publish s.cur 2).retireTo pc).modTh fun t => { t with resv := none }).th = { (s.publish s.cur 2).th.retireTo pc with resv := none } :=
    (modTh_th _ _).trans (by rw [retireTo_th])
  have hself := he.2 s.cur
  have hs : (s.publish s.cur 2).th = (s.publish s.cur 2).thread s.cur := rfl
  rw [← hs] at hself
  have hout := he.1
  generalize s.publish s.cur 2 = u at *
  have hcur : u.cur = s.cur := he.notes.cur
  obtain ⟨hx, -, hinst, -⟩ := early_issue hself
  refine ⟨sameRegisters_of ?_, ?_, ?_, ?_, ⟨fun k hk => ?_, ?_⟩, (sameButEarly_butCards he).memory⟩
  · rw [hth]
    exact hx
  · unfold Retired
    rw [hth]
    exact ⟨rfl, congrArg (· + 1) hinst, rfl, rfl, rfl⟩
  · rw [hth]
  · rw [hth]
    have h := congrArg (restedAs s.th) hself
    exact h
  · rw [modTh_other _ _ (show k ≠ (u.retireTo pc).cur from hcur ▸ hk), retireTo_other u pc (hcur ▸ hk)]
    exact he.notes.2 k
  · have h := congrArg (fun w : State => ({ w with nextId := s.nextId } : State)) hout
    exact h

/-! Else it goes back to the deque (R106, R107). -/

theorem ResumeFrame.cur {s t : State} {tid : Nat} (a : ResumeFrame s t tid) : t.cur = s.cur := by
  have h := congrArg State.cur a.outside
  exact h

/-- The thread set has given back what its card has not read. -/
structure GivenBack (s u : State) (c : Card) : Prop where
  cur : u.cur = s.cur
  bytes : SameBytes s u
  lists : ∀ k, (u.core k).deque = (s.core k).deque ∧ (u.core k).asleep = (s.core k).asleep ∧ (u.core k).allocs = (s.core k).allocs
  th : ∃ v, u.th = emptied v ∧ ({ v with early := s.th.early } : Thread) = s.th
  others : OthersButNotes s u

theorem released_givenBack {s : State} {c : Card}
    (hf : fitting (s.core (coreOf s.cur)).free s.th.unread = s.th.unread.length) :
    GivenBack s ((ckptReleased s c).giveBack s.cur) c := by
  have he := ckptReleased_early s c
  generalize ckptReleased s c = u at he
  have hcur : u.cur = s.cur := he.notes.cur
  have hcore (k : Nat) : u.core k = s.core k := by
    unfold State.core
    rw [he.notes.cores]
  have hun : (u.thread s.cur).unread = s.th.unread := by
    have h := congrArg Thread.unread (he.2 s.cur)
    exact h
  have hfit : fitting (u.core (coreOf s.cur)).free (u.thread s.cur).unread = (u.thread s.cur).unread.length := by rw [hcore, hun, hf]
  obtain ⟨hg, hth⟩ := giveBack_spec hfit
  have hoth := giveBack_others hfit
  refine ⟨hg.cur.trans hcur, (sameButEarly_butCards he).bytes.trans hg.bytes, fun k => ?_, ⟨u.thread s.cur, ?_, he.2 s.cur⟩, fun k hk => ?_⟩
  · have h := hg.lists k
    rwa [hcore] at h
  · have h : (u.giveBack s.cur).th = (u.giveBack s.cur).thread s.cur := congrArg _ (hg.cur.trans hcur)
    rw [h, hth]
  · rw [hoth k hk]
    exact he.notes.2 k

/-- The card that a suspension pushes. -/
def pushedCard (u : State) (c : Card) (pc : Word) : Card := { u.th.image c pc with since := u.time, aged := false, home := u.myCore }

/-- The card at the bottom of the deque, and its thread set free. -/
def pushedState (u : State) (c : Card) (pc : Word) : State :=
  ((u.modCore u.myCore fun k => k.withDeque (k.deque ++ [pushedCard u c pc])).retireTo pc).modTh (·.release)

theorem pushedState_th (u : State) (c : Card) (pc : Word) : (pushedState u c pc).th = (u.th.retireTo pc).release := by
  unfold pushedState
  rw [modTh_th, retireTo_th]
  rfl

theorem pushedState_core (u : State) (c : Card) (pc : Word) :
    (pushedState u c pc).core u.myCore = (u.core u.myCore).withDeque ((u.core u.myCore).deque ++ [pushedCard u c pc]) := State.core_setCore_same ..

theorem pushedState_other (u : State) (c : Card) (pc : Word) {k : Nat} (h : k ≠ u.cur) : (pushedState u c pc).thread k = u.thread k :=
  (State.thread_setThread_other _ _ _ _ h).trans (State.thread_setThread_other _ _ _ _ h)

theorem suspendTo_push {s : State} {c : Card} {pc : Word} (hc : s.th.card = some c) (hm : s.maySuspend = true)
    (hl : (s.core (coreOf s.cur)).deque.length < 256) {u : State} (hu : (ckptReleased s c).giveBack s.cur = u)
    (hlu : (u.core u.myCore).deque.length < 256) (ha : (u.core u.myCore).allocs.all (fun a => !a.evicting) = true) :
    s.suspendTo pc = pushedState u c pc := by
  have h1 : s.pushDeque s.myCore (s.th.image c pc) = some _ := pushAs_room hl _
  have h2 : u.pushDeque u.myCore (u.th.image c pc) = some (u.modCore u.myCore fun k => k.withDeque (k.deque ++ [pushedCard u c pc])) :=
    pushAs_room hlu _
  unfold State.suspendTo
  rw [hc]
  dsimp only
  rw [if_neg (by simp [hm]), h1]
  dsimp only
  unfold ckptReleased at hu
  rw [hu, h2]
  refine settleEvict_none ?_
  show ((pushedState u c pc).core u.myCore).allocs.all _ = true
  rw [pushedState_core]
  exact ha

theorem suspensions (i : Instr) (pc : Word) (s : State) (c : Card) (rs1 : BitVec 5) (hcl : s.Clear [rs1])
    (hi : i = .cardYield ∧ pc = s.th.pc + 4 ∨ i = .wfi ∧ pc = s.th.pc + 4 ∨ i = .cardSusp rs1 ∧ pc = s.rx rs1 ∧ GoodTarget pc)
    (hc : s.th.card = some c) (hm : s.maySuspend = true) :
    (256 ≤ (s.core (coreOf s.cur)).deque.length → ∃ t, exec i s = .next t ∧ SameRegisters s t ∧ Retired s t pc ∧ t.th.resv = none ∧
      SameRest s.th { t.th with resv := s.th.resv } ∧ OnlyThreadButNotes s t ∧ SameMemory s t) ∧
    ((s.core (coreOf s.cur)).deque.length < 256 → fitting (s.core (coreOf s.cur)).free s.th.unread = s.th.unread.length →
      (s.core (coreOf s.cur)).allocs.all (fun a => !a.evicting) = true →
      ∃ t k, exec i s = .next t ∧ t.th.card = none ∧ t.th.steward = false ∧ t.th.instret = s.th.instret + 1 ∧ OthersButNotes s t ∧ SameMemory s t ∧
        (t.core (coreOf s.cur)).deque = (s.core (coreOf s.cur)).deque ++ [k] ∧ k.id = c.id ∧ k.pc = pc ∧ k.hdr = c.hdr ∧
        k.xs = [s.rx 10, s.rx 11, s.rx 12, s.rx 13, s.rx 14, s.rx 15]) := by
  rw [suspends hcl hi]
  refine ⟨fun hf => ⟨_, congrArg _ (suspendTo_full hc hm hf pc), suspendTo_full_spec s pc⟩, fun hl hfit halloc => ?_⟩
  obtain ⟨hcur, hbytes, hlists, ⟨v, hth, hv⟩, hoth⟩ := released_givenBack (c := c) hfit
  generalize hu : (ckptReleased s c).giveBack s.cur = u at *
  have hmy : u.myCore = coreOf s.cur := congrArg coreOf hcur
  obtain ⟨hdq, -, hal⟩ := hlists (coreOf s.cur)
  obtain ⟨hx, -, hinst, -⟩ := early_issue hv
  have hux : u.th.x = s.th.x := by rw [hth]; exact hx
  refine ⟨_, pushedCard u c pc, congrArg _ (suspendTo_push hc hm hl hu (by rw [hmy, hdq]; exact hl) (by rw [hmy, hal]; exact halloc)), ?_, ?_, ?_,
    fun k hk => ?_, ?_, ?_, rfl, rfl, rfl, ?_⟩
  · rw [pushedState_th]
    rfl
  · rw [pushedState_th]
    rfl
  · rw [pushedState_th, hth]
    exact congrArg (· + 1) hinst
  · rw [pushedState_other u c pc (hcur ▸ hk)]
    exact hoth k hk
  · exact sameMemory_trans hbytes.memory (SameBytes.memory (⟨rfl, rfl, rfl, rfl⟩ : SameBytes u (pushedState u c pc)))
  · rw [← hmy, pushedState_core, hmy]
    exact congrArg (· ++ [pushedCard u c pc]) hdq
  · show [u.th.rx 10, u.th.rx 11, u.th.rx 12, u.th.rx 13, u.th.rx 14, u.th.rx 15] = _
    simp only [rx_congr hux]
    rfl

end Sys2Proof.Proofs
end

section
/-! PROOFS. CARD.BIND (R112, R113). -/

namespace Sys2Proof.Proofs

open Sys2Proof Sys2Proof.Machine

/-! A tag given up (R112). -/

/-- The only tag of a core, given up by its card. -/
theorem releaseTag_only {s : State} {core b id : Nat} (h : (s.core core).tags = [(b, id)]) : ((s.releaseTag core id).core core).tags = [] := by
  have hf : (s.core core).tags.find? (fun p => p.2 == id) = some (b, id) := by simp [h]
  have ht (u : State) (k : Nat) : ((u.modCore k fun c => { c with tags := adel c.tags b }).core k).tags = adel (u.core k).tags b := by
    unfold State.modCore
    rw [State.core_setCore_same]
  have hd : ((s.dropTag core b).core core).tags = (s.core core).tags := by
    unfold State.dropTag State.modCore
    rw [State.core_setCore_same]
  unfold State.releaseTag
  rw [hf]
  dsimp only
  rw [ht, hd, h]
  simp [adel]

section
variable {rd rs1 rs2 : BitVec 5} {s : State} {c : Card} (hcl : s.Clear [rd, rs1, rs2]) (hc : s.th.card = some c)
include hcl hc

/-- A tag that another card holds. -/
theorem cardBind_taken {k : Nat} (ha : (s.rx rs1).toNat < 64) (hk : afind (s.core (coreOf s.cur)).tags (s.rx rs1).toNat = some k) (hne : k ≠ c.id) :
    exec (.cardBind rd rs1 rs2) s = .next (s.wx rd 1).retire := by
  have hh : s.tagHolder s.myCore (s.rx rs1).toNat = some k := hk
  show execCardBind rd rs1 rs2 s = _
  unfold execCardBind
  rw [plain_runs hcl, hc]
  dsimp only
  rw [if_pos ha, hh]
  exact congrArg _ (if_pos hne)

/-- No tag of that number. -/
theorem cardBind_noTag (ha : 64 ≤ (s.rx rs1).toNat) (hne : (s.rx rs1).toNat ≠ 0xFFFF) :
    exec (.cardBind rd rs1 rs2) s = .next (s.wx rd 2).retire := by
  show execCardBind rd rs1 rs2 s = _
  unfold execCardBind
  rw [plain_runs hcl, hc]
  dsimp only
  rw [if_neg (Nat.not_lt.2 ha), if_neg hne]

/-- A free tag for a card that has another. -/
theorem cardBind_bound {b : Nat} (ha : (s.rx rs1).toNat < 64) (hk : afind (s.core (coreOf s.cur)).tags (s.rx rs1).toNat = none)
    (hb : s.tagOf (coreOf s.cur) c.id = some b) : exec (.cardBind rd rs1 rs2) s = .next (s.wx rd 4).retire := by
  have hh : s.tagHolder s.myCore (s.rx rs1).toNat = none := hk
  have ht : s.tagOf s.myCore c.id = some b := hb
  show execCardBind rd rs1 rs2 s = _
  unfold execCardBind
  rw [plain_runs hcl, hc]
  dsimp only
  rw [if_pos ha, hh, ht]

/-- The tag given up. -/
theorem cardBind_unbinds (ha : (s.rx rs1).toNat = 0xFFFF) : exec (.cardBind rd rs1 rs2) s = .next (((s.releaseTag (coreOf s.cur) c.id).modTh fun t => { t with
    card := some { c with hdr := setBits c.hdr 16 16 0xFFFF }, chans := [], landed := t.landed.map fun p => { p with tag := noTag } }).wx rd 3).retire := by
  show execCardBind rd rs1 rs2 s = _
  unfold execCardBind
  rw [plain_runs hcl, hc]
  dsimp only
  rw [if_neg (by omega), if_pos ha]
  rfl

/-- A free tag, or the card's own again. -/
theorem cardBind_binds (ha : (s.rx rs1).toNat < 64)
    (hk : afind (s.core (coreOf s.cur)).tags (s.rx rs1).toNat = none ∧ s.tagOf (coreOf s.cur) c.id = none ∨
      afind (s.core (coreOf s.cur)).tags (s.rx rs1).toNat = some c.id) (hm : s.maySuspend = true) :
    exec (.cardBind rd rs1 rs2) s = .next (s.bindTag c (s.rx rs1).toNat rd ((s.rx rs2).extractLsb' 0 3)) := by
  show execCardBind rd rs1 rs2 s = _
  unfold execCardBind
  rw [plain_runs hcl, hc]
  dsimp only
  rw [if_pos ha]
  obtain ⟨hn, ht⟩ | hs := hk
  · have hh : s.tagHolder s.myCore (s.rx rs1).toNat = none := hn
    have ht' : s.tagOf s.myCore c.id = none := ht
    rw [hh, ht']
    exact congrArg _ (if_pos hm)
  · have hh : s.tagHolder s.myCore (s.rx rs1).toNat = some c.id := hs
    rw [hh]
    exact congrArg _ ((if_neg (fun h => h rfl)).trans (if_pos hm))

end

/-! The card that sleeps (R112). -/

/-- The sleeping card: its tag and channel, and 0 for rd when it wakes. -/
def sleepingCard (u : State) (c : Card) (tag : Nat) (rd : BitVec 5) (ch : BitVec 3) : Card :=
  { u.th.image c (u.th.pc + 4) with
    hdr := setBits c.hdr 16 16 tag, chan := ch, deliver := some { rd := rd, val := 0 }, home := u.myCore, since := u.time, aged := false }

/-- A core with a sleeping holder of a tag. -/
def withSleeper (tag : Nat) (k : Card) (x : Core) : Core := { x with tags := aput x.tags tag k.id, asleep := x.asleep ++ [k] }

/-- The card asleep, and its thread set free. -/
def asleepState (u : State) (tag : Nat) (k : Card) : State := ((u.modCore u.myCore (withSleeper tag k)).retire).modTh (·.release)

theorem asleepState_core (u : State) (tag : Nat) (k : Card) : (asleepState u tag k).core u.myCore = withSleeper tag k (u.core u.myCore) :=
  State.core_setCore_same ..

theorem asleepState_th (u : State) (tag : Nat) (k : Card) : (asleepState u tag k).th.card = none := by
  unfold asleepState
  rw [modTh_th]
  rfl

theorem asleepState_other (u : State) (tag : Nat) (k : Card) {j : Nat} (h : j ≠ u.cur) : (asleepState u tag k).thread j = u.thread j :=
  (State.thread_setThread_other _ _ _ _ h).trans (State.thread_setThread_other _ _ _ _ h)

theorem bindTag_eq {s u : State} (hu : s.giveBack s.cur = u) (hcur : u.cur = s.cur) (c : Card) (tag : Nat) (rd : BitVec 5) (ch : BitVec 3)
    (ha : (u.core u.myCore).allocs.all (fun a => !a.evicting) = true) (hh : u.hasHeld u.myCore tag = false) :
    s.bindTag c tag rd ch = asleepState u tag (sleepingCard u c tag rd ch) := by
  have hmy : s.myCore = u.myCore := congrArg coreOf hcur.symm
  have hall : ((asleepState u tag (sleepingCard u c tag rd ch)).core u.myCore).allocs.all (fun a => !a.evicting) = true := by
    rw [asleepState_core]
    exact ha
  have hheld : (asleepState u tag (sleepingCard u c tag rd ch)).hasHeld u.myCore tag = false := by
    unfold State.hasHeld
    rw [asleepState_core]
    exact hh
  unfold State.bindTag
  rw [hu, hmy]
  dsimp only
  refine Eq.trans ?_ ((congrArg (fun w : State => if w.hasHeld u.myCore tag then w.wake u.myCore c.id else w) (settleEvict_none hall)).trans
    (if_neg (by rw [hheld]; exact nofun)))
  rfl

theorem binds (rd rs1 rs2 : BitVec 5) (s : State) (c : Card) (hcl : s.Clear [rd, rs1, rs2]) (hc : s.th.card = some c) :
    let core := coreOf s.cur
    let a := (s.rx rs1).toNat
    let gives (v : Word) := ∃ t, exec (.cardBind rd rs1 rs2) s = .next t ∧ Writes s t rd v (s.th.pc + 4)
    (a < 64 → ∀ k, afind (s.core core).tags a = some k → k ≠ c.id → gives 1) ∧ (64 ≤ a → a ≠ 0xFFFF → gives 2) ∧
    (a < 64 → afind (s.core core).tags a = none → (∃ b, s.tagOf core c.id = some b) → gives 4) ∧
    (a = 0xFFFF → ∃ t, exec (.cardBind rd rs1 rs2) s = .next t ∧ Acts s t rd 3 ∧ t.th.chans = [] ∧ OtherThreads s t ∧
      (t.th.card.map fun d => (d.id, d.tag)) = some (c.id, 0xFFFF) ∧
      ∀ b, (s.core core).tags = [(b, c.id)] → (t.core core).tags = []) ∧
    (a < 64 → (afind (s.core core).tags a = none ∧ s.tagOf core c.id = none ∨ afind (s.core core).tags a = some c.id) → s.maySuspend = true →
      (s.core core).allocs.all (fun a => !a.evicting) = true → fitting (s.core core).free s.th.unread = s.th.unread.length →
      (s.giveBack s.cur).hasHeld core a = false →
      ∃ t k, exec (.cardBind rd rs1 rs2) s = .next t ∧ t.th.card = none ∧ OtherThreads s t ∧ SameMemory s t ∧
        afind (t.core core).tags a = some c.id ∧ (t.core core).asleep = (s.core core).asleep ++ [k] ∧ k.id = c.id ∧ k.pc = s.th.pc + 4 ∧
        k.tag = a ∧ k.chan = (s.rx rs2).extractLsb' 0 3 ∧ k.deliver = some { rd := rd, val := 0 } ∧
        k.xs = [s.rx 10, s.rx 11, s.rx 12, s.rx 13, s.rx 14, s.rx 15]) := by
  intro core a gives
  refine ⟨fun ha k hk hne => ⟨_, cardBind_taken hcl hc ha hk hne, writes_retire ..⟩, fun ha hne => ⟨_, cardBind_noTag hcl hc ha hne, writes_retire ..⟩,
    fun ha hk ⟨b, hb⟩ => ⟨_, cardBind_bound hcl hc ha hk hb, writes_retire ..⟩, fun ha => ?_, fun ha hk hm halloc hfit hheld => ?_⟩
  · have hend := releaseTag_endFrame s core c.id
    have htags := fun b => releaseTag_only (s := s) (core := core) (b := b) (id := c.id)
    have hstep := cardBind_unbinds hcl hc ha
    have hcur := congrArg State.cur hend.outside
    replace hcur : (s.releaseTag core c.id).cur = s.cur := hcur
    generalize s.releaseTag core c.id = u at hend htags hstep hcur
    have hthread (k : Nat) : u.thread k = s.thread k := by
      unfold State.thread
      rw [hend.threads]
    have huth : u.th = s.th := (congrArg u.thread hcur).trans (hthread s.cur)
    obtain ⟨ht, hacts, honly, -⟩ := modTh_wx_retire_acts u (fun t => { t with
      card := some { c with hdr := setBits c.hdr 16 16 0xFFFF }, chans := [], landed := t.landed.map fun p => { p with tag := noTag } }) rd 3 rfl rfl rfl
    refine ⟨_, hstep, ?_, ?_, fun k hk => ?_, ?_, fun b hb => htags b hb⟩
    · obtain ⟨h1, h2, h3, h4⟩ := hacts
      have hrx (r : BitVec 5) : u.rx r = s.rx r := by
        unfold State.rx
        rw [huth]
      refine ⟨h1, fun r hr => (h2 r hr).trans (hrx r), ?_, sameMemory_trans hend.bytes.memory h4⟩
      unfold Retired at h3 ⊢
      rwa [huth] at h3
    · rw [ht]
      exact Thread.wx_chans ..
    · exact (honly k (hcur ▸ hk)).trans (hthread k)
    · rw [ht]
      show ((Thread.wx _ rd 3).card.map _) = _
      rw [Thread.wx_card]
      show some (c.id, ((setBits c.hdr 16 16 0xFFFF).extractLsb' 16 16).toNat) = _
      rw [extract_setBits_same (by decide)]
      rfl
  · obtain ⟨hg, hth⟩ := giveBack_spec hfit
    have hoth := giveBack_others hfit
    generalize hu : s.giveBack s.cur = u at *
    have hcur := hg.cur
    have hmy : u.myCore = core := congrArg coreOf hcur
    have huth : u.th = emptied s.th := (congrArg u.thread hcur).trans hth
    obtain ⟨-, has, hal⟩ := hg.lists core
    have heq := bindTag_eq hu hcur c a rd ((s.rx rs2).extractLsb' 0 3) (by rw [hmy, hal]; exact halloc) (by rw [hmy]; exact hheld)
    refine ⟨_, sleepingCard u c a rd ((s.rx rs2).extractLsb' 0 3), (cardBind_binds hcl hc ha hk hm).trans (congrArg _ heq), asleepState_th ..,
      fun k hk => (asleepState_other u a _ (hcur ▸ hk)).trans (hoth k hk),
      sameMemory_trans hg.bytes.memory (SameBytes.memory (⟨rfl, rfl, rfl, rfl⟩ : SameBytes u (asleepState u a _))), ?_, ?_, rfl, ?_, ?_, rfl, rfl, ?_⟩
    · rw [← hmy, asleepState_core]
      exact (afind_aput ..).trans (if_pos rfl)
    · rw [← hmy, asleepState_core, hmy]
      exact congrArg (· ++ [sleepingCard u c a rd ((s.rx rs2).extractLsb' 0 3)]) has
    · show u.th.pc + 4 = _
      rw [huth]
      rfl
    · show ((setBits c.hdr 16 16 a).extractLsb' 16 16).toNat = a
      rw [extract_setBits_same (by decide), BitVec.toNat_ofNat]
      exact Nat.mod_eq_of_lt (by omega)
    · show [u.th.rx 10, u.th.rx 11, u.th.rx 12, u.th.rx 13, u.th.rx 14, u.th.rx 15] = _
      rw [huth]
      rfl

end Sys2Proof.Proofs
end

section
/-! PROOFS. CARD.STEAL (R97, R98, R120). -/

namespace Sys2Proof.Proofs

open Sys2Proof Sys2Proof.Machine

/-! A result that comes back later (R32). -/

/-- The result that comes back with its value decided. -/
def laterOut (u : State) (kind : OutKind) (rd : BitVec 5) (v : Word) : Out := { id := u.nextId, kind := kind, regs := [rd], vals := some [v], acq := none }

theorem returnLater_th (u : State) (kind : OutKind) (rd : BitVec 5) (v : Word) :
    (u.returnLater kind rd v).retire.th = ({ u.th with outs := u.th.outs ++ [laterOut u kind rd v] } : Thread).retireTo (u.th.pc + 4) := by
  have h : (u.returnLater kind rd v).th = { u.th with outs := u.th.outs ++ [laterOut u kind rd v] } := State.thread_setThread_same ..
  rw [retire_th, h]

theorem returnLater_other (u : State) (kind : OutKind) (rd : BitVec 5) (v : Word) {k : Nat} (h : k ≠ u.cur) :
    (u.returnLater kind rd v).retire.thread k = u.thread k :=
  (State.thread_setThread_other _ _ _ _ h).trans (State.thread_setThread_other _ _ _ _ h)

theorem returnLater_bytes (u : State) (kind : OutKind) (rd : BitVec 5) (v : Word) : SameBytes u (u.returnLater kind rd v).retire := ⟨rfl, rfl, rfl, rfl⟩

/-- A state that differs in cores at most. -/
def OnlyCores (s u : State) : Prop := ({ u with cores := s.cores } : State) = s

theorem OnlyCores.refl (s : State) : OnlyCores s s := rfl

theorem OnlyCores.trans {s t u : State} (a : OnlyCores s t) (b : OnlyCores t u) : OnlyCores s u := by
  have h := congrArg (fun w : State => ({ w with cores := s.cores } : State)) b
  exact h.trans a

theorem onlyCores_modCore (s : State) (c : Nat) (f : Core → Core) : OnlyCores s (s.modCore c f) := rfl

theorem OnlyCores.fields {s u : State} (h : OnlyCores s u) : u.threads = s.threads ∧ u.cur = s.cur ∧ SameBytes s u := by
  have h1 := congrArg State.threads h
  have h2 := congrArg State.cur h
  have h3 := congrArg State.mem h
  have h4 := congrArg State.vague h
  have h5 := congrArg State.gcolNow h
  have h6 := congrArg State.gfold h
  exact ⟨h1, h2, h3, h4, h5, h6⟩

/-- The instruction ends with a value to come back. -/
theorem gives_later {s u : State} (h : OnlyCores s u) (rd : BitVec 5) (w : Word) : let t := (u.returnLater .card rd w).retire
    SameRegisters s t ∧ Retired s t (s.th.pc + 4) ∧ SameButResults s.th t.th ∧ OtherThreads s t ∧ SameMemory s t ∧
    ∃ o : Out, t.th.outs = s.th.outs ++ [o] ∧ o.regs = [rd] ∧ o.vals = some [w] ∧ o.acq = none := by
  obtain ⟨hthreads, hcur, hbytes⟩ := h.fields
  have hthread (k : Nat) : u.thread k = s.thread k := by
    unfold State.thread
    rw [hthreads]
  have huth : u.th = s.th := (congrArg u.thread hcur).trans (hthread s.cur)
  have ht := returnLater_th u .card rd w
  rw [huth] at ht
  refine ⟨sameRegisters_of ?_, retired_of ht rfl, ?_, fun k hk => (returnLater_other u .card rd w (hcur ▸ hk)).trans (hthread k),
    (hbytes.trans (returnLater_bytes u .card rd w)).memory, laterOut u .card rd w, ?_, rfl, rfl, rfl⟩
  · rw [ht]
    rfl
  · rw [ht]
    rfl
  · rw [ht]
    rfl

/-! CARD.STEAL (R120). -/

/-- Whether the issuing thread set runs a card of a group. -/
def grouped (s : State) : Bool := match s.th.card with | some c => c.seat.isSome | none => false

theorem grouped_eq_false {s : State} (h : ∀ c, s.th.card = some c → c.seat = none) : grouped s = false := by
  unfold grouped
  split
  · next c hc => rw [h c hc]; rfl
  · rfl

/-- The victim that CARD.STEAL names. -/
def namedVictim (s : State) (rs1 : BitVec 5) : Nat := dieOf (coreOf s.cur) * 256 + (s.rx rs1).toNat

theorem cardSteal_eq {rd rs1 : BitVec 5} {s : State} (hcl : s.Clear [rd, rs1]) : exec (.cardSteal rd rs1) s = .next (
    if grouped s then (s.returnLater .card rd 1).retire
    else if 255 < (s.rx rs1).toNat ∨ namedVictim s rs1 = s.myCore then (s.returnLater .card rd 2).retire
    else match s.wins (namedVictim s rs1) s.myCore with
      | none => (s.returnLater .card rd 1).retire
      | some c =>
        match (s.takeFrom (namedVictim s rs1) c.id).pushAs s.myCore c with
        | some u => (u.returnLater .card rd 0).retire
        | none => (((s.takeFrom (namedVictim s rs1) c.id).modCore (namedVictim s rs1) fun k => k.withDeque (c :: k.deque)).returnLater .card rd 3).retire) := by
  show execCardSteal rd rs1 s = _
  unfold execCardSteal
  rw [plain_runs hcl]
  rfl

theorem cardSteal_refuses {rd rs1 : BitVec 5} {s : State} (hcl : s.Clear [rd, rs1]) (ha : ∀ c, s.th.card = some c → c.seat = none)
    (h : 255 < (s.rx rs1).toNat ∨ namedVictim s rs1 = coreOf s.cur) : exec (.cardSteal rd rs1) s = .next (s.returnLater .card rd 2).retire := by
  rw [cardSteal_eq hcl, grouped_eq_false ha]
  exact congrArg _ ((if_neg Bool.false_ne_true).trans (if_pos h))

theorem cardSteal_fails {rd rs1 : BitVec 5} {s : State} (hcl : s.Clear [rd, rs1])
    (h : (∃ c, s.th.card = some c ∧ c.seat.isSome = true) ∨
      ((s.rx rs1).toNat ≤ 255 ∧ namedVictim s rs1 ≠ coreOf s.cur ∧ s.wins (namedVictim s rs1) (coreOf s.cur) = none)) :
    exec (.cardSteal rd rs1) s = .next (s.returnLater .card rd 1).retire := by
  rw [cardSteal_eq hcl]
  cases hg : grouped s with
  | true => exact congrArg _ (if_pos rfl)
  | false =>
    obtain ⟨c, hc, hs⟩ | ⟨hle, hne, hw⟩ := h
    · unfold grouped at hg
      rw [hc] at hg
      exact absurd (hs.symm.trans hg) nofun
    · have hw' : s.wins (namedVictim s rs1) s.myCore = none := hw
      have hne' : namedVictim s rs1 ≠ s.myCore := hne
      rw [if_neg Bool.false_ne_true, if_neg (not_or.2 ⟨Nat.not_lt.2 hle, hne'⟩), hw']

theorem cardSteal_wins {rd rs1 : BitVec 5} {s : State} {k : Card} (hcl : s.Clear [rd, rs1]) (ha : ∀ c, s.th.card = some c → c.seat = none)
    (hle : (s.rx rs1).toNat ≤ 255) (hne : namedVictim s rs1 ≠ coreOf s.cur) (hw : s.wins (namedVictim s rs1) (coreOf s.cur) = some k) :
    exec (.cardSteal rd rs1) s = .next (match (s.takeFrom (namedVictim s rs1) k.id).pushAs s.myCore k with
      | some u => (u.returnLater .card rd 0).retire
      | none => (((s.takeFrom (namedVictim s rs1) k.id).modCore (namedVictim s rs1) fun x => x.withDeque (k :: x.deque)).returnLater .card rd 3).retire) := by
  have hw' : s.wins (namedVictim s rs1) s.myCore = some k := hw
  have hne' : namedVictim s rs1 ≠ s.myCore := hne
  rw [cardSteal_eq hcl, grouped_eq_false ha, if_neg Bool.false_ne_true, if_neg (not_or.2 ⟨Nat.not_lt.2 hle, hne'⟩), hw']

theorem takeFrom_other (s : State) {core d : Nat} (id : Nat) (h : d ≠ core) : (s.takeFrom core id).core d = s.core d :=
  State.core_setCore_other _ _ _ _ h

theorem modCore_same (s : State) (c : Nat) (f : Core → Core) : (s.modCore c f).core c = f (s.core c) := State.core_setCore_same ..

theorem modCore_other (s : State) {c d : Nat} (f : Core → Core) (h : d ≠ c) : (s.modCore c f).core d = s.core d := State.core_setCore_other _ _ _ _ h

theorem returnLater_core (u : State) (kind : OutKind) (rd : BitVec 5) (v : Word) (c : Nat) : (u.returnLater kind rd v).retire.core c = u.core c := rfl

theorem steals (rd rs1 : BitVec 5) (s : State) (hcl : s.Clear [rd, rs1]) :
    let me := coreOf s.cur
    let v := dieOf me * 256 + (s.rx rs1).toNat
    let gives (t : State) (w : Word) := exec (.cardSteal rd rs1) s = .next t ∧ SameRegisters s t ∧ Retired s t (s.th.pc + 4) ∧
      SameButResults s.th t.th ∧ OtherThreads s t ∧ SameMemory s t ∧
      ∃ o : Out, t.th.outs = s.th.outs ++ [o] ∧ o.regs = [rd] ∧ o.vals = some [w] ∧ o.acq = none
    let alone := ∀ c, s.th.card = some c → c.seat = none
    (alone → 255 < (s.rx rs1).toNat ∨ v = me → ∃ t, gives t 2 ∧ t.cores = s.cores) ∧
    (((∃ c, s.th.card = some c ∧ c.seat.isSome = true) ∨ ((s.rx rs1).toNat ≤ 255 ∧ v ≠ me ∧ s.wins v me = none)) →
      ∃ t, gives t 1 ∧ t.cores = s.cores) ∧
    ((s.rx rs1).toNat ≤ 255 → v ≠ me → alone → ∀ k, s.wins v me = some k →
      (256 ≤ (s.core me).deque.length → ∃ t, gives t 3 ∧ (∀ j, j ≠ v → t.core j = s.core j) ∧
        (t.core v).deque = k :: (s.core v).deque.filter (fun c => c.id != k.id)) ∧
      ((s.core me).deque.length < 256 → ∃ t, gives t 0 ∧ (t.core v).deque = (s.core v).deque.filter (fun c => c.id != k.id) ∧
        ∃ d, (t.core me).deque = (s.core me).deque ++ [d] ∧ d.id = k.id ∧ d.pc = k.pc ∧ d.hdr = k.hdr ∧ d.xs = k.xs)) := by
  intro me v gives alone
  refine ⟨fun ha h => ⟨_, ⟨cardSteal_refuses hcl ha h, gives_later (OnlyCores.refl s) rd 2⟩, rfl⟩, fun h => ⟨_, ⟨cardSteal_fails hcl h, gives_later (OnlyCores.refl s) rd 1⟩, rfl⟩,
    fun hle hne ha k hw => ?_⟩
  have hstep := cardSteal_wins hcl ha hle hne hw
  have hme : (s.takeFrom v k.id).core me = s.core me := takeFrom_other s k.id hne.symm
  refine ⟨fun hf => ?_, fun hl => ?_⟩
  · have hpush : (s.takeFrom v k.id).pushAs me k = none := pushAs_full (by rw [hme]; exact hf) k
    rw [show (s.takeFrom (namedVictim s rs1) k.id).pushAs s.myCore k = none from hpush] at hstep
    refine ⟨_, ⟨hstep, gives_later ((onlyCores_modCore ..).trans (onlyCores_modCore ..)) rd 3⟩, fun j hj => ?_, ?_⟩
    · rw [returnLater_core]
      exact (modCore_other _ _ hj).trans (takeFrom_other s k.id hj)
    · rw [returnLater_core]
      refine (congrArg Core.deque (modCore_same _ _ _)).trans ?_
      exact congrArg (k :: ·) (takeFrom_deque s v k.id)
  · have hpush := pushAs_room (s := s.takeFrom v k.id) (core := me) (by rw [hme]; exact hl) k
    rw [show (s.takeFrom (namedVictim s rs1) k.id).pushAs s.myCore k = _ from hpush] at hstep
    refine ⟨_, ⟨hstep, gives_later ((onlyCores_modCore ..).trans (onlyCores_modCore ..)) rd 0⟩, ?_, { k with home := me }, ?_, rfl, rfl, rfl, rfl⟩
    · rw [returnLater_core]
      exact (congrArg Core.deque (modCore_other _ _ hne)).trans (takeFrom_deque s v k.id)
    · rw [returnLater_core]
      refine (congrArg Core.deque (modCore_same _ _ _)).trans ?_
      show ((s.takeFrom v k.id).core me).deque ++ [{ k with home := me }] = _
      rw [hme]

/-! What a thief may take (R97, R98). -/

theorem topOf_highest (l : List Card) : ∀ k, topOf l = some k → k ∈ l ∧ ∀ c ∈ l, c.agedClass ≤ k.agedClass := by
  induction l with
  | nil => exact fun k h => absurd h nofun
  | cons a l ih =>
    intro k h
    unfold topOf at h
    cases ht : topOf l with
    | none =>
      rw [ht] at h
      cases h
      cases l with
      | nil => simp
      | cons b l =>
        unfold topOf at ht
        split at ht
        · split at ht <;> exact absurd ht nofun
        · exact absurd ht nofun
    | some d =>
      rw [ht] at h
      obtain ⟨hd, hmax⟩ := ih d ht
      dsimp only at h
      split at h
      · next hlt =>
        cases h
        exact ⟨.tail _ hd, List.forall_mem_cons.2 ⟨Nat.le_of_lt hlt, hmax⟩⟩
      · next hlt =>
        cases h
        exact ⟨.head _, List.forall_mem_cons.2 ⟨Nat.le_refl _, fun q hq => (hmax q hq).trans (Nat.not_lt.1 hlt)⟩⟩

theorem wins_spec {s : State} {v thief : Nat} {k : Card} (h : s.wins v thief = some k) :
    s.stealFrom v thief = some k ∧ s.beaten v thief k = false := by
  unfold State.wins at h
  obtain ⟨c, hc, hw⟩ := Option.bind_eq_some_iff.1 h
  split at hw
  · exact absurd hw nofun
  · next hb =>
    cases hw
    exact ⟨hc, Bool.eq_false_iff.2 hb⟩

theorem winners (s : State) (v thief : Nat) (k : Card) (h : s.wins v thief = some k) :
    ((s.core v).deque.length = 1 → ∀ tid ∈ tidsOf v, s.isFree tid = true → ∀ c, s.bestPick (s.picks tid) = some (.ready c) → c.id ≠ k.id) ∧
    k ∈ (s.core v).deque ∧ affAdmits k.aff v thief = true ∧ k.seat = none ∧ k.copy = none ∧
    ∀ c ∈ (s.core v).deque, s.stealable v thief c = true → c.agedClass ≤ k.agedClass := by
  obtain ⟨hsteal, hbeat⟩ := wins_spec h
  obtain ⟨hin, hmax⟩ := topOf_highest _ k hsteal
  obtain ⟨hdq, hst⟩ := List.mem_filter.1 hin
  have hst' := hst
  unfold State.stealable at hst'
  simp only [Bool.and_eq_true, Option.isNone_iff_eq_none] at hst'
  obtain ⟨⟨⟨haff, hseat⟩, hcopy⟩, -⟩ := hst'
  refine ⟨fun hone tid ht hfree c hc he => ?_, hdq, haff, hseat, hcopy, fun c hc hs => hmax c (List.mem_filter.2 ⟨hc, hs⟩)⟩
  have hany : (tidsOf v).any (fun tid => s.isFree tid && (match s.bestPick (s.picks tid) with
      | some (.ready d) => d.id == k.id
      | _ => false)) = true := List.any_eq_true.2 ⟨tid, ht, by simp [hfree, hc, he]⟩
  unfold State.beaten at hbeat
  rw [hone] at hbeat
  have : ((1 == 1 : Bool) && (true || s.cores.any fun p => decide (p.1 < thief) && s.reachesFor p.1 v)) = false := by
    rw [← hany]
    exact hbeat
  simp at this

end Sys2Proof.Proofs
end

section
/-! PROOFS. HDONE (R123, R250). -/

namespace Sys2Proof.Proofs

open Sys2Proof Sys2Proof.Machine

/-! The mark of a waiting instruction (R75). -/

/-- What `setMark` changes: the mark, the writes open then, and the counter that names them. -/
structure Marked (s t : State) : Prop where
  outside : ({ t with threads := s.threads, nextId := s.nextId } : State) = s
  own : ({ t.thread s.cur with mark := s.th.mark, openAt := s.th.openAt } : Thread) = s.th
  others : OtherThreads s t

theorem setMark_marked (s : State) : Marked s s.setMark := by
  unfold State.setMark
  dsimp only
  split
  · exact ⟨rfl, rfl, fun _ _ => rfl⟩
  · have ho (f : Thread → Thread) (k : Nat) (hk : k ≠ s.cur) : ({ s.modTh f with nextId := s.nextId + 1 } : State).thread k = s.thread k :=
      modTh_other s f hk
    refine ⟨rfl, ?_, fun k hk => ho _ k hk⟩
    have h (f : Thread → Thread) : ({ s.modTh f with nextId := s.nextId + 1 } : State).thread s.cur = f s.th := modTh_th s f
    rw [h]

theorem Marked.cur {s t : State} (h : Marked s t) : t.cur = s.cur := by
  have hc := congrArg State.cur h.outside
  exact hc

theorem Marked.th {s t : State} (h : Marked s t) : t.th = t.thread s.cur := congrArg t.thread h.cur

theorem Marked.core {s t : State} (h : Marked s t) (k : Nat) : t.core k = s.core k := by
  have hc := congrArg (State.core · k) h.outside
  exact hc

theorem Marked.bytes {s t : State} (h : Marked s t) : SameBytes s t := by
  have hm := congrArg State.mem h.outside
  have hv := congrArg State.vague h.outside
  have hc := congrArg State.gcolNow h.outside
  have hf := congrArg State.gfold h.outside
  exact ⟨hm, hv, hc, hf⟩

theorem Marked.fields {s t : State} (h : Marked s t) : (t.thread s.cur).x = s.th.x ∧ (t.thread s.cur).pc = s.th.pc ∧
    (t.thread s.cur).instret = s.th.instret ∧ (t.thread s.cur).card = s.th.card ∧ (t.thread s.cur).lost = s.th.lost := by
  have h1 := congrArg Thread.x h.own
  have h2 := congrArg Thread.pc h.own
  have h3 := congrArg Thread.instret h.own
  have h4 := congrArg Thread.card h.own
  have h5 := congrArg Thread.lost h.own
  exact ⟨h1, h2, h3, h4, h5⟩

theorem Marked.outstanding {s t : State} (h : Marked s t) : t.outstanding s.cur = s.outstanding s.cur := by
  have ho := congrArg Thread.outs h.own
  have hj := congrArg Thread.jobs h.own
  replace ho : (t.thread s.cur).outs = (s.thread s.cur).outs := ho
  replace hj : (t.thread s.cur).jobs = (s.thread s.cur).jobs := hj
  unfold State.outstanding State.seqOf
  rw [ho, hj, h.core]

/-! The held commands go (R123, R241). -/

/-- A held command as it is sent from a core whose count stands at `m`. -/
def numbered (s : State) (core : Nat) (m : BitVec 26) (p : Packet × Nat) : Packet :=
  { p.1 with free := true, mid := BitVec.ofNat 12 s.chipno ++ BitVec.ofNat 10 core ++ (m + BitVec.ofNat 26 p.2) }

/-- What is sent: the network and the core's count change. -/
structure Sent (s t : State) (l : List Packet) : Prop where
  outside : ({ t with net := s.net, cores := s.cores } : State) = s
  net : t.net = s.net ++ (l.zipIdx.map (numbered s s.myCore (s.core s.myCore).sent))
  core : ({ t.core s.myCore with sent := (s.core s.myCore).sent } : Core) = s.core s.myCore

theorem numbered_congr {s t : State} (h : t.chipno = s.chipno) (core : Nat) (m : BitVec 26) (p : Packet × Nat) : numbered t core m p = numbered s core m p := by
  unfold numbered
  rw [h]

/-- The numbers go on from one command to the next. -/
theorem numbered_next (s : State) (core : Nat) (m : BitVec 26) (l : List Packet) (n : Nat) :
    (l.zipIdx n).map (numbered s core (m + 1)) = (l.zipIdx (n + 1)).map (numbered s core m) := by
  induction l generalizing n with
  | nil => rfl
  | cons p l ih =>
    have hm : m + 1 + BitVec.ofNat 26 n = m + BitVec.ofNat 26 (n + 1) := by
      rw [BitVec.ofNat_add, BitVec.add_assoc, BitVec.add_comm (1 : BitVec 26)]
      rfl
    rw [List.zipIdx_cons, List.zipIdx_cons, List.map_cons, List.map_cons, ih]
    unfold numbered
    rw [hm]

/-- One held command sent. -/
def sentOne (s : State) (p : Packet) : State :=
  { (s.nextMid s.myCore).2 with net := s.net ++ [{ p with mid := (s.nextMid s.myCore).1, free := true }] }

theorem sendHeld_cons (s : State) (p : Packet) (l : List Packet) : s.sendHeld (p :: l) = (sentOne s p).sendHeld l := rfl

theorem sentOne_core (s : State) (p : Packet) : (sentOne s p).core s.myCore = { s.core s.myCore with sent := (s.core s.myCore).sent + 1 } :=
  State.core_setCore_same ..

theorem sentOne_net (s : State) (p : Packet) : (sentOne s p).net = s.net ++ [numbered s s.myCore (s.core s.myCore).sent (p, 0)] := by
  have h : (s.core s.myCore).sent + BitVec.ofNat 26 0 = (s.core s.myCore).sent := BitVec.add_zero _
  unfold numbered
  rw [h]
  rfl

theorem sendHeld_sent (l : List Packet) : ∀ s : State, Sent s (s.sendHeld l) l := by
  induction l with
  | nil => exact fun s => ⟨rfl, (List.append_nil _).symm, rfl⟩
  | cons p l ih =>
    intro s
    obtain ⟨hout, hnet, hown⟩ := ih (sentOne s p)
    have hmy : (sentOne s p).myCore = s.myCore := rfl
    rw [hmy, sentOne_core] at hnet hown
    rw [sendHeld_cons]
    refine ⟨?_, ?_, ?_⟩
    · have h := congrArg (fun w : State => ({ w with net := s.net, cores := s.cores } : State)) hout
      exact h
    · rw [hnet, sentOne_net, List.append_assoc]
      refine congrArg (s.net ++ ·) (congrArg (numbered s s.myCore (s.core s.myCore).sent (p, 0) :: ·) ?_)
      exact (List.map_congr_left fun q _ => numbered_congr rfl ..).trans (numbered_next ..)
    · have h := congrArg (fun w : Core => ({ w with sent := (s.core s.myCore).sent } : Core)) hown
      exact h

/-! HDONE. -/

theorem hdone_illegal {s : State} {c : Card} (hcl : s.Clear []) (hc : s.th.card = some c) (h : c.handler = false ∨ c.hdone = true) (ht : s.CanTrap) :
    ∃ t, exec .hdone s = .next t ∧ TrapTaken s t 0 (s.ir.zeroExtend 64) := by
  refine ⟨s.illegal, ?_, trapHere_taken ht 0 _⟩
  show execHdone s = _
  unfold execHdone
  rw [plain_runs hcl, hc]
  exact congrArg _ (if_pos (by
    obtain h | h := h
    · rw [h]; rfl
    · rw [h, Bool.or_true]))

theorem carry_none_all (l : List Packet) (h : ∀ p ∈ l, p.rel = none) : ∀ u : State,
    l.foldl (fun u p => u.carry (.thread u.cur) p.rel p.id) u = u := by
  induction l with
  | nil => exact fun _ => rfl
  | cons p l ih =>
    intro u
    rw [List.foldl_cons, h p (.head _)]
    exact ih (fun q hq => h q (.tail _ hq)) u

/-- The message of a handler leaves the inbox. -/
def withoutMessage (s : State) (o : Option Packet) : State :=
  match o with
  | some m => s.modCore s.myCore fun k => { k with inbox := k.inbox.filter fun p => p.id != m.id }
  | none => s

/-- The card has sent what it held. -/
def doneCard (t : Thread) : Thread := { t with card := t.card.map fun k => { k with sends := [], hdone := true } }

theorem handlerDone_eq {s : State} {c : Card} (h : ∀ p ∈ c.sends, p.rel = none) :
    s.handlerDone c = withoutMessage ((s.sendHeld c.sends).modTh doneCard) c.msg := by
  unfold State.handlerDone
  rw [carry_none_all _ h]
  rfl

theorem withoutMessage_onlyCores (s : State) (o : Option Packet) : OnlyCores s (withoutMessage s o) := by
  unfold withoutMessage
  split
  · exact onlyCores_modCore ..
  · exact .refl s

theorem hdone_acts {s : State} {c : Card} (hcl : s.Clear []) (hc : s.th.card = some c) (hh : c.handler = true) (hd : c.hdone = false)
    (ho : s.outstanding s.cur = false) (hrel : ∀ p ∈ c.sends, p.rel = none) :
    exec .hdone s = .next (withoutMessage ((s.setMark.sendHeld c.sends).modTh doneCard) c.msg).retire := by
  have hm := setMark_marked s
  have hmay : s.setMark.mayHdone c = true := by
    have hout : s.setMark.outstanding s.setMark.cur = false := by rw [hm.cur, hm.outstanding, ho]
    unfold State.mayHdone
    rw [hout]
    exact List.all_eq_true.2 fun p hp => by rw [hrel p hp]
  have hsys : c.sendsSys = false := List.any_eq_false.2 fun p hp => by rw [hrel p hp]; exact nofun
  show execHdone s = _
  unfold execHdone
  rw [plain_runs hcl, hc]
  dsimp only
  rw [if_neg (by rw [hh, hd]; exact nofun), if_pos hmay, hsys, if_neg Bool.false_ne_true, handlerDone_eq hrel]

theorem hdones (s : State) (c : Card) (hcl : s.Clear []) (hc : s.th.card = some c) :
    (c.handler = true → c.hdone = false → s.outstanding s.cur = false → (∀ p ∈ c.sends, p.rel = none) →
      ∃ t, exec .hdone s = .next t ∧ SameRegisters s t ∧ Retired s t (s.th.pc + 4) ∧ t.th.card = some { c with sends := [], hdone := true } ∧
        t.net = s.net ++ (c.sends.zipIdx.map fun p => { p.1 with
          free := true, mid := BitVec.ofNat 12 s.chipno ++ BitVec.ofNat 10 (coreOf s.cur) ++ ((s.core (coreOf s.cur)).sent + BitVec.ofNat 26 p.2) }) ∧
        OtherThreads s t ∧ SameMemory s t ∧
        ∀ m, c.msg = some m → (t.core (coreOf s.cur)).inbox = (s.core (coreOf s.cur)).inbox.filter fun p => p.id != m.id) ∧
    (c.handler = false ∨ c.hdone = true → s.CanTrap → ∃ t, exec .hdone s = .next t ∧ TrapTaken s t 0 (s.ir.zeroExtend 64)) := by
  refine ⟨fun hh hd ho hrel => ?_, hdone_illegal hcl hc⟩
  have hstep := hdone_acts hcl hc hh hd ho hrel
  have hm := setMark_marked s
  obtain ⟨hx, hpc, hinst, hcard, -⟩ := hm.fields
  rw [← hm.th] at hx hpc hinst hcard
  generalize s.setMark = s1 at *
  obtain ⟨hout, hnet, hown⟩ := sendHeld_sent c.sends s1
  generalize s1.sendHeld c.sends = u at *
  have hucur : u.cur = s1.cur := by
    have h := congrArg State.cur hout
    exact h
  have huthreads : u.threads = s1.threads := by
    have h := congrArg State.threads hout
    exact h
  have hubytes : SameBytes s1 u := by
    have h1 := congrArg State.mem hout
    have h2 := congrArg State.vague hout
    have h3 := congrArg State.gcolNow hout
    have h4 := congrArg State.gfold hout
    exact ⟨h1, h2, h3, h4⟩
  have huthread (k : Nat) : u.thread k = s1.thread k := by
    unfold State.thread
    rw [huthreads]
  have huth : u.th = s1.th := (congrArg u.thread hucur).trans (huthread s1.cur)
  have hmy : s1.myCore = coreOf s.cur := congrArg coreOf hm.cur
  have humy : u.myCore = coreOf s.cur := (congrArg coreOf hucur).trans hmy
  obtain ⟨hwthreads, hwcur, hwbytes⟩ := (withoutMessage_onlyCores (u.modTh doneCard) c.msg).fields
  have hwthread (k : Nat) : (withoutMessage (u.modTh doneCard) c.msg).thread k = (u.modTh doneCard).thread k := by
    unfold State.thread
    rw [hwthreads]
  have hwth : (withoutMessage (u.modTh doneCard) c.msg).th = doneCard s1.th :=
    ((congrArg _ hwcur).trans (hwthread _)).trans ((modTh_th u doneCard).trans (congrArg doneCard huth))
  have hwpc : (doneCard s1.th).pc = s.th.pc := hpc
  have ht := retire_th (withoutMessage (u.modTh doneCard) c.msg)
  rw [hwth, hwpc] at ht
  have hcur : (withoutMessage (u.modTh doneCard) c.msg).cur = s.cur := hwcur.trans (hucur.trans hm.cur)
  refine ⟨_, hstep, sameRegisters_of ?_, retired_of ht hinst, ?_, ?_, fun k hk => ?_, ?_, fun m hmsg => ?_⟩
  · rw [ht]
    exact hx
  · rw [ht]
    show s1.th.card.map _ = _
    rw [hcard, hc]
    rfl
  · have hwnet : (withoutMessage (u.modTh doneCard) c.msg).retire.net = u.net := by
      have h := congrArg State.net (withoutMessage_onlyCores (u.modTh doneCard) c.msg)
      exact h
    have hnet1 : s1.net = s.net := by
      have h := congrArg State.net hm.outside
      exact h
    have hchip : s1.chipno = s.chipno := by
      have h := congrArg State.chipno hm.outside
      exact h
    rw [hwnet, hnet, hnet1, hmy, hm.core]
    exact congrArg (s.net ++ ·) (List.map_congr_left fun p _ => numbered_congr hchip ..)
  · rw [retire_other _ (hcur ▸ hk), hwthread, modTh_other u doneCard (hucur.trans hm.cur ▸ hk), huthread]
    exact hm.others k hk
  · exact ((hm.bytes.trans hubytes).trans hwbytes).memory
  · rw [hmsg]
    have hin : ((withoutMessage (u.modTh doneCard) (some m)).core (coreOf s.cur)).inbox =
        (u.core (coreOf s.cur)).inbox.filter fun p => p.id != m.id := by
      rw [← humy]
      exact congrArg Core.inbox (modCore_same (u.modTh doneCard) _ _)
    have huin : (u.core (coreOf s.cur)).inbox = (s.core (coreOf s.cur)).inbox := by
      have h := congrArg Core.inbox hown
      rw [hmy, hm.core] at h
      exact h
    exact hin.trans (by rw [huin])

end Sys2Proof.Proofs
end

section
/-! PROOFS. CARD.EXIT (R94, R108). -/

namespace Sys2Proof.Proofs

open Sys2Proof Sys2Proof.Machine

/-! The release at SYS that a host entry's card makes (R108, R357). -/

/-- Once the stores have drained, the mark says which writes are open. -/
theorem setMark_openAt {s : State} (h : ((s.core (coreOf s.cur)).sb.all fun e => e.tid != s.cur) = true) :
    (s.setMark.thread s.cur).openAt.isSome = true := by
  unfold State.setMark
  dsimp only
  rw [h]
  split
  · next hm =>
    obtain ⟨-, ho⟩ := Bool.and_eq_true_iff.1 hm
    rwa [Bool.not_true, Bool.or_false] at ho
  · have ht (f : Thread → Thread) : ({ s.modTh f with nextId := s.nextId + 1 } : State).thread s.cur = f s.th := modTh_th s f
    rw [ht]
    dsimp only
    rw [if_pos rfl]
    cases s.th.openAt <;> rfl

/-- The buffered stores of a thread set whose accesses have been performed. -/
theorem performed_drained {s : State} (h : s.performed s.cur = true) : ((s.core (coreOf s.cur)).sb.all fun e => e.tid != s.cur) = true := by
  obtain ⟨hsf, -⟩ := Bool.and_eq_true_iff.1 h
  obtain ⟨hsb, -⟩ := Bool.and_eq_true_iff.1 hsf
  rw [Bool.not_eq_true', List.any_eq_false] at hsb
  exact List.all_eq_true.2 fun e he => by simpa using hsb e he

theorem Marked.performed {s t : State} (h : Marked s t) : t.performed s.cur = s.performed s.cur := by
  have hf := congrArg State.flights h.outside
  replace hf : t.flights = s.flights := hf
  unfold State.performed State.seqAccesses State.seqOf
  rw [h.core, hf]

theorem acknowledged_none {s : State} {tid : Nat} (hp : s.posted = []) (hb : ∀ o ∈ s.bank, o.tid ≠ tid) (id : Nat) :
    s.acknowledged tid id = true := by
  have hposts : s.bankPosts tid = [] := by
    unfold State.bankPosts
    exact List.filter_eq_nil_iff.2 fun o ho => by simp [hb o ho]
  unfold State.acknowledged
  rw [hp, hposts]
  rfl

theorem setMark_released {s : State} (hperf : s.performed s.cur = true) (hp : s.posted = []) (hb : ∀ o ∈ s.bank, o.tid ≠ s.cur) :
    s.setMark.released s.cur 3 = true := by
  have hm := setMark_marked s
  have ho := setMark_openAt (performed_drained hperf)
  obtain ⟨id, hid⟩ := Option.isSome_iff_exists.1 ho
  have hp1 : s.setMark.posted = [] := by
    have h := congrArg State.posted hm.outside
    exact h.trans hp
  have hb1 : s.setMark.bank = s.bank := by
    have h := congrArg State.bank hm.outside
    exact h
  unfold State.released
  rw [hm.performed, hperf, hid]
  exact acknowledged_none hp1 (by rw [hb1]; exact hb) id

/-! What has changed before the card ends. -/

/-- Marks and notes of what loads have seen are all that has changed. -/
structure Prepared (s u : State) : Prop where
  outside : ({ u with threads := s.threads, nextId := s.nextId } : State) = s
  own : ({ u.thread s.cur with mark := s.th.mark, openAt := s.th.openAt, early := s.th.early } : Thread) = s.th
  others : OthersButNotes s u

theorem Marked.prepared {s u : State} (h : Marked s u) : Prepared s u :=
  ⟨h.outside, congrArg (fun t : Thread => ({ t with early := s.th.early } : Thread)) h.own, fun k hk => by rw [h.others k hk]⟩

theorem Marked.prepared_early {s u v : State} (h : Marked s u) (he : SameButEarly u v) : Prepared s v := by
  refine ⟨?_, ?_, fun k hk => ?_⟩
  · have ho := congrArg (fun w : State => ({ w with threads := s.threads, nextId := s.nextId } : State)) he.1
    exact ho.trans h.outside
  · have ho := congrArg (fun t : Thread => ({ t with mark := s.th.mark, openAt := s.th.openAt, early := s.th.early } : Thread)) (he.2 s.cur)
    exact ho.trans (congrArg (fun t : Thread => ({ t with early := s.th.early } : Thread)) h.own)
  · have ho := he.notes.2 k
    rwa [h.others k hk] at ho

theorem Prepared.cur {s u : State} (h : Prepared s u) : u.cur = s.cur := by
  have hc := congrArg State.cur h.outside
  exact hc

theorem Prepared.core {s u : State} (h : Prepared s u) (k : Nat) : u.core k = s.core k := by
  have hc := congrArg (State.core · k) h.outside
  exact hc

theorem Prepared.bytes {s u : State} (h : Prepared s u) : SameBytes s u := by
  have hm := congrArg State.mem h.outside
  have hv := congrArg State.vague h.outside
  have hc := congrArg State.gcolNow h.outside
  have hf := congrArg State.gfold h.outside
  exact ⟨hm, hv, hc, hf⟩

theorem Prepared.books {s u : State} (h : Prepared s u) : u.entries = s.entries ∧ u.queues = s.queues ∧ u.msix = s.msix := by
  have h1 := congrArg State.entries h.outside
  have h2 := congrArg State.queues h.outside
  have h3 := congrArg State.msix h.outside
  exact ⟨h1, h2, h3⟩

theorem Prepared.fields {s u : State} (h : Prepared s u) : u.th.x = s.th.x ∧ u.th.pc = s.th.pc ∧ u.th.instret = s.th.instret := by
  have h1 := congrArg Thread.x h.own
  have h2 := congrArg Thread.pc h.own
  have h3 := congrArg Thread.instret h.own
  have hth : u.th = u.thread s.cur := congrArg u.thread h.cur
  rw [hth]
  exact ⟨h1, h2, h3⟩

/-- The releases of a card's end are made (R108). -/
def exitReady (s : State) (c : Card) : State := if c.entry.isSome then s.setMark.publish s.setMark.cur 3 else s.setMark

theorem exitReady_prepared (s : State) (c : Card) : Prepared s (exitReady s c) := by
  unfold exitReady
  split
  · exact (setMark_marked s).prepared_early (publish_sameButEarly ..)
  · exact (setMark_marked s).prepared

theorem cardExit_acts {s : State} {c : Card} (hcl : s.Clear []) (hc : s.th.card = some c) (ho : s.outstanding s.cur = false)
    (hperf : s.performed s.cur = true) (hp : s.posted = []) (hh : c.handler = false) (hsends : c.sends = []) (hl : s.th.lost = none)
    (hb : ∀ o ∈ s.bank, o.tid ≠ s.cur) : exec .cardExit s = .next ((exitReady s c).exitCard c) := by
  have hm := setMark_marked s
  have hout : s.setMark.outstanding s.setMark.cur = false := by rw [hm.cur, hm.outstanding, ho]
  have hmay : s.setMark.mayHdone c = true := by
    unfold State.mayHdone
    rw [hout, hsends]
    rfl
  have hrel : s.setMark.released s.setMark.cur 3 = true := by rw [hm.cur, setMark_released hperf hp hb]
  obtain ⟨-, -, -, -, hlost⟩ := hm.fields
  rw [← hm.th, hl] at hlost
  show execCardExit s = _
  unfold execCardExit
  rw [plain_runs hcl, hc]
  dsimp only
  rw [hout, hrel, hmay, hlost, hh, if_neg (by simp), if_neg (by simp)]
  rfl

/-! The card ends (R94). -/

theorem releaseTag_onlyCores (s : State) (core id : Nat) : OnlyCores s (s.releaseTag core id) := by
  unfold State.releaseTag
  split
  · exact .refl s
  · exact (onlyCores_modCore ..).trans (onlyCores_modCore ..)

theorem releaseTag_allocs (s : State) (core id : Nat) : ((s.releaseTag core id).core core).allocs = (s.core core).allocs := by
  have h (u : State) (f : Core → Core) (hf : (f (u.core core)).allocs = (u.core core).allocs) :
      ((u.modCore core f).core core).allocs = (u.core core).allocs := (congrArg Core.allocs (modCore_same u core f)).trans hf
  unfold State.releaseTag
  split
  · rfl
  · exact (h _ _ rfl).trans (h s _ rfl)

/-- The card has left its thread set, and its tag is given up. -/
def leftState (u : State) (c : Card) : State := (u.releaseTag u.myCore c.id).retire.modTh (·.release)

theorem endCard_books {s : State} {c : Card} (h : c.seat = none) (exited reset : Bool) : BooksOnly s (s.endCard c exited reset) := by
  unfold State.endCard
  rw [h]
  dsimp only
  split
  · exact entryCardEnds_books ..
  · exact .refl s

theorem leftState_cores (u : State) (c : Card) : (leftState u c).cores = (u.releaseTag u.myCore c.id).cores := rfl

theorem leftState_th (u : State) (c : Card) : (leftState u c).thread u.cur = (u.th.retireTo (u.th.pc + 4)).release := by
  obtain ⟨hthreads, hcur, -⟩ := (releaseTag_onlyCores u u.myCore c.id).fields
  have hth : (u.releaseTag u.myCore c.id).th = u.th := by
    unfold State.th State.thread
    rw [hthreads, hcur]
  have h : (leftState u c).th = ((u.releaseTag u.myCore c.id).retire.th).release := modTh_th _ _
  rw [retire_th, hth] at h
  have hc : (leftState u c).cur = u.cur := hcur
  exact (congrArg (leftState u c).thread hc).symm.trans h

theorem leftState_other (u : State) (c : Card) {k : Nat} (hk : k ≠ u.cur) : (leftState u c).thread k = u.thread k := by
  obtain ⟨hthreads, hcur, -⟩ := (releaseTag_onlyCores u u.myCore c.id).fields
  have h1 : (leftState u c).thread k = (u.releaseTag u.myCore c.id).retire.thread k := modTh_other _ _ (hcur ▸ hk)
  rw [h1, retire_other _ (hcur ▸ hk)]
  unfold State.thread
  rw [hthreads]

/-- The entry has heard of it. -/
def heardState (u : State) (c : Card) : State := (leftState u c).endCard c true false

theorem exitCard_eq {u : State} {c : Card} (hs : c.seat = none) (ha : (u.core u.myCore).allocs.all (fun a => !a.evicting) = true) :
    u.exitCard c = (heardState u c).modTh emptied := by
  have hb : BooksOnly (leftState u c) (heardState u c) := endCard_books hs ..
  obtain ⟨-, hcur, -⟩ := (releaseTag_onlyCores u u.myCore c.id).fields
  have hcur' : (heardState u c).cur = u.cur := by
    have h := congrArg State.cur hb
    exact h.trans hcur
  have hmy : ((heardState u c).modTh emptied).myCore = u.myCore := congrArg coreOf hcur'
  have hcore : ((heardState u c).modTh emptied).core u.myCore = (u.releaseTag u.myCore c.id).core u.myCore := by
    unfold State.core
    exact congrArg (fun m : AMap Core => aget ({} : Core) m u.myCore) (hb.cores.trans (leftState_cores u c))
  unfold State.exitCard
  dsimp only
  rw [hs]
  refine Eq.trans ?_ (settleEvict_none (s := (heardState u c).modTh emptied) (core := ((heardState u c).modTh emptied).myCore)
    (by rw [hmy, hcore, releaseTag_allocs, ha]))
  rfl

/-! What the entry's books then say (R94). -/

theorem heardEnd_left (s : State) (e : Entry) (dual : Option Nat) (sig : Option Word) (reset : Bool) : (heardEnd s e dual sig reset).2.left = e.left := by
  unfold heardEnd
  split
  · rfl
  · split <;> rfl

theorem entryCardEnds_more {s : State} {id : Nat} {e : Entry} (he : afind s.entries id = some e) (h : 1 < e.left)
    (dual : Option Nat) (sig : Option Word) (reset : Bool) :
    (afind (s.entryCardEnds id dual sig reset).entries id).map (·.left) = some (e.left - 1) := by
  have hl := heardEnd_left s e dual (if e.dead then none else sig) reset
  rw [entryCardEnds_some he]
  generalize heardEnd s e dual (if e.dead then none else sig) reset = r at *
  unfold entryLess
  rw [if_neg (by omega)]
  show (afind (aput r.1.entries id { r.2 with left := r.2.left - 1 }) id).map (·.left) = _
  rw [afind_aput, if_pos rfl, ← hl]
  rfl

theorem entryCardEnds_last {s : State} {id : Nat} {e : Entry} (he : afind s.entries id = some e) (h : e.left = 1) (hd : e.dead = false)
    (hb : e.bad = false) (sig : Option Word) :
    s.entryCardEnds id none sig false = ({ s with entries := adel s.entries id } : State).queueDone e.queue := by
  have hbad : (e.bad || false) = false := by rw [hb]; rfl
  rw [entryCardEnds_some he]
  unfold heardEnd entryLess State.finishEntry
  dsimp only
  rw [h, hd, hbad, if_pos rfl, if_neg Bool.false_ne_true, if_neg Bool.false_ne_true]

theorem queueDone_queue (s : State) (q : Nat) : (s.queueDone q).entries = s.entries ∧ (s.queueDone q).queue q = { s.queue q with done := (s.queue q).done + 1 } ∧
    (s.queueDone q).msix = s.msix ++ if (s.queue q).ie then [(s.queue q).vec.toNat] else [] := by
  rw [queueDone_eq]
  exact ⟨rfl, queue_setQueue_same .., rfl⟩

theorem heardState_entry {u : State} {c : Card} (hs : c.seat = none) : (c.entry = none → (heardState u c).entries = u.entries ∧ (heardState u c).queues = u.queues) ∧
    ∀ id e, c.entry = some id → afind u.entries id = some e →
      (1 < e.left → (afind (heardState u c).entries id).map (·.left) = some (e.left - 1)) ∧
      (e.left = 1 → e.dead = false → e.bad = false → c.copy = none →
        afind (heardState u c).entries id = none ∧ (heardState u c).queue e.queue = { u.queue e.queue with done := (u.queue e.queue).done + 1 } ∧
        (heardState u c).msix = u.msix ++ (if (u.queue e.queue).ie then [(u.queue e.queue).vec.toNat] else [])) := by
  have hoc : OnlyCores u (u.releaseTag u.myCore c.id) := releaseTag_onlyCores ..
  have h1 := congrArg State.entries hoc
  have h2 := congrArg State.queues hoc
  have h3 := congrArg State.msix hoc
  replace h1 : (leftState u c).entries = u.entries := h1
  replace h2 : (leftState u c).queues = u.queues := h2
  replace h3 : (leftState u c).msix = u.msix := h3
  have hq (q : Nat) : (leftState u c).queue q = u.queue q := by
    unfold State.queue
    rw [h2]
  unfold heardState State.endCard
  generalize leftState u c = w at *
  rw [hs]
  refine ⟨fun hn => ?_, fun id e hid he => ?_⟩
  · rw [hn]
    exact ⟨h1, h2⟩
  · rw [hid]
    rw [← h1] at he
    refine ⟨fun hlt => entryCardEnds_more he hlt .., fun hone hd hb hcp => ?_⟩
    rw [hcp]
    obtain ⟨hent, hqd, hms⟩ := queueDone_queue { w with entries := adel w.entries id } e.queue
    have hwq : ({ w with entries := adel w.entries id } : State).queue e.queue = u.queue e.queue := hq e.queue
    have hwm : ({ w with entries := adel w.entries id } : State).msix = u.msix := h3
    rw [hwq] at hqd hms
    have heq := entryCardEnds_last he hone hd hb (if true = true then some c.sig else none)
    show afind (w.entryCardEnds id none _ false).entries id = none ∧ (w.entryCardEnds id none _ false).queue e.queue = _ ∧
      (w.entryCardEnds id none _ false).msix = _
    rw [heq]
    exact ⟨(congrArg (afind · id) hent).trans (afind_adel_same ..), hqd, hms.trans (congrArg (· ++ _) hwm)⟩

theorem exits (s : State) (c : Card) (hcl : s.Clear []) (hc : s.th.card = some c) (ho : s.outstanding s.cur = false)
    (hperf : s.performed s.cur = true) (hp : s.posted = []) (hh : c.handler = false) (hsends : c.sends = []) (hl : s.th.lost = none)
    (hb : ∀ o ∈ s.bank, o.tid ≠ s.cur) (hs : c.seat = none) (ha : (s.core (coreOf s.cur)).allocs.all (fun a => !a.evicting) = true) :
    ∃ t, exec .cardExit s = .next t ∧ t.th.card = none ∧ SameRegisters s t ∧ Retired s t (s.th.pc + 4) ∧ OthersButNotes s t ∧ SameMemory s t ∧
      (∀ tag, (s.core (coreOf s.cur)).tags = [(tag, c.id)] → (t.core (coreOf s.cur)).tags = []) ∧
      (c.entry = none → t.entries = s.entries ∧ t.queues = s.queues) ∧
      ∀ id e, c.entry = some id → afind s.entries id = some e →
        (1 < e.left → (afind t.entries id).map (·.left) = some (e.left - 1)) ∧
        (e.left = 1 → e.dead = false → e.bad = false → e.sigs = [] → c.copy = none →
          afind t.entries id = none ∧ t.queue e.queue = { s.queue e.queue with done := (s.queue e.queue).done + 1 } ∧
          t.msix = s.msix ++ (if (s.queue e.queue).ie then [(s.queue e.queue).vec.toNat] else [])) := by
  have hpre := exitReady_prepared s c
  have hstep := cardExit_acts hcl hc ho hperf hp hh hsends hl hb
  generalize exitReady s c = u at hpre hstep
  have hmy : u.myCore = coreOf s.cur := congrArg coreOf hpre.cur
  rw [exitCard_eq hs (by rw [hmy, hpre.core]; exact ha)] at hstep
  obtain ⟨hx, hpc, hinst⟩ := hpre.fields
  obtain ⟨hent, hq, hms⟩ := hpre.books
  have hqq (q : Nat) : u.queue q = s.queue q := by
    unfold State.queue
    rw [hq]
  have hbooks : BooksOnly (leftState u c) (heardState u c) := endCard_books hs ..
  obtain ⟨-, htagcur, htagbytes⟩ := (releaseTag_onlyCores u u.myCore c.id).fields
  have hlbytes : SameBytes (u.releaseTag u.myCore c.id) (leftState u c) := ⟨rfl, rfl, rfl, rfl⟩
  have hmbytes : SameBytes (heardState u c) ((heardState u c).modTh emptied) := ⟨rfl, rfl, rfl, rfl⟩
  have hcur : (heardState u c).cur = s.cur := by
    have h := congrArg State.cur hbooks
    exact (h.trans htagcur).trans hpre.cur
  have hthread (k : Nat) : (heardState u c).thread k = (leftState u c).thread k := by
    unfold State.thread
    rw [hbooks.endFrame.threads]
  have hth : ((heardState u c).modTh emptied).th = emptied (u.th.retireTo (u.th.pc + 4)).release := by
    have h := leftState_th u c
    rw [hpre.cur] at h
    rw [modTh_th]
    exact congrArg emptied ((congrArg (heardState u c).thread hcur).trans ((hthread _).trans h))
  obtain ⟨hnone, hsome⟩ := heardState_entry (u := u) hs
  refine ⟨_, hstep, ?_, sameRegisters_of ?_, ?_, fun k hk => ?_, ?_, fun tag htag => ?_, fun hn => ?_, fun id e hid he => ?_⟩
  · rw [hth]
    rfl
  · rw [hth]
    exact hx
  · unfold Retired
    rw [hth]
    exact ⟨congrArg (· + 4) hpc, congrArg (· + 1) hinst, rfl, rfl, rfl⟩
  · rw [modTh_other _ _ (hcur ▸ hk), hthread, leftState_other u c (hpre.cur ▸ hk)]
    exact hpre.others k hk
  · exact ((((hpre.bytes.trans htagbytes).trans hlbytes).trans hbooks.endFrame.bytes).trans hmbytes).memory
  · rw [← hpre.core, ← hmy] at htag
    have h := releaseTag_only htag
    rw [hmy] at h
    have hcore : ((heardState u c).modTh emptied).core (coreOf s.cur) = (u.releaseTag u.myCore c.id).core (coreOf s.cur) := by
      unfold State.core
      exact congrArg (fun m : AMap Core => aget ({} : Core) m (coreOf s.cur)) (hbooks.cores.trans (leftState_cores u c))
    rw [hcore, hmy]
    exact h
  · obtain ⟨h1, h2⟩ := hnone hn
    exact ⟨h1.trans hent, h2.trans hq⟩
  · obtain ⟨hmore, hlast⟩ := hsome id e hid (by rw [hent]; exact he)
    refine ⟨hmore, fun hone hd hbad _ hcp => ?_⟩
    obtain ⟨h1, h2, h3⟩ := hlast hone hd hbad hcp
    rw [hqq] at h2 h3
    rw [hms] at h3
    exact ⟨h1, h2, h3⟩

end Sys2Proof.Proofs
end

section
/-! PROOFS. CARD.POST (R109, R111), and O52. -/

namespace Sys2Proof.Proofs

open Sys2Proof Sys2Proof.Machine

/-! A scalar access that has been translated (R154, R157). -/

/-- What a translation changes: A and D of a leaf, the translation buffers and free values; of thread sets what a write takes away. -/
structure Reached (s t : State) : Prop where
  outside : ({ t with mem := s.mem, poison := s.poison, vague := s.vague, threads := s.threads, tlb := s.tlb, fresh := s.fresh } : State) = s
  threads : ∀ k, ({ t.thread k with resv := (s.thread k).resv, early := (s.thread k).early } : Thread) = s.thread k

theorem Reached.refl (s : State) : Reached s s := ⟨rfl, fun _ => rfl⟩

theorem Reached.trans {s t u : State} (a : Reached s t) (b : Reached t u) : Reached s u := by
  refine ⟨?_, fun k => ?_⟩
  · have h := congrArg (fun w : State =>
      ({ w with mem := s.mem, poison := s.poison, vague := s.vague, threads := s.threads, tlb := s.tlb, fresh := s.fresh } : State)) b.outside
    exact h.trans a.outside
  · have h := congrArg (fun v : Thread => ({ v with resv := (s.thread k).resv, early := (s.thread k).early } : Thread)) (b.threads k)
    exact h.trans (a.threads k)

theorem markLeaf_reached (s : State) (core at_ : Nat) (w : Bool) : Reached s (s.markLeaf core at_ w) := by
  obtain ⟨hout, hth⟩ := store_bytesOnly s (.unit_ (dieOf core)) at_ (leBytes ((word (s.readVal at_ 8) ||| bit true 7 ||| bit w 8).toNat) 8)
  refine ⟨?_, hth⟩
  have h := congrArg (fun u : State => ({ u with tlb := s.tlb, fresh := s.fresh } : State)) hout
  exact h

theorem keepTlb_reached (s : State) (e : TlbEntry) : Reached s (s.keepTlb e) := by
  unfold State.keepTlb
  dsimp only
  split
  · exact ⟨rfl, fun _ => rfl⟩
  · exact ⟨rfl, fun _ => rfl⟩

theorem withTlb_reached (s : State) (l : List TlbEntry) : Reached s { s with tlb := l } := ⟨rfl, fun _ => rfl⟩

theorem translate_reached (s : State) (core : Nat) (asid : BitVec 16) (va : Word) (n : Need) (user : Bool) :
    Reached s (s.translate core asid va n user).1 := by
  unfold State.translate
  split
  · split
    · split
      · exact (markLeaf_reached ..).trans (withTlb_reached ..)
      · exact .refl s
    · exact .refl s
  · split
    · exact .refl s
    · exact .refl s
    · dsimp only
      refine Reached.trans ?_ ((keepTlb_reached ..).trans (keepTlb_reached ..))
      split
      · split
        · exact markLeaf_reached ..
        · exact .refl s
      · split
        · exact markLeaf_reached ..
        · exact .refl s

theorem reachAs_reached (s : State) (core : Nat) (asid : BitVec 16) (user : Bool) (va : Word) (size : Nat) (n : Need) :
    Reached s (s.reachAs core asid user va size n).1 := by
  have h := translate_reached s core asid va n user
  unfold State.reachAs
  split
  · exact .refl s
  · split
    · dsimp only
      split
      · exact .refl s
      · exact .refl s
    · split
      · next ht => rwa [ht] at h
      · next ht => rwa [ht] at h
      · next ht => rwa [ht] at h

theorem scalar_reached (s : State) (tid : Nat) (va : Word) (size : Nat) (n : Need) : Reached s (s.scalar tid va size n).1 := by
  unfold State.scalar
  split
  · exact .refl s
  · exact reachAs_reached ..

theorem reached_of_early {s t : State} (h : SameButEarly s t) : Reached s t := by
  refine ⟨?_, fun k => ?_⟩
  · have ho := congrArg (fun w : State => ({ w with mem := s.mem, poison := s.poison, vague := s.vague, tlb := s.tlb, fresh := s.fresh } : State)) h.1
    exact ho
  · have ho := congrArg (fun v : Thread => ({ v with resv := (s.thread k).resv } : Thread)) (h.2 k)
    exact ho

theorem Reached.machine {s t : State} (h : Reached s t) : t.cur = s.cur ∧ t.roots = s.roots ∧ t.pushes = s.pushes := by
  have h1 := congrArg State.cur h.outside
  have h2 := congrArg State.roots h.outside
  have h3 := congrArg State.pushes h.outside
  exact ⟨h1, h2, h3⟩

/-- What CARD.POST asks of its thread set stands as it was. -/
theorem Reached.fields {s t : State} (h : Reached s t) : t.th.x = s.th.x ∧ t.th.pc = s.th.pc ∧ t.th.steward = s.th.steward ∧ t.th.asid = s.th.asid := by
  obtain ⟨hcur, -, -⟩ := h.machine
  have hth : t.th = t.thread s.cur := congrArg t.thread hcur
  have h1 := congrArg Thread.x (h.threads s.cur)
  have h2 := congrArg Thread.pc (h.threads s.cur)
  have h3 := congrArg Thread.steward (h.threads s.cur)
  have h4 := congrArg Thread.asid (h.threads s.cur)
  rw [hth]
  exact ⟨h1, h2, h3, h4⟩

/-! Notes of what loads have seen, new names and one result more. -/

/-- Notes of what loads have seen and the counter of names have changed at most. -/
structure Noted (u w : State) : Prop where
  outside : ({ w with threads := u.threads, nextId := u.nextId } : State) = u
  threads : ∀ k, ({ w.thread k with early := (u.thread k).early, seen := (u.thread k).seen } : Thread) = u.thread k

theorem noted_of_notes {u m : State} (h : SameButNotes u m) (n : Nat) : Noted u { m with nextId := n } := by
  refine ⟨?_, h.2⟩
  have ho := congrArg (fun w : State => ({ w with nextId := u.nextId } : State)) h.1
  exact ho

theorem Noted.trans_early {u m w : State} (h : Noted u m) (he : SameButEarly m w) : Noted u w := by
  refine ⟨?_, fun k => ?_⟩
  · have ho := congrArg (fun w : State => ({ w with threads := u.threads, nextId := u.nextId } : State)) he.1
    exact ho.trans h.outside
  · have ho := congrArg (fun v : Thread => ({ v with early := (u.thread k).early, seen := (u.thread k).seen } : Thread)) (he.2 k)
    exact ho.trans (h.threads k)

theorem Noted.machine {u w : State} (h : Noted u w) : w.cur = u.cur ∧ w.pushes = u.pushes ∧ w.cores = u.cores ∧ SameBytes u w := by
  have h1 := congrArg State.cur h.outside
  have h2 := congrArg State.pushes h.outside
  have h3 := congrArg State.cores h.outside
  have h4 := congrArg State.mem h.outside
  have h5 := congrArg State.vague h.outside
  have h6 := congrArg State.gcolNow h.outside
  have h7 := congrArg State.gfold h.outside
  exact ⟨h1, h2, h3, h4, h5, h6, h7⟩

/-- The instruction retires with one outstanding result more. -/
def awaiting (w : State) (o : Out) : State := (w.addOut w.cur o).retire

theorem awaiting_th (w : State) (o : Out) : (awaiting w o).th = ({ w.th with outs := w.th.outs ++ [o] } : Thread).retireTo (w.th.pc + 4) := by
  have h : (w.addOut w.cur o).th = { w.th with outs := w.th.outs ++ [o] } := State.thread_setThread_same ..
  unfold awaiting
  rw [retire_th, h]

theorem awaiting_other (w : State) (o : Out) {k : Nat} (h : k ≠ w.cur) : (awaiting w o).thread k = w.thread k :=
  (State.thread_setThread_other _ _ _ _ h).trans (State.thread_setThread_other _ _ _ _ h)

/-- A command issued from `u`: one result more is awaited, and only notes have changed beside. -/
structure IssuedWith (u t : State) (o : Out) : Prop where
  registers : SameRegisters u t
  retired : Retired u t (u.th.pc + 4)
  rest : SameButResults u.th t.th
  others : OthersButNotes u t
  memory : SameMemory u t
  cores : t.cores = u.cores
  outs : t.th.outs = u.th.outs ++ [o]

/-- The thread set `v` with what an issue changes of `u`. -/
def issuedAs (u v : Thread) : Thread :=
  { v with x := u.x, pc := u.pc, instret := u.instret, pfx := u.pfx, park := u.park, mark := u.mark, openAt := u.openAt, waits := u.waits,
           early := u.early, seen := u.seen, outs := u.outs }

theorem Noted.awaiting {u w : State} (h : Noted u w) (o : Out) : IssuedWith u (awaiting w o) o := by
  obtain ⟨hcur, -, hcores, hbytes⟩ := h.machine
  have hth : w.th = w.thread u.cur := congrArg w.thread hcur
  have hown := h.threads u.cur
  rw [← hth] at hown
  have hx := congrArg Thread.x hown
  have hpc := congrArg Thread.pc hown
  have hinst := congrArg Thread.instret hown
  have houts := congrArg Thread.outs hown
  replace hpc : w.th.pc = u.th.pc := hpc
  have ht := awaiting_th w o
  refine ⟨sameRegisters_of ?_, ?_, ?_, fun k hk => ?_, ?_, hcores, ?_⟩
  · rw [ht]
    exact hx
  · rw [hpc] at ht
    exact retired_of ht hinst
  · have hr := congrArg (issuedAs u.th) hown
    rw [ht]
    exact hr
  · rw [awaiting_other w o (hcur ▸ hk)]
    exact h.threads k
  · exact (hbytes.trans (⟨rfl, rfl, rfl, rfl⟩ : SameBytes w (Proofs.awaiting w o))).memory
  · rw [ht]
    exact congrArg (· ++ [o]) houts

/-! The image and its checks (R79, R80, R109). -/

theorem cardWords_readBytes (s : State) (a : Nat) : cardWords (s.readBytes a 64) = (List.range 8).map fun i => word (s.readVal (a + 8 * i) 8) := by
  unfold cardWords
  refine List.map_congr_left fun i hi => ?_
  have hlt := List.mem_range.1 hi
  rw [readBytes_part _ _ _ _ _ (by omega)]
  rfl

/-- The checks that a posted card passes (R80, R109). -/
def GoodCard (s : State) (w0 w1 : Word) : Prop :=
  w0.toNat % 4 = 0 ∧ isVa w0 = true ∧ w1.toNat / 128 % 512 = 0 ∧ (∃ r, afind s.roots (w1.toNat / 2 ^ 48) = some r) ∧
  ¬ (w1.getLsbD 6 = true ∧ w1.getLsbD 5 = true) ∧ w1.toNat / 65536 % 65536 = 0xFFFF ∧ (s.th.steward = false → w1.toNat / 2 ^ 48 = s.th.asid.toNat)

/-- The header of a posted card: it is of no group. -/
def postHeader (w1 : Word) : Word := setBits w1 32 16 0xFFFF

/-- What CARD.POST refuses with code 2. -/
def postRefused (s : State) (w0 w1 : Word) : Bool :=
  !s.cardOk w0 (postHeader w1) || (postHeader w1).extractLsb' 16 16 != 0xFFFF || (!s.th.steward && (postHeader w1).extractLsb' 48 16 != s.th.asid)

theorem asidField_toNat (w : Word) : (w.extractLsb' 48 16).toNat = w.toNat / 2 ^ 48 := by
  have h := w.isLt
  rw [field_toNat]
  exact Nat.mod_eq_of_lt (by omega)

theorem cardOk_iff (s : State) (w0 w1 : Word) : s.cardOk w0 (postHeader w1) = true ↔ w0.toNat % 4 = 0 ∧ isVa w0 = true ∧ w1.toNat / 128 % 512 = 0 ∧
    (∃ r, afind s.roots (w1.toNat / 2 ^ 48) = some r) ∧ ¬ (w1.getLsbD 6 = true ∧ w1.getLsbD 5 = true) := by
  have hlow : (w0.extractLsb' 0 2 == 0) = true ↔ w0.toNat % 4 = 0 := by
    rw [beq_iff_eq, ← BitVec.toNat_inj, low_toNat]
    rfl
  have hzero : (w1.extractLsb' 7 9 == 0) = true ↔ w1.toNat / 128 % 512 = 0 := by
    rw [beq_iff_eq, ← BitVec.toNat_inj, field_toNat]
    rfl
  have hbits : (!(w1.getLsbD 6 && w1.getLsbD 5)) = true ↔ ¬ (w1.getLsbD 6 = true ∧ w1.getLsbD 5 = true) := by
    rw [Bool.not_eq_true', ← Bool.not_eq_true, Bool.and_eq_true]
  unfold State.cardOk postHeader
  rw [extract_setBits_other (by decide) (by decide), extract_setBits_other (by decide) (by decide), getLsbD_setBits_other (by decide) (by decide),
    getLsbD_setBits_other (by decide) (by decide), asidField_toNat]
  simp only [Bool.and_eq_true, hlow, hzero, hbits, Option.isSome_iff_exists, and_assoc]

theorem postRefused_iff (s : State) (w0 w1 : Word) : postRefused s w0 w1 = false ↔ GoodCard s w0 w1 := by
  have hgroup : ((postHeader w1).extractLsb' 16 16 != 0xFFFF) = false ↔ w1.toNat / 65536 % 65536 = 0xFFFF := by
    unfold postHeader
    rw [extract_setBits_other (by decide) (by decide), bne_eq_false_iff_eq, ← BitVec.toNat_inj, field_toNat]
    rfl
  have hasid : (!s.th.steward && (postHeader w1).extractLsb' 48 16 != s.th.asid) = false ↔
      (s.th.steward = false → w1.toNat / 2 ^ 48 = s.th.asid.toNat) := by
    unfold postHeader
    rw [extract_setBits_other (by decide) (by decide), ← asidField_toNat, BitVec.toNat_inj]
    cases s.th.steward <;> simp
  unfold postRefused GoodCard
  rw [Bool.or_eq_false_iff, Bool.or_eq_false_iff, Bool.not_eq_false', cardOk_iff, hgroup, hasid]
  simp only [and_assoc]

theorem GoodCard.congr {s t : State} (hr : t.roots = s.roots) (hs : t.th.steward = s.th.steward) (ha : t.th.asid = s.th.asid) (w0 w1 : Word) :
    GoodCard t w0 w1 ↔ GoodCard s w0 w1 := by
  unfold GoodCard
  rw [hr, hs, ha]

/-! CARD.POST. -/

/-- The core that CARD.POST names: its own, or one of its die. -/
def postCore (s : State) (n : Word) : Nat := if (n == BitVec.allOnes 64) = true then s.myCore else s.myDie * 256 + n.toNat

/-- The slice of the running card. -/
def runningSlice (s : State) : Nat := match s.th.card with | some c => c.slice | none => 0

/-- The card that is posted. -/
def postCard (s : State) (w : List Word) (core : Nat) : Card := newCard s.nextId w (postHeader (w.getD 1 0)) core (runningSlice s) s.time

/-- The result that waits for the push. -/
def postOut (s : State) (rd : BitVec 5) : Out := { id := s.nextId + 1, kind := .card, regs := [rd], vals := none, acq := none }

/-- The posted card's release. -/
def postReleased (s : State) : State := ({ s with nextId := s.nextId + 2 } : State).releaseCard (.thread s.cur) s.nextId

/-- The push that CARD.POST leaves to DEQUE_PUSH (R110). -/
def postPush (s : State) (w : List Word) (core : Nat) : Push :=
  { id := s.nextId + 1, card := postCard s w core, core := core, tid := (postReleased s).cur, out := s.nextId + 1 }

/-- The card on its way. -/
def postState (s : State) (w : List Word) (core : Nat) (rd : BitVec 5) : State :=
  { awaiting (postReleased s) (postOut s rd) with pushes := (postReleased s).pushes ++ [postPush s w core] }

/-- What CARD.POST does with the image `w`, whose core register reads `n`. -/
def postImage (s : State) (rd : BitVec 5) (n : Word) (w : List Word) : State :=
  if !(n == BitVec.allOnes 64) && decide (255 < n.toNat) then (s.returnLater .card rd 3).retire
  else if postRefused s (w.headD 0) (w.getD 1 0) then (s.returnLater .card rd 2).retire
  else postState s w (postCore s n) rd

theorem readBlock_reads {v u : State} {va : Word} {n a pa : Nat} {path : Path} (h : v.scalar v.cur va n { r := true } = (u, .at_ (.mem a) path pa))
    (hp : u.isPoisoned a n = false) (hb : u.behind u.cur path pa n = false) (hs : u.portShut u.myCore a = false) (k : State → List Byte → State) :
    v.readBlock va n k = k (u.memRead u.cur path pa n) (u.readBytes a n) := by
  unfold State.readBlock
  rw [h]
  dsimp only
  rw [hs, hb, hp]
  rfl

section
variable {rd rs1 rs2 : BitVec 5} {s : State} (hcl : s.Clear [rd, rs1, rs2])
include hcl

theorem cardPost_misaligned (ha : (s.rx rs1).toNat % 64 ≠ 0) (ht : s.CanTrap) :
    ∃ t, exec (.cardPost rd rs1 rs2) s = .next t ∧ TrapTaken s t 1 (s.rx rs1) := by
  refine ⟨s.trapHere 1 (s.rx rs1), ?_, trapHere_taken ht _ _⟩
  show execCardPost rd rs1 rs2 s = _
  unfold execCardPost
  rw [plain_runs hcl]
  dsimp only
  rw [if_pos ha]

theorem cardPost_reads (ha : (s.rx rs1).toNat % 64 = 0) (hperf : s.performed s.cur = true) (hacq : s.acquiring s.cur = false)
    {u : State} {a pa : Nat} {path : Path} (h : (s.publish s.cur 2).scalar s.cur (s.rx rs1) 64 { r := true } = (u, .at_ (.mem a) path pa))
    (hp : u.isPoisoned a 64 = false) (hb : u.behind s.cur path pa 64 = false) (hs : u.portShut (coreOf s.cur) a = false) (hcur : u.cur = s.cur) :
    exec (.cardPost rd rs1 rs2) s = .next (postImage (u.memRead u.cur path pa 64) rd ((u.memRead u.cur path pa 64).rx rs2) (cardWords (u.readBytes a 64))) := by
  have hrel : s.released s.cur 2 = true := by
    unfold State.released
    rw [hperf]
    rfl
  have hpub : (s.publish s.cur 2).cur = s.cur := (publish_sameButEarly s s.cur 2 false).notes.cur
  have hmy : u.myCore = coreOf s.cur := congrArg coreOf hcur
  have hread := readBlock_reads (v := s.publish s.cur 2) (n := 64) (by rw [hpub]; exact h) hp (by rw [hcur]; exact hb) (by rw [hmy]; exact hs)
  show execCardPost rd rs1 rs2 s = _
  unfold execCardPost
  rw [plain_runs hcl]
  dsimp only
  rw [if_neg (by rw [ha]; exact fun h => h rfl), hrel, hacq, if_neg (by simp), hread]
  rfl

end

theorem ownCore_iff (n : Word) : (n == BitVec.allOnes 64) = true ↔ n = 0xFFFFFFFFFFFFFFFF := beq_iff_eq

theorem postImage_far {s : State} (rd : BitVec 5) {n : Word} (w : List Word) (ho : n ≠ 0xFFFFFFFFFFFFFFFF) (hn : 255 < n.toNat) :
    postImage s rd n w = (s.returnLater .card rd 3).retire := by
  have h : (n == BitVec.allOnes 64) = false := Bool.eq_false_iff.2 fun h => ho ((ownCore_iff n).1 h)
  unfold postImage
  rw [h, decide_eq_true hn]
  exact if_pos rfl

/-- The core that is named lies in the die. -/
theorem postCore_near {n : Word} (h : n = 0xFFFFFFFFFFFFFFFF ∨ n.toNat ≤ 255) : ¬ (!(n == BitVec.allOnes 64) && decide (255 < n.toNat)) = true := by
  rw [Bool.and_eq_true_iff, Bool.not_eq_true', decide_eq_true_iff]
  rintro ⟨hne, hlt⟩
  obtain rfl | hle := h
  · exact Bool.false_ne_true (hne.symm.trans ((ownCore_iff _).2 rfl))
  · omega

theorem postImage_bad {s : State} (rd : BitVec 5) {n : Word} {w : List Word} (hn : n = 0xFFFFFFFFFFFFFFFF ∨ n.toNat ≤ 255)
    (hg : ¬ GoodCard s (w.headD 0) (w.getD 1 0)) : postImage s rd n w = (s.returnLater .card rd 2).retire := by
  unfold postImage
  rw [if_neg (postCore_near hn)]
  exact if_pos (Bool.of_not_eq_false fun h => hg ((postRefused_iff ..).1 h))

theorem postImage_good {s : State} (rd : BitVec 5) {n : Word} {w : List Word} (hn : n = 0xFFFFFFFFFFFFFFFF ∨ n.toNat ≤ 255)
    (hg : GoodCard s (w.headD 0) (w.getD 1 0)) : postImage s rd n w = postState s w (postCore s n) rd := by
  unfold postImage
  rw [if_neg (postCore_near hn)]
  exact if_neg (by rw [(postRefused_iff ..).2 hg]; exact Bool.false_ne_true)

/-- A code that comes back at once. -/
theorem later_issued {u m : State} (h : SameButNotes u m) (rd : BitVec 5) (v : Word) :
    IssuedWith u (m.returnLater .card rd v).retire (laterOut m .card rd v) := (noted_of_notes h (m.nextId + 1)).awaiting (laterOut m .card rd v)

theorem postReleased_noted {u m : State} (h : SameButNotes u m) : Noted u (postReleased m) :=
  (noted_of_notes h (m.nextId + 2)).trans_early (releaseCard_sameButEarly ..)

/-- The card on its way: a result is awaited, and the push stands last. -/
theorem postState_issued {u m : State} (h : SameButNotes u m) (w : List Word) (core : Nat) (rd : BitVec 5) :
    IssuedWith u (postState m w core rd) (postOut m rd) := by
  obtain ⟨h1, h2, h3, h4, h5, h6, h7⟩ := (postReleased_noted h).awaiting (postOut m rd)
  exact ⟨h1, h2, h3, h4, h5, h6, h7⟩

theorem postCard_fields (s : State) (w : List Word) (core : Nat) : (postCard s w core).pc = w.headD 0 ∧ (postCard s w core).group = 0xFFFF ∧
    (postCard s w core).asid.toNat = (w.getD 1 0).toNat / 2 ^ 48 ∧ (postCard s w core).xs = w.drop 2 := by
  refine ⟨rfl, ?_, ?_, rfl⟩
  · show ((postHeader (w.getD 1 0)).extractLsb' 32 16).toNat = _
    unfold postHeader
    rw [extract_setBits_same (by decide)]
    rfl
  · show ((postHeader (w.getD 1 0)).extractLsb' 48 16).toNat = _
    unfold postHeader
    rw [extract_setBits_other (by decide) (by decide), asidField_toNat]

theorem postCore_eq {s t : State} (h : t.cur = s.cur) (n : Word) :
    postCore t n = if n = 0xFFFFFFFFFFFFFFFF then coreOf s.cur else dieOf (coreOf s.cur) * 256 + n.toNat := by
  unfold postCore State.myDie State.myCore
  rw [h]
  exact if_congr (ownCore_iff n) rfl rfl

theorem posts (rd rs1 rs2 : BitVec 5) (s : State) (hcl : s.Clear [rd, rs1, rs2]) :
    ((s.rx rs1).toNat % 64 ≠ 0 → s.CanTrap → ∃ t, exec (.cardPost rd rs1 rs2) s = .next t ∧ TrapTaken s t 1 (s.rx rs1)) ∧
    ((s.rx rs1).toNat % 64 = 0 → s.performed s.cur = true → s.acquiring s.cur = false →
      ∀ u a path pa, (s.publish s.cur 2).scalar s.cur (s.rx rs1) 64 { r := true } = (u, .at_ (.mem a) path pa) → u.isPoisoned a 64 = false →
      u.behind s.cur path pa 64 = false → u.portShut (coreOf s.cur) a = false →
      let w (i : Nat) : Word := word (u.readVal (a + 8 * i) 8)
      let own := s.rx rs2 = 0xFFFFFFFFFFFFFFFF
      let good := (w 0).toNat % 4 = 0 ∧ isVa (w 0) = true ∧ (w 1).toNat / 128 % 512 = 0 ∧ (∃ r, afind s.roots ((w 1).toNat / 2 ^ 48) = some r) ∧
        ¬ ((w 1).getLsbD 6 = true ∧ (w 1).getLsbD 5 = true) ∧ (w 1).toNat / 65536 % 65536 = 0xFFFF ∧
        (s.th.steward = false → (w 1).toNat / 2 ^ 48 = s.th.asid.toNat)
      let gives (v : Word) := ∃ t, exec (.cardPost rd rs1 rs2) s = .next t ∧ SameRegisters u t ∧ Retired u t (s.th.pc + 4) ∧
        SameButResults u.th t.th ∧ OthersButNotes u t ∧ SameMemory u t ∧ t.pushes = s.pushes ∧ t.cores = u.cores ∧
        ∃ o : Out, t.th.outs = u.th.outs ++ [o] ∧ o.regs = [rd] ∧ o.vals = some [v]
      (¬ own → 255 < (s.rx rs2).toNat → gives 3) ∧
      (own ∨ (s.rx rs2).toNat ≤ 255 → ¬ good → gives 2) ∧
      (own ∨ (s.rx rs2).toNat ≤ 255 → good → ∃ t p, exec (.cardPost rd rs1 rs2) s = .next t ∧ SameRegisters u t ∧ Retired u t (s.th.pc + 4) ∧
        SameButResults u.th t.th ∧ Awaits u t .card [rd] none ∧ OthersButNotes u t ∧ SameMemory u t ∧ t.cores = u.cores ∧
        t.pushes = s.pushes ++ [p] ∧ p.tid = s.cur ∧ p.core = (if own then coreOf s.cur else dieOf (coreOf s.cur) * 256 + (s.rx rs2).toNat) ∧
        p.card.pc = w 0 ∧ p.card.group = 0xFFFF ∧ p.card.asid.toNat = (w 1).toNat / 2 ^ 48 ∧ p.card.xs = [w 2, w 3, w 4, w 5, w 6, w 7])) := by
  refine ⟨cardPost_misaligned hcl, fun ha hperf hacq u a path pa hsc hpois hbeh hport => ?_⟩
  intro w own good gives
  have hreach : Reached s u := by
    have h := scalar_reached (s.publish s.cur 2) s.cur (s.rx rs1) 64 { r := true }
    rw [hsc] at h
    exact (reached_of_early (publish_sameButEarly s s.cur 2 false)).trans h
  obtain ⟨hcur, hroots, hpushes⟩ := hreach.machine
  obtain ⟨hx, hpc, hst, hasid⟩ := hreach.fields
  have hstep := cardPost_reads hcl ha hperf hacq hsc hpois hbeh hport hcur
  have hnotes := memRead_sameButNotes u u.cur path pa 64
  generalize u.memRead u.cur path pa 64 = m at hstep hnotes
  have hmth : m.th = m.thread u.cur := congrArg m.thread hnotes.cur
  have hmcur : m.cur = s.cur := hnotes.cur.trans hcur
  have hmrx : m.rx rs2 = s.rx rs2 := rx_congr ((congrArg Thread.x hmth).trans ((hnotes.x u.cur).trans hx)) rs2
  have hmst : m.th.steward = s.th.steward := by
    have h := congrArg Thread.steward (hnotes.2 u.cur)
    rw [hmth]
    exact h.trans hst
  have hmasid : m.th.asid = s.th.asid := by
    have h := congrArg Thread.asid (hnotes.2 u.cur)
    rw [hmth]
    exact h.trans hasid
  have hmroots : m.roots = s.roots := by
    have h := congrArg State.roots hnotes.1
    exact h.trans hroots
  have hmpushes : m.pushes = s.pushes := by
    have h := congrArg State.pushes hnotes.1
    exact h.trans hpushes
  rw [hmrx, cardWords_readBytes] at hstep
  have hgives (v : Word) (h : exec (.cardPost rd rs1 rs2) s = .next (m.returnLater .card rd v).retire) : gives v := by
    obtain ⟨h1, h2, h3, h4, h5, h6, h7⟩ := later_issued hnotes rd v
    rw [hpc] at h2
    exact ⟨_, h, h1, h2, h3, h4, h5, hmpushes, h6, laterOut m .card rd v, h7, rfl, rfl⟩
  refine ⟨fun ho hn => hgives 3 (hstep.trans (congrArg _ (postImage_far rd _ ho hn))), fun hn hg => ?_, fun hn hg => ?_⟩
  · exact hgives 2 (hstep.trans (congrArg _ (postImage_bad rd hn fun h => hg ((GoodCard.congr hmroots hmst hmasid ..).1 h))))
  · have hgood : GoodCard m (w 0) (w 1) := (GoodCard.congr hmroots hmst hmasid ..).2 hg
    obtain ⟨h1, h2, h3, h4, h5, h6, h7⟩ := postState_issued hnotes ((List.range 8).map w) (postCore m (s.rx rs2)) rd
    obtain ⟨hkpc, hkgroup, hkasid, hkxs⟩ := postCard_fields m ((List.range 8).map w) (postCore m (s.rx rs2))
    have hrel := releaseCard_sameButEarly ({ m with nextId := m.nextId + 2 } : State) (.thread m.cur) m.nextId
    have hp := congrArg State.pushes hrel.1
    rw [hpc] at h2
    refine ⟨_, postPush m ((List.range 8).map w) (postCore m (s.rx rs2)), hstep.trans (congrArg _ (postImage_good rd hn hgood)), h1, h2, h3,
      ⟨postOut m rd, h7, rfl, rfl, rfl, rfl⟩, h4, h5, h6, ?_, hrel.notes.cur.trans hmcur, postCore_eq hmcur _, hkpc, hkgroup, hkasid, hkxs⟩
    exact congrArg (· ++ [postPush m ((List.range 8).map w) (postCore m (s.rx rs2))]) (hp.trans hmpushes)

/-- Settles O52, command by command: each acts on the issuing thread set, the books or the decks of its core alone. -/
theorem cardCommands : Obligations.CardCommands := by
  unfold Obligations.CardCommands
  exact ⟨exits, suspensions, cardSusp_traps, binds, describes, dualsigs, hdones, ptakes, steals, winners, posts⟩

end Sys2Proof.Proofs
end
